-- ==== Sys2Proof/Word.lean ====
section
/-! DEFINITION. The word types of the 4120's connections and its sample type (00_scope section 5). -/

namespace Sys2Proof

/-- A byte of a tape block, packet or transaction (R192). -/
abbrev Byte := BitVec 8

/-- A 16-bit word of a request or reply body (R192). -/
abbrev Word := BitVec 16

/-- An internal sample: a signed integer, by rule within the 24-bit range (00_scope section 5). -/
abbrev Sample := Int

/-- One left and one right sample taken at the same instant; left comes first. -/
structure Pair where
  left : Sample
  right : Sample
  deriving DecidableEq, Repr

/-- The pair of two zero samples (R45). -/
def Pair.zero : Pair := ⟨0, 0⟩

end Sys2Proof
end

