-- ==== Sys2Proof/Syntax.lean ====
section
/-! DEFINITION. The commands of the 4120: one constructor for each row of spec/opcode_table.json. The rows name events; their
operands are what the partner device sends with the event, as it sends it: transactions, packets, tape blocks and the source
status record come as bytes (R192 to R195, R199). A request row carries the port whose request queue it takes its request from:
the request's arguments are the words of the queued body (R171, R197). -/

namespace Sys2Proof

/-- The two ports that requests come from (00_scope section 2). -/
inductive Port where
  | system | link
  deriving DecidableEq, Repr

/-- The two Studio Link lines of a deck (12, section 12.2). -/
inductive Line where
  | upstream | downstream
  deriving DecidableEq, Repr

/-- The commands, one for each row of the opcode table. -/
inductive Instr where
  /-- The reset line (R40 and every reset table). -/
  | powerOnReset
  /-- A whole SEND: the transaction kind it opens with, and the bytes clocked in after it (R185, R194). -/
  | send (kind : Byte) (bytes : List Byte)
  /-- A whole FETCH: its transaction kind is clocked in and nothing further (R185, R194). -/
  | fetch
  /-- A transaction of a kind other than SEND and FETCH: the bytes clocked in (R185, R194). -/
  | otherTransaction (bytes : List Byte)
  /-- A SEND whose select line rises before its last body word (R185). -/
  | sendAbandoned
  /-- A FETCH whose select line rises before the last word of the reply (R185). -/
  | fetchAbandoned
  /-- The head request is taken and its kind is unknown or its length wrong (R172). -/
  | unknownRequestKind (port : Port)
  /-- The head request is taken and is the request named (R118 to R197). -/
  | play (port : Port)
  | wind (port : Port)
  | cueHold (port : Port)
  | locate (port : Port)
  | record (port : Port)
  | schedulePunch (port : Port)
  | punchOut (port : Port)
  | stop (port : Port)
  | setControl (port : Port)
  | selectSource (port : Port)
  | cueAdd (port : Port)
  | cueRemove (port : Port)
  | cueClear (port : Port)
  | cueRead (port : Port)
  | mark (port : Port)
  | listRun (port : Port)
  | listHalt (port : Port)
  | listWrite (port : Port)
  | listRead (port : Port)
  | setSetting (port : Port)
  | readSetting (port : Port)
  | switchBank (port : Port)
  | copyBank (port : Port)
  | readReport (port : Port)
  | setMask (port : Port)
  | logRead (port : Port)
  | readIdent (port : Port)
  | resetPart (port : Port)
  | setPosition (port : Port)
  /-- A packet has been received whole on the upstream line: its bytes as sent (R186). -/
  | linkRequestPacket (bytes : List Byte)
  /-- A packet has been received whole on the downstream line (R186). -/
  | linkReplyPacket (bytes : List Byte)
  /-- A partner's signal is detected on the line (R187). -/
  | lineUp (line : Line)
  /-- The line's signal is lost (R187). -/
  | lineDown (line : Line)
  /-- The head of the link request queue is judged, with the downstream partner's ready indication (R189). -/
  | linkRoute (partnerReady : Bool)
  /-- The head of the upstream transmit queue may be sent, with the upstream partner's ready indication (R190). -/
  | upstreamTransmit (partnerReady : Bool)
  /-- A waiting chain reset may be sent on, with the downstream partner's ready indication (R191). -/
  | chainResetForward (partnerReady : Bool)
  /-- A frame pulse (R64). -/
  | framePulse
  /-- The Head Channel asks for the next block (R54). -/
  | blockRequest
  /-- A block from the advance head in FULL read mode: its bytes (R5, R66). -/
  | advanceBlock (bytes : List Byte)
  /-- A subcode block in SUBCODE read mode: its bytes (R5, R77). -/
  | subcodeBlock (bytes : List Byte)
  /-- A block from the confidence head: its bytes (R5, R59). -/
  | confidenceBlock (bytes : List Byte)
  /-- The servo's reports (R111 to R114). -/
  | stopped
  | atSpeed
  | winding
  | holding
  | tapeIn
  | tapeOut
  | tapeEndFwd
  | tapeEndRev
  | mechFault
  /-- The spin-up timer reaches 2 s (R115). -/
  | spinUpTimerExpiry
  /-- The locate elapsed timer reaches the locate limit (R124). -/
  | locateTimeout
  /-- The no-time timer reaches 4 s (R124). -/
  | noTimeExpiry
  /-- The subcode block whose read would count a ninth reversal: its bytes (R5, R124). -/
  | hunting (bytes : List Byte)
  /-- The receiver's source status record, one byte (R43, R199). -/
  | sourceStatusRecord (status : Byte)
  /-- A 24-bit pair from the selected source (R47). -/
  | inputPair (left right : BitVec 24)
  /-- The holdover count passes the limit (R74). -/
  | timeLost
  /-- The wait remainder reaches 0 (R164). -/
  | waitFramesExpiry
  /-- A boundary of the Output Port's sample clock (R93). -/
  | outputFrameBoundary
  /-- A packet begins to arrive on a line (R187). -/
  | linkPacketBegin (line : Line)
  deriving DecidableEq, Repr

end Sys2Proof
end

