-- ==== Sys2Proof/Decode.lean ====
section
/-! DEFINITION. The host's decoding entry. The opcode table of the 4120 gives no row any bits (its rows are events, not encoded
words), so no table word spells a command. Request bodies, packets and blocks are decoded in Machine/Operands.lean and
Machine/Coding.lean. -/

namespace Sys2Proof

/-- The command a table word spells: none, since no row of the table has bits. -/
def decodeTableWord (_nbits _w : Nat) : Option Instr := none

end Sys2Proof
end

