-- ==== Sys2Proof/Config.lean ====
section
/-! DEFINITION. The fixed sizes and limits of the 4120, each with the rule that states it. The spec leaves no value of an
effect open, so there is no free value here. -/

namespace Sys2Proof.Config

/-- The last tape time, four hours at 25 frames a second (R17). -/
abbrev lastTime : Nat := 359999
/-- Slots of the Frame Store (R21). -/
abbrev slotCount : Nat := 16
/-- Blocks of a frame (R1). -/
abbrev frameBlocks : Nat := 152
/-- Blocks of one track (R1). -/
abbrev trackBlocks : Nat := 76
/-- Payload bytes of a block (R5). -/
abbrev payloadBytes : Nat := 96
/-- Entries of the list memory (R152). -/
abbrev listEntries : Nat := 64
/-- Entries one chain may execute (R156). -/
abbrev chainLimit : Nat := 256
/-- Entries the cue table may hold (R126). -/
abbrev cueLimit : Nat := 99
/-- Entries the event log may hold (R182). -/
abbrev logLimit : Nat := 32
/-- Places of a port's request queue, and of the System Port reply queue (R171). -/
abbrev requestPlaces : Nat := 4
/-- Places of the upstream transmit queue (R190). -/
abbrev upstreamPlaces : Nat := 8
/-- Highest value of a report counter (R178). -/
abbrev counterTop : Nat := 255
/-- Unity of the shared gain and of the fade gain (R80, R90). -/
abbrev unity : Int := 1024
/-- Family code and silicon revision of READ-IDENT (R184). -/
abbrev familyCode : Nat := 4120
abbrev siliconRevision : Nat := 1

end Sys2Proof.Config
end

