-- ==== Sys2Proof/Machine/State.lean ====
section
/-! DEFINITION. The state of the 4120, one record for each block of the block diagram (00_scope section 3), as plain data, and
the state after power-on reset. -/

namespace Sys2Proof.Machine

/-! ### Formats, fields and names shared by the blocks -/

/-- The three sample rates (00_scope section 5). -/
inductive Rate where
  | r32 | r44 | r48
  deriving DecidableEq, Repr

/-- Word length on tape or at the output: 16 or 24 bits. -/
inductive WordLength where
  | w16 | w24
  deriving DecidableEq, Repr

/-- The format of a frame: its rate with its tape word length (R1). -/
structure Format where
  rate : Rate
  wordLength : WordLength
  deriving DecidableEq, Repr

/-- The copy fields, in increasing order of restriction (00_scope section 5). -/
inductive CopyField where
  | free | once | none
  deriving DecidableEq, Repr

/-- The two tracks of a frame (R1). -/
inductive Track where
  | a | b
  deriving DecidableEq, Repr

/-- Where an event or a log entry came from (R182). -/
inductive Origin where
  | system | link | list | internal
  deriving DecidableEq, Repr

/-! ### Transport Controller (R109, R122) -/

/-- The nine transport states, in the order of R109. -/
inductive TransportState where
  | empty | stop | starting | play | record | cued | wind | locate | fault
  deriving DecidableEq, Repr

inductive Trim where
  | normal | fast | slow
  deriving DecidableEq, Repr

inductive Direction where
  | forward | reverse
  deriving DecidableEq, Repr

inductive Speed where
  | fast | slow
  deriving DecidableEq, Repr

/-- The demand most recently sent on the Servo Line (R109). -/
inductive Demand where
  | stop
  | playSpeed (trim : Trim)
  | wind (direction : Direction) (speed : Speed)
  | hold
  deriving DecidableEq, Repr

inductive MotionReport where
  | stopped | atSpeed | winding | holding
  deriving DecidableEq, Repr

inductive ControlSource where
  | localOnly | remote | both
  deriving DecidableEq, Repr

inductive TargetKind where
  | time | cue | program
  deriving DecidableEq, Repr

inductive LocatePhase where
  | none | fast | slow
  deriving DecidableEq, Repr

/-- The outcome of a locate, in the order of R121 after NONE. -/
inductive LocateOutcome where
  | none | arrived | superseded | stopped | fault | tapeOut | reset
  | hunting | timeout | tapeEnd | noTime
  deriving DecidableEq, Repr

/-- The locate record (R122). The two timers are stopped or running; their expiry is a command of its own. -/
structure LocateRecord where
  origin : Origin
  kind : TargetKind
  target : Nat
  preroll : Nat
  aim : Nat
  limit : Nat
  phase : LocatePhase
  direction : Direction
  reversals : Nat
  elapsedRunning : Bool
  noTimeRunning : Bool
  lastOutcome : LocateOutcome
  deriving DecidableEq, Repr

/-- The Transport Controller (R109). `recordOrigin` is the origin of the RECORD request that set record pending (R140). -/
structure Transport where
  state : TransportState
  demand : Demand
  tapePresent : Bool
  lastReport : Option MotionReport
  control : ControlSource
  spinUpRunning : Bool
  recordPending : Bool
  recordOrigin : Origin
  holdAwaited : Bool
  faultRelease : Bool
  locate : LocateRecord
  deriving DecidableEq, Repr

/-! ### Frame Store (R21 to R25) -/

/-- The nine slot states (R21). -/
inductive SlotState where
  | free | capturing | captured | mixed | writing | gathering | corrected | concealed | playing
  deriving DecidableEq, Repr

inductive Role where
  | input | old | play
  deriving DecidableEq, Repr

/-- Block tally of a gathered slot (R22). -/
structure Tally where
  good : Nat
  rebuilt : Nat
  lost : Nat
  deriving DecidableEq, Repr

/-- How far the record monitor has come with a WRITING slot (R29, R94). -/
inductive MonitorProgress where
  | notBegun | begun | finished
  deriving DecidableEq, Repr

/-- A slot with its slot record (R22). `pairs` holds the frame's pairs, pair 0 first; `good` their good flags, a flag that is
not listed being clear. The last five fields are the model's own: the concealment settings of the bank active at the slot's
close (R82), whether its successor was closed at the next pulse (R32), and the two completions of a WRITING slot (R29). -/
structure Slot where
  state : SlotState
  role : Option Role
  frameTime : Option Nat
  format : Option Format
  copyField : Option CopyField
  subcodeValid : Bool
  pairCount : Nat
  good : List Bool
  tally : Tally
  interpolated : Nat
  gaps : Nat
  start : Bool
  mixed : Bool
  pairs : List Pair
  closeLmax : Nat
  closeRamp : Nat
  hasSuccessor : Bool
  supplyDone : Bool
  monitor : MonitorProgress
  deriving DecidableEq, Repr

/-- The Frame Store: sixteen slots and four ordered collections of slot numbers, oldest first (R24, R25), and the trim
demand (R38). -/
structure FrameStore where
  slots : List Slot
  captureList : List Nat
  gatherList : List Nat
  outputQueue : List Nat
  writeQueue : List Nat
  trim : Trim
  deriving DecidableEq, Repr

/-! ### Record Coder (R50, R57, R58) -/

/-- A subcode record (R15). -/
structure Subcode where
  time : Nat
  rate : Rate
  wordLength : WordLength
  program : Nat
  start : Bool
  copyField : CopyField
  deriving DecidableEq, Repr

/-- A verify entry (R58). -/
structure VerifyEntry where
  frameTime : Nat
  supplied : Nat
  passed : Nat
  positions : List (Track × Nat)
  deriving DecidableEq, Repr

/-- The write frame in hand: its slot and its frame time (R50). -/
structure WriteFrame where
  slot : Nat
  time : Nat
  deriving DecidableEq, Repr

/-- The Record Coder (R50), with the write command to the Head Channel (R51), the assembled subcode record (R57) and the last
block supplied, as its bytes (R5, R54; empty before the first; log entry 21). -/
structure Coder where
  current : Option WriteFrame
  sequence : Nat
  verify : List VerifyEntry
  writeOn : Bool
  subcode : Subcode
  supplied : List Byte
  deriving DecidableEq, Repr

/-! ### Playback Decoder (R62) -/

inductive ReadMode where
  | full | subcode | off
  deriving DecidableEq, Repr

inductive TimeStatus where
  | unknown | locked | holdover | lost
  deriving DecidableEq, Repr

/-- A block kept for a frame being gathered (R66): its position and payload. -/
structure HeldBlock where
  track : Track
  position : Nat
  payload : List Byte
  deriving DecidableEq, Repr

/-- The current or next frame of the decoder (R62). The positions held are those of `held`. -/
structure GatherFrame where
  tag : Nat
  time : Nat
  slot : Option Nat
  refused : Bool
  held : List HeldBlock
  deriving DecidableEq, Repr

/-- The Playback Decoder (R62). `closedLast` says that the previous pulse closed a frame with a slot (R32). `lateReads` says
that a locate has arrived or failed and the tape has not been set moving since, so that a read still on its way sets T (R121,
R124). -/
structure Decoder where
  readMode : ReadMode
  gathering : Bool
  current : Option GatherFrame
  next : Option GatherFrame
  time : Nat
  leadIn : Nat
  status : TimeStatus
  holdover : Nat
  mismatch : Option Rate
  startRun : Option Nat
  closedLast : Bool
  lateReads : Bool
  deriving DecidableEq, Repr

/-! ### Concealment Unit (R80) -/

/-- A run of bad pairs in hand: SHORT with a, b, the length L and the index i of the next pair, or LONG (R80). -/
inductive Run where
  | short (a b : Pair) (length index : Nat)
  | long
  deriving DecidableEq, Repr

structure Conceal where
  gain : Int
  held : Pair
  heldValid : Bool
  carried : Option Run
  deriving DecidableEq, Repr

/-! ### Output Port (R90, R33, R96) -/

inductive MonitorSource where
  | input | tape | record
  deriving DecidableEq, Repr

/-- The output status record (R96). -/
structure OutputStatus where
  rate : Rate
  copyField : CopyField
  concealing : Bool
  deriving DecidableEq, Repr

/-- How a pair of the output frame in progress is formed as it leaves (R92, R93): the fade pair with f stepping down, a pair
with f stepping up, or a pair as it stands. -/
inductive OutputItem where
  | down
  | up (pair : Pair)
  | plain (pair : Pair)
  deriving DecidableEq, Repr

/-- The Output Port (R90). `frame` holds what is still to leave of the output frame in progress; `fadesLeft` the fade pairs
still to come before an input frame's own pairs; `playing` the slot being output; `cut` says that the record gate closed at once
on that slot, so that the next boundary is met as a gap (R94; log entry 28); `delivered` is the pair last delivered and
`statusByte` the output status record last sent, as its byte (R199; log entry 21). -/
structure Output where
  source : MonitorSource
  fadeGain : Int
  fadePair : Pair
  heldPair : Pair
  wordLength : WordLength
  lastStatus : Option OutputStatus
  priming : Bool
  frame : List OutputItem
  fadeStep : Int
  fadesLeft : Nat
  playing : Option Nat
  cut : Bool
  delivered : Pair
  statusByte : Option Byte
  deriving DecidableEq, Repr

/-! ### Edit Mixer (R137) -/

/-- A punch-in or punch-out record (R137). -/
structure Punch where
  time : Nat
  cross : Nat
  timed : Bool
  origin : Origin
  deriving DecidableEq, Repr

/-- The Edit Mixer (R137). A crossfade frame is mixed within one command, so the crossfade position, which is none outside the
mixing of a frame (R147), is none in every state between commands (log entry 22). -/
structure Mixer where
  punchIn : Option Punch
  taken : Bool
  punchOut : Option Punch
  committed : Bool
  gateOpen : Bool
  crossPosition : Option Nat
  deriving DecidableEq, Repr

/-! ### Edit Sequencer (R152 to R154) -/

/-- The outcome of a list entry (R153). -/
inductive EntryOutcome where
  | notRun | done | taken | notTaken | failed | skipped
  deriving DecidableEq, Repr

/-- A list entry with its result (R152, R153), its fields kept as written. -/
structure ListEntry where
  kind : Nat
  mask : BitVec 7
  time : Nat
  count : Nat
  target : Nat
  choice : Nat
  outcome : EntryOutcome
  seen : BitVec 7
  completion : Option Nat
  repeats : Nat
  deriving DecidableEq, Repr

inductive SequencerState where
  | idle | running | waiting | halting
  deriving DecidableEq, Repr

/-- Why the list last ended: NONE, then the reasons of R158 in its order. -/
inductive EndReason where
  | none | endReached | byRequest | byStop | badEntry | byReset | byTapeOut | byFault
  deriving DecidableEq, Repr

/-- Why a punch was cancelled or withdrawn (R144, R145). -/
inductive CancelReason where
  | motion | copy | time | request
  deriving DecidableEq, Repr

/-- What another block hands the sequencer about the operation of a list entry (R121, R151, R166). -/
inductive Handoff where
  | spunUp
  | spinUpTapeEnd
  | locateEnded (outcome : LocateOutcome)
  | gateOpened (time : Nat)
  | punchOutDone (last : Nat)
  | closedEarly
  | punchFailed (reason : CancelReason)
  deriving DecidableEq, Repr

/-- The Edit Sequencer (R154). `haltPort` is the port of the LIST-HALT taken (R158), `handoffs` what other blocks hand over
within the command under way. -/
structure Sequencer where
  entries : List ListEntry
  state : SequencerState
  current : Nat
  saved : Option Nat
  waitRemainder : Nat
  chainCount : Nat
  conditions : BitVec 7
  lastEnd : EndReason
  haltPort : Port
  handoffs : List Handoff
  deriving DecidableEq, Repr

/-! ### Cue Table (R126, R134) -/

inductive CueKind where
  | programStart (number : Nat)
  | cuePoint
  deriving DecidableEq, Repr

inductive CueOrigin where
  | tape | request | list
  deriving DecidableEq, Repr

/-- A cue entry (R126); an absent label is the empty list. -/
structure CueEntry where
  time : Nat
  kind : CueKind
  origin : CueOrigin
  label : List Nat
  deriving DecidableEq, Repr

inductive MarkRecord where
  | none
  | waiting (start number : Nat)
  | armed (start number : Nat)
  deriving DecidableEq, Repr

structure CueTable where
  entries : List CueEntry
  mark : MarkRecord
  deriving DecidableEq, Repr

/-! ### Copy Control (R97) and Input Port (R41) -/

inductive SourceField where
  | field (f : CopyField)
  | refuse
  | silent
  deriving DecidableEq, Repr

structure CopyControl where
  current : SourceField
  latched : Bool
  heldTape : Option CopyField
  inputFields : List (Nat × Option CopyField)
  deriving DecidableEq, Repr

inductive Source where
  | analog | digital
  deriving DecidableEq, Repr

/-- The held source status record (R43). -/
structure SourceStatus where
  lock : Bool
  valid : Bool
  rate : Option Rate
  copyField : Option CopyField
  deriving DecidableEq, Repr

inductive LostCause where
  | noLock | rate
  deriving DecidableEq, Repr

structure InputPort where
  selected : Source
  pendingSelect : Option Source
  status : SourceStatus
  lost : Option LostCause
  deriving DecidableEq, Repr

/-! ### Setting Banks (R173) -/

structure Bank where
  rate : Rate
  tapeWordLength : WordLength
  crossfade : Nat
  lmax : Nat
  ramp : Nat
  holdover : Nat
  verifyThreshold : Nat
  analogCopy : CopyField
  preroll : Nat
  locateLimit : Nat
  outputWordLength : WordLength
  deriving DecidableEq, Repr

inductive BankName where
  | a | b
  deriving DecidableEq, Repr

/-- The two banks, the marker and the pending switch, which holds the port of its SWITCH-BANK request (R177). -/
structure Banks where
  bankA : Bank
  bankB : Bank
  active : BankName
  pendingSwitch : Option Port
  deriving DecidableEq, Repr

/-! ### Report Unit (R178 to R182) -/

/-- The eight counters, in the order of R178. -/
structure Counters where
  blocksRebuilt : Nat
  framesMuted : Nat
  framesDropped : Nat
  underruns : Nat
  verifyFails : Nat
  copyRefusals : Nat
  timeJumps : Nat
  linkErrors : Nat
  deriving DecidableEq, Repr

/-- One port's report: counters, pending flags and mask, bits 0..10 in the order of R179. -/
structure PortReport where
  counters : Counters
  flags : BitVec 11
  mask : BitVec 11
  deriving DecidableEq, Repr

/-- The kinds of log entry, in the order of the table of R182 read left to right. -/
inductive LogKind where
  | sourceLost | sourceRestored
  | writeLate | verify
  | formatMismatch | timeJump | timeLost
  | copyRefused
  | tapeIn | tapeOut | tapeEnd | fault | control | locateFailed
  | cueTableFull | mark
  | punchIn | punchOut | punchCancelled
  | listStart | listEnd | listEntryFailed | note
  | bankSwitch
  | reset
  deriving DecidableEq, Repr

/-- A log entry (R182), its argument coded under R198. -/
structure LogEntry where
  sequence : Nat
  kind : LogKind
  time : Option Nat
  origin : Origin
  argument : Nat
  deriving DecidableEq, Repr

structure Reports where
  system : PortReport
  link : PortReport
  log : List LogEntry
  nextSequence : Nat
  deriving DecidableEq, Repr

/-! ### System Port (R171, R185) and Studio Link Interface (R187 to R191) -/

/-- The System Port: request bodies and reply bodies in arrival order, and the bytes of the last answer. -/
structure SystemPort where
  requests : List (List Word)
  replies : List (List Word)
  answer : List Byte
  deriving DecidableEq, Repr

/-- A packet that has begun on a line: it holds a place in its queue, or a reset has taken the place away (R187, R191). -/
inductive Reception where
  | idle | placed | dropped
  deriving DecidableEq, Repr

/-- The status of one line (R187). -/
structure LineStatus where
  up : Bool
  hard : Bool
  soft : Bool
  framing : Bool
  reception : Reception
  deriving DecidableEq, Repr

/-- A request packet in the link request queue (R186). -/
structure LinkRequest where
  hop : Nat
  tag : Byte
  body : List Word
  deriving DecidableEq, Repr

/-- Who a reply goes to: the port, and on the Studio Link the tag of the request. -/
structure Ticket where
  port : Port
  tag : Byte
  deriving DecidableEq, Repr

/-- The Studio Link Interface. The upstream transmit queue holds packets as the bytes to be sent, because a forwarded reply
is sent unchanged (R186). `chainReset` is a CHAIN reset that waits to be sent on (R191). -/
structure Link where
  position : Option Nat
  requests : List LinkRequest
  upstreamQueue : List (List Byte)
  upstream : LineStatus
  downstream : LineStatus
  chainReset : Option Ticket
  sentUpstream : List Byte
  sentDownstream : List Byte
  deriving DecidableEq, Repr

/-! ### The whole -/

/-- The state of the 4120 and the queue of commands that wait. -/
structure State where
  transport : Transport
  store : FrameStore
  coder : Coder
  decoder : Decoder
  conceal : Conceal
  output : Output
  mixer : Mixer
  sequencer : Sequencer
  cues : CueTable
  copy : CopyControl
  input : InputPort
  banks : Banks
  reports : Reports
  system : SystemPort
  link : Link
  pending : List Instr
  deriving DecidableEq, Repr

/-- Reasons to stop with a fault: none. The spec gives the 4120 no event that stops it (its FAULT is a transport state,
R114), so nothing raises one; safe. -/
inductive Fault where
  deriving DecidableEq, Repr

/-- Reasons to refuse a command. -/
inductive Refusal where
  /-- Raised by `exec` alone, for a row that has no meaning yet; safe. No row raises it now. -/
  | notModelled (mnemonic : String)
  deriving DecidableEq, Repr

/-! ### Power-on reset -/

/-- The FREE values of a slot record (R22). -/
def Slot.freed : Slot where
  state := .free
  role := none
  frameTime := none
  format := none
  copyField := none
  subcodeValid := false
  pairCount := 0
  good := []
  tally := ⟨0, 0, 0⟩
  interpolated := 0
  gaps := 0
  start := false
  mixed := false
  pairs := []
  closeLmax := 0
  closeRamp := 0
  hasSuccessor := false
  supplyDone := false
  monitor := .notBegun

/-- The default settings (R173). -/
def Bank.default : Bank where
  rate := .r48
  tapeWordLength := .w24
  crossfade := 256
  lmax := 4
  ramp := 128
  holdover := 25
  verifyThreshold := 4
  analogCopy := .free
  preroll := 75
  locateLimit := 180
  outputWordLength := .w24

/-- An END entry with empty fields and an initial result (R152, R153). -/
def ListEntry.blank : ListEntry where
  kind := 0
  mask := 0
  time := 0
  count := 0
  target := 0
  choice := 0
  outcome := .notRun
  seen := 0
  completion := none
  repeats := 0

def Counters.zero : Counters := ⟨0, 0, 0, 0, 0, 0, 0, 0⟩

def PortReport.fresh : PortReport := ⟨Counters.zero, 0, 0⟩

/-- A line after power-on (R187). -/
def LineStatus.down : LineStatus := ⟨false, false, false, false, .idle⟩

/-- The locate record after power-on: phase and last outcome NONE (R109); the rest is DESIGN CHOICE, log entry 13. -/
def LocateRecord.none : LocateRecord where
  origin := .system
  kind := .time
  target := 0
  preroll := 0
  aim := 0
  limit := 0
  phase := .none
  direction := .forward
  reversals := 0
  elapsedRunning := false
  noTimeRunning := false
  lastOutcome := .none

/-- The machine right after power-on reset (R40, R41, R50, R62, R80, R90, R97, R109, R126, R137, R152, R154, R171, R173, R178,
R179, R182, R187, R188, R190). -/
def State.reset : State where
  transport := {
    state := .empty, demand := .stop, tapePresent := false, lastReport := none, control := .localOnly,
    spinUpRunning := false, recordPending := false, recordOrigin := .system, holdAwaited := false,
    faultRelease := false, locate := LocateRecord.none }
  store := {
    slots := List.replicate Config.slotCount Slot.freed, captureList := [], gatherList := [],
    outputQueue := [], writeQueue := [], trim := .normal }
  coder := {
    current := none, sequence := 0, verify := [], writeOn := false,
    subcode := ⟨0, .r48, .w24, 0, false, .free⟩, supplied := [] }
  decoder := {
    readMode := .off, gathering := false, current := none, next := none, time := 0, leadIn := 0,
    status := .unknown, holdover := 0, mismatch := none, startRun := none, closedLast := false, lateReads := false }
  conceal := { gain := 0, held := Pair.zero, heldValid := false, carried := none }
  output := {
    source := .input, fadeGain := Config.unity, fadePair := Pair.zero, heldPair := Pair.zero,
    wordLength := .w24, lastStatus := none, priming := false, frame := [], fadeStep := 8,
    fadesLeft := 0, playing := none, cut := false, delivered := Pair.zero, statusByte := none }
  mixer := {
    punchIn := none, taken := false, punchOut := none, committed := false, gateOpen := false,
    crossPosition := none }
  sequencer := {
    entries := List.replicate Config.listEntries ListEntry.blank, state := .idle, current := 0,
    saved := none, waitRemainder := 0, chainCount := 0, conditions := 0, lastEnd := .none,
    haltPort := .system, handoffs := [] }
  cues := { entries := [], mark := .none }
  copy := { current := .field .free, latched := false, heldTape := none, inputFields := [] }
  input := {
    selected := .analog, pendingSelect := none, status := ⟨false, false, none, none⟩, lost := none }
  banks := {
    bankA := Bank.default, bankB := Bank.default, active := .a, pendingSwitch := none }
  reports := {
    system := PortReport.fresh, link := PortReport.fresh, log := [], nextSequence := 0 }
  system := { requests := [], replies := [], answer := [] }
  link := {
    position := none, requests := [], upstreamQueue := [], upstream := LineStatus.down,
    downstream := LineStatus.down, chainReset := none, sentUpstream := [], sentDownstream := [] }
  pending := []

end Sys2Proof.Machine
end

