-- ==== Sys2Proof/Machine/Flags.lean ====
section
/-! DEFINITION. The Report Unit's operations: pending flags, masks, counters and the event log (R178 to R182), and the Edit
Sequencer's condition set (R159). Every block reports through these. -/

namespace Sys2Proof

/-- The origin of a port's request (R182). -/
def Port.origin : Port → Machine.Origin
  | .system => .system
  | .link => .link

end Sys2Proof

namespace Sys2Proof.Machine

/-- The eleven pending flags, in the order of R179. -/
inductive Flag where
  | motionDone | locateFailed | punchIn | punchOut | listEnd | copyRefused | timeLost | verify | fault | tape | replyReady
  deriving DecidableEq, Repr

/-- The place of a flag in the report record and in a mask (R196, R197). -/
def Flag.index : Flag → Nat
  | .motionDone => 0 | .locateFailed => 1 | .punchIn => 2 | .punchOut => 3 | .listEnd => 4 | .copyRefused => 5
  | .timeLost => 6 | .verify => 7 | .fault => 8 | .tape => 9 | .replyReady => 10

def Flag.bit (f : Flag) : BitVec 11 := BitVec.ofNat 11 (2 ^ f.index)

/-- The seven conditions (R159). -/
inductive Condition where
  | verify | conceal | copy | locateFail | timeLost | sourceLost | tapeEnd
  deriving DecidableEq, Repr

/-- The place of a condition in a condition mask (R196). -/
def Condition.index : Condition → Nat
  | .verify => 0 | .conceal => 1 | .copy => 2 | .locateFail => 3 | .timeLost => 4 | .sourceLost => 5 | .tapeEnd => 6

def Condition.bit (c : Condition) : BitVec 7 := BitVec.ofNat 7 (2 ^ c.index)

/-- The eight counters (R178). -/
inductive Counter where
  | blocksRebuilt | framesMuted | framesDropped | underruns | verifyFails | copyRefusals | timeJumps | linkErrors
  deriving DecidableEq, Repr

/-- A count that would pass 255 leaves the counter at 255 (R178). -/
def counterAdd (value n : Nat) : Nat := min Config.counterTop (value + n)

/-- One port's counters with `n` counted on `c` (R178). -/
def Counters.add (k : Counters) (c : Counter) (n : Nat) : Counters :=
  match c with
  | .blocksRebuilt => { k with blocksRebuilt := counterAdd k.blocksRebuilt n }
  | .framesMuted => { k with framesMuted := counterAdd k.framesMuted n }
  | .framesDropped => { k with framesDropped := counterAdd k.framesDropped n }
  | .underruns => { k with underruns := counterAdd k.underruns n }
  | .verifyFails => { k with verifyFails := counterAdd k.verifyFails n }
  | .copyRefusals => { k with copyRefusals := counterAdd k.copyRefusals n }
  | .timeJumps => { k with timeJumps := counterAdd k.timeJumps n }
  | .linkErrors => { k with linkErrors := counterAdd k.linkErrors n }

/-- The report of one port. -/
def Reports.port (r : Reports) : Port → PortReport
  | .system => r.system
  | .link => r.link

/-- Replace the report of one port. -/
def Reports.setPort (r : Reports) (p : Port) (v : PortReport) : Reports :=
  match p with
  | .system => { r with system := v }
  | .link => { r with link := v }

/-- A flag is set unless the port's mask hides it (R179). -/
def PortReport.raise (r : PortReport) (f : Flag) : PortReport :=
  { r with flags := r.flags ||| (f.bit &&& ~~~ r.mask) }

/-- "counts on both ports' counter sets" (R178). -/
def count (c : Counter) (n : Nat) (s : State) : State :=
  { s with reports := { s.reports with
      system := { s.reports.system with counters := s.reports.system.counters.add c n }
      link := { s.reports.link with counters := s.reports.link.counters.add c n } } }

/-- "raised on each port whose mask does not hide it" (R179). -/
def raiseFlag (f : Flag) (s : State) : State :=
  { s with reports := { s.reports with system := s.reports.system.raise f, link := s.reports.link.raise f } }

/-- REPLY-READY is raised on the System Port alone (R180). -/
def raiseReplyReady (s : State) : State :=
  { s with reports := { s.reports with system := s.reports.system.raise .replyReady } }

/-- The attention line: raised while any pending flag of the System Port is set (R180). -/
def State.attention (s : State) : Bool := s.reports.system.flags != 0

/-- A condition is added to the condition set, whatever the sequencer state (R159). -/
def setCondition (c : Condition) (s : State) : State :=
  { s with sequencer := { s.sequencer with conditions := s.sequencer.conditions ||| c.bit } }

/-- The Input Port's clearing of SOURCE-LOST (R44). -/
def clearCondition (c : Condition) (s : State) : State :=
  { s with sequencer := { s.sequencer with conditions := s.sequencer.conditions &&& ~~~ c.bit } }

/-- A new entry takes the next sequence number; the oldest of 32 entries goes first (R182). -/
def Reports.addEntry (r : Reports) (kind : LogKind) (time : Option Nat) (origin : Origin) (argument : Nat) : Reports :=
  let kept := if r.log.length < Config.logLimit then r.log else r.log.drop (r.log.length + 1 - Config.logLimit)
  { r with log := kept ++ [⟨r.nextSequence, kind, time, origin, argument⟩], nextSequence := (r.nextSequence + 1) % 65536 }

/-- "makes a log entry" (R182). -/
def logEntry (kind : LogKind) (time : Option Nat) (origin : Origin) (argument : Nat) (s : State) : State :=
  { s with reports := s.reports.addEntry kind time origin argument }

/-- Tape time T for a record that holds UNKNOWN while the time status is UNKNOWN (R153, R182). -/
def State.timeNow (s : State) : Option Nat := if s.decoder.status = .unknown then none else some s.decoder.time

/-- The report of a port is cleared by that port's READ-REPORT: its counters and pending flags (R181). -/
def clearReport (p : Port) (s : State) : State :=
  { s with reports := s.reports.setPort p { s.reports.port p with counters := Counters.zero, flags := 0 } }

end Sys2Proof.Machine
end

