-- ==== Sys2Proof/Machine/Operands.lean ====
section
/-! DEFINITION. The operand forms: the codes and layouts of request and reply bodies, packets and status records (R192, R194 to
R199), the check word (R6), and the byte-order and word helpers they use. -/

namespace Sys2Proof

/-- The high byte of a word (R192). -/
def Word.high (w : Word) : Nat := w.toNat / 256

/-- The low byte of a word (R192). -/
def Word.low (w : Word) : Nat := w.toNat % 256

end Sys2Proof

namespace Sys2Proof.Machine

/-! ### Byte order (R192) and the check word (R6) -/

def wordOf (n : Nat) : Word := BitVec.ofNat 16 n

def byteOf (n : Nat) : Byte := BitVec.ofNat 8 n

/-- A word from its high and low byte values. -/
def wordOfBytes (high low : Nat) : Word := wordOf (high % 256 * 256 + low % 256)

/-- A two-word value, more significant word first (R192). -/
def longOf (high low : Word) : Nat := high.toNat * 65536 + low.toNat

/-- A value as two words, more significant first (R192). -/
def longWords (n : Nat) : List Word := [wordOf (n / 65536), wordOf n]

/-- A tape time in a body; UNKNOWN is 0xFFFFFFFF (R192). -/
def timeWords : Option Nat → List Word
  | some t => longWords t
  | none => longWords 0xFFFFFFFF

/-- The bytes of words, more significant byte first (R192). -/
def bytesOfWords : List Word → List Byte
  | [] => []
  | w :: ws => byteOf w.high :: byteOf w.low :: bytesOfWords ws

/-- The words of bytes, two by two (R192). -/
def wordsOfBytes : List Byte → List Word
  | h :: l :: bs => wordOfBytes h.toNat l.toNat :: wordsOfBytes bs
  | _ => []

/-- One bit into the check word register (R6, steps 3 to 5). -/
def crcBit (r : Word) (bit : Bool) : Word :=
  if (r.msb ^^ bit) = true then (r <<< 1) ^^^ 0x1021#16 else r <<< 1

/-- One byte, most significant bit first (R6, step 2). -/
def crcByte (r : Word) (b : Byte) : Word :=
  [7, 6, 5, 4, 3, 2, 1, 0].foldl (fun r i => crcBit r (b.getLsbD i)) r

/-- The check word of a byte sequence (R6). -/
def checkWord (bytes : List Byte) : Word := bytes.foldl crcByte 0xFFFF#16

/-! ### Request kinds and reply statuses (R172, R171, R192, R197) -/

/-- The 29 request kinds, in the order of R172. -/
inductive RequestKind where
  | play | wind | cueHold | locate | record | schedulePunch | punchOut | stop | setControl | selectSource
  | cueAdd | cueRemove | cueClear | cueRead | mark | listRun | listHalt | listWrite | listRead
  | setSetting | readSetting | switchBank | copyBank | readReport | setMask | logRead | readIdent | resetPart | setPosition
  deriving DecidableEq, Repr

/-- The kinds in code order: PLAY is 1 and SET-POSITION is 29 (R192). -/
def RequestKind.inOrder : List RequestKind :=
  [.play, .wind, .cueHold, .locate, .record, .schedulePunch, .punchOut, .stop, .setControl, .selectSource,
   .cueAdd, .cueRemove, .cueClear, .cueRead, .mark, .listRun, .listHalt, .listWrite, .listRead,
   .setSetting, .readSetting, .switchBank, .copyBank, .readReport, .setMask, .logRead, .readIdent, .resetPart, .setPosition]

/-- The kind a code names, if any (R172, R192). -/
def RequestKind.ofCode (n : Nat) : Option RequestKind := if n = 0 then none else RequestKind.inOrder[n - 1]?

/-- The body lengths a kind allows, in words (R197). A LIST-WRITE of no entry or more than four has the form of its kind and
is judged by its owner (R169). -/
def RequestKind.lengthOk (k : RequestKind) (n : Nat) : Bool :=
  match k with
  | .play | .cueHold | .record | .punchOut | .stop | .cueClear | .listHalt | .switchBank | .copyBank | .readReport
  | .readIdent => n == 1
  | .wind | .setControl | .selectSource | .cueRead | .listRun | .readSetting | .setMask | .logRead | .resetPart
  | .setPosition => n == 2
  | .listRead | .setSetting => n == 3
  | .locate | .cueRemove => n == 4
  | .schedulePunch => n == 4 || n == 6
  | .cueAdd | .mark => n == 9
  | .listWrite => 2 ≤ n && (n - 2) % 5 == 0

/-- The kind of a request body that has the form of its kind; none for an unknown kind or a wrong length (R172). -/
def requestKind (body : List Word) : Option RequestKind :=
  match body with
  | [] => none
  | w :: _ =>
    match RequestKind.ofCode w.toNat with
    | some k => if k.lengthOk body.length then some k else none
    | none => none

/-- The reply statuses, in the order of R171. -/
inductive Status where
  | done | accepted | authority | state | locked | copy | badValue | badRequest | full | notFound | duplicate | pending
  | listActive | noRoute | tooLate
  deriving DecidableEq, Repr

/-- Status codes, DONE 0 to TOO-LATE 14 (R192). -/
def Status.code : Status → Nat
  | .done => 0 | .accepted => 1 | .authority => 2 | .state => 3 | .locked => 4 | .copy => 5 | .badValue => 6
  | .badRequest => 7 | .full => 8 | .notFound => 9 | .duplicate => 10 | .pending => 11 | .listActive => 12
  | .noRoute => 13 | .tooLate => 14

/-- A reply body: the kind of the request, the status, and, with DONE alone, the data (R196, R197). -/
def replyBody (kind : Word) (status : Status) (data : List Word) : List Word :=
  kind :: wordOf status.code :: (if status = .done then data else [])

/-- Word `i` of a body. -/
def argWord (body : List Word) (i : Nat) : Word := body.getD i 0#16

/-- The two-word argument at words `i` and `i + 1`. -/
def argLong (body : List Word) (i : Nat) : Nat := longOf (argWord body i) (argWord body (i + 1))

/-! ### Value codes (R192, R196, R197) -/

def Rate.hertz : Rate → Nat
  | .r32 => 32000
  | .r44 => 44100
  | .r48 => 48000

/-- The rate code of subcode and status records (R193, R199). -/
def Rate.code : Rate → Nat
  | .r32 => 1
  | .r44 => 2
  | .r48 => 3

def Rate.ofCode : Nat → Option Rate
  | 1 => some .r32
  | 2 => some .r44
  | 3 => some .r48
  | _ => none

def Rate.ofHertz (n : Nat) : Option Rate :=
  if n = 32000 then some .r32 else if n = 44100 then some .r44 else if n = 48000 then some .r48 else none

/-- Pairs per frame N (00_scope section 5). -/
def Rate.pairs : Rate → Nat
  | .r32 => 1280
  | .r44 => 1764
  | .r48 => 1920

def WordLength.bits : WordLength → Nat
  | .w16 => 16
  | .w24 => 24

def WordLength.ofBits (n : Nat) : Option WordLength :=
  if n = 16 then some .w16 else if n = 24 then some .w24 else none

def CopyField.code : CopyField → Nat
  | .free => 0
  | .once => 1
  | .none => 2

def CopyField.ofCode : Nat → Option CopyField
  | 0 => some .free
  | 1 => some .once
  | 2 => some .none
  | _ => Option.none

def Origin.code : Origin → Nat
  | .system => 0
  | .link => 1
  | .list => 2
  | .internal => 3

def TransportState.code : TransportState → Nat
  | .empty => 0 | .stop => 1 | .starting => 2 | .play => 3 | .record => 4 | .cued => 5 | .wind => 6 | .locate => 7
  | .fault => 8

def ControlSource.code : ControlSource → Nat
  | .localOnly => 0
  | .remote => 1
  | .both => 2

def ControlSource.ofCode : Nat → Option ControlSource
  | 0 => some .localOnly
  | 1 => some .remote
  | 2 => some .both
  | _ => none

def LocatePhase.code : LocatePhase → Nat
  | .none => 0
  | .fast => 1
  | .slow => 2

/-- DEDUCED (log entry 12): NONE, then the order of R121. -/
def LocateOutcome.code : LocateOutcome → Nat
  | .none => 0 | .arrived => 1 | .superseded => 2 | .stopped => 3 | .fault => 4 | .tapeOut => 5 | .reset => 6
  | .hunting => 7 | .timeout => 8 | .tapeEnd => 9 | .noTime => 10

def SequencerState.code : SequencerState → Nat
  | .idle => 0
  | .running => 1
  | .waiting => 2
  | .halting => 3

/-- DEDUCED (log entry 12): NONE, then the order of R158. -/
def EndReason.code : EndReason → Nat
  | .none => 0 | .endReached => 1 | .byRequest => 2 | .byStop => 3 | .badEntry => 4 | .byReset => 5 | .byTapeOut => 6
  | .byFault => 7

def TimeStatus.code : TimeStatus → Nat
  | .unknown => 0
  | .locked => 1
  | .holdover => 2
  | .lost => 3

def EntryOutcome.code : EntryOutcome → Nat
  | .notRun => 0 | .done => 1 | .taken => 2 | .notTaken => 3 | .failed => 4 | .skipped => 5

def BankName.code : BankName → Nat
  | .a => 0
  | .b => 1

/-- The kinds of log entry are coded in the order of R182 (R196). -/
def LogKind.code : LogKind → Nat
  | .sourceLost => 0 | .sourceRestored => 1 | .writeLate => 2 | .verify => 3 | .formatMismatch => 4 | .timeJump => 5
  | .timeLost => 6 | .copyRefused => 7 | .tapeIn => 8 | .tapeOut => 9 | .tapeEnd => 10 | .fault => 11 | .control => 12
  | .locateFailed => 13 | .cueTableFull => 14 | .mark => 15 | .punchIn => 16 | .punchOut => 17 | .punchCancelled => 18
  | .listStart => 19 | .listEnd => 20 | .listEntryFailed => 21 | .note => 22 | .bankSwitch => 23 | .reset => 24

/-- Reason code of a cancelled or withdrawn punch (R198). -/
def CancelReason.code : CancelReason → Nat
  | .motion => 20
  | .copy => 21
  | .time => 22
  | .request => 23

/-- The eight crossfade lengths in increasing order (R137, R196). -/
def crossfadeLengths : List Nat := [0, 32, 64, 128, 256, 512, 1024, 2048]

/-- The crossfade length a choice code names, BANK (8) taking the active bank's (R138, R196). -/
def crossfadeOfChoice (bankLength choice : Nat) : Option Nat :=
  if choice = 8 then some bankLength else crossfadeLengths[choice]?

/-! ### Settings (R173, R174, R192) -/

/-- The eleven settings, in the order of R173. -/
inductive Setting where
  | rate | tapeWordLength | crossfade | lmax | ramp | holdover | verifyThreshold | analogCopy | preroll | locateLimit
  | outputWordLength
  deriving DecidableEq, Repr

def Setting.inOrder : List Setting :=
  [.rate, .tapeWordLength, .crossfade, .lmax, .ramp, .holdover, .verifyThreshold, .analogCopy, .preroll, .locateLimit,
   .outputWordLength]

def Setting.ofCode (n : Nat) : Option Setting := Setting.inOrder[n]?

def clamp (low high n : Nat) : Nat := min high (max low n)

/-- The value of a setting as it is carried: rates, word lengths and CROSSFADE as their own numbers, RAMP and
ANALOG-COPY-FIELD coded from 0 in the order listed (R192). -/
def Bank.value (b : Bank) : Setting → Nat
  | .rate => b.rate.hertz
  | .tapeWordLength => b.tapeWordLength.bits
  | .crossfade => b.crossfade
  | .lmax => b.lmax
  | .ramp => if b.ramp = 64 then 0 else if b.ramp = 128 then 1 else 2
  | .holdover => b.holdover
  | .verifyThreshold => b.verifyThreshold
  | .analogCopy => b.analogCopy.code
  | .preroll => b.preroll
  | .locateLimit => b.locateLimit
  | .outputWordLength => b.outputWordLength.bits

/-- A bank with one setting written: an enumerated setting takes only its values, a numeric one is clamped (R174). None
when an enumerated value is not one of the setting's values. -/
def Bank.write (b : Bank) (name : Setting) (v : Nat) : Option Bank :=
  match name with
  | .rate => (Rate.ofHertz v).map fun r => { b with rate := r }
  | .tapeWordLength => (WordLength.ofBits v).map fun w => { b with tapeWordLength := w }
  | .crossfade => if v ∈ crossfadeLengths then some { b with crossfade := v } else none
  | .lmax => some { b with lmax := clamp 1 16 v }
  | .ramp => ([64, 128, 256][v]?).map fun r => { b with ramp := r }
  | .holdover => some { b with holdover := clamp 1 50 v }
  | .verifyThreshold => some { b with verifyThreshold := clamp 0 40 v }
  | .analogCopy => if v = 0 then some { b with analogCopy := .free } else
      if v = 1 then some { b with analogCopy := .once } else none
  | .preroll => some { b with preroll := clamp 0 250 v }
  | .locateLimit => some { b with locateLimit := clamp 10 600 v }
  | .outputWordLength => (WordLength.ofBits v).map fun w => { b with outputWordLength := w }

/-! ### Labels, cue, list and log entries (R196) -/

/-- The characters of a label in words 5 to 8 of its form, first character in the high byte. -/
def labelChars (words : List Word) : List Nat := words.flatMap fun w => [w.high, w.low]

/-- A label as carried at word `i` of a body: its length word and the characters that length calls for (R196). -/
def argLabel (body : List Word) (i : Nat) : Nat × List Nat :=
  let n := (argWord body i).toNat
  (n, (labelChars [argWord body (i + 1), argWord body (i + 2), argWord body (i + 3), argWord body (i + 4)]).take n)

/-- A label as words: its length and four words of characters (R196). -/
def labelWords (label : List Nat) : List Word :=
  let at_ (i : Nat) : Nat := label.getD i 0
  [wordOf label.length, wordOfBytes (at_ 0) (at_ 1), wordOfBytes (at_ 2) (at_ 3), wordOfBytes (at_ 4) (at_ 5),
   wordOfBytes (at_ 6) (at_ 7)]

def CueKind.code : CueKind → Nat
  | .programStart _ => 0
  | .cuePoint => 1

/-- The program number of an entry, 0 for a CUE-POINT (R131). -/
def CueKind.number : CueKind → Nat
  | .programStart n => n
  | .cuePoint => 0

def CueOrigin.code : CueOrigin → Nat
  | .tape => 0
  | .request => 1
  | .list => 2

/-- A cue entry in a CUE-READ reply, nine words (R196). -/
def cueWords (index : Nat) (e : CueEntry) : List Word :=
  wordOfBytes index e.kind.code :: (longWords e.time ++ (wordOfBytes e.kind.number e.origin.code :: labelWords e.label))

/-- An entry as LIST-WRITE carries it at word `i` (R196), with an initial result (R169). -/
def listEntryAt (body : List Word) (i : Nat) : ListEntry :=
  { ListEntry.blank with
    kind := (argWord body i).high
    mask := (argWord body i).setWidth 7
    time := argLong body (i + 1)
    count := (argWord body (i + 3)).toNat
    target := (argWord body (i + 4)).high
    choice := (argWord body (i + 4)).low }

/-- An entry in a LIST-READ reply: its index and its words 0 to 8 (R196). -/
def listEntryWords (index : Nat) (e : ListEntry) : List Word :=
  [wordOf index, wordOfBytes e.kind e.mask.toNat] ++ longWords e.time ++
  [wordOf e.count, wordOfBytes e.target e.choice, wordOfBytes e.outcome.code e.seen.toNat] ++ timeWords e.completion ++
  [wordOf e.repeats]

/-- An entry in a LOG-READ reply, six words (R196). -/
def logWords (e : LogEntry) : List Word :=
  [wordOf e.sequence, wordOfBytes e.kind.code e.origin.code] ++ timeWords e.time ++ longWords e.argument

/-- The eight counters, two per word, the first in the high byte (R196). -/
def counterWords (c : Counters) : List Word :=
  [wordOfBytes c.blocksRebuilt c.framesMuted, wordOfBytes c.framesDropped c.underruns,
   wordOfBytes c.verifyFails c.copyRefusals, wordOfBytes c.timeJumps c.linkErrors]

/-- The line status byte of a SET-POSITION reply (R197). -/
def LineStatus.byte (l : LineStatus) : Nat :=
  l.up.toNat + 2 * l.hard.toNat + 4 * l.soft.toNat + 8 * l.framing.toNat

/-! ### System Port transactions (R185, R194) -/

/-- The transaction kinds (R194). -/
inductive TransactionKind where
  | send | fetch | other
  deriving DecidableEq, Repr

/-- The kind bytes (R194). -/
abbrev kindSend : Byte := 0x01#8
abbrev kindFetch : Byte := 0x02#8

/-- The kind a transaction opens with; none before its first byte has been clocked in (R194). -/
def transactionKind (bytes : List Byte) : Option TransactionKind :=
  bytes.head?.map fun kind => if kind = kindSend then .send else if kind = kindFetch then .fetch else .other

/-- What the bytes of a SEND bring: a length that no request has, a body cut off before its last word, or a body of its length
(R185). -/
inductive SendBody where
  | badLength | cutOff
  | whole (body : List Word)
  deriving DecidableEq, Repr

/-- The body of a SEND, from the bytes after its kind byte: the length in words, then 2 bytes per word; bytes past the body are
ignored (R185, R194). -/
def sendBody (bytes : List Byte) : SendBody :=
  match bytes with
  | length :: rest =>
    let n := length.toNat
    if n = 0 ∨ 64 < n then .badLength
    else if rest.length < 2 * n then .cutOff
    else .whole (wordsOfBytes (rest.take (2 * n)))
  | [] => .cutOff

/-! ### Packets (R186, R195) and status records (R199) -/

/-- The bytes of a packet: header, body, check word over both (R195). -/
def packetBytes (hop : Nat) (reply : Bool) (tag : Byte) (position : Nat) (body : List Word) : List Byte :=
  let covered := [byteOf (hop % 8 * 32 + if reply then 16 else 0), byteOf body.length, tag, byteOf position] ++ bytesOfWords body
  covered ++ bytesOfWords [checkWord covered]

/-- The errors found in a packet received whole (R186): a framing error when its extent is not the one its length calls for,
its length is 0 or above 64, or its direction does not belong on the line; a soft error when its check word disagrees. -/
structure PacketErrors where
  framing : Bool
  soft : Bool
  deriving DecidableEq, Repr

/-- The packet's direction bit: set in a REPLY (R195). -/
def packetIsReply (bytes : List Byte) : Bool := (bytes.getD 0 0#8).getLsbD 4

/-- The packet has the extent its length field calls for, and that length is 1..64 (R186). -/
def packetExtentOk (bytes : List Byte) : Bool :=
  let n := (bytes.getD 1 0#8).toNat
  1 ≤ n && n ≤ 64 && bytes.length == 6 + 2 * n

/-- The check word carried, the last two bytes of the packet as it came, agrees with the one recomputed over the bytes before
them (R186). A packet too short to carry a check word has none to disagree (log entry 16). -/
def packetCheckOk (bytes : List Byte) : Bool :=
  let covered := bytes.take (bytes.length - 2)
  bytes.length < 2 || bytes.drop (bytes.length - 2) == bytesOfWords [checkWord covered]

/-- The two errors of a packet are found apart: one packet may have both (R186). -/
def packetErrors (expectReply : Bool) (bytes : List Byte) : PacketErrors :=
  { framing := !packetExtentOk bytes || packetIsReply bytes != expectReply
    soft := !packetCheckOk bytes }

/-- The request of a packet that passed (R195). Its position byte, 0 in a request, is not judged and not kept (DESIGN CHOICE: no
reason of R186 discards a request for it, log entry 41). -/
def linkRequestOf (bytes : List Byte) : LinkRequest :=
  { hop := (bytes.getD 0 0#8).toNat / 32
    tag := bytes.getD 2 0#8
    body := wordsOfBytes ((bytes.take (bytes.length - 2)).drop 4) }

/-- The source status record of one byte; a copy field code of 3 is held as status valid clear (R199). -/
def sourceStatusOf (b : Byte) : SourceStatus :=
  let copy := b.toNat / 16 % 4
  { lock := b.getLsbD 0
    valid := b.getLsbD 1 && copy != 3
    rate := Rate.ofCode (b.toNat / 4 % 4)
    copyField := CopyField.ofCode copy }

/-- The output status record as the byte sent to the transmitter (R199). -/
def OutputStatus.byte (r : OutputStatus) : Byte :=
  byteOf (r.rate.code + 4 * r.copyField.code + 16 * r.concealing.toNat)

end Sys2Proof.Machine
end

