-- ==== Sys2Proof/Machine/Ops.lean ====
section
/-! DEFINITION. The named operations over the shared state: the active bank, the Frame Store's slots, collections and roles
(R21 to R25, R37), the take span (R23, R138), and the trim demand (R38, R39). -/

namespace Sys2Proof.Machine

/-! ### The active bank (R173, R177) -/

def Banks.bank (b : Banks) : BankName → Bank
  | .a => b.bankA
  | .b => b.bankB

def BankName.other : BankName → BankName
  | .a => .b
  | .b => .a

def Banks.activeBank (b : Banks) : Bank := b.bank b.active

def Banks.stagedBank (b : Banks) : Bank := b.bank b.active.other

/-- Replace the staged bank, the only one a controller writes to (R174). -/
def Banks.setStaged (b : Banks) (v : Bank) : Banks :=
  match b.active with
  | .a => { b with bankB := v }
  | .b => { b with bankA := v }

/-- The bank whose values are in force. -/
def State.activeBank (s : State) : Bank := s.banks.activeBank

/-- The active rate and tape word length (R1). -/
def State.activeFormat (s : State) : Format := ⟨s.activeBank.rate, s.activeBank.tapeWordLength⟩

/-- N of the active rate. -/
def State.framePairs (s : State) : Nat := s.activeBank.rate.pairs

/-- The step of a ramp of R pairs (R82, R92). -/
def rampStep (ramp : Nat) : Int := 1024 / (ramp : Int)

/-! ### Slots (R21, R22) -/

/-- Slot `i` with its record. -/
def State.slot (s : State) (i : Nat) : Slot := s.store.slots.getD i Slot.freed

def setSlot (i : Nat) (v : Slot) (s : State) : State :=
  { s with store := { s.store with slots := s.store.slots.set i v } }

def updateSlot (i : Nat) (f : Slot → Slot) (s : State) : State := setSlot i (f (s.slot i)) s

/-- The lowest-numbered FREE slot (R21). -/
def State.lowestFree (s : State) : Option Nat := s.store.slots.findIdx? fun v => v.state == .free

/-- Q: the slots of role PLAY on the output queue (R25). -/
def State.depthQ (s : State) : Nat := (s.store.outputQueue.filter fun i => (s.slot i).role == some .play).length

/-- W: the slots on the write queue (R24). -/
def State.depthW (s : State) : Nat := s.store.writeQueue.length

/-! ### Trim demand (R38, R39) -/

/-- The trim demand after a change of Q (R38). -/
def trimByQ (current : Trim) (q : Nat) : Trim :=
  match current with
  | .normal => if 5 ≤ q then .slow else if q ≤ 1 then .fast else .normal
  | .slow => if q ≤ 1 then .fast else if q ≤ 3 then .normal else .slow
  | .fast => if 5 ≤ q then .slow else if 3 ≤ q then .normal else .fast

/-- The trim demand after a change of W (R39). -/
def trimByW (current : Trim) (w : Nat) : Trim :=
  match current with
  | .normal => if 4 ≤ w then .fast else .normal
  | .fast => if w ≤ 2 then .normal else .fast
  | .slow => if 2 ≤ w then .normal else .slow

/-- A trim demand handed to the Transport Controller, which sends PLAY-SPEED with it in PLAY and RECORD (R38, R110). -/
def setTrim (t : Trim) (s : State) : State :=
  let demand := if s.transport.state = .play ∨ s.transport.state = .record then .playSpeed t else s.transport.demand
  { s with store := { s.store with trim := t }, transport := { s.transport with demand := demand } }

/-- Q is judged in PLAY once priming has ended (R38). -/
def judgeQ (s : State) : State :=
  if s.transport.state = .play ∧ s.output.source = .tape ∧ s.output.priming = false then
    setTrim (trimByQ s.store.trim s.depthQ) s
  else s

/-- W is judged in RECORD (R39). -/
def judgeW (s : State) : State :=
  if s.transport.state = .record then setTrim (trimByW s.store.trim s.depthW) s else s

/-- A change of the collections or roles, with Q and W judged if it changed them (R38, R39). -/
def withDepths (f : State → State) (s : State) : State :=
  let t := f s
  let t := if t.depthQ = s.depthQ then t else judgeQ t
  if t.depthW = s.depthW then t else judgeW t

/-! ### Freeing (R22, R37) -/

/-- A slot becomes FREE: it takes the FREE values and leaves every collection, the input field list (R99), the current write
frame (R54) and the output, whose frame then ends at once (R94). -/
def freeOne (s : State) (i : Nat) : State :=
  let t := setSlot i Slot.freed s
  { t with
    store := { t.store with
      captureList := t.store.captureList.filter (· != i)
      gatherList := t.store.gatherList.filter (· != i)
      outputQueue := t.store.outputQueue.filter (· != i)
      writeQueue := t.store.writeQueue.filter (· != i) }
    copy := { t.copy with inputFields := t.copy.inputFields.filter (·.1 != i) }
    coder := { t.coder with current := t.coder.current.filter (·.slot != i) }
    output := if t.output.playing = some i then { t.output with playing := none, frame := [] } else t.output }

/-- Several slots are freed at once, the depths judged after. -/
def freeSlots (l : List Nat) (s : State) : State := withDepths (fun t => l.foldl freeOne t) s

/-- A slot of role OLD that waits on the output queue for the Edit Mixer or for its write window (R25). -/
def Slot.oldConcealed (v : Slot) : Bool := v.state == .concealed && v.role == some .old

/-- The slot numbers whose slot passes a test. -/
def State.slotsWhere (s : State) (p : Slot → Bool) : List Nat :=
  (List.range Config.slotCount).filter fun i => p (s.slot i)

/-! ### The take span and the crossfade frames (R23, R138) -/

/-- Frames a crossfade of length C runs past its punch frame (R138). -/
def crossExtra (cross n : Nat) : Nat := (cross - 1) / n

/-- Frame `f` is a crossfade frame of the punch (R138). -/
def Punch.crosses (p : Punch) (n f : Nat) : Bool := 1 ≤ p.cross && p.time ≤ f && f ≤ p.time + crossExtra p.cross n

/-- The last punch-in crossfade frame (R138). -/
def Punch.lastIn (p : Punch) (n : Nat) : Nat := if p.cross = 0 then p.time else p.time + crossExtra p.cross n

/-- The last punch-out crossfade frame L, the last frame of the take (R138). -/
def Punch.lastOut (p : Punch) (n : Nat) : Nat := if p.cross = 0 then p.time - 1 else p.time + crossExtra p.cross n

/-- The frame time lies within the take span (R23). -/
def State.inSpan (s : State) (f : Nat) : Bool :=
  match s.mixer.punchIn with
  | none => false
  | some p =>
    p.time ≤ f && f ≤ Config.lastTime &&
    match s.mixer.punchOut with
    | none => true
    | some o => f ≤ o.lastOut s.framePairs

/-- Frame `f` is a crossfade frame of the punch-in or of the punch-out (R146). -/
def State.crossFrame (s : State) (f : Nat) : Bool :=
  (match s.mixer.punchIn with
    | some p => p.crosses s.framePairs f
    | none => false) ||
  (match s.mixer.punchOut with
    | some p => p.crosses s.framePairs f
    | none => false)

/-- The role of a gathered slot of a frame time (R23). -/
def State.roleFor (s : State) (f : Nat) : Role := if s.inSpan f then .old else .play

/-- A slot whose role R23 sets again at a change of the take span. -/
def Slot.rolesAgain (v : Slot) : Bool :=
  !v.mixed && (v.role == some .old || v.role == some .play) &&
  (v.state == .gathering || v.state == .corrected || v.state == .concealed)

/-- The Frame Store sets the roles again under R23. -/
def setRoles (s : State) : State :=
  withDepths (fun t =>
    { t with store := { t.store with
        slots := t.store.slots.map fun v =>
          if v.rolesAgain then { v with role := some (t.roleFor (v.frameTime.getD 0)) } else v } }) s

/-! ### Allocation (R26, R30) -/

/-- Slot `i` leaves FREE for a frame of a time and format. -/
def Slot.opened (state : SlotState) (role : Role) (time : Nat) (fmt : Format) : Slot :=
  { Slot.freed with
    state := state, role := some role, frameTime := some time, format := some fmt, pairCount := fmt.rate.pairs }

/-! ### Hand-offs to the Edit Sequencer (R151) -/

/-- A hand-off is kept until the command under way has done the rest of its work (log entry 22). -/
def handOff (h : Handoff) (s : State) : State :=
  { s with sequencer := { s.sequencer with handoffs := s.sequencer.handoffs ++ [h] } }

def handOffIf (c : Bool) (h : Handoff) (s : State) : State := if c then handOff h s else s

/-- A punch record of origin LIST is in the records (R151). -/
def State.listPunch (s : State) : Bool :=
  (match s.mixer.punchIn with
    | some p => p.origin == .list
    | none => false) ||
  (match s.mixer.punchOut with
    | some p => p.origin == .list
    | none => false)

end Sys2Proof.Machine
end

