-- ==== Sys2Proof/Machine/MixOps.lean ====
section
/-! DEFINITION. Shared operations of the Edit Mixer (R137 to R151), of Copy Control (R97 to R106) and of the Input Port's
source-lost judgement (R44). -/

namespace Sys2Proof.Machine

/-! ### Combining copy fields (R97) -/

/-- The more restrictive of two fields. -/
def CopyField.most (x y : CopyField) : CopyField := if x.code ≤ y.code then y else x

/-- The most restrictive of a set of fields; a combination of nothing is none (R97). -/
def combineFields (l : List (Option CopyField)) : Option CopyField :=
  l.foldl (fun acc x =>
    match acc, x with
    | none, x => x
    | acc, none => acc
    | some a, some b => some (a.most b)) none

/-! ### The mix (R147) -/

/-- Gain of the new material at crossfade index `i` of a punch-in. -/
def gainIn (cross i : Nat) : Nat := if i < cross then 1024 * i / cross else 1024

/-- Gain of the new material at crossfade index `i` of a punch-out. -/
def gainOut (cross i : Nat) : Nat := if i < cross then 1024 - 1024 * (i + 1) / cross else 0

/-- One channel of the mix: the convex combination rounded half up (R147). -/
def mixSample (g : Nat) (new old : Sample) : Sample := (new * g + old * (1024 - g) + 512) / 1024

def mixPair (g : Nat) (new old : Pair) : Pair := ⟨mixSample g new.left old.left, mixSample g new.right old.right⟩

/-- The gain of the new material at pair `n` of frame `f` (R147). -/
def State.mixGain (s : State) (f n : Nat) : Nat :=
  match s.mixer.punchIn, s.mixer.punchOut with
  | some p, out =>
    if p.crosses s.framePairs f then gainIn p.cross ((f - p.time) * s.framePairs + n)
    else match out with
      | some o => if o.crosses s.framePairs f then gainOut o.cross ((f - o.time) * s.framePairs + n) else 1024
      | none => 1024
  | none, some o => if o.crosses s.framePairs f then gainOut o.cross ((f - o.time) * s.framePairs + n) else 1024
  | none, none => 1024

/-- The pairs of a crossfade frame; an old pair past the OLD slot's last is 0 (R146, R147). -/
def State.mixFrame (s : State) (f : Nat) (new old : List Pair) : List Pair :=
  new.mapIdx fun n p => mixPair (s.mixGain f n) p (old.getD n Pair.zero)

/-! ### The Edit Mixer's takes (R28, R101 to R103, R146) -/

/-- The CONCEALED slot of role OLD with a frame time on the output queue (R28). -/
def State.oldSlot (s : State) (f : Nat) : Option Nat :=
  s.store.outputQueue.find? fun i =>
    let v := s.slot i
    v.role == some .old && v.state == .concealed && v.frameTime == some f

/-- The old field of an OLD slot (R101). -/
def State.oldField (s : State) (v : Slot) : CopyField := (v.copyField.or s.copy.heldTape).getD .none

/-- The field written for a taken frame (R102). -/
def State.writtenField (s : State) (i : Nat) (cross : Bool) (old : Option Slot) : CopyField :=
  let entry := if s.copy.latched then none else ((s.copy.inputFields.find? (·.1 == i)).map (·.2)).join
  let oldPart := if cross then old.bind fun v => if v.gaps < v.pairCount then some (s.oldField v) else none else none
  (combineFields [entry, oldPart]).getD .free

/-- The Edit Mixer takes CAPTURED slot `i`: copy gate and copy field, then the mix, then MIXED; the OLD slot of the same
frame time is freed, mixed in or unused (R28, R34, R102, R103, R146, R147). -/
def takeSlot (i : Nat) (s : State) : State :=
  let v := s.slot i
  let f := v.frameTime.getD 0
  let cross := s.crossFrame f
  let old := s.oldSlot f
  let new := if s.copy.latched then v.pairs.map fun _ => Pair.zero else v.pairs
  let pairs := if cross then s.mixFrame f new ((old.map fun k => (s.slot k).pairs).getD []) else new
  let field := s.writtenField i cross (old.map s.slot)
  let t := setSlot i { v with state := .mixed, copyField := some field, pairs := pairs, mixed := cross } s
  let t := { t with
    store := { t.store with captureList := t.store.captureList.filter (· != i) }
    copy := { t.copy with inputFields := t.copy.inputFields.filter (·.1 != i) } }
  freeSlots old.toList t

/-- The Edit Mixer takes slots from the head of the capture list for as long as R146 lets it. -/
def mixerRun : Nat → State → State
  | 0, s => s
  | fuel + 1, s =>
    match s.store.captureList with
    | [] => s
    | i :: _ =>
      let v := s.slot i
      let f := v.frameTime.getD 0
      if v.state = .captured ∧ (s.crossFrame f = false ∨ (s.oldSlot f).isSome = true) then mixerRun fuel (takeSlot i s) else s

/-- The Edit Mixer judges the capture list (R146). -/
def mixerJudge (s : State) : State := mixerRun Config.slotCount s

/-! ### Changes of the punch records (R23, R27, R37, R137) -/

/-- An INPUT slot of the record path whose frame time has left the take span (R27, R37). -/
def State.outsideSpan (s : State) (v : Slot) : Bool :=
  (v.state == .capturing || v.state == .captured || v.state == .mixed) && !s.inSpan (v.frameTime.getD 0)

/-- The Frame Store and Copy Control are told of a change of the punch records or the gate: roles are set again, slots outside
the span are freed, and an empty span opens the copy gate (R23, R27, R37, R103). -/
def spanChanged (s : State) : State :=
  let s := setRoles s
  let s := freeSlots (s.slotsWhere s.outsideSpan) s
  let s := if s.mixer.punchIn = none then { s with copy := { s.copy with latched := false } } else s
  mixerJudge s

/-- Both punch records become none, punch-in taken and committed clear and the gate CLOSED (R144, R149, R150). -/
def clearPunches (s : State) : State :=
  { s with mixer := { s.mixer with
      punchIn := none, taken := false, punchOut := none, committed := false, gateOpen := false } }

/-- A scheduled punch-in is cancelled; without one, nothing (R144, R151). -/
def cancelPunch (reason : CancelReason) (s : State) : State :=
  match s.mixer.punchIn with
  | some p =>
    if s.mixer.taken then s
    else
      let list := s.listPunch
      let t := spanChanged (clearPunches s)
      let t := logEntry .punchCancelled t.timeNow p.origin reason.code t
      handOffIf list (.punchFailed reason) t
  | none => s

/-- The withdrawal of a timed punch-out on entry into LOST (R145). -/
def withdrawPunchOut (s : State) : State :=
  match s.mixer.punchOut with
  | some o =>
    if s.mixer.gateOpen = true ∧ o.timed = true ∧ s.mixer.committed = false ∧ s.decoder.time + 2 < o.time then
      let t := spanChanged { s with mixer := { s.mixer with punchOut := none, committed := false } }
      let t := logEntry .punchCancelled t.timeNow o.origin CancelReason.time.code t
      handOffIf (o.origin == .list) (.punchFailed .time) t
    else s
  | none => s

/-- The slot being output is one the record monitor plays. -/
def State.monitored (s : State) : Bool := s.output.playing.any fun i => (s.slot i).state == .writing

/-- The gate closes in the middle of a period: the supply stops, WRITE-OFF is commanded, the WRITING slot is freed, the next
boundary is met as a gap if that slot was being output, and the punch records are cleared (R56, R94, R150). The OLD slots on
the output queue are freed while they still have that role, since the transport leaves RECORD at this event (R37): before the
punch records are cleared, an order that R120 leaves open (DESIGN CHOICE, log entry 45). Where two
slots are WRITING, one in supply and the one before it still monitored, both are freed (DESIGN CHOICE, log entry 29). -/
def closeGate (s : State) : State :=
  let cut := s.monitored
  let s := freeSlots (s.slotsWhere fun v => v.state == .writing || v.oldConcealed) s
  let s := { s with
    coder := { s.coder with writeOn := false, current := none }
    output := { s.output with cut := s.output.cut || cut } }
  spanChanged (clearPunches s)

/-- What closed the gate at once, coded as the argument of the PUNCH-OUT entry (R150, R198). -/
inductive ClosingEvent where
  | stop | fault | tapeEnd | tapeOut
  deriving DecidableEq, Repr

def ClosingEvent.code : ClosingEvent → Nat
  | .stop => 1
  | .fault => 2
  | .tapeEnd => 3
  | .tapeOut => 4

/-- An event that closes an open gate at once, with its records (R150). -/
def closeAtOnce (event : ClosingEvent) (origin : Origin) (s : State) : State :=
  if s.mixer.gateOpen then
    let list := s.listPunch
    let t := closeGate s
    let t := raiseFlag .punchOut t
    let t := logEntry .punchOut t.timeNow origin event.code t
    handOffIf list .closedEarly t
  else s

/-! ### Copy Control: the source field and refusals (R98, R99, R103 to R106) -/

/-- The current source field called for (R98). -/
def State.sourceField (s : State) : SourceField :=
  match s.input.selected with
  | .analog => .field s.activeBank.analogCopy
  | .digital =>
    if s.input.lost.isSome then .silent
    else if s.input.status.valid then
      match s.input.status.copyField with
      | some .free => .field .free
      | some .once => .field .none
      | _ => .refuse
    else .refuse

/-- The cause of a refusal: 0 STATUS-INVALID, 1 FIELD-NONE (R104, R198). -/
def State.refusalCause (s : State) : Nat := if s.input.status.valid then 1 else 0

/-- A refusal is counted, sets COPY, raises COPY-REFUSED and is logged (R104 to R106). -/
def recordRefusal (origin : Origin) (s : State) : State :=
  let s := count .copyRefusals 1 s
  let s := setCondition .copy s
  let s := raiseFlag .copyRefused s
  logEntry .copyRefused s.timeNow origin s.refusalCause s

/-- A refusal event: it latches the copy gate in a take, cancels a scheduled punch-in, or leaves no trace (R104, R105). The
PUNCH-CANCELLED entry is made before the COPY-REFUSED entry (DESIGN CHOICE, R182 leaves the order open: log entry 4). -/
def refusalEvent (s : State) : State :=
  if s.mixer.gateOpen then
    if s.copy.latched then s
    else recordRefusal .internal { s with copy := { s.copy with latched := true } }
  else if s.mixer.punchIn.isSome then recordRefusal .internal (cancelPunch .copy s)
  else s

/-- The slot being filled: the oldest CAPTURING slot, once its pair 0 has come (R42, R99). -/
def State.fillingSlot (s : State) : Option Nat :=
  s.store.captureList.find? fun i => (s.slot i).state == .capturing && !(s.slot i).pairs.isEmpty

/-- The current source field is combined into the entry of a slot (R99). -/
def combineEntry (i : Nat) (s : State) : State :=
  match s.copy.current with
  | .field f =>
    { s with copy := { s.copy with
        inputFields := s.copy.inputFields.map fun e => if e.1 = i then (e.1, combineFields [e.2, some f]) else e } }
  | _ => s

/-- Copy Control derives the current source field again (R98, R99). -/
def deriveField (s : State) : State :=
  let new := s.sourceField
  if new = s.copy.current then s
  else
    let s := { s with copy := { s.copy with current := new } }
    let s := match s.fillingSlot with
      | some i => combineEntry i s
      | none => s
    if new = .refuse then refusalEvent s else s

/-! ### SOURCE-LOST (R44) -/

/-- The source-lost state called for (R44). -/
def State.lostCause (s : State) : Option LostCause :=
  match s.input.selected with
  | .analog => none
  | .digital =>
    if s.input.status.lock = false then some .noLock
    else if s.input.status.rate = some s.activeBank.rate then none
    else some .rate

def LostCause.code : LostCause → Nat
  | .noLock => 0
  | .rate => 1

/-- The Input Port judges its source-lost state, and Copy Control derives the field after it (R44, R98). The two log entries
have the origin INTERNAL, also when a request of a port brought the judgement (DESIGN CHOICE, log entry 30), and stand before
those of a refusal that follows (DESIGN CHOICE, log entry 4). -/
def judgeLost (s : State) : State :=
  let t := { s with input := { s.input with lost := s.lostCause } }
  let t := match s.input.lost, s.lostCause with
    | none, some cause => logEntry .sourceLost t.timeNow .internal cause.code (setCondition .sourceLost t)
    | some _, none => logEntry .sourceRestored t.timeNow .internal 0 (clearCondition .sourceLost t)
    | _, _ => t
  deriveField t

/-! ### The selected source (R42) -/

/-- A selection takes effect: Copy Control is told and the source-lost state judged again (R42). -/
def applySelection (src : Source) (s : State) : State :=
  judgeLost { s with input := { s.input with selected := src, pendingSelect := none } }

/-- A pending selection takes effect at the capture boundary, when no capture slot is partly filled (R42). Where the partly
filled slot completes or is freed and no other slot is CAPTURING, it takes effect at once, at the end of that command, and
does not wait for a next slot to be opened (DESIGN CHOICE, log entry 37). -/
def takeSelection (s : State) : State :=
  match s.input.pendingSelect with
  | some src => if s.fillingSlot.isNone then applySelection src s else s
  | none => s

/-! ### Scheduling (R139 to R142) -/

/-- A switch is pending that would change the rate or the tape word length (R139 test 5, R176). -/
def State.switchChangesFormat (s : State) : Bool :=
  s.banks.stagedBank.rate != s.banks.activeBank.rate ||
  s.banks.stagedBank.tapeWordLength != s.banks.activeBank.tapeWordLength

/-- A take is in hand: a punch-in is scheduled or the gate is open (R143). -/
def State.takeInHand (s : State) : Bool := s.mixer.punchIn.isSome || s.mixer.gateOpen

/-- Tests 2 to 8 of R139 for a punch-in `p` and, if given, a punch-out `o`; test 4 is not made for a punch counted from the
present (R140). The first test that fails gives the status. -/
def State.punchInTests (s : State) (p : Punch) (o : Option Punch) : Option Status :=
  if s.mixer.gateOpen ∨ s.mixer.punchIn.isSome ∨ s.transport.recordPending then some .pending
  else if s.transport.state ≠ .play then some .state
  else if p.timed = true ∧ s.decoder.status = .lost then some .state
  else if s.banks.pendingSwitch.isSome ∧ s.switchChangesFormat then some .locked
  else if p.time < s.decoder.time + 4 then some .tooLate
  else if (match o with
      | some q => decide (q.time ≤ p.lastIn s.framePairs)
      | none => false) = true then some .badValue
  else if Config.lastTime < p.lastIn s.framePairs ∨ (match o with
      | some q => decide (Config.lastTime ≤ q.lastOut s.framePairs)
      | none => false) = true then some .tooLate
  else none

/-- Copy Control's judgement of a request or entry that would schedule a punch-in, refused with COPY (R106). -/
def judgeCopy (origin : Origin) (s : State) : State × Bool :=
  if s.copy.current = .refuse then (recordRefusal origin s, false) else (s, true)

/-- The Edit Mixer and then Copy Control judge a punch-in, and the schedule is made when both pass (R106, R139). A refusal by
Copy Control is logged under `copyOrigin` (R106). -/
def schedulePunchIn (copyOrigin : Origin) (p : Punch) (o : Option Punch) (s : State) : State × Status :=
  match s.punchInTests p o with
  | some status => (s, status)
  | none =>
    match judgeCopy copyOrigin s with
    | (t, true) =>
      (spanChanged { t with mixer := { t.mixer with punchIn := some p, taken := false, punchOut := o, committed := false } },
        .accepted)
    | (t, false) => (t, .copy)

/-- A punch-in at T + 4 with the active bank's crossfade length (R140). -/
def State.punchNow (s : State) (origin : Origin) : Punch := ⟨s.decoder.time + 4, s.activeBank.crossfade, false, origin⟩

/-- The punch-out a PUNCH-OUT request sets, or TOO-LATE (R141). -/
def setPunchOutNow (p : Punch) (origin : Origin) (s : State) : State × Status :=
  let u := max (s.decoder.time + 4) (p.lastIn s.framePairs + 1)
  let o : Punch := ⟨u, s.activeBank.crossfade, false, origin⟩
  if Config.lastTime ≤ o.lastOut s.framePairs then (s, .tooLate)
  else (spanChanged { s with mixer := { s.mixer with punchOut := some o, committed := false } }, .accepted)

/-- A PUNCH-OUT request as the Edit Mixer judges it (R141). The PUNCH-CANCELLED entry of a pending record called off carries
frame time T, as R144 has it for a cancelled punch-in, and the origin of the RECORD request: R141 names the reason alone
(DEDUCED, log entry 26). -/
def punchOutNow (origin : Origin) (s : State) : State × Status :=
  match s.mixer.punchIn with
  | some p =>
    if s.mixer.punchOut.isSome then (s, .pending)
    else if s.mixer.gateOpen = true ∨ p.time < s.decoder.time + 4 then setPunchOutNow p origin s
    else (cancelPunch .request s, .done)
  | none =>
    if s.transport.state = .starting ∧ s.transport.recordPending = true then
      let t := { s with transport := { s.transport with recordPending := false } }
      (logEntry .punchCancelled t.timeNow t.transport.recordOrigin CancelReason.request.code t, .done)
    else (s, .state)

/-- A PUNCH-OUT entry of the edit list (R142), with its time and its crossfade length if the choice is valid. -/
def schedulePunchOut (u : Nat) (cross : Option Nat) (s : State) : State × Status :=
  match cross with
  | none => (s, .badValue)
  | some c =>
    let o : Punch := ⟨u, c, true, .list⟩
    if Config.lastTime < u then (s, .badValue)
    else match s.mixer.punchIn with
      | none => (s, .state)
      | some p =>
        if s.mixer.punchOut.isSome then (s, .pending)
        else if s.decoder.status = .lost then (s, .state)
        else if u < s.decoder.time + 4 then (s, .tooLate)
        else if u ≤ p.lastIn s.framePairs then (s, .badValue)
        else if Config.lastTime ≤ o.lastOut s.framePairs then (s, .tooLate)
        else (spanChanged { s with mixer := { s.mixer with punchOut := some o, committed := false } }, .accepted)

end Sys2Proof.Machine
end

