-- ==== Sys2Proof/Machine/MoveOps.lean ====
section
/-! DEFINITION. Shared operations of the Transport Controller (R109 to R125), of the Cue Table (R126 to R136) and of the tape
time tracker (R62, R63, R74, R76). -/

namespace Sys2Proof.Machine

/-! ### Changes of transport state (R63, R78, R81, R97, R110, R120, R134) -/

/-- PLAY and RECORD, the states at play speed. -/
def TransportState.rolling : TransportState → Bool
  | .play | .record => true
  | _ => false

/-- Read mode of the advance head in a transport state (R63). -/
def TransportState.readMode : TransportState → ReadMode
  | .play | .record => .full
  | .starting | .wind | .locate => .subcode
  | .empty | .stop | .cued | .fault => .off

/-- The START run is set to none on entry to PLAY, WIND or LOCATE from a state other than these and RECORD (R78). -/
def startRunCleared (old new : TransportState) : Bool :=
  (new == .play || new == .wind || new == .locate) &&
  !(old == .play || old == .wind || old == .locate || old == .record)

/-- What the neighbours do when the transport leaves PLAY and RECORD: the slots of R37 are freed, a scheduled punch-in is
cancelled, gathering turns off, the verify list is discarded and the copy gate opens (R37, R61, R63, R103, R120, R144). The
slots are freed before the Edit Mixer clears the schedule, while the OLD slots on the output queue still have that role and so
are freed and not turned back to PLAY: R120 lets the two hand-offs be taken in any order (DESIGN CHOICE, log entry 45). Where
two slots are WRITING both are freed (DESIGN CHOICE, log entry 29). A WRITING slot still being output when PLAY is left after
a take's end is freed too, its output frame ends at once, and the boundary that follows is met as a plain change of source and
no gap (DESIGN CHOICE between R37 and R94, log entry 38). -/
def leaveRolling (s : State) : State :=
  let s := freeSlots (s.slotsWhere fun v =>
    v.state == .gathering || v.state == .corrected || v.state == .capturing || v.state == .captured ||
    v.state == .mixed || v.state == .writing || v.oldConcealed) s
  let s := cancelPunch .motion s
  { s with
    decoder := { s.decoder with gathering := false, current := none, next := none, closedLast := false }
    coder := { s.coder with verify := [], current := none }
    copy := { s.copy with latched := false } }

/-- What the neighbours do on entry to PLAY from a state other than RECORD: gathering turns on, the concealment stream
restarts and the held tape field is cleared (R63, R81, R97, R120). -/
def startRolling (s : State) : State :=
  { s with
    decoder := { s.decoder with gathering := true, current := none, next := none, closedLast := false }
    conceal := { gain := 0, held := Pair.zero, heldValid := false, carried := none }
    copy := { s.copy with heldTape := none } }

/-- A change of transport state with the demand it calls for. Leaving STARTING stops the timer and clears record pending,
leaving CUED clears hold awaited, leaving FAULT clears the fault release; the trim demand is NORMAL on every entry (R38, R39,
R110, R115, R118). Reads on their way from a locate count no more once a state other than STOP and CUED is entered (R79; log
entry 43). -/
def enterState (new : TransportState) (demand : Demand) (s : State) : State :=
  let old := s.transport.state
  let s := { s with
    transport := { s.transport with
      state := new, demand := demand
      spinUpRunning := new == .starting
      recordPending := s.transport.recordPending && new == .starting
      holdAwaited := s.transport.holdAwaited && new == .cued
      faultRelease := false }
    store := { s.store with trim := .normal }
    decoder := { s.decoder with
      readMode := new.readMode
      startRun := if startRunCleared old new then none else s.decoder.startRun
      lateReads := s.decoder.lateReads && (new == .stop || new == .cued) }
    cues := { s.cues with mark := if new.rolling ∨ new = .starting then s.cues.mark else .none } }
  let s := if old.rolling = true ∧ new.rolling = false then leaveRolling s else s
  if old.rolling = false ∧ new.rolling = true then startRolling s else s

/-! ### Locate (R121 to R124) -/

/-- A locate is in progress while the transport state is LOCATE (R121). -/
def State.locating (s : State) : Bool := s.transport.state == .locate

def setLocate (f : LocateRecord → LocateRecord) (s : State) : State :=
  { s with transport := { s.transport with locate := f s.transport.locate } }

/-- The locate record at the end of a locate (R121). -/
def LocateRecord.ended (r : LocateRecord) (outcome : LocateOutcome) : LocateRecord :=
  { r with phase := .none, elapsedRunning := false, noTimeRunning := false, lastOutcome := outcome }

/-- A locate in progress ends with an outcome, handed to the sequencer when the list began it (R121). -/
def endLocate (outcome : LocateOutcome) (s : State) : State :=
  if s.locating then
    handOffIf (s.transport.locate.origin == .list) (.locateEnded outcome) (setLocate (·.ended outcome) s)
  else s

def distance (a b : Nat) : Nat := (a - b) + (b - a)

/-- Phase and direction chosen from a time and an aim point (R123). -/
def choosePhase (time aim : Nat) : LocatePhase := if 250 < distance time aim then .fast else .slow

def chooseDirection (time aim : Nat) : Direction := if aim < time then .reverse else .forward

def LocatePhase.speed : LocatePhase → Speed
  | .fast => .fast
  | _ => .slow

/-- From the arrival or the failure of a locate on, a read that is still on its way sets T (R121, R124; how long: DESIGN
CHOICE, log entry 43). -/
def setLateReads (s : State) : State := { s with decoder := { s.decoder with lateReads := true } }

/-- Arrival at the aim point: HOLD, CUED, outcome ARRIVED, MOTION-DONE (R123). -/
def arrive (s : State) : State :=
  raiseFlag .motionDone (setLateReads (enterState .cued .hold (endLocate .arrived s)))

/-- Reason code of a locate failure (R198). -/
def LocateOutcome.reason : LocateOutcome → Nat
  | .hunting => 16
  | .timeout => 17
  | .tapeEnd => 18
  | _ => 19

/-- A locate fails: STOP, the outcome, LOCATE-FAIL, LOCATE-FAILED and its log entry (R124). -/
def failLocate (outcome : LocateOutcome) (s : State) : State :=
  let origin := s.transport.locate.origin
  let s := setLateReads (enterState .stop .stop (endLocate outcome s))
  let s := setCondition .locateFail s
  let s := raiseFlag .locateFailed s
  logEntry .locateFailed s.timeNow origin outcome.reason s

/-- The Transport Controller is told that T has been read with value `time` (R123). -/
def steer (time : Nat) (s : State) : State :=
  if s.locating then
    let r := s.transport.locate
    if time = r.aim then arrive s
    else
      let phase := choosePhase time r.aim
      let direction := chooseDirection time r.aim
      let turned := direction ≠ r.direction
      if turned ∧ 8 ≤ r.reversals then failLocate .hunting s
      else
        let s := setLocate (fun r => { r with
          phase := phase, direction := direction, noTimeRunning := true
          reversals := if turned then r.reversals + 1 else r.reversals }) s
        { s with transport := { s.transport with demand := .wind direction phase.speed } }
  else s

/-- A read would count a ninth reversal (R124). -/
def State.huntingRead (s : State) (time : Nat) : Bool :=
  s.locating && time != s.transport.locate.aim &&
  chooseDirection time s.transport.locate.aim != s.transport.locate.direction && 8 ≤ s.transport.locate.reversals

/-- A locate is begun: the old one, if any, is superseded, the record is filled, and the locate arrives at once or the tape
winds (R121, R122). From an arrival at once on, too, a read that is still on its way sets T (R121; log entry 43). An arrival at
once goes to CUED without LOCATE being entered, so that no WIND demand is sent and the START run of a deck in STOP, CUED or
STARTING is kept: R122 has it arrive under R123 and also says that the state becomes LOCATE, on entry to which R78 would set
the START run to none (DESIGN CHOICE, log entry 52). It clears hold awaited, and at the aim point without LOCKED time the tape
winds forward, slowly (DEDUCED, log entry 11). -/
def startLocate (origin : Origin) (kind : TargetKind) (target preroll : Nat) (s : State) : State :=
  let s := endLocate .superseded s
  let aim := target - preroll
  let time := s.decoder.time
  let direction := chooseDirection time aim
  let s := setLocate (fun r => { r with
    origin := origin, kind := kind, target := target, preroll := preroll, aim := aim
    limit := s.activeBank.locateLimit, phase := choosePhase time aim, direction := direction, reversals := 0
    elapsedRunning := true, noTimeRunning := true }) s
  if time = aim ∧ s.decoder.status = .locked then
    let s := setLocate (·.ended .arrived) s
    let s := { s with transport := { s.transport with holdAwaited := false } }
    raiseFlag .motionDone (setLateReads (enterState .cued .hold s))
  else enterState .locate (.wind direction (choosePhase time aim).speed) s

/-! ### The Cue Table (R126 to R136) -/

/-- An entry takes its place in time order (R127). -/
def insertCue (e : CueEntry) : List CueEntry → List CueEntry
  | [] => [e]
  | x :: xs => if e.time < x.time then e :: x :: xs else x :: insertCue e xs

/-- The index of the entry at a time (R127). -/
def cueIndex (t : Nat) (l : List CueEntry) : Option Nat := l.findIdx? fun e => e.time == t

def CueKind.isStart : CueKind → Bool
  | .programStart _ => true
  | .cuePoint => false

/-- The resolved time of a locate target (R136). -/
def resolveTarget (cues : List CueEntry) (kind : TargetKind) (arg : Nat) : Option Nat :=
  match kind with
  | .time => some arg
  | .cue => (cues[arg]?).map (·.time)
  | .program => (cues.find? fun e => decide (e.kind = .programStart arg)).map (·.time)

/-- A START marker reaches the Cue Table (R132). -/
def takeMarker (time number : Nat) (s : State) : State :=
  let l := s.cues.entries
  if (cueIndex time l).isSome then
    { s with cues := { s.cues with entries := l.map fun e =>
        if e.time = time then { e with kind := .programStart number, origin := .tape } else e } }
  else if l.any fun e => e.kind.isStart && e.time < time && time ≤ e.time + 9 then s
  else if Config.cueLimit ≤ l.length then logEntry .cueTableFull (some time) .internal number s
  else { s with cues := { s.cues with entries := insertCue ⟨time, .programStart number, .tape, []⟩ l } }

/-- The number a MARK at time `t` is given (R133). -/
def markNumber (t : Nat) (l : List CueEntry) : Nat :=
  min 99 (((l.filter fun e => e.time < t).foldl (fun m e => max m e.kind.number) 0) + 1)

/-- The mark record after a MARK that passes (R134). -/
def State.markSet (s : State) (t m : Nat) : MarkRecord :=
  if (s.transport.state = .starting ∨ s.transport.state = .play ∨ s.transport.state = .record) ∧ s.decoder.time < t then
    .waiting t m
  else s.cues.mark

/-- A MARK at time `t` from test 3 of R133 on: its status, and with DONE its number and index (R133, R134). -/
def markAt (t : Nat) (label : List Nat) (origin : Origin) (s : State) : State × Status × Nat × Nat :=
  let l := s.cues.entries
  let found := l.find? fun e => e.time == t
  let cueOrigin : CueOrigin := if origin = .list then .list else .request
  match found with
  | some e =>
    if e.kind.isStart then (s, .duplicate, 0, 0)
    else
      let m := markNumber t l
      let entries := l.map fun x =>
        if x.time = t then
          { x with kind := .programStart m, origin := cueOrigin, label := if label.isEmpty then x.label else label }
        else x
      let s := { s with cues := ⟨entries, s.markSet t m⟩ }
      (logEntry .mark (some t) origin m s, .done, m, (cueIndex t entries).getD 0)
  | none =>
    if Config.cueLimit ≤ l.length then (s, .full, 0, 0)
    else
      let m := markNumber t l
      let entries := insertCue ⟨t, .programStart m, cueOrigin, label⟩ l
      let s := { s with cues := ⟨entries, s.markSet t m⟩ }
      (logEntry .mark (some t) origin m s, .done, m, (cueIndex t entries).getD 0)

/-- The marking of the frame at a taken write window, and the mark record after it (R135). ARMED at a window of a frame before
t, which the table has no row for, answers none and keeps the record (DESIGN CHOICE, log entry 31). -/
def MarkRecord.window (r : MarkRecord) (p : Nat) : Option Nat × MarkRecord :=
  match r with
  | .none => (Option.none, .none)
  | .waiting t m => if p = t then (some m, .armed t m) else if t < p then (Option.none, .none) else (Option.none, r)
  | .armed t m =>
    if p = t + 9 then (some m, .none) else if t + 9 < p then (Option.none, .none)
    else if t ≤ p then (some m, r) else (Option.none, r)

/-- The check of the mark record at a frame pulse (R135). -/
def MarkRecord.check (r : MarkRecord) (time : Nat) : MarkRecord :=
  match r with
  | .none => .none
  | .waiting t _ => if t < time then .none else r
  | .armed t _ => if t + 9 < time then .none else r

/-! ### The tape time tracker (R63, R72, R74, R76) -/

/-- T is set from a time `v` of a closed frame (R72). -/
def Decoder.setFrom (d : Decoder) (v : Nat) : Decoder :=
  if 2 ≤ v then { d with time := v - 2, leadIn := 0 } else { d with time := 0, leadIn := 2 - v }

/-- The time status enters LOST (R74); a scheduled timed punch-in is cancelled, a timed punch-out withdrawn (R144, R145). The
TIME-LOST entry is made before the PUNCH-CANCELLED entry (DESIGN CHOICE, R182 leaves the order open: log entry 4). -/
def enterLost (s : State) : State :=
  let s := { s with decoder := { s.decoder with status := .lost, holdover := s.activeBank.holdover } }
  let s := setCondition .timeLost s
  let s := raiseFlag .timeLost s
  let s := logEntry .timeLost s.timeNow .internal s.decoder.holdover s
  let s := match s.mixer.punchIn with
    | some p => if p.timed then cancelPunch .time s else s
    | none => s
  withdrawPunchOut s

/-- The tracker, the mismatch rate and the start run at a reset or tape-out (R76). -/
def Decoder.forget (d : Decoder) : Decoder :=
  { d with time := 0, leadIn := 0, status := .unknown, holdover := 0, mismatch := none, startRun := none }

/-! ### Motion (R117 to R119) -/

/-- Steps 1 and 2 of R117 for a request from a port. -/
def State.motionAllowed (s : State) (port : Port) : Option Status :=
  let allowed : Bool := match s.transport.control, port with
    | .both, _ => true
    | .localOnly, p => p == .system
    | .remote, p => p == .link
  if allowed = false then some .authority
  else if s.sequencer.state ≠ .idle then some .listActive
  else none

/-- EMPTY, FAULT and RECORD allow no motion but punches and STOP (R118). -/
def TransportState.barred : TransportState → Bool
  | .record | .empty | .fault => true
  | _ => false

/-- PLAY by transport state (R118). -/
def playMotion (s : State) : State × Status :=
  match s.transport.state with
  | .record | .empty | .fault => (s, .state)
  | .play | .starting => (s, .done)
  | .stop | .cued | .wind | .locate => (enterState .starting (.playSpeed .normal) (endLocate .superseded s), .accepted)

/-- WIND by transport state (R118). -/
def windMotion (direction : Direction) (speed : Speed) (s : State) : State × Status :=
  if s.transport.state.barred then (s, .state)
  else (enterState .wind (.wind direction speed) (endLocate .superseded s), .done)

/-- CUE-HOLD by transport state (R118). -/
def cueHoldMotion (s : State) : State × Status :=
  match s.transport.state with
  | .record | .empty | .fault => (s, .state)
  | .cued => (s, .done)
  | .stop | .play | .starting | .wind | .locate =>
    let t := enterState .cued .hold (endLocate .superseded s)
    ({ t with transport := { t.transport with holdAwaited := true } }, .accepted)

/-- The target kind a code names (R192, R197). -/
def targetKindOf (n : Nat) : Option TargetKind :=
  match n with
  | 0 => some .time
  | 1 => some .cue
  | 2 => some .program
  | _ => none

/-- LOCATE from step 3 of R117 on: target kind and time, transport state, target (R117, R118, R122). The Bool says that the
locate arrived at once. -/
def locateMotion (origin : Origin) (kindCode arg preroll : Nat) (s : State) : State × Status × Bool :=
  match targetKindOf kindCode with
  | none => (s, .badValue, false)
  | some k =>
    if k = .time ∧ Config.lastTime < arg then (s, .badValue, false)
    else if s.transport.state.barred then (s, .state, false)
    else match resolveTarget s.cues.entries k arg with
      | none => (s, .notFound, false)
      | some target =>
        let t := startLocate origin k target preroll s
        (t, .accepted, t.transport.state == .cued)

/-- RECORD by transport state (R106, R118, R140). -/
def recordMotion (origin : Origin) (s : State) : State × Status :=
  match s.transport.state with
  | .stop | .cued =>
    match judgeCopy origin s with
    | (t, true) =>
      let t := enterState .starting (.playSpeed .normal) t
      ({ t with transport := { t.transport with recordPending := true, recordOrigin := origin } }, .accepted)
    | (t, false) => (t, .copy)
  | .starting =>
    if s.transport.recordPending then (s, .pending)
    else
      match judgeCopy origin s with
      | (t, true) => ({ t with transport := { t.transport with recordPending := true, recordOrigin := origin } }, .accepted)
      | (t, false) => (t, .copy)
  | .play => schedulePunchIn origin (s.punchNow origin) none s
  | .wind | .locate | .record | .empty | .fault => (s, .state)

/-- The stop of a STOP request or of the list's STOP entry in the last two rows of R119's table. -/
def stopMotion (origin : Origin) (s : State) : State :=
  let s := closeAtOnce .stop origin s
  match s.transport.state with
  | .empty | .fault => s
  | .stop | .starting | .play | .record | .cued | .wind | .locate => enterState .stop .stop (endLocate .stopped s)

/-- FAULT is left for STOP or EMPTY (R114). -/
def leaveFault (s : State) : State := enterState (if s.transport.tapePresent then .stop else .empty) .stop s

/-- The transport part of MECH-FAULT and of the spin-up timer's expiry, with the FAULT entry's argument (R114, R115, R198). The
entry of a take's or a punch's end is made before the FAULT entry (DESIGN CHOICE, log entry 4). -/
def enterFault (argument : Nat) (s : State) : State :=
  let s := closeAtOnce .fault .internal s
  let s := enterState .fault .stop (endLocate .fault s)
  let s := raiseFlag .fault s
  logEntry .fault s.timeNow .internal argument s

/-- The report of a tape end (R113), FWD 0 and REV 1 (R198). The entry of a take's, a punch's or a locate's end is made before
the TAPE-END entry (DESIGN CHOICE, log entry 4). -/
def tapeEnd (argument : Nat) (s : State) : State :=
  let records (s : State) : State :=
    let s := setCondition .tapeEnd s
    let s := raiseFlag .tape s
    logEntry .tapeEnd s.timeNow .internal argument s
  match s.transport.state with
  | .play | .record => records (enterState .stop .stop (closeAtOnce .tapeEnd .internal s))
  | .starting => handOff .spinUpTapeEnd (records (enterState .stop .stop s))
  | .wind => records (enterState .stop .stop s)
  | .locate => records (failLocate .tapeEnd s)
  | .empty | .stop | .cued | .fault => s

end Sys2Proof.Machine
end

