-- ==== Sys2Proof/Machine/ListOps.lean ====
section
/-! DEFINITION. Shared operations of the Edit Sequencer (R152 to R170): results, ends, entry kinds, chains and hand-offs. -/

namespace Sys2Proof.Machine

/-! ### Entries and results (R153) -/

def State.entry (s : State) (i : Nat) : ListEntry := s.sequencer.entries.getD i ListEntry.blank

def setEntry (i : Nat) (e : ListEntry) (s : State) : State :=
  { s with sequencer := { s.sequencer with entries := s.sequencer.entries.set i e } }

/-- The result of entry `i` is written, repeats used kept (R153). -/
def writeResult (i : Nat) (outcome : EntryOutcome) (seen : BitVec 7) (completion : Option Nat) (s : State) : State :=
  setEntry i { s.entry i with outcome := outcome, seen := seen, completion := completion } s

/-- The result with the condition set and T as they stand (R153). -/
def writeNow (i : Nat) (outcome : EntryOutcome) (s : State) : State :=
  writeResult i outcome s.sequencer.conditions s.timeNow s

/-- The fields of an initial result (R153). -/
def ListEntry.cleared (e : ListEntry) : ListEntry :=
  { e with outcome := .notRun, seen := 0, completion := none, repeats := 0 }

/-- An entry ends FAILED, with its LIST-ENTRY-FAILED log entry (R153, R198). -/
def writeFailed (i reason : Nat) (s : State) : State :=
  logEntry .listEntryFailed s.timeNow .list (i * 65536 + reason) (writeNow i .failed s)

/-! ### The end of the list (R158) -/

/-- The list's end: IDLE, the saved index none, wait remainder and chain count 0, the reason kept (R158). -/
def endQuietly (reason : EndReason) (s : State) : State :=
  { s with sequencer := { s.sequencer with
      state := .idle, saved := none, waitRemainder := 0, chainCount := 0, lastEnd := reason } }

/-- Reason code in the LIST-END entry: 0..6 in the order of R158 (R198). -/
def EndReason.logCode (r : EndReason) : Nat := r.code - 1

/-- The list ends, LIST-END is raised and the end is logged; `extra` is the argument's high word (R158, R198). -/
def endList (reason : EndReason) (origin : Origin) (extra : Nat) (s : State) : State :=
  let s := raiseFlag .listEnd (endQuietly reason s)
  logEntry .listEnd s.timeNow origin (extra * 65536 + reason.logCode) s

/-- Why an entry is bad (R158, R198). -/
inductive BadCause where
  | unknownKind | badTarget | nestedCall | noReturn | noWait
  deriving DecidableEq, Repr

def BadCause.code : BadCause → Nat
  | .unknownKind => 0
  | .badTarget => 1
  | .nestedCall => 2
  | .noReturn => 3
  | .noWait => 4

/-- The list ends BAD-ENTRY at entry `i`, written with `outcome` (R156, R158). -/
def endBad (cause : BadCause) (outcome : EntryOutcome) (i : Nat) (s : State) : State :=
  endList .badEntry .list (cause.code * 256 + i) (writeNow i outcome s)

/-- A halting event: a running list ends at once, its entry in progress SKIPPED (R157, R158). -/
def haltList (reason : EndReason) (origin : Origin) (s : State) : State :=
  if s.sequencer.state = .idle then s
  else endList reason origin 0 (writeNow s.sequencer.current .skipped s)

/-! ### Entry kinds (R160 to R168) -/

/-- How an entry of a chain leaves the sequencer (R156). -/
inductive Advance where
  /-- Pass on to this index; 64 is the place after entry 63. -/
  | goto (index : Nat)
  /-- The entry is in progress, in this sequencer state. -/
  | inProgress (state : SequencerState)
  /-- The list has ended. -/
  | ended
  deriving DecidableEq, Repr

/-- An entry that completes when executed with an outcome, and passes on to the next index. -/
def completes (i : Nat) (outcome : EntryOutcome) (s : State) : State × Advance := (writeNow i outcome s, .goto (i + 1))

def fails (i reason : Nat) (s : State) : State × Advance := (writeFailed i reason s, .goto (i + 1))

/-- The conditions of a mask are removed from the set (R159). -/
def clearConditions (mask : BitVec 7) (s : State) : State :=
  { s with sequencer := { s.sequencer with conditions := s.sequencer.conditions &&& ~~~ mask } }

/-- A mask is met when at least one of its conditions is in the set (R159). -/
def State.maskMet (s : State) (mask : BitVec 7) : Bool := s.sequencer.conditions &&& mask != 0

/-- MARK at the time argument (R133, R160). -/
def runMark (i : Nat) (e : ListEntry) (s : State) : State × Advance :=
  if Config.lastTime < e.time then fails i Status.badValue.code s
  else match markAt e.time [] .list s with
    | (t, .done, _, _) => completes i .done t
    | (t, status, _, _) => fails i status.code t

/-- JUMP-IF (R161). -/
def runJumpIf (i : Nat) (e : ListEntry) (s : State) : State × Advance :=
  if s.maskMet e.mask then (clearConditions e.mask (writeNow i .taken s), .goto e.target)
  else (clearConditions e.mask (writeNow i .notTaken s), .goto (i + 1))

/-- REPEAT-IF (R163). -/
def runRepeatIf (i : Nat) (e : ListEntry) (s : State) : State × Advance :=
  let repeats (n : Nat) (s : State) : State := setEntry i { s.entry i with repeats := n } s
  if s.maskMet e.mask = true ∧ e.repeats < e.count then
    (clearConditions e.mask (repeats (e.repeats + 1) (writeNow i .taken s)), .goto e.target)
  else (clearConditions e.mask (repeats 0 (writeNow i .notTaken s)), .goto (i + 1))

/-- CALL and RETURN (R162). A CALL that has both a bad target and a saved index is BAD-TARGET (log entry 24). -/
def runCall (i : Nat) (e : ListEntry) (s : State) : State × Advance :=
  if s.sequencer.saved.isSome then (endBad .nestedCall .failed i s, .ended)
  else
    let s := writeNow i .done s
    ({ s with sequencer := { s.sequencer with saved := some (i + 1) } }, .goto e.target)

def runReturn (i : Nat) (s : State) : State × Advance :=
  match s.sequencer.saved with
  | none => (endBad .noReturn .failed i s, .ended)
  | some k =>
    let s := writeNow i .done s
    ({ s with sequencer := { s.sequencer with saved := none } }, .goto k)

/-- The judgement of a WAIT-TIME entry: failed with a reason code, done, or waiting (R164). -/
inductive WaitVerdict where
  | failed (reason : Nat) | done | waits
  deriving DecidableEq, Repr

/-- WAIT-TIME judged against the tracker (R164). The reason TIME-LOST is code 24 (R198). -/
def State.waitVerdict (s : State) (e : ListEntry) : WaitVerdict :=
  if Config.lastTime < e.time then .failed Status.badValue.code
  else if s.decoder.status = .lost then .failed 24
  else if e.time ≤ s.decoder.time then .done
  else .waits

def runWaitTime (i : Nat) (e : ListEntry) (s : State) : State × Advance :=
  match s.waitVerdict e with
  | .failed reason => fails i reason s
  | .done => completes i .done s
  | .waits => (s, .inProgress .waiting)

/-- WAIT-FRAMES (R164). -/
def runWaitFrames (i : Nat) (e : ListEntry) (s : State) : State × Advance :=
  if e.count = 0 then completes i .done s
  else ({ s with sequencer := { s.sequencer with waitRemainder := e.count } }, .inProgress .waiting)

/-- LOCATE (R165); its count argument is the preroll, at most 250 (R122). -/
def runLocate (i : Nat) (e : ListEntry) (s : State) : State × Advance :=
  match locateMotion .list e.choice e.time (min 250 e.count) s with
  | (t, .accepted, true) => completes i .done t
  | (t, .accepted, false) => (t, .inProgress .running)
  | (t, status, _) => fails i status.code t

/-- ROLL (R166). -/
def runRoll (i : Nat) (s : State) : State × Advance :=
  match s.transport.state with
  | .cued => ((playMotion s).1, .inProgress .running)
  | .starting => (s, .inProgress .running)
  | .play => completes i .done s
  | .empty | .stop | .record | .wind | .locate | .fault => fails i Status.state.code s

/-- PUNCH-IN (R167), judged under R139 without a punch-out and under R106. A time or choice out of range is BAD-VALUE in EMPTY
and FAULT too, by test 1 of R139, before the STATE of its test 3: R117, which judges the list's motion from its step 3 on, has
STATE at step 4 before the checks of the Edit Mixer at step 6 (DESIGN CHOICE between R117 and R139, log entry 48). -/
def runPunchIn (i : Nat) (e : ListEntry) (s : State) : State × Advance :=
  match crossfadeOfChoice s.activeBank.crossfade e.choice with
  | none => fails i Status.badValue.code s
  | some cross =>
    if Config.lastTime < e.time then fails i Status.badValue.code s
    else match schedulePunchIn .list ⟨e.time, cross, true, .list⟩ none s with
      | (t, .accepted) => (t, .inProgress .running)
      | (t, status) => fails i status.code t

/-- PUNCH-OUT (R168), judged under R142. A time or choice out of range is BAD-VALUE in EMPTY and FAULT too, by test 1 of R142,
where step 4 of R117 would give STATE first (DESIGN CHOICE between R117 and R142, log entry 48). -/
def runPunchOut (i : Nat) (e : ListEntry) (s : State) : State × Advance :=
  match schedulePunchOut e.time (crossfadeOfChoice s.activeBank.crossfade e.choice) s with
  | (t, .accepted) => (t, .inProgress .running)
  | (t, status) => fails i status.code t

/-- The kinds that need a target index (R160 to R163). -/
def needsTarget (kind : Nat) : Bool := kind == 8 || kind == 9 || kind == 10 || kind == 12

/-- One entry executed, by its kind code (R160 to R168, R196). -/
def runEntry (i : Nat) (s : State) : State × Advance :=
  let e := s.entry i
  if 14 < e.kind then (endBad .unknownKind .failed i s, .ended)
  else if needsTarget e.kind = true ∧ 63 < e.target then (endBad .badTarget .failed i s, .ended)
  else match e.kind with
    | 0 => (endList .endReached .list 0 (writeNow i .done s), .ended)
    | 1 => runWaitTime i e s
    | 2 => runWaitFrames i e s
    | 3 => runLocate i e s
    | 4 => runRoll i s
    | 5 => runPunchIn i e s
    | 6 => runPunchOut i e s
    | 7 => runMark i e s
    | 8 => (writeNow i .done s, .goto e.target)
    | 9 => runJumpIf i e s
    | 10 => runCall i e s
    | 11 => runReturn i s
    | 12 => runRepeatIf i e s
    | 13 => completes i .done (logEntry .note s.timeNow .list e.count s)
    | _ => completes i .done (stopMotion .list s)

/-! ### Chains (R156) -/

/-- Entries are executed from index `i` until one starts an operation, the list ends, or 256 have run (R156). -/
def chainFrom : Nat → Nat → State → State
  | 0, i, s => endBad .noWait .skipped i { s with sequencer := { s.sequencer with current := i } }
  | fuel + 1, i, s =>
    let s := { s with sequencer := { s.sequencer with current := i, chainCount := s.sequencer.chainCount + 1 } }
    match runEntry i s with
    | (t, .ended) => t
    | (t, .inProgress state) => { t with sequencer := { t.sequencer with state := state } }
    | (t, .goto k) =>
      if k < Config.listEntries then chainFrom fuel k t else endList .endReached .list 0 t

/-- A chain begins at index `i`: the chain count is 0, and the hand-offs of entries no longer in progress are discarded when
it is over (R156, R158). -/
def beginChain (i : Nat) (s : State) : State :=
  let s := { s with sequencer := { s.sequencer with state := .running, chainCount := 0 } }
  let t := if i < Config.listEntries then chainFrom Config.chainLimit i s else endList .endReached .list 0 s
  { t with sequencer := { t.sequencer with handoffs := [] } }

/-! ### The end of an entry in progress (R157, R165 to R168) -/

/-- How an entry in progress ends: DONE with a completion time of its own or T, or FAILED with a reason code. -/
inductive Ending where
  | done (completion : Option Nat)
  | failed (reason : Nat)
  deriving DecidableEq, Repr

/-- What a hand-off means to the entry in progress, by its kind; none when it does not concern it (R165 to R168). -/
def endingOf (kind : Nat) (h : Handoff) : Option Ending :=
  match kind, h with
  | 3, .locateEnded .arrived => some (.done none)
  | 3, .locateEnded .hunting => some (.failed 16)
  | 3, .locateEnded .timeout => some (.failed 17)
  | 3, .locateEnded .tapeEnd => some (.failed 18)
  | 3, .locateEnded .noTime => some (.failed 19)
  | 4, .spunUp => some (.done none)
  | 4, .spinUpTapeEnd => some (.failed 18)
  | 5, .gateOpened t => some (.done (some t))
  | 5, .punchFailed r => some (.failed r.code)
  | 6, .punchOutDone l => some (.done (some l))
  | 6, .closedEarly => some (.failed 18)
  | 6, .punchFailed r => some (.failed r.code)
  | _, _ => none

/-- The entry in progress ends: its result is written, and the list passes on, or ends when it is HALTING (R156, R157). -/
def endEntry (ending : Ending) (s : State) : State :=
  let i := s.sequencer.current
  let t := match ending with
    | .done none => writeNow i .done s
    | .done (some time) => writeResult i .done s.sequencer.conditions (some time) s
    | .failed reason => writeFailed i reason s
  if s.sequencer.state = .halting then
    let u := endList .byRequest s.sequencer.haltPort.origin 0 t
    { u with sequencer := { u.sequencer with handoffs := [] } }
  else beginChain (i + 1) t

/-- The kind of the entry in progress; none in IDLE. -/
def State.kindInProgress (s : State) : Option Nat :=
  if s.sequencer.state = .idle then none else some (s.entry s.sequencer.current).kind

/-- The hand-offs of the command under way reach the sequencer: the first that concerns the entry in progress ends it, the
others are discarded (R158). -/
def takeHandoffs (s : State) : State :=
  let t := { s with sequencer := { s.sequencer with handoffs := [] } }
  match s.kindInProgress with
  | none => t
  | some kind =>
    match s.sequencer.handoffs.findSome? (endingOf kind) with
    | some ending => endEntry ending t
    | none => t

/-- The end of a command: a pending selection whose capture boundary has come takes effect (R42), and the hand-offs reach the
sequencer. -/
def settle (s : State) : State := takeHandoffs (takeSelection s)

/-- A WAIT-TIME entry in progress is judged again (R164). -/
def judgeWaitTime (s : State) : State :=
  if s.kindInProgress = some 1 then
    match s.waitVerdict (s.entry s.sequencer.current) with
    | .failed reason => endEntry (.failed reason) s
    | .done => endEntry (.done none) s
    | .waits => s
  else s

/-- The wait remainder of a WAIT-FRAMES entry in progress falls by one, and at 0 the entry ends DONE (R164). -/
def stepWaitFrames (s : State) : State :=
  if s.kindInProgress = some 2 then
    let n := s.sequencer.waitRemainder - 1
    let t := { s with sequencer := { s.sequencer with waitRemainder := n } }
    if n = 0 then endEntry (.done none) t else t
  else s

end Sys2Proof.Machine
end

