-- ==== Sys2Proof/Machine/PortOps.lean ====
section
/-! DEFINITION. Shared operations of the two ports: request queues, the taking of requests, the placing of replies (R171, R172,
R180, R185 to R190), and soft reset (R40, R125, R184, R191). -/

namespace Sys2Proof.Machine

/-! ### Places in the queues (R171, R187, R190) -/

def Reception.places : Reception → Nat
  | .placed => 1
  | _ => 0

/-- A place of the link request queue is free for a packet that begins (R187). -/
def State.requestRoom (s : State) : Bool :=
  s.link.requests.length + s.link.upstream.reception.places < Config.requestPlaces

/-- A place of the upstream transmit queue is free (R187, R190). -/
def State.upstreamRoom (s : State) : Bool :=
  s.link.upstreamQueue.length + s.link.downstream.reception.places < Config.upstreamPlaces

/-- The port can place a reply (R171). -/
def State.replyRoom (s : State) : Port → Bool
  | .system => s.system.replies.length < Config.requestPlaces
  | .link => s.upstreamRoom

/-- The ready indication this deck gives on a line (R187). -/
def State.ready (s : State) : Line → Bool
  | .upstream => s.requestRoom
  | .downstream => s.upstreamRoom

/-! ### Taking and answering (R171, R172, R189) -/

/-- The request that stands to be taken from a port: the head of its queue, when the port can place a reply and no chain
reset waits (R171, R191); on the Studio Link it has hop 0 and the deck is configured (R189). -/
def State.headRequest (s : State) (port : Port) : Option (Ticket × List Word) :=
  if s.link.chainReset.isSome ∨ s.replyRoom port = false then none
  else match port with
    | .system => (s.system.requests.head?).map fun body => (⟨.system, 0#8⟩, body)
    | .link =>
      if s.link.position.isNone then none
      else match s.link.requests.head? with
        | some r => if r.hop = 0 then some (⟨.link, r.tag⟩, r.body) else none
        | none => none

/-- The request taken leaves its queue (R171). -/
def popRequest (port : Port) (s : State) : State :=
  match port with
  | .system => { s with system := { s.system with requests := s.system.requests.drop 1 } }
  | .link => { s with link := { s.link with requests := s.link.requests.drop 1 } }

/-- A packet is placed in the upstream transmit queue, or discarded while the upstream line is DOWN (R187, R190). -/
def placeUpstream (bytes : List Byte) (s : State) : State :=
  if s.link.upstream.up then { s with link := { s.link with upstreamQueue := s.link.upstreamQueue ++ [bytes] } } else s

/-- The code of READ-REPORT, whose reply does not raise REPLY-READY (R180, R197). -/
abbrev readReportCode : Word := 24#16

/-- A reply is placed: in the System Port reply queue, raising REPLY-READY, or as a packet with the request's tag and this
deck's position (R171, R180, R186, R190). -/
def placeReply (ticket : Ticket) (body : List Word) (s : State) : State :=
  match ticket.port with
  | .system =>
    let t := { s with system := { s.system with replies := s.system.replies ++ [body] } }
    if argWord body 0 = readReportCode then t else raiseReplyReady t
  | .link => placeUpstream (packetBytes 0 true ticket.tag (s.link.position.getD 0) body) s

/-- What an owner answers: the state after its judgement, the status, and the data of a DONE reply. -/
abbrev Judgement := State × Status × List Word

/-- The head request of a port is taken when it is of the kind named: its owner judges it, the reply is placed, and the
hand-offs reach the sequencer. Otherwise nothing happens (log entry 1). -/
def serve (port : Port) (kind : RequestKind) (judge : Ticket → List Word → State → Judgement) (s : State) : State :=
  match s.headRequest port with
  | some (ticket, body) =>
    if requestKind body = some kind then
      let (t, status, data) := judge ticket body (popRequest port s)
      settle (placeReply ticket (replyBody (argWord body 0) status data) t)
    else s
  | none => s

/-- A taken request of unknown kind or wrong length is answered BAD-REQUEST (R172). -/
def serveUnknown (port : Port) (s : State) : State :=
  match s.headRequest port with
  | some (ticket, body) =>
    if requestKind body = none then
      placeReply ticket (replyBody (argWord body 0) .badRequest []) (popRequest port s)
    else s
  | none => s

/-! ### Soft reset (R40, R41, R50, R61, R62, R80, R90, R97, R125, R126, R137, R154, R158, R173, R178, R184, R187, R191) -/

/-- The Edit Sequencer at a soft reset: a running list ends HALTED-BY-RESET, its entry in progress SKIPPED; the list memory
and the current index are kept (R152, R154, R158). The SKIPPED result carries T and the condition set as they stood before the
reset of the tracker and of the set (DESIGN CHOICE, log entry 39). -/
def resetSequencer (s : State) : State :=
  let t := if s.sequencer.state = .idle then s else endQuietly .byReset (writeNow s.sequencer.current .skipped s)
  { t with sequencer := { t.sequencer with
      saved := none, waitRemainder := 0, chainCount := 0, conditions := 0, handoffs := [] } }

/-- The Transport Controller at a soft reset (R125, R184). The origin kept for a pending record, a field of the model's own for
which the spec gives no value, becomes SYSTEM as at power-on reset (DESIGN CHOICE, log entry 13). -/
def Transport.softReset (t : Transport) : Transport :=
  { t with
    state := if t.tapePresent then .stop else .empty
    demand := .stop, lastReport := none, spinUpRunning := false, recordPending := false
    recordOrigin := .system, holdAwaited := false, faultRelease := false
    locate := if t.state = .locate then t.locate.ended .reset else t.locate }

/-- A line at a soft reset: state kept, error flags clear, a packet being received loses its place (R187, R191). R191 discards
the packet being received "when the reset is taken": for a CHAIN reset that waits, the model reads this as the moment of its
soft reset, so a packet that ends during the wait is judged as any other (DESIGN CHOICE, log entry 44). -/
def LineStatus.softReset (l : LineStatus) : LineStatus :=
  { l with
    hard := false, soft := false, framing := false
    reception := if l.reception = .idle then .idle else .dropped }

/-- One port's report at a soft reset: counters and flags cleared, mask kept (R178, R179). -/
def PortReport.softReset (r : PortReport) : PortReport := { r with counters := Counters.zero, flags := 0 }

/-- Soft reset: every block takes its soft-reset values, a RESET entry is made, and TAPE is raised when tape is present
(R184). A scheduled punch-in is cancelled first, with reason MOTION (R144, R150): its PUNCH-CANCELLED entry carries T from
before the reset of the tracker, and stands before the RESET entry (DESIGN CHOICE in these two, log entry 35). Its hand-off to
the edit list is discarded, since the reset ends the list (R158). -/
def softReset (origin : Origin) (scope : Nat) (s : State) : State :=
  let s := resetSequencer (cancelPunch .motion s)
  let t := { s with
    transport := s.transport.softReset
    store := State.reset.store
    coder := { s.coder with current := none, sequence := 0, verify := [], writeOn := false }
    decoder := State.reset.decoder
    conceal := State.reset.conceal
    output := { State.reset.output with wordLength := s.activeBank.outputWordLength }
    mixer := State.reset.mixer
    cues := { s.cues with mark := .none }
    copy := { current := .field s.activeBank.analogCopy, latched := false, heldTape := none, inputFields := [] }
    input := { s.input with selected := .analog, pendingSelect := none, lost := none }
    banks := { s.banks with pendingSwitch := none }
    reports := { s.reports with system := s.reports.system.softReset, link := s.reports.link.softReset }
    system := { s.system with requests := [], replies := [] }
    link := { s.link with
      requests := [], upstreamQueue := [], upstream := s.link.upstream.softReset
      downstream := s.link.downstream.softReset, chainReset := none } }
  let t := logEntry .reset none origin scope t
  if t.transport.tapePresent then raiseFlag .tape t else t

/-- The kind code of RESET-PART (R192, R197). -/
abbrev resetPartCode : Word := 28#16

/-- Soft reset, and the DONE reply to the RESET-PART by the port it came on (R184, R191). -/
def resetAndReply (ticket : Ticket) (scope : Nat) (s : State) : State :=
  placeReply ticket (replyBody resetPartCode .done []) (softReset ticket.port.origin scope s)

end Sys2Proof.Machine
end

