-- ==== Sys2Proof/Machine/Requests.lean ====
section
/-! DEFINITION. The owners' judgements of the request kinds, from the words of the body to the status and data of the reply
(R42, R116 to R119, R128 to R133, R139 to R141, R155, R157, R169, R170, R174 to R176, R179, R181, R183, R184). -/

namespace Sys2Proof.Machine

/-- A judgement without data. -/
def plain (r : State × Status) : Judgement := (r.1, r.2, [])

/-- A motion request: steps 1 and 2 of R117, then the rest. -/
def motion (port : Port) (s : State) (rest : State → State × Status) : Judgement :=
  match s.motionAllowed port with
  | some status => (s, status, [])
  | none => plain (rest s)

/-! ### Motion requests (R117 to R119) -/

def judgePlay (ticket : Ticket) (_ : List Word) (s : State) : Judgement := motion ticket.port s playMotion

/-- WIND: direction in the high byte, speed in the low byte (R197). -/
def judgeWind (ticket : Ticket) (body : List Word) (s : State) : Judgement :=
  motion ticket.port s fun s =>
    let w := argWord body 1
    match w.high, w.low with
    | 0, 0 => windMotion .forward .fast s
    | 0, 1 => windMotion .forward .slow s
    | 1, 0 => windMotion .reverse .fast s
    | 1, 1 => windMotion .reverse .slow s
    | _, _ => (s, .badValue)

def judgeCueHold (ticket : Ticket) (_ : List Word) (s : State) : Judgement := motion ticket.port s cueHoldMotion

def judgeLocate (ticket : Ticket) (body : List Word) (s : State) : Judgement :=
  motion ticket.port s fun s =>
    let r := locateMotion ticket.port.origin (argWord body 1).toNat (argLong body 2) s.activeBank.preroll s
    (r.1, r.2.1)

def judgeRecord (ticket : Ticket) (_ : List Word) (s : State) : Judgement :=
  motion ticket.port s (recordMotion ticket.port.origin)

/-- EMPTY and FAULT allow no punch (R118). -/
def State.punchBarred (s : State) : Bool := s.transport.state == .empty || s.transport.state == .fault

/-- SCHEDULE-PUNCH, with a punch-out when the body has six words (R139, R197). -/
def judgeSchedulePunch (ticket : Ticket) (body : List Word) (s : State) : Judgement :=
  motion ticket.port s fun s =>
    if s.punchBarred then (s, .state)
    else
      let bank := s.activeBank.crossfade
      let origin := ticket.port.origin
      let t := argLong body 2
      let u := argLong body 4
      match crossfadeOfChoice bank (argWord body 1).high with
      | none => (s, .badValue)
      | some crossIn =>
        if Config.lastTime < t then (s, .badValue)
        else if body.length = 6 then
          match crossfadeOfChoice bank (argWord body 1).low with
          | none => (s, .badValue)
          | some crossOut =>
            if Config.lastTime < u then (s, .badValue)
            else schedulePunchIn origin ⟨t, crossIn, true, origin⟩ (some ⟨u, crossOut, true, origin⟩) s
        else schedulePunchIn origin ⟨t, crossIn, true, origin⟩ none s

def judgePunchOut (ticket : Ticket) (_ : List Word) (s : State) : Judgement :=
  motion ticket.port s fun s => if s.punchBarred then (s, .state) else punchOutNow ticket.port.origin s

/-- STOP: a running list halts at once, and the transport stops by its state (R114, R119). The LIST-END entry is made before the
PUNCH-OUT or PUNCH-CANCELLED entry (DESIGN CHOICE, R182 leaves the order open: log entry 4). -/
def judgeStop (ticket : Ticket) (_ : List Word) (s : State) : Judgement :=
  let origin := ticket.port.origin
  let s := haltList .byStop origin s
  let t :=
    if s.transport.state = .fault then
      if s.transport.lastReport = some .stopped then leaveFault s
      else { s with transport := { s.transport with faultRelease := true } }
    else stopMotion origin s
  (t, .done, [])

/-- SET-CONTROL (R116). -/
def judgeSetControl (ticket : Ticket) (body : List Word) (s : State) : Judgement :=
  match ticket.port with
  | .link => (s, .authority, [])
  | .system =>
    match ControlSource.ofCode (argWord body 1).toNat with
    | none => (s, .badValue, [])
    | some c =>
      if c = s.transport.control then (s, .done, [])
      else (logEntry .control s.timeNow .system c.code { s with transport := { s.transport with control := c } }, .done, [])

/-! ### SELECT-SOURCE (R42) -/

/-- The source a code names: 0 ANALOG, 1 DIGITAL (R192, R197). -/
def sourceOf (w : Word) : Option Source :=
  match w.toNat with
  | 0 => some .analog
  | 1 => some .digital
  | _ => none

def judgeSelectSource (_ : Ticket) (body : List Word) (s : State) : Judgement :=
  if s.transport.state = .record then (s, .locked, [])
  else
    match sourceOf (argWord body 1) with
    | none => (s, .badValue, [])
    | some src =>
      if src = s.input.selected then ({ s with input := { s.input with pendingSelect := none } }, .done, [])
      else if s.fillingSlot.isSome then ({ s with input := { s.input with pendingSelect := some src } }, .done, [])
      else (applySelection src s, .done, [])

/-! ### Cue Table requests (R128 to R131, R133) -/

/-- A label character is within 32..126 (R126). -/
def labelOk (label : List Nat) : Bool := label.all fun c => 32 ≤ c && c ≤ 126

/-- The kind of an added entry: kind code in the high byte, program number 1..99 in the low byte (R128, R196). -/
def cueKindOf (w : Word) : Option CueKind :=
  match w.high with
  | 0 => if 1 ≤ w.low ∧ w.low ≤ 99 then some (.programStart w.low) else none
  | 1 => some .cuePoint
  | _ => none

def judgeCueAdd (_ : Ticket) (body : List Word) (s : State) : Judgement :=
  let time := argLong body 1
  let (length, label) := argLabel body 4
  if 8 < length then (s, .badRequest, [])
  else match cueKindOf (argWord body 3) with
    | none => (s, .badValue, [])
    | some kind =>
      if Config.lastTime < time ∨ labelOk label = false then (s, .badValue, [])
      else if (cueIndex time s.cues.entries).isSome then (s, .duplicate, [])
      else if Config.cueLimit ≤ s.cues.entries.length then (s, .full, [])
      else
        let entries := insertCue ⟨time, kind, .request, label⟩ s.cues.entries
        ({ s with cues := { s.cues with entries := entries } }, .done, [wordOf ((cueIndex time entries).getD 0)])

def judgeCueRemove (_ : Ticket) (body : List Word) (s : State) : Judgement :=
  let value := argLong body 2
  let index : Option Nat := if value < s.cues.entries.length then some value else none
  let remove (i : Option Nat) : Judgement :=
    match i with
    | none => (s, .notFound, [])
    | some i => ({ s with cues := { s.cues with entries := s.cues.entries.eraseIdx i } }, .done, [])
  match (argWord body 1).toNat with
  | 0 => remove (cueIndex value s.cues.entries)
  | 1 => remove index
  | _ => (s, .badValue, [])

def judgeCueClear (_ : Ticket) (_ : List Word) (s : State) : Judgement :=
  ({ s with cues := { s.cues with entries := [] } }, .done, [])

def judgeCueRead (_ : Ticket) (body : List Word) (s : State) : Judgement :=
  let start := (argWord body 1).toNat
  if 98 < start then (s, .badValue, [])
  else
    let shown := (s.cues.entries.drop start).take 4
    (s, .done, wordOf s.cues.entries.length :: (shown.mapIdx fun k e => cueWords (start + k) e).flatten)

/-- The value NOW of a MARK request (R197). -/
abbrev markNow : Nat := 0xFFFFFFFE

/-- The time NOW stands for (R133). -/
def State.nowTime (s : State) : Nat :=
  if s.transport.state = .starting ∨ s.transport.state = .play ∨ s.transport.state = .record then s.decoder.time + 1
  else s.decoder.time

/-- MARK. A NOW that would lie past the last tape time is BAD-VALUE (log entry 25). -/
def judgeMark (ticket : Ticket) (body : List Word) (s : State) : Judgement :=
  let given := argLong body 1
  let t := if given = markNow then s.nowTime else given
  let (length, label) := argLabel body 4
  if 8 < length then (s, .badRequest, [])
  else if Config.lastTime < t ∨ labelOk label = false then (s, .badValue, [])
  else
    let r := markAt t label ticket.port.origin s
    (r.1, r.2.1, [wordOfBytes r.2.2.1 r.2.2.2])

/-! ### Edit list requests (R155, R157, R169, R170) -/

/-- The list starts at an index (R155). -/
def startList (index : Nat) (origin : Origin) (s : State) : State :=
  let s := { s with sequencer := { s.sequencer with
    conditions := 0, saved := none, waitRemainder := 0, entries := s.sequencer.entries.map ListEntry.cleared
    current := index, state := .running } }
  beginChain index (logEntry .listStart s.timeNow origin index s)

def judgeListRun (ticket : Ticket) (body : List Word) (s : State) : Judgement :=
  let start := (argWord body 1).toNat
  if 63 < start then (s, .badValue, [])
  else if s.sequencer.state ≠ .idle then (s, .listActive, [])
  else (startList start ticket.port.origin s, .accepted, [])

def judgeListHalt (ticket : Ticket) (_ : List Word) (s : State) : Judgement :=
  match s.sequencer.state with
  | .idle => (s, .done, [])
  | .running | .waiting =>
    ({ s with sequencer := { s.sequencer with state := .halting, haltPort := ticket.port } }, .accepted, [])
  | .halting => (haltList .byRequest ticket.port.origin s, .done, [])

/-- Entries are written to consecutive indices (R169). -/
def writeEntries : Nat → List ListEntry → List ListEntry → List ListEntry
  | _, [], old => old
  | i, e :: es, old => writeEntries (i + 1) es (old.set i e)

def judgeListWrite (_ : Ticket) (body : List Word) (s : State) : Judgement :=
  let start := (argWord body 1).toNat
  let n := (body.length - 2) / 5
  if n = 0 ∨ 4 < n then (s, .badRequest, [])
  else if Config.listEntries < start + n then (s, .badValue, [])
  else if s.sequencer.state ≠ .idle ∧ start ≤ s.sequencer.current ∧ s.sequencer.current < start + n then
    (s, .listActive, [])
  else
    let new := (List.range n).map fun k => listEntryAt body (2 + 5 * k)
    ({ s with sequencer := { s.sequencer with entries := writeEntries start new s.sequencer.entries } }, .done, [])

def judgeListRead (_ : Ticket) (body : List Word) (s : State) : Judgement :=
  let start := (argWord body 1).toNat
  let n := (argWord body 2).toNat
  if 63 < start ∨ n = 0 ∨ 4 < n then (s, .badValue, [])
  else
    let shown := (s.sequencer.entries.drop start).take n
    (s, .done, (shown.mapIdx fun k e => listEntryWords (start + k) e).flatten)

/-! ### Setting bank requests (R174 to R176) -/

def judgeSetSetting (_ : Ticket) (body : List Word) (s : State) : Judgement :=
  let v := (argWord body 2).toNat
  match Setting.ofCode (argWord body 1).toNat with
  | none => (s, .badValue, [])
  | some name =>
    match s.banks.stagedBank.write name v with
    | none => (s, .badValue, [])
    | some bank =>
      let locked := (name = .rate ∨ name = .tapeWordLength) ∧ bank.value name ≠ s.activeBank.value name
      if locked ∧ s.banks.pendingSwitch.isSome = true ∧ s.takeInHand = true then (s, .locked, [])
      else ({ s with banks := s.banks.setStaged bank }, .done, [wordOf (bank.value name)])

def judgeReadSetting (_ : Ticket) (body : List Word) (s : State) : Judgement :=
  let w := argWord body 1
  let bank : Option BankName := match w.high with
    | 0 => some .a
    | 1 => some .b
    | 2 => some s.banks.active
    | 3 => some s.banks.active.other
    | _ => none
  let names : Option (List Setting) := if w.low = 11 then some Setting.inOrder else (Setting.ofCode w.low).map fun n => [n]
  match bank, names with
  | some name, some names => (s, .done, wordOf name.code :: names.map fun n => wordOf ((s.banks.bank name).value n))
  | _, _ => (s, .badValue, [])

def judgeSwitchBank (ticket : Ticket) (_ : List Word) (s : State) : Judgement :=
  if s.banks.pendingSwitch.isSome then (s, .pending, [])
  else if s.takeInHand = true ∧ s.switchChangesFormat = true then (s, .locked, [])
  else ({ s with banks := { s.banks with pendingSwitch := some ticket.port } }, .accepted, [])

def judgeCopyBank (_ : Ticket) (_ : List Word) (s : State) : Judgement :=
  ({ s with banks := s.banks.setStaged s.activeBank }, .done, [])

/-! ### Report Unit requests (R179, R181, R183, R184) -/

/-- The report record of a port, twelve words (R181, R196). -/
def State.reportWords (s : State) (port : Port) : List Word :=
  let r := s.reports.port port
  [wordOfBytes s.transport.state.code s.transport.control.code,
   wordOfBytes s.transport.locate.phase.code s.transport.locate.lastOutcome.code,
   wordOfBytes s.sequencer.state.code s.sequencer.current,
   wordOfBytes s.sequencer.lastEnd.code s.decoder.status.code] ++
  longWords s.decoder.time ++
  [wordOf (s.mixer.gateOpen.toNat + 2 * s.copy.latched.toNat + 4 * (decide (s.input.selected = .digital)).toNat +
     8 * s.banks.active.code + 16 * s.banks.pendingSwitch.isSome.toNat),
   wordOf r.flags.toNat] ++ counterWords r.counters

def judgeReadReport (ticket : Ticket) (_ : List Word) (s : State) : Judgement :=
  (clearReport ticket.port s, .done, s.reportWords ticket.port)

def judgeSetMask (ticket : Ticket) (body : List Word) (s : State) : Judgement :=
  let w := argWord body 1
  if 2048 ≤ w.toNat then (s, .badValue, [])
  else
    let r := s.reports.port ticket.port
    ({ s with reports := s.reports.setPort ticket.port { r with mask := w.setWidth 11 } }, .done, [])

/-- The log entries a LOG-READ returns, and its GAP mark (R183). -/
def Reports.readLog (r : Reports) (n : Nat) : List LogEntry × Bool :=
  match r.log.findIdx? fun e => e.sequence == n with
  | some i => ((r.log.drop i).take 8, false)
  | none => if n = r.nextSequence then ([], false) else (r.log.take 8, true)

def judgeLogRead (_ : Ticket) (body : List Word) (s : State) : Judgement :=
  let (shown, gap) := s.reports.readLog (argWord body 1).toNat
  (s, .done, [wordOf s.reports.nextSequence, wordOf gap.toNat, wordOf shown.length] ++ shown.flatMap logWords)

def judgeReadIdent (_ : Ticket) (_ : List Word) (s : State) : Judgement :=
  (s, .done, [wordOf Config.familyCode, wordOf Config.siliconRevision])

/-! ### RESET-PART and SET-POSITION (R184, R188, R191), and a request of any kind (R189) -/

/-- A RESET-PART is taken: BAD-VALUE, a soft reset, or for CHAIN with the downstream line UP the wait to send it on (R184,
R191). -/
def serveReset (port : Port) (s : State) : State :=
  match s.headRequest port with
  | some (ticket, body) =>
    if requestKind body = some .resetPart then
      let t := popRequest port s
      match (argWord body 1).toNat with
      | 0 => resetAndReply ticket 0 t
      | 1 =>
        if t.link.downstream.up then { t with link := { t.link with chainReset := some ticket } }
        else resetAndReply ticket 1 t
      | _ => placeReply ticket (replyBody resetPartCode .badValue []) t
    else s
  | none => s

/-- The kind code of SET-POSITION (R192). -/
abbrev setPositionCode : Word := 29#16

/-- The error flags of a line are cleared once reported (R188). -/
def LineStatus.reported (l : LineStatus) : LineStatus := { l with hard := false, soft := false, framing := false }

/-- A SET-POSITION that reaches a configured deck on the Studio Link (R188). -/
def setConfigured (ticket : Ticket) (value : Nat) (s : State) : State :=
  if 1 ≤ value ∧ value ≤ 8 then
    let t := { s with link := { s.link with position := some value } }
    let status := wordOfBytes t.link.upstream.byte t.link.downstream.byte
    let u := placeReply ticket (replyBody setPositionCode .done [status]) t
    if u.link.upstream.up then
      { u with link := { u.link with upstream := u.link.upstream.reported, downstream := u.link.downstream.reported } }
    else u
  else placeReply ticket (replyBody setPositionCode .badValue []) s

/-- A SET-POSITION is taken (R172, R188): from the System Port it is BAD-REQUEST; an unconfigured deck takes the position or
discards the request, without a reply, and so without waiting for room in the upstream transmit queue (DESIGN CHOICE between
R171 and R189, log entry 40). -/
def servePosition (port : Port) (s : State) : State :=
  match port, s.link.position, s.link.requests with
  | .link, none, r :: _ =>
    if s.link.chainReset.isNone = true ∧ r.hop = 0 ∧ requestKind r.body = some .setPosition then
      let value := (argWord r.body 1).toNat
      let t := popRequest .link s
      if 1 ≤ value ∧ value ≤ 8 then { t with link := { t.link with position := some value } } else t
    else s
  | port, _, _ =>
    match s.headRequest port with
    | some (ticket, body) =>
      if requestKind body = some .setPosition then
        let t := popRequest port s
        match port with
        | .system => placeReply ticket (replyBody setPositionCode .badRequest []) t
        | .link => setConfigured ticket (argWord body 1).toNat t
      else s
    | none => s

/-- The head request of a port is taken, whatever its kind (R172). -/
def serveAny (port : Port) (kind : RequestKind) (s : State) : State :=
  match kind with
  | .play => serve port .play judgePlay s
  | .wind => serve port .wind judgeWind s
  | .cueHold => serve port .cueHold judgeCueHold s
  | .locate => serve port .locate judgeLocate s
  | .record => serve port .record judgeRecord s
  | .schedulePunch => serve port .schedulePunch judgeSchedulePunch s
  | .punchOut => serve port .punchOut judgePunchOut s
  | .stop => serve port .stop judgeStop s
  | .setControl => serve port .setControl judgeSetControl s
  | .selectSource => serve port .selectSource judgeSelectSource s
  | .cueAdd => serve port .cueAdd judgeCueAdd s
  | .cueRemove => serve port .cueRemove judgeCueRemove s
  | .cueClear => serve port .cueClear judgeCueClear s
  | .cueRead => serve port .cueRead judgeCueRead s
  | .mark => serve port .mark judgeMark s
  | .listRun => serve port .listRun judgeListRun s
  | .listHalt => serve port .listHalt judgeListHalt s
  | .listWrite => serve port .listWrite judgeListWrite s
  | .listRead => serve port .listRead judgeListRead s
  | .setSetting => serve port .setSetting judgeSetSetting s
  | .readSetting => serve port .readSetting judgeReadSetting s
  | .switchBank => serve port .switchBank judgeSwitchBank s
  | .copyBank => serve port .copyBank judgeCopyBank s
  | .readReport => serve port .readReport judgeReadReport s
  | .setMask => serve port .setMask judgeSetMask s
  | .logRead => serve port .logRead judgeLogRead s
  | .readIdent => serve port .readIdent judgeReadIdent s
  | .resetPart => serveReset port s
  | .setPosition => servePosition port s

end Sys2Proof.Machine
end

