-- ==== Sys2Proof/Machine/Cues.lean ====
section
/-! DEFINITION. The meanings of the Cue Table's requests (R128 to R133): each is taken from the head of a port's
request queue and answered by one reply (R171). -/

namespace Sys2Proof.Machine

/-- CUE-ADD adds an entry in time order (R128). -/
def execCueAdd (port : Port) (s : State) : Host.Outcome State Fault Refusal :=
  .next (serve port .cueAdd judgeCueAdd s)

/-- CUE-REMOVE removes the entry named (R129). -/
def execCueRemove (port : Port) (s : State) : Host.Outcome State Fault Refusal :=
  .next (serve port .cueRemove judgeCueRemove s)

/-- CUE-CLEAR removes every entry (R130). -/
def execCueClear (port : Port) (s : State) : Host.Outcome State Fault Refusal :=
  .next (serve port .cueClear judgeCueClear s)

/-- CUE-READ returns up to four entries (R131). -/
def execCueRead (port : Port) (s : State) : Host.Outcome State Fault Refusal :=
  .next (serve port .cueRead judgeCueRead s)

/-- MARK numbers a program start and may set the mark record (R133, R134). -/
def execMark (port : Port) (s : State) : Host.Outcome State Fault Refusal :=
  .next (serve port .mark judgeMark s)

end Sys2Proof.Machine
end

