-- ==== Sys2Proof/Machine/EditList.lean ====
section
/-! DEFINITION. The meanings of the Edit Sequencer's requests (R155, R157, R169, R170): each is taken from the head of a port's
request queue and answered by one reply (R171). -/

namespace Sys2Proof.Machine

/-- LIST-RUN starts the list and executes a chain (R155, R156). -/
def execListRun (port : Port) (s : State) : Host.Outcome State Fault Refusal :=
  .next (serve port .listRun judgeListRun s)

/-- LIST-HALT moves a running list to HALTING, or ends a HALTING one (R157). -/
def execListHalt (port : Port) (s : State) : Host.Outcome State Fault Refusal :=
  .next (serve port .listHalt judgeListHalt s)

/-- LIST-WRITE writes one to four entries (R169). -/
def execListWrite (port : Port) (s : State) : Host.Outcome State Fault Refusal :=
  .next (serve port .listWrite judgeListWrite s)

/-- LIST-READ returns up to four entries (R170). -/
def execListRead (port : Port) (s : State) : Host.Outcome State Fault Refusal :=
  .next (serve port .listRead judgeListRead s)

end Sys2Proof.Machine
end

