-- ==== Sys2Proof/Machine/Coding.lean ====
section
/-! DEFINITION. The tape format and its arithmetic (R1 to R20): placement of pairs, packing, parity, check words, subcode records,
word length reduction, and the correction of a gathered frame (R68 to R70). -/

namespace Sys2Proof.Machine

/-! ### Samples and word length reduction (R11, R12, R19, R20) -/

/-- The least and greatest internal samples (00_scope section 5). -/
abbrev sampleMin : Int := -8388608
abbrev sampleMax : Int := 8388607

/-- Word length reduction of an internal sample to 16 bits (R19). -/
def reduce16 (v : Sample) : Int := min 32767 ((v + 128) / 256)

/-- A 16-bit sample read from tape as an internal sample (R20). -/
def expand16 (w : Int) : Sample := w * 256

/-- The bytes of a sample in two's complement, most significant byte first (R11). -/
def sampleBytes (w : WordLength) (v : Sample) : List Byte :=
  match w with
  | .w24 =>
    let n := (BitVec.ofInt 24 v).toNat
    [byteOf (n / 65536), byteOf (n / 256), byteOf n]
  | .w16 =>
    let n := (BitVec.ofInt 16 (reduce16 v)).toNat
    [byteOf (n / 256), byteOf n]

/-- The left sample, then the right (R11). -/
def pairBytes (w : WordLength) (p : Pair) : List Byte := sampleBytes w p.left ++ sampleBytes w p.right

/-- A sample read from its bytes (R12). -/
def sampleOfBytes (w : WordLength) (bytes : List Byte) : Sample :=
  let n (i : Nat) : Nat := (bytes.getD i 0#8).toNat
  match w with
  | .w24 => (BitVec.ofNat 24 (n 0 * 65536 + n 1 * 256 + n 2)).toInt
  | .w16 => expand16 (BitVec.ofNat 16 (n 0 * 256 + n 1)).toInt

/-- Bytes per pair B and pairs per block P (R10). -/
def WordLength.pairBytes : WordLength → Nat
  | .w16 => 4
  | .w24 => 6

def WordLength.pairsPerBlock : WordLength → Nat
  | .w16 => 24
  | .w24 => 16

/-- A pair read from a payload at a byte offset (R12). -/
def pairOfPayload (w : WordLength) (payload : List Byte) (offset : Nat) : Pair :=
  let bytes := payload.drop offset
  ⟨sampleOfBytes w bytes, sampleOfBytes w (bytes.drop (w.pairBytes / 2))⟩

/-! ### Blocks (R3 to R7) -/

def Track.code : Track → Nat
  | .a => 0
  | .b => 1

def Track.ofCode : Nat → Option Track
  | 0 => some .a
  | 1 => some .b
  | _ => none

/-- Position of block `j` of group `g` in the frame of time or tag `f` (R3). -/
def blockPosition (j g f : Nat) : Nat := 8 * j + (g + f) % 8

/-- Group of the main block at position `p` under time tag `t` (R4). -/
def groupOfPosition (p t : Nat) : Nat := (p % 8 + 8 - t % 8) % 8

end Sys2Proof.Machine

namespace Sys2Proof

open Machine

/-- A tape block with its five fields (R5). -/
structure TapeBlock where
  position : Byte
  track : Byte
  tag : Byte
  payload : List Byte
  check : Word
  deriving DecidableEq, Repr

/-- The bytes the check word covers (R6). -/
def TapeBlock.covered (b : TapeBlock) : List Byte := b.position :: b.track :: b.tag :: b.payload

/-- A block as it is exchanged with the Head Channel: header, payload, check word, more significant byte first (R5, R192,
R193). -/
def TapeBlock.bytes (b : TapeBlock) : List Byte := b.covered ++ bytesOfWords [b.check]

/-- The block that 101 bytes spell; any other number of bytes is no block (R5, R193). -/
def blockOfBytes (bytes : List Byte) : Option TapeBlock :=
  match bytes with
  | position :: track :: tag :: rest =>
    if rest.length = Config.payloadBytes + 2 then
      some ⟨position, track, tag, rest.take Config.payloadBytes, argWord (wordsOfBytes (rest.drop Config.payloadBytes)) 0⟩
    else none
  | _ => none

/-- A block is good when its check word agrees, its position is 0..75 and its track byte 0 or 1 (R7). -/
def TapeBlock.good (b : TapeBlock) : Bool :=
  checkWord b.covered == b.check && decide (b.position.toNat ≤ 75) && decide (b.track.toNat ≤ 1)

/-- The track of a good block. -/
def TapeBlock.trackOf (b : TapeBlock) : Track := if b.track = 0#8 then .a else .b

end Sys2Proof

namespace Sys2Proof.Machine

/-- A block with its header and its own check word (R5, R6). -/
def makeBlock (track : Track) (position tag : Nat) (payload : List Byte) : TapeBlock :=
  let b : TapeBlock := ⟨byteOf position, byteOf track.code, byteOf tag, payload, 0#16⟩
  { b with check := checkWord b.covered }

/-! ### Packing a frame (R8 to R11, R13) -/

/-- Pairs in group `g` of a track of a frame of N pairs (R9). -/
def groupPairs (n g : Nat) : Nat := (n / 2 - g + 7) / 8

/-- Payload filled with zeros up to 96 bytes (R10). -/
def padPayload (bytes : List Byte) : List Byte :=
  bytes ++ List.replicate (Config.payloadBytes - bytes.length) 0#8

/-- Payload of data block `j` of group `g` of a track (R8 to R11): slot s of the group is pair 8s + g of the track. -/
def dataPayload (fmt : Format) (pairs : List Pair) (track : Track) (g j : Nat) : List Byte :=
  let p := fmt.wordLength.pairsPerBlock
  let slots := (List.range p).map fun i => j * p + i
  padPayload ((slots.filter (· < groupPairs fmt.rate.pairs g)).flatMap fun s =>
    pairBytes fmt.wordLength (pairs.getD (2 * (8 * s + g) + track.code) Pair.zero))

/-- Byte-by-byte exclusive-or of two payloads (R13). -/
def xorPayload (x y : List Byte) : List Byte := List.zipWith (· ^^^ ·) x y

/-- The all-zero payload. -/
def zeroPayload : List Byte := List.replicate Config.payloadBytes 0#8

/-- Exclusive-or of payloads (R13). -/
def xorPayloads (ps : List (List Byte)) : List Byte := ps.foldl xorPayload zeroPayload

/-- Payload of the parity block of group `g` (R13). -/
def parityPayload (fmt : Format) (pairs : List Pair) (track : Track) (g : Nat) : List Byte :=
  xorPayloads ((List.range 8).map fun j => dataPayload fmt pairs track g j)

/-! ### Subcode records (R14 to R16, R193) -/

/-- The eight leading payload bytes of a subcode block (R193). -/
def subcodeBytes (r : Subcode) : List Byte :=
  [byteOf (r.time / 65536), byteOf (r.time / 256), byteOf r.time, byteOf r.rate.code, byteOf r.wordLength.bits,
   byteOf r.program, byteOf r.start.toNat, byteOf r.copyField.code]

/-- Payload of a subcode block: the record, then zeros (R14). -/
def subcodePayload (r : Subcode) : List Byte := padPayload (subcodeBytes r)

/-- The valid subcode record of a good subcode block's payload under its tag, if it is one (R16). -/
def subcodeOf (tag : Nat) (payload : List Byte) : Option Subcode :=
  let n (i : Nat) : Nat := (payload.getD i 0#8).toNat
  let time := n 0 * 65536 + n 1 * 256 + n 2
  let start := (payload.getD 6 0#8).getLsbD 0
  match Rate.ofCode (n 3), WordLength.ofBits (n 4), CopyField.ofCode (n 7) with
  | some rate, some wordLength, some copyField =>
    if time ≤ Config.lastTime ∧ n 5 ≤ 99 ∧ (start = true → 1 ≤ n 5) ∧ tag = time % 256 then
      some ⟨time, rate, wordLength, n 5, start, copyField⟩
    else none
  | _, _, _ => none

end Sys2Proof.Machine

namespace Sys2Proof

open Machine

/-- The valid record of a subcode block as it arrives: good, at a subcode position, and valid (R7, R16). -/
def TapeBlock.subcode (b : TapeBlock) : Option Subcode :=
  if b.good = true ∧ 72 ≤ b.position.toNat then subcodeOf b.tag.toNat b.payload else none

end Sys2Proof

namespace Sys2Proof.Machine

/-- The block at place `k` of the supply order of a written frame: track A positions 0 to 75, then track B (R54). -/
def frameBlock (fmt : Format) (pairs : List Pair) (r : Subcode) (k : Nat) : TapeBlock :=
  let track : Track := if k < Config.trackBlocks then .a else .b
  let p := k % Config.trackBlocks
  let j := p / 8
  let g := groupOfPosition p r.time
  let payload := if 72 ≤ p then subcodePayload r else if j = 8 then parityPayload fmt pairs track g
    else dataPayload fmt pairs track g j
  makeBlock track p (r.time % 256) payload

/-! ### Reading a frame back (R68 to R70) -/

/-- The payload held at a place, if its block was kept (R66). -/
def heldPayload (held : List HeldBlock) (track : Track) (position : Nat) : Option (List Byte) :=
  (held.find? fun h => h.track = track ∧ h.position = position).map (·.payload)

/-- The order in which subcode copies are tried (R14, R68). -/
def subcodePlaces : List (Track × Nat) :=
  [(.a, 72), (.a, 73), (.a, 74), (.a, 75), (.b, 72), (.b, 73), (.b, 74), (.b, 75)]

/-- The frame's subcode: the first valid record among the copies held (R68). -/
def selectSubcode (tag : Nat) (held : List HeldBlock) : Option Subcode :=
  subcodePlaces.findSome? fun (track, p) => (heldPayload held track p).bind (subcodeOf tag)

/-- The payloads of the nine blocks of a group, an unheld block absent (R69). -/
def groupPayloads (tag : Nat) (held : List HeldBlock) (track : Track) (g : Nat) : List (Option (List Byte)) :=
  (List.range 9).map fun j => heldPayload held track (blockPosition j g tag)

/-- A group corrected by its count of bad blocks: the payloads of its data blocks, and its share of the tally (R69). -/
def correctGroup (blocks : List (Option (List Byte))) : List (Option (List Byte)) × Tally :=
  let present := blocks.filterMap id
  let bad := blocks.length - present.length
  let parityBad := (blocks.getD 8 none).isNone
  if bad = 1 ∧ parityBad = false then
    ((blocks.take 8).map fun b => some (b.getD (xorPayloads present)), ⟨8, 1, 0⟩)
  else (blocks.take 8, ⟨present.length, 0, bad⟩)

def Tally.add (x y : Tally) : Tally := ⟨x.good + y.good, x.rebuilt + y.rebuilt, x.lost + y.lost⟩

/-- The sixteen corrected groups: track A's eight, then track B's (R69). -/
def correctedGroups (tag : Nat) (held : List HeldBlock) : List (List (Option (List Byte)) × Tally) :=
  [Track.a, Track.b].flatMap fun track => (List.range 8).map fun g => correctGroup (groupPayloads tag held track g)

/-- The tally of an unpacked frame: its groups and its eight subcode blocks (R69). -/
def frameTally (tag : Nat) (held : List HeldBlock) : Tally :=
  let main : Tally := (correctedGroups tag held).foldl (fun (acc : Tally) g => acc.add g.2) ⟨0, 0, 0⟩
  let copies := (subcodePlaces.filter fun (track, p) => (heldPayload held track p).isSome).length
  main.add ⟨copies, 0, 8 - copies⟩

/-- Pair `n` of a frame from its corrected groups: the pair of its data block, or a flagged zero pair (R12, R70). -/
def framePair (w : WordLength) (groups : List (List (Option (List Byte)) × Tally)) (n : Nat) : Pair × Bool :=
  let k := n / 2
  let g := k % 8
  let s := k / 8
  match ((groups.getD (n % 2 * 8 + g) ([], ⟨0, 0, 0⟩)).1.getD (s / w.pairsPerBlock) none) with
  | some payload => (pairOfPayload w payload (s % w.pairsPerBlock * w.pairBytes), true)
  | none => (Pair.zero, false)

/-- All pairs of an unpacked frame with their good flags (R70). -/
def framePairs (fmt : Format) (tag : Nat) (held : List HeldBlock) : List (Pair × Bool) :=
  let groups := correctedGroups tag held
  (List.range fmt.rate.pairs).map (framePair fmt.wordLength groups)

end Sys2Proof.Machine
end

