-- ==== Sys2Proof/Machine/Concealment.lean ====
section
/-! DEFINITION. The Concealment Unit's arithmetic (R82 to R89) and the move of a concealed slot to the output queue (R25, R32). -/

namespace Sys2Proof.Machine

/-! ### Interpolation and gain (R85, R86) -/

/-- Value of pair `i` of a short run of L pairs from a to b (R85). -/
def interpolate (a b : Sample) (length i : Nat) : Sample :=
  a + ((b - a) * i + (((length + 1) / 2 : Nat) : Int)) / ((length : Int) + 1)

def interpolatePair (a b : Pair) (length i : Nat) : Pair :=
  ⟨interpolate a.left b.left length i, interpolate a.right b.right length i⟩

/-- A sample scaled by a gain, rounded half up (R86). -/
def scaleSample (v : Sample) (g : Int) : Sample := (v * g + 512) / 1024

def scalePair (p : Pair) (g : Int) : Pair := ⟨scaleSample p.left g, scaleSample p.right g⟩

def gainUp (g step : Int) : Int := min Config.unity (g + step)

def gainDown (g step : Int) : Int := max 0 (g - step)

/-! ### Runs (R83, R84) -/

/-- Bad pairs at the head of a stream of pairs with their flags. -/
def badLead : List (Pair × Bool) → Nat
  | (_, false) :: rest => badLead rest + 1
  | _ => 0

/-- What the Concealment Unit can see past the frame it takes: nothing under pressure, else its successor (R84). -/
inductive LookAhead where
  | nothing
  | successor (pairs : List (Pair × Bool))
  deriving DecidableEq, Repr

/-- A run that begins at the head of `stream`, the rest of the frame, is classified once (R83, R84). `a` is the held value. -/
def classifyRun (lmax : Nat) (heldValid : Bool) (a : Pair) (ahead : LookAhead) (stream : List (Pair × Bool)) : Run :=
  let r := badLead stream
  if heldValid = false ∨ lmax < r then .long
  else match stream.drop r, ahead with
    | (b, _) :: _, _ => .short a b r 1
    | [], .nothing => .long
    | [], .successor next =>
      let q := badLead next
      match next.drop q with
      | (b, _) :: _ => if r + q ≤ lmax then .short a b (r + q) 1 else .long
      | [] => .long

/-- Work through a frame: the Concealment Unit's state, and the pairs output so far with their counts. -/
structure TakeResult where
  unit : Conceal
  pairs : List Pair
  interpolated : Nat
  gaps : Nat
  deriving DecidableEq, Repr

/-- A MUTED pair: the gain falls, and a gain of 0 is a mute (R86). -/
def mutedPair (step : Int) (u : Conceal) : Conceal × Pair :=
  let g := gainDown u.gain step
  ({ u with gain := g, heldValid := u.heldValid && g != 0 }, scalePair u.held g)

/-- A GOOD or INTERPOLATED pair of value `v`: the gain rises and `v` becomes the held value (R86). -/
def soundPair (step : Int) (v : Pair) (u : Conceal) : Conceal × Pair :=
  let g := gainUp u.gain step
  ({ u with gain := g, held := v, heldValid := true }, scalePair v g)

/-- The pairs of a frame, one after another (R82 to R86). The unit's carried run is the run in hand. -/
def concealPairs (lmax : Nat) (step : Int) (ahead : LookAhead) : List (Pair × Bool) → Conceal → TakeResult
  | [], u => ⟨u, [], 0, 0⟩
  | (p, true) :: rest, u =>
    let (u', out) := soundPair step p { u with carried := none }
    let t := concealPairs lmax step ahead rest u'
    { t with pairs := out :: t.pairs }
  | (p, false) :: rest, u =>
    let run := u.carried.getD (classifyRun lmax u.heldValid u.held ahead ((p, false) :: rest))
    match run with
    | .short a b length i =>
      let (u', out) := soundPair step (interpolatePair a b length i) u
      let t := concealPairs lmax step ahead rest
        { u' with carried := if i < length then some (.short a b length (i + 1)) else none }
      { t with pairs := out :: t.pairs, interpolated := t.interpolated + 1 }
    | .long =>
      let (u', out) := mutedPair step u
      let t := concealPairs lmax step ahead rest { u' with carried := some .long }
      { t with pairs := out :: t.pairs, gaps := t.gaps + 1 }

/-- The pairs of a slot with their good flags. -/
def Slot.stream (v : Slot) : List (Pair × Bool) := v.pairs.mapIdx fun n p => (p, v.good.getD n false)

/-! ### Joining the output queue (R25, R34) -/

/-- The slots on the output queue at or after a frame time (R25). -/
def State.outOfOrder (s : State) (f : Nat) : List Nat :=
  s.store.outputQueue.filter fun i => f ≤ (s.slot i).frameTime.getD 0

/-- The mix or the write window of frame `f` has already passed, `last` being the frame of the last window opened (R34). -/
def State.framePassed (s : State) (last f : Nat) : Bool :=
  (s.mixer.gateOpen && f ≤ last) ||
  s.store.slots.any fun v => (v.state == .mixed || v.state == .writing) && v.frameTime == some f

/-- A CONCEALED slot joins the tail of the output queue after the slots at or after its frame time are freed and counted; an
OLD slot whose frame has passed is freed as it joins (R25, R32, R34). The Edit Mixer then judges (R146). -/
def joinOutput (last i : Nat) (s : State) : State :=
  let f := (s.slot i).frameTime.getD 0
  let late := s.outOfOrder f
  let s := count .framesDropped late.length (freeSlots late s)
  let s := withDepths (fun t =>
    { t with store := { t.store with
        gatherList := t.store.gatherList.filter (· != i)
        outputQueue := t.store.outputQueue ++ [i] } }) s
  let s := if (s.slot i).role = some .old ∧ s.framePassed last f then freeSlots [i] s else s
  mixerJudge s

/-! ### Taking a frame (R32, R82, R87) -/

/-- The Concealment Unit takes CORRECTED slot `i`: it conceals the pairs, writes the summary, makes its counts and moves the
slot to CONCEALED (R82, R87). -/
def takeFrame (last i : Nat) (ahead : LookAhead) (s : State) : State :=
  let v := s.slot i
  let t := concealPairs v.closeLmax (rampStep v.closeRamp) ahead v.stream s.conceal
  let s := { s with conceal := t.unit }
  let s := setSlot i { v with
    state := .concealed, pairs := t.pairs, interpolated := t.interpolated, gaps := t.gaps } s
  let s := if t.gaps = 0 then s else setCondition .conceal (count .framesMuted 1 s)
  joinOutput last i s

/-- The CORRECTED slots of the gather list, oldest first. -/
def State.correctedSlots (s : State) : List Nat := s.store.gatherList.filter fun i => (s.slot i).state == .corrected

/-- The oldest CORRECTED slot is taken for as long as its successor is CORRECTED as well (R32). -/
def takeReady (last : Nat) : Nat → State → State
  | 0, s => s
  | fuel + 1, s =>
    match s.correctedSlots with
    | i :: k :: _ =>
      if (s.slot i).hasSuccessor then takeReady last fuel (takeFrame last i (.successor (s.slot k).stream) s) else s
    | _ => s

/-- The takes of one event; inside a pulse they come before the pulse's own write window, so that an OLD slot is taken for that
window still (R34; DESIGN CHOICE, log entry 4). -/
def takeFrames (last : Nat) (s : State) : State := takeReady last Config.slotCount s

/-- Under underrun pressure the oldest CORRECTED slot is taken without waiting for its successor; the slots behind it may then
be ready (R32, R36, R84). The last window opened is that of frame T. -/
def takePressured (s : State) : State :=
  match s.correctedSlots with
  | i :: _ => takeFrames s.decoder.time (takeFrame s.decoder.time i .nothing s)
  | [] => s

/-! ### The underrun frame (R89) -/

/-- `n` MUTED pairs (R89). -/
def underrunPairs (step : Int) : Nat → Conceal → Conceal × List Pair
  | 0, u => (u, [])
  | n + 1, u =>
    let (u', out) := mutedPair step u
    let (u'', rest) := underrunPairs step n u'
    (u'', out :: rest)

end Sys2Proof.Machine
end

