-- ==== Sys2Proof/Machine/Gather.lean ====
section
/-! DEFINITION. Shared operations of the Playback Decoder: the close of a frame, its judgement, the aim of gathering, the
placing of blocks, and subcode reads (R64 to R78). -/

namespace Sys2Proof.Machine

/-! ### The tape time step (R64 step 1, R72) -/

/-- The tracker steps the tape time (R72). -/
def Decoder.stepTime (d : Decoder) : Decoder :=
  if 0 < d.leadIn then { d with leadIn := d.leadIn - 1, time := 0 }
  else { d with time := min Config.lastTime (d.time + 1) }

/-- The predicted time of the frame closed at a pulse (R72). -/
def Decoder.predicted (d : Decoder) : Nat := min Config.lastTime (d.time + 2 - d.leadIn)

/-! ### The close of a frame (R31, R67 to R71, R100) -/

/-- A slot as its close writes it (R31, R68 to R70). A changed frame time sets the role again. -/
def State.closedSlot (s : State) (g : GatherFrame) (v : Slot) : Slot :=
  let bank := s.activeBank
  let v := { v with state := .corrected, closeLmax := bank.lmax, closeRamp := bank.ramp }
  let timed (time : Nat) (v : Slot) : Slot :=
    if v.frameTime = some time then v else { v with frameTime := some time, role := some (s.roleFor time) }
  let unpacked (fmt : Format) (v : Slot) : Slot :=
    let stream := Machine.framePairs fmt g.tag g.held
    { v with format := some fmt, pairCount := fmt.rate.pairs, pairs := stream.map (·.1), good := stream.map (·.2)
             tally := frameTally g.tag g.held }
  match selectSubcode g.tag g.held with
  | none => unpacked s.activeFormat (timed g.time { v with copyField := none, subcodeValid := false, start := false })
  | some r =>
    let v := timed r.time { v with copyField := some r.copyField, subcodeValid := true, start := r.start }
    let fmt : Format := ⟨r.rate, r.wordLength⟩
    if r.rate = bank.rate then unpacked fmt v
    else { v with format := some fmt, pairCount := fmt.rate.pairs, pairs := List.replicate fmt.rate.pairs Pair.zero
                  good := [], tally := ⟨g.held.length, 0, Config.frameBlocks - g.held.length⟩ }

/-- The mismatch rate at a close with a valid subcode, and its log entry (R68). -/
def judgeMismatch (r : Subcode) (s : State) : State :=
  if r.rate = s.activeBank.rate then { s with decoder := { s.decoder with mismatch := none } }
  else if s.decoder.mismatch = some r.rate then s
  else logEntry .formatMismatch (some r.time) .internal r.rate.code
    { s with decoder := { s.decoder with mismatch := some r.rate } }

/-- The start run test, and the start run after it (R71, R78). -/
def offerMarker (allowed : Bool) (r : Subcode) (s : State) : State :=
  let t := if r.start = true ∧ s.decoder.startRun ≠ some r.program ∧ allowed = true then takeMarker r.time r.program s else s
  { t with decoder := { t.decoder with startRun := if r.start then some r.program else none } }

/-- The hand-offs of a close with a valid subcode to Copy Control and the Cue Table (R71, R100). -/
def handOnSubcode (r : Subcode) (s : State) : State :=
  let t := { s with copy := { s.copy with heldTape := some r.copyField } }
  offerMarker (t.transport.state == .play || (t.transport.state == .record && !t.inSpan r.time)) r t

/-- The frame closed at the previous pulse has its successor now (R32). -/
def markSuccessor (s : State) : State :=
  if s.decoder.closedLast then
    match s.correctedSlots.getLast? with
    | some k => updateSlot k (fun v => { v with hasSuccessor := true }) s
    | none => s
  else s

/-- The slot of the current frame is closed (R31, R68 to R71). -/
def closeSlot (g : GatherFrame) (i : Nat) (s : State) : State :=
  let s := markSuccessor s
  let v := s.closedSlot g (s.slot i)
  let s := setSlot i v s
  let s := { s with decoder := { s.decoder with closedLast := true } }
  let s := if v.tally.rebuilt = 0 then s else count .blocksRebuilt v.tally.rebuilt s
  match selectSubcode g.tag g.held with
  | none => s
  | some r => handOnSubcode r (judgeMismatch r s)

/-- The current frame is closed, or is a missing frame (R64 step 2, R67). -/
def closeFrame (g : GatherFrame) (s : State) : State :=
  match g.slot with
  | some i => closeSlot g i s
  | none => { s with decoder := { s.decoder with closedLast := false } }

/-! ### The judgement of the closed frame (R73 to R75) -/

def setStatus (status : TimeStatus) (holdover : Nat) (s : State) : State :=
  { s with decoder := { s.decoder with status := status, holdover := holdover } }

/-- An invalid or missing frame (R73, R75). -/
def judgeInvalid (s : State) : State :=
  match s.decoder.status with
  | .locked | .holdover =>
    if s.decoder.holdover < s.activeBank.holdover then setStatus .holdover (s.decoder.holdover + 1) s else enterLost s
  | .unknown | .lost => s

/-- T is set anew by a time jump in PLAY, which cancels a scheduled punch-in (R73, R144). The TIME-JUMP entry is made before the
PUNCH-CANCELLED entry (DESIGN CHOICE, R182 leaves the order open: log entry 4). -/
def jumpTo (v c : Nat) (s : State) : State :=
  let s := setStatus .locked 0 { s with decoder := s.decoder.setFrom v }
  let s := logEntry .timeJump (some v) .internal c (count .timeJumps 1 s)
  cancelPunch .time s

/-- The closed frame is judged against its predicted time (R64 step 3, R73, R75). `v` is the time of a valid subcode. -/
def judgeFrame (v : Option Nat) (s : State) : State :=
  let c := s.decoder.predicted
  match v with
  | none => judgeInvalid s
  | some v =>
    if v = c then setStatus .locked 0 s
    else if s.transport.state = .record then judgeInvalid s
    else jumpTo v c s

/-- The subcode time of a frame at its close; none for a missing frame (R67, R68). -/
def GatherFrame.subcodeTime (g : GatherFrame) : Option Nat :=
  match g.slot with
  | some _ => (selectSubcode g.tag g.held).map (·.time)
  | none => none

/-- A holdover limit below the count held makes the status LOST; a status that is LOST already keeps no count above the limit
(R74). -/
def judgeHoldover (s : State) : State :=
  if s.activeBank.holdover < s.decoder.holdover then
    match s.decoder.status with
    | .locked | .holdover => enterLost s
    | .unknown | .lost => { s with decoder := { s.decoder with holdover := s.activeBank.holdover } }
  else s

/-! ### The aim of gathering (R64 step 4, R65) -/

/-- A frame without slot or blocks. -/
def GatherFrame.fresh (tag time : Nat) : GatherFrame := ⟨tag % 256, time, none, false, []⟩

/-- The expected time E (R65). -/
def Decoder.expected (d : Decoder) : Nat := min Config.lastTime (d.time + 3 - d.leadIn)

/-- The frame that was next becomes the current frame and is aimed (R65). -/
def aim (s : State) : State :=
  let e := s.decoder.expected
  let fresh := GatherFrame.fresh e e
  let stale : Option Nat := match s.decoder.next with
    | some g => if g.tag ≠ e % 256 ∧ s.decoder.status = .locked then g.slot else none
    | none => none
  let current : GatherFrame := match s.decoder.next with
    | none => fresh
    | some g =>
      if g.tag = e % 256 then { g with time := e }
      else if g.slot.isSome = true ∧ s.decoder.status ≠ .locked then { g with time := e }
      else fresh
  let next : Option GatherFrame := if e = Config.lastTime then none else some (GatherFrame.fresh (current.tag + 1) (e + 1))
  let t := match stale with
    | some i => freeSlots [i] s
    | none => s
  let t := match current.slot with
    | some i => updateSlot i (fun v => { v with frameTime := some e }) t
    | none => t
  { t with decoder := { t.decoder with current := some current, next := next } }

/-- The decoder's work at a pulse while gathering is on (R64). -/
def gatherPulse (s : State) : State :=
  let s := { s with decoder := s.decoder.stepTime }
  let s := match s.decoder.current with
    | none => s
    | some g => judgeFrame g.subcodeTime (closeFrame g s)
  let s := judgeHoldover s
  let s := if s.decoder.status = .lost then setCondition .timeLost s else s
  aim s

/-! ### Placing blocks (R30, R35, R66) -/

/-- A slot is FREE for gathering, after an overrun if it must (R35). -/
def findGatherSlot (s : State) : State × Option Nat :=
  match s.lowestFree with
  | some i => (s, some i)
  | none =>
    match s.store.outputQueue with
    | [] => (s, none)
    | i :: _ =>
      let t := count .framesDropped 1 (freeSlots [i] s)
      (t, t.lowestFree)

/-- The slot of the next frame, if it has one. -/
def Decoder.nextSlot (d : Decoder) : Option Nat := d.next.bind (·.slot)

/-- Slot `i` joins the gather list: at its tail, or before the slot of the next frame when that one was opened first, so that
the list stays in the order of the frames (R25, R30; DESIGN CHOICE, log entry 32). -/
def joinGather (i : Nat) (s : State) : List Nat :=
  let behind := s.decoder.nextSlot.toList
  s.store.gatherList.filter (· ∉ behind) ++ i :: behind

/-- A slot opens GATHERING for a frame, or the frame becomes refused (R30, R35). -/
def openGather (g : GatherFrame) (s : State) : State × GatherFrame :=
  match findGatherSlot s with
  | (t, some i) =>
    let t := setSlot i (Slot.opened .gathering (t.roleFor g.time) g.time t.activeFormat) t
    ({ t with store := { t.store with gatherList := joinGather i t } }, { g with slot := some i })
  | (t, none) => (t, { g with refused := true })

/-- A block is placed in a frame (R66). A next frame without a slot is opened by its first block although the current frame has
none: R66 places it without the condition that R30 names (DESIGN CHOICE, log entry 32). -/
def placeBlock (b : TapeBlock) (g : GatherFrame) (s : State) : State × GatherFrame :=
  if g.refused then (s, g)
  else
    let (t, g) := if g.slot.isSome then (s, g) else openGather g s
    if g.slot.isNone ∨ (heldPayload g.held b.trackOf b.position.toNat).isSome = true then (t, g)
    else (t, { g with held := g.held ++ [⟨b.trackOf, b.position.toNat, b.payload⟩] })

/-- A block is placed in the current frame. -/
def placeCurrent (b : TapeBlock) (g : GatherFrame) (s : State) : State :=
  let r := placeBlock b g s
  { r.1 with decoder := { r.1.decoder with current := some r.2 } }

/-- A block is placed in the next frame. -/
def placeNext (b : TapeBlock) (g : GatherFrame) (s : State) : State :=
  let r := placeBlock b g s
  { r.1 with decoder := { r.1.decoder with next := some r.2 } }

/-- A frame that no block has given a slot, and that is not refused. -/
def GatherFrame.untouched (g : GatherFrame) : Bool := g.slot.isNone && !g.refused

/-- A good block that arrives with gathering on and a current frame `g` (R66). Where there is no next frame, a block that would
match one is stale (R65). -/
def takeBlock (b : TapeBlock) (g : GatherFrame) (s : State) : State :=
  let tag := b.tag.toNat
  let acquire : Bool := s.decoder.status != .locked && g.untouched &&
    (match s.decoder.next with
      | some n => n.untouched
      | none => true)
  let acquired (s : State) : State :=
    if acquire then
      placeCurrent b { g with tag := tag }
        { s with decoder := { s.decoder with next := s.decoder.next.map fun n => { n with tag := (tag + 1) % 256 } } }
    else s
  if tag = g.tag then placeCurrent b g s
  else match s.decoder.next with
    | some n => if tag = n.tag then placeNext b n s else acquired s
    | none => if tag = (g.tag + 1) % 256 then s else acquired s

/-! ### Subcode reads (R77, R78) -/

/-- The demand that moves the tape: forward, or not (R78). -/
def Demand.forward : Demand → Bool
  | .playSpeed _ | .wind .forward _ => true
  | .stop | .hold | .wind .reverse _ => false

/-- A time read from the subcode sets T and makes the status LOCKED (R77). -/
def readTime (time : Nat) (s : State) : State :=
  setStatus .locked 0 { s with decoder := { s.decoder with time := time, leadIn := 0 } }

/-- A valid record read in SUBCODE read mode: T, status, START markers and the locate (R77, R78, R123). The START test is made
on the servo demand as it stood before the Transport Controller acts on the read (DESIGN CHOICE, log entry 33), and an entry
of the Cue Table is made before one of the Transport Controller (DESIGN CHOICE, log entry 4). -/
def readSubcode (r : Subcode) (s : State) : State :=
  let s := readTime r.time s
  let s := if s.transport.demand.forward then offerMarker true r s
    else { s with decoder := { s.decoder with startRun := none } }
  settle (judgeWaitTime (steer r.time s))

/-- A time read that arrives after the arrival or the failure of a locate sets T alone: the Transport Controller takes no note
of it, and no START marker is handed on (R77, R121, R124). -/
def readLate (time : Nat) (s : State) : State := settle (judgeWaitTime (readTime time s))

end Sys2Proof.Machine
end

