-- ==== Sys2Proof/Machine/InputFamily.lean ====
section
/-! DEFINITION. The meanings of the Input Port's commands: SELECT-SOURCE, the source status record and the input pair (R42 to R48,
R99). -/

namespace Sys2Proof.Machine

/-- SELECT-SOURCE changes the selected source at the next capture boundary (R42). -/
def execSelectSource (port : Port) (s : State) : Host.Outcome State Fault Refusal :=
  .next (serve port .selectSource judgeSelectSource s)

/-- An arriving record replaces the held record as a whole; the source-lost state is judged, and Copy Control derives the field
after that judgement (R43, R44, R98). -/
def execSourceStatusRecord (status : Byte) (s : State) : Host.Outcome State Fault Refusal :=
  .next (settle (judgeLost { s with input := { s.input with status := sourceStatusOf status } }))

/-! ### The input pair (R45, R47) -/

/-- The pair the Input Port delivers, with its good flag: a flagged zero pair while the source is lost (R45, R46). -/
def State.deliveredPair (s : State) (left right : BitVec 24) : Pair × Bool :=
  if s.input.lost.isSome then (Pair.zero, false) else (⟨left.toInt, right.toInt⟩, true)

/-- The oldest CAPTURING slot on the capture list (R47). -/
def State.capturingSlot (s : State) : Option Nat :=
  s.store.captureList.find? fun i => (s.slot i).state == .capturing

/-- The last pair of a capture slot has arrived: the slot is CAPTURED, joins the tail of the write queue, and the Edit Mixer
judges (R24, R27, R146). -/
def completeCapture (i : Nat) (s : State) : State :=
  mixerJudge (withDepths (fun t =>
    let t := updateSlot i (fun v => { v with state := .captured }) t
    { t with store := { t.store with writeQueue := t.store.writeQueue ++ [i] } }) s)

/-- A delivered pair goes to slot `i` as its next pair; with pair 0 Copy Control combines the source field into the slot's
entry (R47, R99). -/
def capturePair (i : Nat) (p : Pair × Bool) (s : State) : State :=
  let first := (s.slot i).pairs.isEmpty
  let s := updateSlot i (fun v => { v with pairs := v.pairs ++ [p.1], good := v.good ++ [p.2] }) s
  let s := if first then combineEntry i s else s
  if (s.slot i).pairCount ≤ (s.slot i).pairs.length then completeCapture i s else s

/-! ### Pairs that leave the output (R90, R92, R95) -/

/-- The delivered form of a pair under the output word length in force (R95). -/
def WordLength.deliver (w : WordLength) (p : Pair) : Pair :=
  match w with
  | .w24 => p
  | .w16 => ⟨reduce16 p.left, reduce16 p.right⟩

/-- A pair leaves the output: it becomes o, and is delivered after word length reduction (R90, R95). -/
def deliverPair (p : Pair) (s : State) : State :=
  { s with output := { s.output with heldPair := p, delivered := s.output.wordLength.deliver p } }

/-- An item of the output frame leaves, with the step of f that goes before it (R92). -/
def leave (item : OutputItem) (s : State) : State :=
  match item with
  | .down =>
    let f := gainDown s.output.fadeGain s.output.fadeStep
    deliverPair (scalePair s.output.fadePair f) { s with output := { s.output with fadeGain := f } }
  | .up p =>
    let f := gainUp s.output.fadeGain s.output.fadeStep
    deliverPair (scalePair p f) { s with output := { s.output with fadeGain := f } }
  | .plain p => deliverPair p s

/-- The input monitor: during the down fade of a change the fade pair leaves in place of the pair that arrives (R92, R93). -/
def monitorPair (p : Pair) (s : State) : State :=
  if s.output.source = .input then
    if s.output.fadesLeft = 0 then leave (.up p) s
    else leave .down { s with output := { s.output with fadesLeft := s.output.fadesLeft - 1 } }
  else s

/-- A pair from the selected source reaches the capture slot being filled and the input monitor (R45, R47, R93). -/
def execInputPair (left right : BitVec 24) (s : State) : Host.Outcome State Fault Refusal :=
  let s := takeSelection s
  let p := s.deliveredPair left right
  let t := match s.capturingSlot with
    | some i => capturePair i p s
    | none => s
  .next (settle (monitorPair p.1 t))

end Sys2Proof.Machine
end

