-- ==== Sys2Proof/Machine/OutputFamily.lean ====
section
/-! DEFINITION. The meaning of OUTPUT_FRAME_BOUNDARY, and the output clock's tick (R33, R36, R37, R89 to R96, R107, R108). -/

namespace Sys2Proof.Machine

/-! ### The output frame in progress (R29, R33, R93) -/

/-- The record monitor has finished with a WRITING slot: it becomes FREE once its supply is done too (R29, R94). -/
def monitorFinished (i : Nat) (s : State) : State :=
  let t := updateSlot i (fun v => { v with monitor := .finished }) s
  if (s.slot i).supplyDone then freeSlots [i] t else t

/-- The last pair of the slot being output has left: a PLAYING slot becomes FREE (R29, R33). -/
def endOutputSlot (s : State) : State :=
  match s.output.playing with
  | none => s
  | some i =>
    let t := { s with output := { s.output with playing := none } }
    if (s.slot i).state = .playing then freeSlots [i] t
    else if (s.slot i).state = .writing then monitorFinished i t
    else t

/-- A tick of the output clock: the next pair of the output frame leaves (R93; log entry 3). -/
def outputTick (s : State) : State :=
  match s.output.frame with
  | [] => s
  | item :: rest =>
    let t := leave item { s with output := { s.output with frame := rest } }
    if rest.isEmpty then endOutputSlot t else t

/-- What is left of the output frame leaves before a boundary, which follows its last pair. An input frame whose fade the
arriving pairs did not complete ends with f at 1024 (R92, R93; log entry 7). A frame with another source that was ended at
once in the middle of a fade leaves f where it stood (DESIGN CHOICE, log entry 46). -/
def finishFrame (s : State) : State :=
  let t := s.output.frame.foldl (fun t item => leave item t) { s with output := { s.output with frame := [] } }
  let t := if t.output.source = .input then
      { t with output := { t.output with fadeGain := Config.unity, fadesLeft := 0 } }
    else t
  endOutputSlot t

/-! ### The monitor source (R91, R92) -/

/-- The monitor source called for (R91). -/
def TransportState.monitor : TransportState → MonitorSource
  | .play => .tape
  | .record => .record
  | .empty | .stop | .starting | .cued | .wind | .locate | .fault => .input

/-- The slots of role PLAY on the output queue. -/
def State.playSlots (s : State) : List Nat := s.store.outputQueue.filter fun i => (s.slot i).role == some .play

/-- The change ramp begins: the fade pair is the last pair output, with the step of the active bank (R92). The fade goes on
from the f that stands, 0 or 1024, or between where the frame before was ended at once in the middle of a fade (DESIGN CHOICE,
log entry 46). -/
def startFade (s : State) : State :=
  { s with output := { s.output with fadePair := s.output.heldPair, fadeStep := rampStep s.activeBank.ramp } }

/-- The monitor source changes: PLAY slots are freed on a change from TAPE, and a change to TAPE starts priming (R37, R91). On a
change from RECORD to INPUT the PLAY slots stay on the output queue until the next change from TAPE or the event that frees them
otherwise (DESIGN CHOICE between the table and the text of R37, log entry 36). -/
def changeSource (new : MonitorSource) (s : State) : State :=
  let t := if s.output.source = .tape then freeSlots s.playSlots s else s
  startFade { t with output := { t.output with source := new, priming := new == .tape } }

/-! ### The frame that begins (R92 to R94, R107, R108) -/

/-- What the output status record of a frame says of its content: the copy field its material calls for, absent for a frame
that carries none, and whether concealment is active (R96, R108). -/
structure FrameKind where
  field : Option CopyField
  concealing : Bool
  deriving DecidableEq, Repr

def setFrame (items : List OutputItem) (s : State) : State := { s with output := { s.output with frame := items } }

/-- `n` zero pairs. -/
def zeroItems (n : Nat) : List OutputItem := List.replicate n (.plain Pair.zero)

/-- A fade down over R pairs, then zero pairs up to N. -/
def fadeToZero (ramp n : Nat) : List OutputItem := List.replicate ramp .down ++ zeroItems (n - ramp)

/-- The copy field of an input frame (R107). -/
def State.inputFrameField (s : State) : CopyField :=
  match s.input.selected with
  | .analog => s.activeBank.analogCopy
  | .digital =>
    if s.input.lost.isSome then .free
    else if s.input.status.valid then s.input.status.copyField.getD .none
    else .none

/-- An input frame: its pairs come as the Input Port delivers them, after the fade pairs of a change (R92, R93). -/
def beginInput (changing : Bool) (s : State) : State × FrameKind :=
  ({ s with output := { s.output with frame := [], fadesLeft := if changing then s.activeBank.ramp else 0 } },
   ⟨some s.inputFrameField, false⟩)

/-- The oldest PLAY slot leaves the output queue and becomes PLAYING (R33). -/
def beginPlaying (i : Nat) (s : State) : State × FrameKind :=
  let v := s.slot i
  let t := withDepths (fun t =>
    let t := setSlot i { v with state := .playing } t
    { t with store := { t.store with outputQueue := t.store.outputQueue.filter (· != i) } }) s
  ({ t with output := { t.output with playing := some i, frame := v.pairs.map .up } },
   ⟨some ((v.copyField.or s.copy.heldTape).getD .none), decide (1 ≤ v.interpolated + v.gaps)⟩)

/-- An underrun: it is counted, CONCEAL is set, the underrun frame is computed, and the oldest CORRECTED slot is taken under
pressure after it (R36, R89). -/
def beginUnderrun (s : State) : State × FrameKind :=
  let s := setCondition .conceal (count .underruns 1 s)
  let (unit, pairs) := underrunPairs (rampStep s.activeBank.ramp) s.framePairs s.conceal
  let s := setFrame (pairs.map .plain) { s with conceal := unit }
  (takePressured s, ⟨none, true⟩)

/-- Priming ends, and the Q rule is applied once (R33, R38). -/
def endPriming (s : State) : State := judgeQ { s with output := { s.output with priming := false } }

/-- A tape frame after priming: the oldest PLAY slot, or an underrun (R33, R36). -/
def beginTapeFrame (s : State) : State × FrameKind :=
  match s.playSlots with
  | i :: _ => beginPlaying i s
  | [] => beginUnderrun s

/-- A frame with source TAPE. The changing frame is a priming frame that carries the down fade (R33, R92). -/
def beginTape (changing : Bool) (s : State) : State × FrameKind :=
  if changing then (setFrame (fadeToZero s.activeBank.ramp s.framePairs) s, ⟨none, false⟩)
  else if s.output.priming then
    if 3 ≤ s.depthQ then beginTapeFrame (endPriming s)
    else (setFrame (zeroItems s.framePairs) s, ⟨none, false⟩)
  else beginTapeFrame s

/-- The WRITING slots whose output has not begun. -/
def State.unplayed (s : State) : List Nat := s.slotsWhere fun v => v.state == .writing && v.monitor == .notBegun

/-- Of two slots the one of the later frame time is the newer one. R94 does not say what makes a slot the newest; after a time
jump backwards between two takes the frame times and the order of the windows can part, and the model goes by the frame time
(DESIGN CHOICE, log entry 47). -/
def State.newer (s : State) (i k : Nat) : Nat :=
  if (s.slot i).frameTime.getD 0 < (s.slot k).frameTime.getD 0 then k else i

/-- The newest of the slots given. -/
def State.newest (s : State) : List Nat → Option Nat
  | [] => none
  | i :: rest => some (rest.foldl s.newer i)

/-- Slots passed over: their output counts as finished (R94). -/
def passOver (l : List Nat) (s : State) : State := l.foldl (fun t i => monitorFinished i t) s

/-- A gap frame: the last pair output fades down from the f that stands, then zero pairs (R94; log entry 46). -/
def beginGap (s : State) : State × FrameKind :=
  let t := startFade s
  (setFrame (fadeToZero t.activeBank.ramp t.framePairs) t, ⟨none, true⟩)

/-- A frame with source RECORD: the newest WRITING slot not yet begun, or a gap frame (R92, R94). -/
def beginRecord (changing : Bool) (s : State) : State × FrameKind :=
  match s.newest s.unplayed with
  | none => beginGap s
  | some i =>
    let v := s.slot i
    let t := passOver (s.unplayed.filter (· != i)) s
    let t := setSlot i { v with monitor := .begun } t
    let ramp := s.activeBank.ramp
    let items := if changing then List.replicate ramp .down ++ (v.pairs.drop ramp).map .up else v.pairs.map .up
    ({ t with output := { t.output with playing := some i, frame := items } },
     ⟨some (v.copyField.getD .none), v.good.any (· == false) || decide (v.good.length < v.pairCount)⟩)

/-- The frame that begins under the source in force. -/
def beginFrame (changing : Bool) (s : State) : State × FrameKind :=
  match s.output.source with
  | .input => beginInput changing s
  | .tape => beginTape changing s
  | .record => beginRecord changing s

/-! ### The output status record (R96, R107, R108) -/

/-- The copy field of the frame output before: the last record's, or FREE (R108). -/
def State.previousField (s : State) : CopyField := (s.output.lastStatus.map (·.copyField)).getD .free

/-- The copy field of a frame of a kind (R107, R108). -/
def frameField (changing : Bool) (previous : CopyField) (k : FrameKind) : CopyField :=
  match k.field with
  | none => previous
  | some f => if changing then previous.most f else f

/-- The record is sent as its byte when it differs from the last record sent, and becomes the last record sent (R96, R199). -/
def sendStatus (r : OutputStatus) (s : State) : State :=
  if s.output.lastStatus = some r then s
  else { s with output := { s.output with lastStatus := some r, statusByte := some r.byte } }

/-- The source changes if it must, and the frame of the source in force begins; the Bool says that the source changed (R91 to
R94). -/
def boundaryFrame (s : State) : State × FrameKind × Bool :=
  let new := s.transport.state.monitor
  let changing := decide (new ≠ s.output.source)
  let s := if changing then changeSource new s else s
  let s := if s.output.source = .record then s else passOver s.unplayed s
  let r := beginFrame changing s
  (r.1, r.2, changing)

/-- The boundary that follows a frame cut short is met as a gap, the source in force staying RECORD until the boundary after
it (R94; DESIGN CHOICE against R91, log entry 28). A frame that was cut in the middle of a fade left f between 0 and 1024, and
the fade of this gap goes on from there (DESIGN CHOICE, log entry 46). -/
def cutBoundary (s : State) : State × FrameKind × Bool :=
  let r := beginGap { s with output := { s.output with cut := false } }
  (r.1, r.2, false)

/-- A boundary of the output sample clock: the frame before it ends, the word length is taken, the next frame begins, and its
status record is formed (R91 to R96). -/
def execOutputFrameBoundary (s : State) : Host.Outcome State Fault Refusal :=
  let s := finishFrame s
  let s := { s with output := { s.output with wordLength := s.activeBank.outputWordLength } }
  let previous := s.previousField
  let (t, kind, changing) := if s.output.cut then cutBoundary s else boundaryFrame s
  .next (settle (sendStatus ⟨t.activeBank.rate, frameField changing previous kind, kind.concealing⟩ t))

end Sys2Proof.Machine
end

