-- ==== Sys2Proof/Machine/Head.lean ====
section
/-! DEFINITION. The meanings of the Head Channel's commands, of TIME_LOST and of WAIT_FRAMES_EXPIRY (R26, R29, R51 to R60, R64
to R78, R148, R149, R164, R177). The order of the blocks inside a frame pulse is log entry 4's. -/

namespace Sys2Proof.Machine

/-! ### The bank switch (R177) -/

/-- A pending switch is made at the pulse, and the neighbours are told (R44, R98, R177). -/
def pulseBanks (s : State) : State :=
  match s.banks.pendingSwitch with
  | none => s
  | some port =>
    let old := s.activeBank.rate
    let t := { s with banks := { s.banks with active := s.banks.active.other, pendingSwitch := none } }
    let t := logEntry .bankSwitch t.timeNow port.origin t.banks.active.code t
    deriveField (if t.activeBank.rate = old then t else judgeLost t)

/-! ### The record gate (R142, R148, R149) -/

/-- The punch-out becomes committed at the first pulse with T + 2 at u or more (R142). -/
def pulseCommit (s : State) : State :=
  match s.mixer.punchOut with
  | some o => if o.time ≤ s.decoder.time + 2 then { s with mixer := { s.mixer with committed := true } } else s
  | none => s

/-- The gate opens on punch-in `p` (R120, R148, R151). -/
def openGate (p : Punch) (s : State) : State :=
  let s := { s with mixer := { s.mixer with taken := true, gateOpen := true } }
  let s := spanChanged (enterState .record (.playSpeed .normal) s)
  let s := raiseFlag .punchIn s
  let s := logEntry .punchIn (some p.time) p.origin p.cross s
  handOffIf (p.origin == .list) (.gateOpened p.time) s

/-- The gate closes at the closing pulse of punch-out `o` (R120, R149, R151). -/
def closeOnPulse (o : Punch) (last : Nat) (s : State) : State :=
  let s := spanChanged (clearPunches s)
  let s := enterState .play (.playSpeed .normal) s
  let s := raiseFlag .punchOut s
  let s := logEntry .punchOut (some last) o.origin 0 s
  handOffIf (o.origin == .list) (.punchOutDone last) s

/-- The Edit Mixer at a pulse: the gate closes at T = L + 1, and opens at the t of a scheduled punch-in (R148, R149). -/
def pulseGate (s : State) : State :=
  if s.mixer.gateOpen then
    match s.mixer.punchOut with
    | some o =>
      let last := o.lastOut s.framePairs
      if s.decoder.time = last + 1 then closeOnPulse o last s else s
    | none => s
  else match s.mixer.punchIn with
    | some p => if s.transport.state = .play ∧ s.decoder.time = p.time then openGate p s else s
    | none => s

/-! ### The Record Coder (R51 to R60) -/

/-- The supply of slot `i` is done: it becomes FREE once the monitor has finished with it (R29, R55). -/
def supplyFinished (i : Nat) (s : State) : State :=
  let t := updateSlot i (fun v => { v with supplyDone := true }) s
  if (s.slot i).monitor = .finished then freeSlots [i] t else t

/-- A write window still open is cut (R55). The current write frame is cleared here, at the cut, though its slot may stay WRITING
for the record monitor: R55 does not say when it is cleared, and R54 clears that of a window supplied whole as its slot becomes
FREE (DESIGN CHOICE, log entry 51). -/
def pulseCut (s : State) : State :=
  match s.coder.current with
  | some w =>
    if s.coder.sequence < Config.frameBlocks then
      let t := supplyFinished w.slot { s with coder := { s.coder with current := none } }
      logEntry .writeLate (some w.time) .internal 2 t
    else s
  | none => s

/-- A verify entry is closed and judged (R60). -/
def closeVerify (e : VerifyEntry) (s : State) : State :=
  let failures := e.supplied - e.passed
  let s := count .verifyFails failures s
  if s.activeBank.verifyThreshold < failures then
    logEntry .verify (some e.frameTime) .internal failures (raiseFlag .verify (setCondition .verify s))
  else s

/-- The pulse ends period `q`: the entry checked in it is closed (R58, R60; log entry 9). With T held at 359,999 no period 360,000
or 360,001 comes, and the entries of frames 359,998 and 359,999 are never checked or closed here (DESIGN CHOICE, log entry 49).
-/
def pulseVerify (q : Nat) (s : State) : State :=
  let checked := s.coder.verify.filter fun e => e.frameTime + 2 == q
  let s := { s with coder := { s.coder with verify := s.coder.verify.filter fun e => e.frameTime + 2 != q } }
  checked.foldl (fun s e => closeVerify e s) s

/-- The trim as the window opens, on W before the frame's slot leaves (R39). -/
def windowTrim (s : State) : State :=
  if s.store.trim = .normal ∧ s.depthW = 0 then setTrim .slow s else judgeW s

/-- The slot of frame `f` on the write queue (R29). -/
def State.windowSlot (s : State) (f : Nat) : Option Nat :=
  s.store.writeQueue.find? fun i => (s.slot i).frameTime == some f

/-- A new verify entry joins the tail of the list, which holds up to three; an entry that an earlier take of the same frame left
behind gives way to it (R58; log entry 9). It stands at the tail also where an entry of a later frame, left over from before a
time jump backwards, stands before it and R50's frame time order would put it in front (DESIGN CHOICE, log entry 42). -/
def addVerify (f : Nat) (l : List VerifyEntry) : List VerifyEntry :=
  let kept := (l.filter fun e => e.frameTime != f) ++ [⟨f, 0, 0, []⟩]
  kept.drop (kept.length - 3)

/-- A window is taken: slot `i` becomes WRITING, its subcode is assembled, a verify entry is added (R29, R52, R57, R58, R135).
-/
def takeWindow (i : Nat) (s : State) : State :=
  let f := s.decoder.time
  let (marking, mark) := s.cues.mark.window f
  let v := { s.slot i with state := .writing, start := marking.isSome }
  let fmt := v.format.getD s.activeFormat
  let s := withDepths (fun t =>
    let t := setSlot i v t
    { t with store := { t.store with writeQueue := t.store.writeQueue.filter (· != i) } }) s
  { s with
    cues := { s.cues with mark := mark }
    coder := { s.coder with
      current := some ⟨i, f⟩, sequence := 0, writeOn := true, verify := addVerify f s.coder.verify
      subcode := ⟨f, fmt.rate, fmt.wordLength, marking.getD 0, marking.isSome, v.copyField.getD .none⟩ } }

/-- The frame of the window is write-late (R29, R53). -/
def lateWindow (s : State) : State :=
  let f := s.decoder.time
  let waiting := s.slotsWhere fun v => (v.state == .capturing || v.state == .captured) && v.frameTime == some f
  let s := freeSlots waiting s
  let s := { s with coder := { s.coder with current := none, writeOn := false } }
  logEntry .writeLate (some f) .internal (if waiting.isEmpty then 1 else 0) s

/-- The OLD slots of frame `f` on the output queue. -/
def State.oldSlots (s : State) (f : Nat) : List Nat :=
  s.store.outputQueue.filter fun i => (s.slot i).role == some .old && (s.slot i).frameTime == some f

/-- The write window of frame T (R29, R51 to R53). -/
def pulseWindow (s : State) : State :=
  if s.mixer.gateOpen then
    let s := windowTrim s
    let t := match s.windowSlot s.decoder.time with
      | some i => if (s.slot i).state = .mixed then takeWindow i s else lateWindow s
      | none => lateWindow s
    freeSlots (t.oldSlots t.decoder.time) t
  else { s with coder := { s.coder with writeOn := false } }

/-! ### The capture slot (R26, R99) -/

/-- A capture slot is opened for frame T + 2 (R26). Without a FREE slot the frame is a capture miss. -/
def pulseCapture (s : State) : State :=
  let f := s.decoder.time + 2
  let present := s.store.captureList.any fun i => (s.slot i).frameTime == some f
  if s.transport.state.rolling = true ∧ s.inSpan f = true ∧ present = false then
    match s.lowestFree with
    | some i =>
      let t := setSlot i (Slot.opened .capturing .input f s.activeFormat) s
      { t with
        store := { t.store with captureList := t.store.captureList ++ [i] }
        copy := { t.copy with inputFields := t.copy.inputFields ++ [(i, none)] } }
    | none => s
  else s

/-! ### The frame pulse -/

/-- Conditions set again at each pulse: a lost source, a latched copy gate (R44, R104). -/
def pulseConditions (s : State) : State :=
  let s := if s.input.lost.isSome then setCondition .sourceLost s else s
  if s.copy.latched then setCondition .copy s else s

/-- The work of the heads and their blocks at a pulse, the decoder's included (R26, R29, R32, R51, R64, R135, R148, R149). -/
def pulseWork (s : State) : State :=
  let q := s.decoder.time
  let s := pulseBanks s
  let gathering := s.decoder.gathering
  let s := if gathering then gatherPulse s else judgeHoldover s
  let s := takeFrames q s
  let s := pulseGate (pulseCommit s)
  let s := pulseVerify q (pulseCut s)
  let s := pulseWindow s
  let s := if gathering then { s with cues := { s.cues with mark := s.cues.mark.check s.decoder.time } } else s
  mixerJudge (pulseConditions (pulseCapture s))

/-- A frame pulse (R64): the work of the blocks, then the edit list's waits and hand-offs (R151, R164). -/
def execFramePulse (s : State) : Host.Outcome State Fault Refusal :=
  let t := pulseWork s
  let t := if s.decoder.gathering then stepWaitFrames t else t
  .next (settle (judgeWaitTime t))

/-! ### Blocks -/

/-- One more block is supplied of frame `f`: it counts to the frame's entry (R58). -/
def countSupplied (f : Nat) (l : List VerifyEntry) : List VerifyEntry :=
  l.map fun e => if e.frameTime = f then { e with supplied := e.supplied + 1 } else e

/-- The Head Channel asks for a block: the next of the supply order, built from the WRITING slot (R54, R58). -/
def execBlockRequest (s : State) : Host.Outcome State Fault Refusal :=
  .next (
    match s.coder.current with
    | none => s
    | some w =>
      if s.coder.sequence < Config.frameBlocks then
        let v := s.slot w.slot
        let block := frameBlock (v.format.getD s.activeFormat) v.pairs s.coder.subcode s.coder.sequence
        let t := { s with coder := { s.coder with
          supplied := block.bytes, sequence := s.coder.sequence + 1, verify := countSupplied w.time s.coder.verify } }
        if t.coder.sequence = Config.frameBlocks then supplyFinished w.slot t else t
      else s)

/-- A block that arrives from a head as its 101 bytes is worked on; any other number of bytes is no block, and changes nothing
(R5, R193; log entry 5). -/
def onBlock (bytes : List Byte) (work : TapeBlock → State → State) (s : State) : State :=
  match blockOfBytes bytes with
  | some b => work b s
  | none => s

/-- A block from the advance head (R63, R66). -/
def execAdvanceBlock (bytes : List Byte) (s : State) : Host.Outcome State Fault Refusal :=
  .next (onBlock bytes (fun b s =>
    match s.decoder.current with
    | none => s
    | some g =>
      if s.decoder.readMode = .full ∧ s.decoder.gathering = true ∧ b.good = true then takeBlock b g s else s) s)

/-- The valid record of a block that arrives in SUBCODE read mode (R63, R77). -/
def State.subcodeRead (s : State) (b : TapeBlock) : Option Subcode :=
  if s.decoder.readMode = .subcode then b.subcode else none

/-- The valid record of a block that was on its way when a locate arrived or failed, and arrives in CUED or STOP before the
tape is set moving again (R121, R124). R63 discards every other block that arrives with read mode OFF (DESIGN CHOICE in where
the one ends and the other begins, log entry 43). -/
def State.lateRead (s : State) (b : TapeBlock) : Option Subcode :=
  if s.decoder.readMode = .off ∧ s.decoder.lateReads = true then b.subcode else none

/-- A subcode block read in SUBCODE read mode (R63, R77, R78), or late, after the end of a locate (R121, R124; log entry 43). -/
def execSubcodeBlock (bytes : List Byte) (s : State) : Host.Outcome State Fault Refusal :=
  .next (onBlock bytes (fun b s =>
    match s.subcodeRead b, s.lateRead b with
    | some r, _ => readSubcode r s
    | none, some r => readLate r.time s
    | none, none => s) s)

/-- A subcode block whose read would count a ninth reversal ends the locate with HUNTING (R77, R124). Any other block is not
this event and changes nothing (log entry 5). -/
def execHunting (bytes : List Byte) (s : State) : Host.Outcome State Fault Refusal :=
  .next (onBlock bytes (fun b s =>
    match s.subcodeRead b with
    | some r => if s.huntingRead r.time then readSubcode r s else s
    | none => s) s)

/-- The place of a block in the supply order (R54). -/
def TapeBlock.supplyPlace (b : TapeBlock) : Nat := b.trackOf.code * Config.trackBlocks + b.position.toNat

/-- A confidence block is counted for a verify entry it passes (R59). -/
def VerifyEntry.check (e : VerifyEntry) (b : TapeBlock) : VerifyEntry :=
  let place := (b.trackOf, b.position.toNat)
  if b.good = true ∧ b.tag.toNat = e.frameTime % 256 ∧ TapeBlock.supplyPlace b < e.supplied ∧ place ∉ e.positions then
    { e with passed := e.passed + 1, positions := e.positions ++ [place] }
  else e

/-- A block from the confidence head is checked against the entry for frame T − 2 (R59). -/
def execConfidenceBlock (bytes : List Byte) (s : State) : Host.Outcome State Fault Refusal :=
  .next (onBlock bytes (fun b s => { s with coder := { s.coder with
    verify := s.coder.verify.map fun e => if e.frameTime + 2 = s.decoder.time then e.check b else e } }) s)

/-! ### Inner events with a row of their own -/

/-- The holdover limit is passed (R74). The pulse that finds this does it itself; on its own the event needs the count at H
(log entry 5). -/
def execTimeLost (s : State) : Host.Outcome State Fault Refusal :=
  .next (
    if (s.decoder.status = .locked ∨ s.decoder.status = .holdover) ∧ s.activeBank.holdover ≤ s.decoder.holdover then
      settle (judgeWaitTime (enterLost s))
    else s)

/-- The wait remainder of a WAIT-FRAMES entry reaches 0 (R164). The pulse that finds this does it itself; on its own the event
needs one frame left (log entry 5). -/
def execWaitFramesExpiry (s : State) : Host.Outcome State Fault Refusal :=
  .next (
    if s.kindInProgress = some 2 ∧ s.sequencer.waitRemainder ≤ 1 then settle (stepWaitFrames s) else s)

end Sys2Proof.Machine
end

