-- ==== Sys2Proof/Machine/Motion.lean ====
section
/-! DEFINITION. The meanings of the motion requests, STOP and SET-CONTROL (R116 to R119, R139 to R141): each is taken from the
head of a port's request queue and answered by one reply (R171). -/

namespace Sys2Proof.Machine

/-- PLAY is judged under R117 and R118. -/
def execPlay (port : Port) (s : State) : Host.Outcome State Fault Refusal :=
  .next (serve port .play judgePlay s)

/-- WIND sets the transport winding (R118). -/
def execWind (port : Port) (s : State) : Host.Outcome State Fault Refusal :=
  .next (serve port .wind judgeWind s)

/-- CUE-HOLD puts the transport in CUED with hold awaited (R118). -/
def execCueHold (port : Port) (s : State) : Host.Outcome State Fault Refusal :=
  .next (serve port .cueHold judgeCueHold s)

/-- LOCATE begins a locate (R117, R118, R122). -/
def execLocate (port : Port) (s : State) : Host.Outcome State Fault Refusal :=
  .next (serve port .locate judgeLocate s)

/-- RECORD begins a spin-up with record pending, or hands the Edit Mixer a punch-in at T + 4 (R118, R140). -/
def execRecord (port : Port) (s : State) : Host.Outcome State Fault Refusal :=
  .next (serve port .record judgeRecord s)

/-- SCHEDULE-PUNCH schedules a timed punch (R139). -/
def execSchedulePunch (port : Port) (s : State) : Host.Outcome State Fault Refusal :=
  .next (serve port .schedulePunch judgeSchedulePunch s)

/-- PUNCH-OUT sets a punch-out from the present or calls a take off (R141). -/
def execPunchOut (port : Port) (s : State) : Host.Outcome State Fault Refusal :=
  .next (serve port .punchOut judgePunchOut s)

/-- STOP stops the transport in every state and halts a running list (R119). -/
def execStop (port : Port) (s : State) : Host.Outcome State Fault Refusal :=
  .next (serve port .stop judgeStop s)

/-- SET-CONTROL changes the control source (R116). -/
def execSetControl (port : Port) (s : State) : Host.Outcome State Fault Refusal :=
  .next (serve port .setControl judgeSetControl s)

end Sys2Proof.Machine
end

