-- ==== Sys2Proof/Machine/ReportUnit.lean ====
section
/-! DEFINITION. The meanings of the Report Unit's requests (R179, R181, R183, R184): each is taken from the head of a port's
request queue and answered by one reply (R171). -/

namespace Sys2Proof.Machine

/-- READ-REPORT returns the port's report and clears it (R181). -/
def execReadReport (port : Port) (s : State) : Host.Outcome State Fault Refusal :=
  .next (serve port .readReport judgeReadReport s)

/-- SET-MASK replaces the port's mask (R179). -/
def execSetMask (port : Port) (s : State) : Host.Outcome State Fault Refusal :=
  .next (serve port .setMask judgeSetMask s)

/-- LOG-READ returns up to eight log entries (R183). -/
def execLogRead (port : Port) (s : State) : Host.Outcome State Fault Refusal :=
  .next (serve port .logRead judgeLogRead s)

/-- READ-IDENT returns the family code and the silicon revision (R184). -/
def execReadIdent (port : Port) (s : State) : Host.Outcome State Fault Refusal :=
  .next (serve port .readIdent judgeReadIdent s)

end Sys2Proof.Machine
end

