-- ==== Sys2Proof/Machine/ResetFamily.lean ====
section
/-! DEFINITION. The meanings of the resets: POWER_ON_RESET and RESET_PART (R40, R184, R191). -/

namespace Sys2Proof.Machine

/-- The reset line gives every block its power-on values; the commands that wait stay in the queue (R40 and every reset
table). -/
def execPowerOnReset (s : State) : Host.Outcome State Fault Refusal := .next { State.reset with pending := s.pending }

/-- RESET-PART: a soft reset, after a CHAIN reset has been sent on downstream (R184, R191). -/
def execResetPart (port : Port) (s : State) : Host.Outcome State Fault Refusal := .next (serveReset port s)

end Sys2Proof.Machine
end

