-- ==== Sys2Proof/Machine/Servo.lean ====
section
/-! DEFINITION. The meanings of the Servo Line's reports and of the Transport Controller's timers (R111 to R115, R124, R140). -/

namespace Sys2Proof.Machine

/-- A report of motion becomes the last motion report (R111). -/
def setReport (r : Option MotionReport) (s : State) : State :=
  { s with transport := { s.transport with lastReport := r } }

/-- STOPPED, which leaves FAULT when the fault release is requested (R111, R114). -/
def execStopped (s : State) : Host.Outcome State Fault Refusal :=
  let t := setReport (some .stopped) s
  .next (settle (if t.transport.state = .fault ∧ t.transport.faultRelease = true then leaveFault t else t))

/-- The punch-in asked for when a spin-up with record pending ends; a refusal by the Edit Mixer is logged (R115, R140). -/
def punchAtSpeed (s : State) : State :=
  match schedulePunchIn .internal (s.punchNow s.transport.recordOrigin) none s with
  | (t, .accepted) => t
  | (t, .copy) => t
  | (t, status) => logEntry .punchCancelled t.timeNow .internal status.code t

/-- AT-SPEED ends the spin-up: PLAY, MOTION-DONE, the ROLL entry's hand-off, and a punch-in if record was pending (R111, R115,
R166). -/
def execAtSpeed (s : State) : Host.Outcome State Fault Refusal :=
  let t := setReport (some .atSpeed) s
  .next (
    if t.transport.state = .starting then
      let u := handOff .spunUp (raiseFlag .motionDone (enterState .play (.playSpeed .normal) t))
      settle (if s.transport.recordPending then punchAtSpeed u else u)
    else t)

/-- WINDING becomes the last motion report (R111). -/
def execWinding (s : State) : Host.Outcome State Fault Refusal := .next (setReport (some .winding) s)

/-- HOLDING in CUED with hold awaited raises MOTION-DONE (R111). -/
def execHolding (s : State) : Host.Outcome State Fault Refusal :=
  let t := setReport (some .holding) s
  .next (
    if t.transport.state = .cued ∧ t.transport.holdAwaited = true then
      raiseFlag .motionDone { t with transport := { t.transport with holdAwaited := false } }
    else t)

/-- TAPE-IN sets tape present, and takes the transport from EMPTY to STOP (R111). -/
def execTapeIn (s : State) : Host.Outcome State Fault Refusal :=
  let t := { s with transport := { s.transport with tapePresent := true } }
  .next (
    if s.transport.state = .empty then
      logEntry .tapeIn none .internal 0 (raiseFlag .tape (enterState .stop .stop t))
    else t)

/-- The tape-out handed to the neighbours: the cue table, the tracker and the held tape field (R76, R97, R112, R126). -/
def clearTape (s : State) : State :=
  { s with
    transport := { s.transport with tapePresent := false, lastReport := none }
    cues := { entries := [], mark := .none }
    decoder := s.decoder.forget
    copy := { s.copy with heldTape := none } }

/-- TAPE-OUT in any state but EMPTY empties the deck (R112, R150, R158). The list is halted and the take closed before the tracker
is reset, so that their entries carry T, and they are logged before the TAPE-OUT entry (DESIGN CHOICE, log entries 4 and 34). -/
def execTapeOut (s : State) : Host.Outcome State Fault Refusal :=
  .next (
    if s.transport.state = .empty then s
    else
      let t := haltList .byTapeOut .internal s
      let t := closeAtOnce .tapeOut .internal t
      let t := enterState .empty .stop (endLocate .tapeOut t)
      settle (logEntry .tapeOut none .internal 0 (raiseFlag .tape (clearTape t))))

/-- TAPE-END-FWD (R113). -/
def execTapeEndFwd (s : State) : Host.Outcome State Fault Refusal := .next (settle (tapeEnd 0 s))

/-- TAPE-END-REV (R113). -/
def execTapeEndRev (s : State) : Host.Outcome State Fault Refusal := .next (settle (tapeEnd 1 s))

/-- MECH-FAULT: FAULT from any state, and a running list halts (R114). LIST-END is logged before the entries of `enterFault`
(DESIGN CHOICE, log entry 4). -/
def execMechFault (s : State) : Host.Outcome State Fault Refusal :=
  .next (settle (enterFault 0 (haltList .byFault .internal s)))

/-- The spin-up timer reaches 2 s in STARTING: FAULT with argument SPIN-UP (R115). -/
def execSpinUpTimerExpiry (s : State) : Host.Outcome State Fault Refusal :=
  .next (
    if s.transport.state = .starting then settle (enterFault 1 (haltList .byFault .internal s)) else s)

/-- The elapsed timer reaches the locate limit (R124). -/
def execLocateTimeout (s : State) : Host.Outcome State Fault Refusal :=
  .next (
    if s.locating = true ∧ s.transport.locate.elapsedRunning = true then settle (failLocate .timeout s) else s)

/-- The no-time timer reaches 4 s (R124). -/
def execNoTimeExpiry (s : State) : Host.Outcome State Fault Refusal :=
  .next (
    if s.locating = true ∧ s.transport.locate.noTimeRunning = true then settle (failLocate .noTime s) else s)

end Sys2Proof.Machine
end

