-- ==== Sys2Proof/Machine/SettingBanks.lean ====
section
/-! DEFINITION. The meanings of the Setting Banks' requests (R174 to R176): each is taken from the head of a port's
request queue and answered by one reply (R171). -/

namespace Sys2Proof.Machine

/-- SET-SETTING writes one setting of the staged bank (R174). -/
def execSetSetting (port : Port) (s : State) : Host.Outcome State Fault Refusal :=
  .next (serve port .setSetting judgeSetSetting s)

/-- READ-SETTING returns one setting or all (R175). -/
def execReadSetting (port : Port) (s : State) : Host.Outcome State Fault Refusal :=
  .next (serve port .readSetting judgeReadSetting s)

/-- SWITCH-BANK sets the pending switch (R176). -/
def execSwitchBank (port : Port) (s : State) : Host.Outcome State Fault Refusal :=
  .next (serve port .switchBank judgeSwitchBank s)

/-- COPY-BANK copies the active bank into the staged bank (R175). -/
def execCopyBank (port : Port) (s : State) : Host.Outcome State Fault Refusal :=
  .next (serve port .copyBank judgeCopyBank s)

end Sys2Proof.Machine
end

