-- ==== Sys2Proof/Machine/StudioLink.lean ====
section
/-! DEFINITION. The meanings of the Studio Link's commands: packets, lines, routing, the upstream transmit queue and the chain
reset (R186 to R191). -/

namespace Sys2Proof.Machine

/-! ### Line status (R187) -/

def State.line (s : State) : Line → LineStatus
  | .upstream => s.link.upstream
  | .downstream => s.link.downstream

def setLine (l : Line) (v : LineStatus) (s : State) : State :=
  match l with
  | .upstream => { s with link := { s.link with upstream := v } }
  | .downstream => { s with link := { s.link with downstream := v } }

/-- A packet is discarded: it counts once to LINK-ERRORS and sets the matching error flags of its line (R186). -/
def discardPacket (l : Line) (e : PacketErrors) (s : State) : State :=
  let v := s.line l
  count .linkErrors 1 (setLine l { v with framing := v.framing || e.framing, soft := v.soft || e.soft } s)

/-- The end of a packet's reception on a line: a packet that a reset cut off leaves no trace; a bad one is discarded and its
place released; a good one takes its place through `place`. Without a place it needs room, and without room the sender was
held off (R186, R187, R191; log entry 16). -/
def receivePacket (l : Line) (e : PacketErrors) (room : Bool) (place : State → State) (s : State) : State :=
  let v := s.line l
  if v.up = false then s
  else
    let t := setLine l { v with reception := .idle } s
    match v.reception with
    | .dropped => t
    | .placed => if e.framing ∨ e.soft then discardPacket l e t else place t
    | .idle =>
      if e.framing ∨ e.soft then discardPacket l e t
      else if room then place t
      else t

/-- A whole packet on the upstream line is checked and placed in the link request queue, or discarded (R186). -/
def execLinkRequestPacket (bytes : List Byte) (s : State) : Host.Outcome State Fault Refusal :=
  .next (receivePacket .upstream (packetErrors false bytes) s.requestRoom (fun t =>
    { t with link := { t.link with requests := t.link.requests ++ [linkRequestOf bytes] } }) s)

/-- A whole packet on the downstream line is checked and placed unchanged in the upstream transmit queue, or discarded (R186,
R190). -/
def execLinkReplyPacket (bytes : List Byte) (s : State) : Host.Outcome State Fault Refusal :=
  .next (receivePacket .downstream (packetErrors true bytes) s.upstreamRoom (placeUpstream bytes) s)

/-- A packet begins on a line that is UP and ready, and is given its place at once (R187). -/
def execLinkPacketBegin (l : Line) (s : State) : Host.Outcome State Fault Refusal :=
  let v := s.line l
  .next (if v.up = true ∧ v.reception = .idle ∧ s.ready l = true then setLine l { v with reception := .placed } s else s)

/-- A line becomes UP (R187). -/
def execLineUp (l : Line) (s : State) : Host.Outcome State Fault Refusal :=
  .next (setLine l { s.line l with up := true } s)

/-- The downstream line goes DOWN while a chain reset waits: the sending is passed over and the soft reset follows (R191). -/
def passChainReset (l : Line) (s : State) : State :=
  match l, s.link.chainReset with
  | .downstream, some ticket => resetAndReply ticket 1 s
  | _, _ => s

/-- A line that is UP becomes DOWN with its hard error flag set. A packet being received is a framing error; the upstream
transmit queue is discarded with the upstream line (R186, R187, R191). -/
def execLineDown (l : Line) (s : State) : Host.Outcome State Fault Refusal :=
  let v := s.line l
  .next (
    if v.up = false then s
    else
      let t := setLine l { v with up := false, hard := true, reception := .idle } s
      let t := if v.reception = .placed then discardPacket l ⟨true, false⟩ t else t
      let t := match l with
        | .upstream => { t with link := { t.link with upstreamQueue := [] } }
        | .downstream => t
      passChainReset l t)

/-- The head of the link request queue is judged by its hop (R188, R189). While a chain reset waits, a request of this deck is
not taken, and the others go on as the table has them (R191; log entry 15). A request is sent on with position 0, whatever its
position byte was (DESIGN CHOICE, log entry 41). -/
def execLinkRoute (partnerReady : Bool) (s : State) : Host.Outcome State Fault Refusal :=
  .next (
    match s.link.requests with
    | [] => s
    | r :: rest =>
      let dropped := { s with link := { s.link with requests := rest } }
      match s.link.position with
      | none => if r.hop = 0 ∧ requestKind r.body = some .setPosition then servePosition .link s else dropped
      | some position =>
        if r.hop = 0 then
          match requestKind r.body with
          | some kind => serveAny .link kind s
          | none => serveUnknown .link s
        else if s.link.downstream.up then
          if partnerReady then
            { dropped with link := { dropped.link with
                sentDownstream := packetBytes (r.hop - 1) false r.tag 0 r.body } }
          else s
        else if s.upstreamRoom then
          placeUpstream (packetBytes 0 true r.tag position (replyBody (argWord r.body 0) .noRoute [])) dropped
        else s)

/-- The head packet of the upstream transmit queue is sent while the line is UP and the partner ready (R190). -/
def execUpstreamTransmit (partnerReady : Bool) (s : State) : Host.Outcome State Fault Refusal :=
  .next (
    match s.link.upstreamQueue with
    | [] => s
    | p :: rest =>
      if s.link.upstream.up = true ∧ partnerReady = true then
        { s with link := { s.link with upstreamQueue := rest, sentUpstream := p } }
      else s)

/-- A waiting chain reset is sent downstream whole, with hop 0 and the request's tag, and the soft reset follows (R191). Both are
one command, so that the deck below's reply never comes between them: of the two orders R191 allows, the one in which the reply
comes after the soft reset and is forwarded (DESIGN CHOICE, log entry 50). -/
def execChainResetForward (partnerReady : Bool) (s : State) : Host.Outcome State Fault Refusal :=
  .next (
    match s.link.chainReset with
    | none => s
    | some ticket =>
      if s.link.downstream.up = true ∧ partnerReady = true then
        resetAndReply ticket 1 { s with link := { s.link with
          sentDownstream := packetBytes 0 false ticket.tag 0 [resetPartCode, 1#16] } }
      else s)

/-- SET-POSITION: the chain position, and on a configured deck the reply with the line status (R188). -/
def execSetPosition (port : Port) (s : State) : Host.Outcome State Fault Refusal := .next (servePosition port s)

end Sys2Proof.Machine
end

