-- ==== Sys2Proof/Machine/SystemPort.lean ====
section
/-! DEFINITION. The meanings of the System Port's transactions (R185, R194) and of a request whose kind is unknown (R172). -/

namespace Sys2Proof.Machine

/-- The bytes a transaction is answered with (R194). -/
abbrev answerQueued : Byte := 0x10#8
abbrev answerNotReady : Byte := 0x11#8
abbrev answerReply : Byte := 0x12#8
abbrev answerEmpty : Byte := 0x13#8
abbrev answerBadFrame : Byte := 0x1F#8

/-- The answer sent on the data-out line, held as the output's last bytes (log entry 21). -/
def answerWith (bytes : List Byte) (s : State) : State := { s with system := { s.system with answer := bytes } }

/-- A transaction of the kind named has its effect; bytes that open with another kind, or none at all, are not this event and
change nothing (R194; log entry 20). -/
def onTransaction (kind : TransactionKind) (bytes : List Byte) (effect : State → State) (s : State) : State :=
  if transactionKind bytes = some kind then effect s else s

/-- A SEND places its body at the tail of the request queue, or is answered NOT-READY or BAD-FRAME; one whose body is cut off is
abandoned (R185). -/
def execSend (kind : Byte) (bytes : List Byte) (s : State) : Host.Outcome State Fault Refusal :=
  .next (onTransaction .send (kind :: bytes) (fun s =>
    match sendBody bytes with
    | .badLength => answerWith [answerBadFrame] s
    | .cutOff => answerWith [] s
    | .whole body =>
      if s.system.requests.length < Config.requestPlaces then
        answerWith [answerQueued] { s with system := { s.system with requests := s.system.requests ++ [body] } }
      else answerWith [answerNotReady] s) s)

/-- A FETCH, which clocks in its kind byte and nothing further, returns the oldest reply and removes it on completion (R185,
R194). -/
def execFetch (s : State) : Host.Outcome State Fault Refusal :=
  .next (onTransaction .fetch [kindFetch] (fun s =>
    match s.system.replies with
    | [] => answerWith [answerEmpty] s
    | r :: rest =>
      answerWith (answerReply :: byteOf r.length :: bytesOfWords r) { s with system := { s.system with replies := rest } }) s)

/-- A transaction of any other kind is answered BAD-FRAME (R185). -/
def execOtherTransaction (bytes : List Byte) (s : State) : Host.Outcome State Fault Refusal :=
  .next (onTransaction .other bytes (answerWith [answerBadFrame]) s)

/-- An abandoned SEND places nothing and is not answered (R185). -/
def execSendAbandoned (s : State) : Host.Outcome State Fault Refusal := .next (answerWith [] s)

/-- An abandoned FETCH leaves the reply at the head of the reply queue (R185). The row does not say how many bytes of the answer
were clocked out before the select line rose; the latch of the answer is left empty (DESIGN CHOICE, log entry 20). -/
def execFetchAbandoned (s : State) : Host.Outcome State Fault Refusal := .next (answerWith [] s)

/-- A request of unknown kind or wrong length is taken and answered BAD-REQUEST (R172). -/
def execUnknownRequestKind (port : Port) (s : State) : Host.Outcome State Fault Refusal := .next (serveUnknown port s)

end Sys2Proof.Machine
end

