-- ==== Sys2Proof/Machine/Dispatch.lean ====
section
/-! DEFINITION. One arm for each command, each a direct call of its meaning. -/

namespace Sys2Proof.Machine

def exec (i : Instr) (s : State) : Host.Outcome State Fault Refusal :=
  match i with
  | .powerOnReset => Sys2Proof.Machine.execPowerOnReset s
  | .send kind bytes => Sys2Proof.Machine.execSend kind bytes s
  | .fetch => Sys2Proof.Machine.execFetch s
  | .otherTransaction bytes => Sys2Proof.Machine.execOtherTransaction bytes s
  | .sendAbandoned => Sys2Proof.Machine.execSendAbandoned s
  | .fetchAbandoned => Sys2Proof.Machine.execFetchAbandoned s
  | .unknownRequestKind port => Sys2Proof.Machine.execUnknownRequestKind port s
  | .play port => Sys2Proof.Machine.execPlay port s
  | .wind port => Sys2Proof.Machine.execWind port s
  | .cueHold port => Sys2Proof.Machine.execCueHold port s
  | .locate port => Sys2Proof.Machine.execLocate port s
  | .record port => Sys2Proof.Machine.execRecord port s
  | .schedulePunch port => Sys2Proof.Machine.execSchedulePunch port s
  | .punchOut port => Sys2Proof.Machine.execPunchOut port s
  | .stop port => Sys2Proof.Machine.execStop port s
  | .setControl port => Sys2Proof.Machine.execSetControl port s
  | .selectSource port => Sys2Proof.Machine.execSelectSource port s
  | .cueAdd port => Sys2Proof.Machine.execCueAdd port s
  | .cueRemove port => Sys2Proof.Machine.execCueRemove port s
  | .cueClear port => Sys2Proof.Machine.execCueClear port s
  | .cueRead port => Sys2Proof.Machine.execCueRead port s
  | .mark port => Sys2Proof.Machine.execMark port s
  | .listRun port => Sys2Proof.Machine.execListRun port s
  | .listHalt port => Sys2Proof.Machine.execListHalt port s
  | .listWrite port => Sys2Proof.Machine.execListWrite port s
  | .listRead port => Sys2Proof.Machine.execListRead port s
  | .setSetting port => Sys2Proof.Machine.execSetSetting port s
  | .readSetting port => Sys2Proof.Machine.execReadSetting port s
  | .switchBank port => Sys2Proof.Machine.execSwitchBank port s
  | .copyBank port => Sys2Proof.Machine.execCopyBank port s
  | .readReport port => Sys2Proof.Machine.execReadReport port s
  | .setMask port => Sys2Proof.Machine.execSetMask port s
  | .logRead port => Sys2Proof.Machine.execLogRead port s
  | .readIdent port => Sys2Proof.Machine.execReadIdent port s
  | .resetPart port => Sys2Proof.Machine.execResetPart port s
  | .setPosition port => Sys2Proof.Machine.execSetPosition port s
  | .linkRequestPacket bytes => Sys2Proof.Machine.execLinkRequestPacket bytes s
  | .linkReplyPacket bytes => Sys2Proof.Machine.execLinkReplyPacket bytes s
  | .lineUp line => Sys2Proof.Machine.execLineUp line s
  | .lineDown line => Sys2Proof.Machine.execLineDown line s
  | .linkRoute partnerReady => Sys2Proof.Machine.execLinkRoute partnerReady s
  | .upstreamTransmit partnerReady => Sys2Proof.Machine.execUpstreamTransmit partnerReady s
  | .chainResetForward partnerReady => Sys2Proof.Machine.execChainResetForward partnerReady s
  | .framePulse => Sys2Proof.Machine.execFramePulse s
  | .blockRequest => Sys2Proof.Machine.execBlockRequest s
  | .advanceBlock bytes => Sys2Proof.Machine.execAdvanceBlock bytes s
  | .subcodeBlock bytes => Sys2Proof.Machine.execSubcodeBlock bytes s
  | .confidenceBlock bytes => Sys2Proof.Machine.execConfidenceBlock bytes s
  | .stopped => Sys2Proof.Machine.execStopped s
  | .atSpeed => Sys2Proof.Machine.execAtSpeed s
  | .winding => Sys2Proof.Machine.execWinding s
  | .holding => Sys2Proof.Machine.execHolding s
  | .tapeIn => Sys2Proof.Machine.execTapeIn s
  | .tapeOut => Sys2Proof.Machine.execTapeOut s
  | .tapeEndFwd => Sys2Proof.Machine.execTapeEndFwd s
  | .tapeEndRev => Sys2Proof.Machine.execTapeEndRev s
  | .mechFault => Sys2Proof.Machine.execMechFault s
  | .spinUpTimerExpiry => Sys2Proof.Machine.execSpinUpTimerExpiry s
  | .locateTimeout => Sys2Proof.Machine.execLocateTimeout s
  | .noTimeExpiry => Sys2Proof.Machine.execNoTimeExpiry s
  | .hunting bytes => Sys2Proof.Machine.execHunting bytes s
  | .sourceStatusRecord status => Sys2Proof.Machine.execSourceStatusRecord status s
  | .inputPair left right => Sys2Proof.Machine.execInputPair left right s
  | .timeLost => Sys2Proof.Machine.execTimeLost s
  | .waitFramesExpiry => Sys2Proof.Machine.execWaitFramesExpiry s
  | .outputFrameBoundary => Sys2Proof.Machine.execOutputFrameBoundary s
  | .linkPacketBegin line => Sys2Proof.Machine.execLinkPacketBegin line s

end Sys2Proof.Machine
end

