-- ==== Sys2Proof/Machine/Step.lean ====
section
/-! DEFINITION. The step: the front command of the queue is run, and on an empty queue one output pair leaves. -/

namespace Sys2Proof.Machine

/-- Take the front command and run it with the queue's rest; on an empty queue the output clock ticks (R93; log entry 3). -/
def step (s : State) : Host.Outcome State Fault Refusal :=
  match s.pending with
  | c :: rest => exec c { s with pending := rest }
  | [] => .next (outputTick s)

/-- The state with the command a table word spells at the front of its queue. No table word spells one (log entry 19). -/
def State.withFetchWord (s : State) (nbits w : Nat) : State :=
  match decodeTableWord nbits w with
  | some c => { s with pending := c :: s.pending }
  | none => s

end Sys2Proof.Machine
end

