-- ==== Sys2Proof/Safety.lean ====
section
/-! DEFINITION. What a sound state is: the bounds and relations that the rules give the 4120's state and that every command
keeps. Statements about runs are made in these terms. -/

namespace Sys2Proof.Machine

/-- The counters of one port lie within 0..255 (R178). -/
def Counters.within (k : Counters) : Prop :=
  k.blocksRebuilt ≤ 255 ∧ k.framesMuted ≤ 255 ∧ k.framesDropped ≤ 255 ∧ k.underruns ≤ 255 ∧
  k.verifyFails ≤ 255 ∧ k.copyRefusals ≤ 255 ∧ k.timeJumps ≤ 255 ∧ k.linkErrors ≤ 255

/-- The Report Unit is within its bounds: counters of both ports, the log's length and its next sequence number (R178,
R182). -/
def Reports.within (r : Reports) : Prop :=
  r.system.counters.within ∧ r.link.counters.within ∧ r.log.length ≤ 32 ∧ r.nextSequence < 65536

/-- The Frame Store has its sixteen slots and the list memory its 64 entries (R21, R152). -/
def State.sized (s : State) : Prop := s.store.slots.length = 16 ∧ s.sequencer.entries.length = 64

/-- The cue table holds at most 99 entries, in rising time order, each at a tape time (R126, R127). -/
def CueTable.ordered (c : CueTable) : Prop :=
  c.entries.length ≤ 99 ∧ c.entries.Pairwise (fun a b => a.time < b.time) ∧ ∀ e ∈ c.entries, e.time ≤ 359999

/-! ### The Frame Store's collections (R21 to R25) -/

/-- The roles found in each slot state (R21). -/
def Slot.roleAgrees (v : Slot) : Bool :=
  match v.state with
  | .free => v.role == none
  | .capturing | .captured | .mixed | .writing => v.role == some .input
  | .gathering | .corrected | .concealed => v.role == some .play || v.role == some .old
  | .playing => v.role == some .play

/-- The frame times of slots, in the order of a collection. -/
def State.times (s : State) (l : List Nat) : List Nat := l.map fun i => (s.slot i).frameTime.getD 0

/-- Slot `i` has the record and stands on the collections of its state (R21, R22, R24, R25). -/
abbrev State.slotAgrees (s : State) (i : Nat) : Prop :=
  ((s.slot i).state = .free → s.slot i = Slot.freed) ∧ ((s.slot i).state ≠ .free → (s.slot i).frameTime ≠ none) ∧
  (s.slot i).roleAgrees = true ∧
  (i ∈ s.store.captureList ↔ (s.slot i).state = .capturing ∨ (s.slot i).state = .captured) ∧
  (i ∈ s.store.writeQueue ↔ (s.slot i).state = .captured ∨ (s.slot i).state = .mixed) ∧
  (i ∈ s.store.gatherList ↔ (s.slot i).state = .gathering ∨ (s.slot i).state = .corrected) ∧
  (i ∈ s.store.outputQueue ↔ (s.slot i).state = .concealed) ∧
  ((s.slot i).state = .playing → s.output.playing = some i)

/-- Sixteen slots, each with the record of its state and on the collections of its state, on none of them twice; the output
queue in increasing order of frame time (R21, R22, R24, R25). -/
def State.collectionsSound (s : State) : Prop :=
  s.store.slots.length = 16 ∧
  s.store.captureList.Nodup ∧ s.store.writeQueue.Nodup ∧ s.store.gatherList.Nodup ∧ s.store.outputQueue.Nodup ∧
  (∀ i ∈ s.store.captureList ++ s.store.writeQueue ++ s.store.gatherList ++ s.store.outputQueue, i < 16) ∧
  (∀ i < 16, s.slotAgrees i) ∧ (s.times s.store.outputQueue).Pairwise (· < ·)

/-- The blocks that hold slots agree with the collections: the gather list holds the CORRECTED slots and then those of the
current and the next frame, which are GATHERING; the input field list names the slots of the capture list; the write frame is
a WRITING slot of its time; the slot being output is PLAYING or WRITING; and off play speed no frame is being gathered (R30,
R33, R50, R62, R97, R99, R120). -/
def State.holdersSound (s : State) : Prop :=
  s.store.gatherList = s.correctedSlots ++ (s.decoder.current.bind (·.slot)).toList ++ s.decoder.nextSlot.toList ∧
  s.copy.inputFields.map (·.1) = s.store.captureList ∧
  (∀ w ∈ s.coder.current, (s.slot w.slot).state = .writing ∧ (s.slot w.slot).frameTime = some w.time) ∧
  (∀ i ∈ s.output.playing, (s.slot i).state = .playing ∨ (s.slot i).state = .writing) ∧
  (s.transport.state.rolling = false → s.decoder.current = none ∧ s.decoder.next = none)

/-- The Frame Store is sound. -/
def State.storeSound (s : State) : Prop := s.collectionsSound ∧ s.holdersSound

/-- The verify list has at most three entries, one for each frame time; no more blocks have passed than were supplied, at most
152, each at a place of its own; and the entry of the write frame counts the blocks supplied (R50, R58, R59). -/
def Coder.verifySound (c : Coder) : Prop :=
  c.verify.length ≤ 3 ∧ (c.verify.map (·.frameTime)).Nodup ∧ c.sequence ≤ 152 ∧
  ∀ e ∈ c.verify, e.supplied ≤ 152 ∧ e.passed = e.positions.length ∧ e.positions.Nodup ∧
    (∀ p ∈ e.positions, p.2 ≤ 75 ∧ p.1.code * 76 + p.2 < e.supplied) ∧
    (∀ w ∈ c.current, w.time = e.frameTime → e.supplied = c.sequence)

/-- The record path is sound: the capture list and the write queue are in increasing order of frame time; on the capture list
the CAPTURED slots come first, and every MIXED slot is of an earlier frame than all of it; a slot that waits for its window is
of a frame of the take span no later than T + 2; no punch-in stands off play speed or before frame 4; and the verify list is
sound (R23, R24, R26, R27, R50, R58, R139, R144). -/
def State.recordSound (s : State) : Prop :=
  (s.times s.store.captureList).Pairwise (· < ·) ∧ (s.times s.store.writeQueue).Pairwise (· < ·) ∧
  s.store.captureList.Pairwise (fun i k => (s.slot k).state = .captured → (s.slot i).state = .captured) ∧
  (∀ i ∈ s.store.writeQueue, (s.slot i).state = .mixed →
    ∀ f ∈ s.times s.store.captureList, (s.slot i).frameTime.getD 0 < f) ∧
  (∀ f ∈ s.times (s.store.captureList ++ s.store.writeQueue), s.inSpan f = true ∧ f ≤ s.decoder.time + 2) ∧
  (s.transport.state.rolling = false → s.mixer.punchIn = none) ∧
  (∀ p ∈ s.mixer.punchIn, 4 ≤ p.time) ∧
  s.coder.verifySound

/-- Each queue of the ports holds no more than its places, a packet that has begun counting as one (R171, R187, R190). -/
def State.queuesWithin (s : State) : Prop :=
  s.system.requests.length ≤ 4 ∧ s.system.replies.length ≤ 4 ∧
  s.link.requests.length + s.link.upstream.reception.places ≤ 4 ∧
  s.link.upstreamQueue.length + s.link.downstream.reception.places ≤ 8

/-- The record gate is open exactly in RECORD; an open gate has its punch-in, and a closed gate leaves the copy gate open
(R103, R120, R137). -/
def State.gateAgrees (s : State) : Prop :=
  (s.mixer.gateOpen = true ↔ s.transport.state = .record) ∧
  s.mixer.taken = s.mixer.gateOpen ∧
  (s.mixer.gateOpen = true → s.mixer.punchIn.isSome = true) ∧
  (s.copy.latched = true → s.mixer.gateOpen = true)

/-- Gathering is on exactly in PLAY and RECORD, the read mode is that of the transport state, and a late read is possible in
STOP and CUED alone (R63, R121, R124). -/
def State.readingAgrees (s : State) : Prop :=
  s.decoder.gathering = s.transport.state.rolling ∧ s.decoder.readMode = s.transport.state.readMode ∧
  (s.decoder.lateReads = true → s.transport.state = .stop ∨ s.transport.state = .cued)

/-! ### The trim demand and the servo demand (R38, R39, R110)

The two tables are written here a second time, in another shape than the model's `trimByQ` and `trimByW`, so that a statement
made with them says which demand it is. -/

/-- The demand that the table of R38 calls for when Q has become `q`. -/
def Trim.afterQ (current : Trim) (q : Nat) : Trim :=
  if 5 ≤ q then .slow
  else if q ≤ 1 then .fast
  else if current = .slow ∧ q ≤ 3 ∨ current = .fast ∧ 3 ≤ q then .normal
  else current

/-- The demand that the table of R39 calls for when W has become `w`. -/
def Trim.afterW (current : Trim) (w : Nat) : Trim :=
  if current = .normal ∧ 4 ≤ w then .fast
  else if current = .fast ∧ w ≤ 2 ∨ current = .slow ∧ 2 ≤ w then .normal
  else current

/-- The demand that the table of R39 calls for when a write window opens with `w` slots on the write queue. -/
def Trim.atWindow (current : Trim) (w : Nat) : Trim := if current = .normal ∧ w = 0 then .slow else current.afterW w

/-- Q is judged: in PLAY, with the monitor source TAPE and priming over (R38). -/
def State.judgesQ (s : State) : Prop :=
  s.transport.state = .play ∧ s.output.source = .tape ∧ s.output.priming = false

/-- The trim demand is `trim`, in the Frame Store and in the PLAY-SPEED demand on the Servo Line (R38, R110). -/
def State.carries (s : State) (trim : Trim) : Prop := s.store.trim = trim ∧ s.transport.demand = .playSpeed trim

/-- `t` has the trim and the servo demand of `s`. -/
def State.keepsTrim (s t : State) : Prop :=
  t.store.trim = s.store.trim ∧ t.transport.demand = s.transport.demand

/-- The trim of `t` follows one change of Q from `s`: the table of R38 is applied to the new Q where Q is judged and has
changed, and else nothing happens to the trim. -/
def State.followsQ (s t : State) : Prop :=
  (s.judgesQ → t.depthQ ≠ s.depthQ → t.carries (s.store.trim.afterQ t.depthQ)) ∧
  (¬ s.judgesQ ∨ t.depthQ = s.depthQ → s.keepsTrim t)

/-- The servo demand is the one that the table of R110 has for the transport state, the trim demand is NORMAL off play speed,
and it is NORMAL in PLAY for as long as Q is not judged (R38, R39, R110). -/
def State.demandAgrees (s : State) : Prop :=
  let state := s.transport.state
  let demand := s.transport.demand
  (state = .empty ∨ state = .stop ∨ state = .fault → demand = .stop) ∧
  (state = .starting → demand = .playSpeed .normal) ∧
  (state = .play ∨ state = .record → demand = .playSpeed s.store.trim) ∧
  (state = .wind → ∃ d ∈ [Direction.forward, .reverse], ∃ v ∈ [Speed.fast, .slow], demand = .wind d v) ∧
  (state = .locate → demand = .wind s.transport.locate.direction
    (if s.transport.locate.phase = .fast then .fast else .slow)) ∧
  (state = .cued → demand = .hold) ∧
  (state ≠ .play → state ≠ .record → s.store.trim = .normal) ∧
  (state = .play → s.output.source ≠ .tape ∨ s.output.priming = true → s.store.trim = .normal)

/-- The tape time and the lead-in are in range, and T is 0 while the lead-in is above 0 (R17, R72). -/
def Decoder.ranged (d : Decoder) : Prop :=
  d.time ≤ 359999 ∧ d.leadIn ≤ 2 ∧ (0 < d.leadIn → d.time = 0)

/-- The shared gain and the fade gain lie within 0..1024, and a fade steps by no less than 0 (R86, R90). -/
def State.gainsWithin (s : State) : Prop :=
  0 ≤ s.conceal.gain ∧ s.conceal.gain ≤ 1024 ∧ 0 ≤ s.output.fadeGain ∧ s.output.fadeGain ≤ 1024 ∧ 0 ≤ s.output.fadeStep

/-- Hand-offs do not outlive the command that makes them (R158; log entry 22). -/
def State.handoffsTaken (s : State) : Prop := s.sequencer.handoffs = []

/-- A pending switch brings in no other rate or tape word length while a take is in hand (R143, R176). -/
def State.formatKept (s : State) : Prop :=
  s.takeInHand = true → s.banks.pendingSwitch.isSome = true → s.switchChangesFormat = false

/-- Every setting of a bank has one of its values (R173). -/
def Bank.ranged (b : Bank) : Prop :=
  b.crossfade ∈ crossfadeLengths ∧ 1 ≤ b.lmax ∧ b.lmax ≤ 16 ∧ (b.ramp = 64 ∨ b.ramp = 128 ∨ b.ramp = 256) ∧
  1 ≤ b.holdover ∧ b.holdover ≤ 50 ∧ b.verifyThreshold ≤ 40 ∧ b.analogCopy ≠ .none ∧ b.preroll ≤ 250 ∧
  10 ≤ b.locateLimit ∧ b.locateLimit ≤ 600

/-- Both banks have values in range, and the holdover count is no more than the active limit (R74, R173, R174). -/
def State.settingsWithin (s : State) : Prop :=
  s.banks.bankA.ranged ∧ s.banks.bankB.ranged ∧ s.decoder.holdover ≤ s.activeBank.holdover

/-- No hand-off is under way and no source selection waits for its capture boundary: the end of a command adds nothing of
its own. -/
def State.quiet (s : State) : Prop := s.sequencer.handoffs = [] ∧ s.input.pendingSelect = none

/-- A request of a kind stands to be taken from a port: its ticket and its body (R171, R172, R189). -/
def State.stands (s : State) (port : Port) (kind : RequestKind) (ticket : Ticket) (body : List Word) : Prop :=
  s.headRequest port = some (ticket, body) ∧ requestKind body = some kind

/-- A motion request of the port is allowed: the control source takes it and no list runs (R117 steps 1 and 2). -/
def State.allows (s : State) (port : Port) : Prop :=
  (s.transport.control = .both ∨ (s.transport.control = .localOnly ∧ port = .system) ∨
    (s.transport.control = .remote ∧ port = .link)) ∧ s.sequencer.state = .idle

/-- The reply to a request taken, placed after its effect (R171, R190). -/
def answered (ticket : Ticket) (body : List Word) (status : Status) (data : List Word) (s : State) : State :=
  placeReply ticket (replyBody (argWord body 0) status data) s

/-- `t` is what a change from PLAY or RECORD to another state leaves of `s` in the blocks that follow the transport: the trim
is NORMAL; the slots of the record path and of the frames being gathered are FREE, and so is every OLD slot; supply, verify
list and gate are closed, in RECORD with WRITE-OFF; the punch records of the take or of a scheduled punch-in are none; the
copy gate is open; and a WRITING slot that was being output when the gate closed is noted for the next boundary (R37, R38,
R56, R61, R94, R103, R120, R144, R150). All WRITING slots go, one that is still being output too, and OLD slots are not turned
back to PLAY (DESIGN CHOICE, log entries 28, 29, 38 and 45). -/
def State.leavesPlaySpeed (s t : State) : Prop :=
  t.store.trim = .normal ∧
  (∀ i, (t.slot i).state = .free ∨ ((t.slot i).state = .concealed ∧ (t.slot i).role ≠ some .old) ∨
    (t.slot i).state = .playing) ∧
  t.coder.current = none ∧ t.coder.verify = [] ∧ (s.transport.state = .record → t.coder.writeOn = false) ∧
  t.mixer.gateOpen = false ∧ t.mixer.punchIn = none ∧ t.mixer.taken = false ∧
  (s.mixer.punchIn.isSome = true → t.mixer.punchOut = none) ∧ t.copy.latched = false ∧
  t.output.cut = (s.output.cut || decide (s.transport.state = .record) &&
    s.output.playing.any fun i => (s.slot i).state == .writing) ∧
  t.banks = s.banks ∧ t.input = s.input ∧ t.conceal = s.conceal

/-- The record that leaving PLAY or RECORD makes on top of `u`: PUNCH-OUT, raised and logged at T with the closing event as
its argument, where the gate was open, and PUNCH-CANCELLED with reason MOTION for a scheduled punch-in (R144, R150, R198). -/
def State.leavingLog (s : State) (event : Nat) (origin : Origin) (u : State) : State :=
  if s.transport.state = .record then logEntry .punchOut s.timeNow origin event (raiseFlag .punchOut u)
  else match s.mixer.punchIn with
    | some p => logEntry .punchCancelled s.timeNow p.origin 20 u
    | none => u

/-- The entry in progress of `s` has ended with its result written in `u`: the list passes on to the next index, or, HALTING,
ends HALTED-BY-REQUEST, LIST-END being raised and logged under the port of the LIST-HALT (R156, R157, R158; log entry 18). -/
def State.passesOn (s u : State) : State :=
  if s.sequencer.state = .halting then
    logEntry .listEnd u.timeNow s.sequencer.haltPort.origin 1 (raiseFlag .listEnd { u with sequencer := { u.sequencer with
      state := .idle, saved := none, waitRemainder := 0, chainCount := 0, lastEnd := .byRequest, handoffs := [] } })
  else beginChain (s.sequencer.current + 1) u

/-- The entry in progress of `s` ends DONE in `u` with a completion time, and the list goes on (R153, R156). -/
def State.entryDone (s : State) (completion : Option Nat) (u : State) : State :=
  s.passesOn { u with sequencer := { u.sequencer with
    entries := u.sequencer.entries.set s.sequencer.current { u.entry s.sequencer.current with
      outcome := .done, seen := u.sequencer.conditions, completion := completion } } }

/-- The entry in progress of `s` ends FAILED in `u`, logged with its index and the reason, and the list goes on (R153, R156,
R198). -/
def State.entryFailed (s : State) (reason : Nat) (u : State) : State :=
  s.passesOn (logEntry .listEntryFailed u.timeNow .list (s.sequencer.current * 65536 + reason) { u with
    sequencer := { u.sequencer with
      entries := u.sequencer.entries.set s.sequencer.current { u.entry s.sequencer.current with
        outcome := .failed, seen := u.sequencer.conditions, completion := u.timeNow } } })

/-- `t` is what a soft reset of scope `scope` leaves of `s`, with the DONE reply to the request of the ticket: every slot and
queue emptied, the blocks at their soft-reset values, a running list ended, counters and flags cleared and then TAPE raised
with tape present and REPLY-READY with a reply on the System Port, one RESET entry in the log, with the PUNCH-CANCELLED entry
of a scheduled punch-in before it, and what the rules keep kept (R40, R50, R61, R62, R80, R90, R97, R125, R126, R137, R144,
R150, R154, R158, R173, R178, R180, R184, R187, R188, R191). -/
def State.softResetTo (s : State) (ticket : Ticket) (scope : Nat) (t : State) : Prop :=
  (∀ i, t.slot i = Slot.freed) ∧ t.store.outputQueue = [] ∧ t.store.writeQueue = [] ∧ t.store.captureList = [] ∧
  t.store.gatherList = [] ∧ t.store.trim = .normal ∧
  t.system.requests = [] ∧ t.system.replies = (match ticket.port with
    | .system => [[28#16, 0#16]]
    | .link => []) ∧
  t.link.requests = [] ∧
  t.link.upstreamQueue = (if ticket.port = .link ∧ s.link.upstream.up = true then
    [packetBytes 0 true ticket.tag (s.link.position.getD 0) [28#16, 0#16]] else []) ∧
  t.link.position = s.link.position ∧ t.link.chainReset = none ∧
  (∀ l, (t.line l).up = (s.line l).up ∧ (t.line l).hard = false ∧ (t.line l).soft = false ∧ (t.line l).framing = false) ∧
  t.transport = { s.transport with
    state := if s.transport.tapePresent then .stop else .empty
    demand := .stop, lastReport := none, spinUpRunning := false, recordPending := false, recordOrigin := .system
    holdAwaited := false, faultRelease := false
    locate := if s.transport.state = .locate then { s.transport.locate with
      phase := .none, elapsedRunning := false, noTimeRunning := false, lastOutcome := .reset } else s.transport.locate } ∧
  t.decoder = State.reset.decoder ∧ t.conceal = State.reset.conceal ∧ t.mixer = State.reset.mixer ∧
  t.output.source = .input ∧ t.output.playing = none ∧ t.output.lastStatus = none ∧
  t.coder.current = none ∧ t.coder.verify = [] ∧ t.coder.writeOn = false ∧
  t.cues = { s.cues with mark := .none } ∧
  t.sequencer.state = .idle ∧ t.sequencer.current = s.sequencer.current ∧ t.sequencer.saved = none ∧
  t.sequencer.waitRemainder = 0 ∧ t.sequencer.chainCount = 0 ∧ t.sequencer.conditions = 0 ∧
  (s.sequencer.state = .idle →
    t.sequencer.entries = s.sequencer.entries ∧ t.sequencer.lastEnd = s.sequencer.lastEnd) ∧
  (s.sequencer.state ≠ .idle → t.sequencer.lastEnd = .byReset ∧
    t.sequencer.entries = s.sequencer.entries.set s.sequencer.current { s.entry s.sequencer.current with
      outcome := .skipped, seen := s.sequencer.conditions, completion := s.timeNow }) ∧
  t.banks = { s.banks with pendingSwitch := none } ∧
  t.input = { s.input with selected := .analog, pendingSelect := none, lost := none } ∧
  t.copy = ⟨.field s.activeBank.analogCopy, false, none, []⟩ ∧
  (∀ port, (t.reports.port port).counters = Counters.zero ∧ (t.reports.port port).mask = (s.reports.port port).mask ∧
    ∀ k, (t.reports.port port).flags.getLsbD k = true ↔
      (k = 9 ∧ s.transport.tapePresent = true ∨ k = 10 ∧ port = .system ∧ ticket.port = .system) ∧
      (s.reports.port port).mask.getLsbD k = false) ∧
  (let cancelled : Reports := match s.mixer.punchIn with
      | some p => if s.mixer.taken then s.reports else s.reports.addEntry .punchCancelled s.timeNow p.origin 20
      | none => s.reports
    let logged := cancelled.addEntry .reset none ticket.port.origin scope
    t.reports.log = logged.log ∧ t.reports.nextSequence = logged.nextSequence) ∧ t.pending = s.pending

end Sys2Proof.Machine
end

