-- ==== Sys2Proof/Certificates/Slice0/Obligations.lean ====
section
/-! DEFINITION. The statements about the 4120 for the provers. In each, the next state is written out in full where the spec
fixes all of it, so that the statement is the command's result, its frame and its completion at once. -/

open Sys2Proof Sys2Proof.Machine

/-! ### The queue of commands -/

/-- The command at the front of the queue is run on the state with the queue's rest.
With no command waiting, one item of the output frame leaves (the model's choice of the tick, log entry 3): a pair that stands
as it is, one scaled by f after f has risen by its step to 1024 at most, or the fade pair scaled by f after f has fallen by its
step to 0 at least. It becomes o, before it is delivered under the output word length, and nothing else changes (R86, R90,
R92, R93, R95). With the last pair of a frame the slot being output ends: a PLAYING slot becomes FREE, and with a WRITING slot
the monitor has finished, which frees it when its supply is done (R29, R33). Without an item nothing happens. That the items of
a frame stand as a list is the model's choice, log entry 7. -/
def Obligations.StepRunsFrontCommand : Prop :=
  (∀ (c : Instr) (rest : List Instr) (s : State), s.pending = c :: rest → step s = exec c { s with pending := rest }) ∧
  (∀ s : State, s.pending = [] → s.output.frame = [] → step s = .next s) ∧
  (∀ (s : State) (item : OutputItem) (rest : List OutputItem) (f : Int) (o : Pair),
    s.pending = [] → s.output.frame = item :: rest →
    (item = .plain o ∧ f = s.output.fadeGain ∨
      (∃ q, item = .up q ∧ f = min 1024 (s.output.fadeGain + s.output.fadeStep) ∧
        o = ⟨(q.left * f + 512) / 1024, (q.right * f + 512) / 1024⟩) ∨
      item = .down ∧ f = max 0 (s.output.fadeGain - s.output.fadeStep) ∧
        o = ⟨(s.output.fadePair.left * f + 512) / 1024, (s.output.fadePair.right * f + 512) / 1024⟩) →
    let left : State := { s with output := { s.output with
      frame := rest, fadeGain := f, heldPair := o
      delivered := if s.output.wordLength = .w24 then o else ⟨reduce16 o.left, reduce16 o.right⟩ } }
    (rest ≠ [] ∨ s.output.playing = none → step s = .next left) ∧
    (∀ i, rest = [] → s.output.playing = some i → s.storeSound →
      let ended (v : Slot) : State := { left with
        store := { s.store with slots := s.store.slots.set i v }, output := { left.output with playing := none } }
      ((s.slot i).state = .playing → step s = .next (ended Slot.freed)) ∧
      ((s.slot i).state = .writing → (s.slot i).supplyDone = false →
        step s = .next (ended { s.slot i with monitor := .finished })) ∧
      ((s.slot i).state = .writing → (s.slot i).supplyDone = true →
        step s = .next { ended Slot.freed with
          coder := { s.coder with current := s.coder.current.filter fun w => decide (w.slot ≠ i) } })))

/-! ### Reset -/

/-- Power-on reset gives every block its power-on values, whatever stood before (R40 and the reset tables). That
the commands that wait go on waiting, and the values the reset tables do not give, are the model's choices (log entries 1, 13
and 19). -/
def Obligations.PowerOnReset : Prop :=
  ∀ s : State, ∃ t, exec .powerOnReset s = .next t ∧ t = { State.reset with pending := s.pending } ∧
    (∀ i, t.slot i = Slot.freed) ∧ t.depthQ = 0 ∧ t.depthW = 0 ∧ t.store.trim = .normal ∧ t.output.priming = false

/-- The state after reset is sound: every invariant of the model holds in it, among them that the servo demand and the trim are those
of the transport state (R40, R110). -/
def Obligations.ResetIsSound : Prop :=
  State.reset.reports.within ∧ State.reset.sized ∧ State.reset.cues.ordered ∧ State.reset.queuesWithin ∧
  State.reset.gateAgrees ∧ State.reset.readingAgrees ∧ State.reset.decoder.ranged ∧ State.reset.gainsWithin ∧
  State.reset.handoffsTaken ∧ State.reset.formatKept ∧ State.reset.settingsWithin ∧ State.reset.storeSound ∧
  State.reset.recordSound ∧ State.reset.demandAgrees

/-- RESET-PART of scope SELF on either port, and of scope CHAIN where the downstream line is DOWN, is a soft reset: every slot
is freed, the queues of both ports are emptied but for the DONE reply placed by the port of the request, counters and pending
flags are cleared, then TAPE is raised with tape present and REPLY-READY by a reply on the System Port, where the mask does
not hide it, a running list ends HALTED-BY-RESET with its entry in progress SKIPPED, and what R125, R126, R152, R173 and R188
keep is kept. RESET-PART of a scope that is neither is answered BAD-VALUE, and one of scope CHAIN waits while the downstream
line is UP, held as the model's waiting chain reset (log entry 15; R184, R191). A scheduled punch-in is cancelled with reason
MOTION and its PUNCH-CANCELLED entry, beside which the RESET entry is the one entry made (R144, R150). Choices of the model in
it: that entry carries T from before the reset and stands before RESET (log entry 35); the SKIPPED result carries T and the
conditions from before the reset (log entry 39); and the origin kept for a pending record becomes SYSTEM (log entry 13). -/
def Obligations.ResetPartRequest : Prop :=
  ∀ (port : Port) (ticket : Ticket) (body : List Word) (s : State), s.stands port .resetPart ticket body →
    let scope := (argWord body 1).toNat
    (scope = 0 ∨ scope = 1 ∧ s.link.downstream.up = false →
      ∃ t, exec (.resetPart port) s = .next t ∧ s.softResetTo ticket scope t) ∧
    (1 < scope → exec (.resetPart port) s = .next (answered ticket [28#16] .badValue [] (popRequest port s))) ∧
    (scope = 1 → s.link.downstream.up = true →
      exec (.resetPart port) s =
        .next { popRequest port s with link := { (popRequest port s).link with chainReset := some ticket } })

/-! ### System Port transactions -/

/-- A transaction is judged from its bytes: byte 0 is the kind, 0x01 SEND, 0x02 FETCH, any other answered BAD-FRAME; in a SEND
byte 1 is the length in words and the body follows, 2 bytes a word, more significant first (R185, R192, R194). SEND: a length
of 0 or above 64 is answered BAD-FRAME; a length or body cut off is an abandoned SEND without answer (the model's choice, log
entry 20); else the body is placed at the tail, whatever is clocked in after it, or NOT-READY is answered when four stand
already. FETCH returns the oldest reply and removes it, or answers EMPTY; abandoned transactions change nothing but the
answer, which is left empty for an abandoned FETCH too, however much of it was clocked out (log entry 20). A SEND or
OTHER_TRANSACTION row of another kind changes nothing (log entry 20). The answer is kept as the bytes last sent, a latch of
the model (log entry 21). -/
def Obligations.SystemPortTransactions : Prop :=
  (∀ (length : Byte) (rest : List Byte) (s : State),
    (length.toNat = 0 ∨ 64 < length.toNat →
      exec (.send 0x01#8 (length :: rest)) s = .next { s with system := { s.system with answer := [0x1F#8] } }) ∧
    (1 ≤ length.toNat → length.toNat ≤ 64 → rest.length < 2 * length.toNat →
      exec (.send 0x01#8 (length :: rest)) s = .next { s with system := { s.system with answer := [] } })) ∧
  (∀ (body : List Word) (extra : List Byte) (s : State), 1 ≤ body.length → body.length ≤ 64 →
    let bytes : List Byte := BitVec.ofNat 8 body.length ::
      (body.flatMap (fun w => [BitVec.ofNat 8 (w.toNat / 256), BitVec.ofNat 8 w.toNat]) ++ extra)
    (s.system.requests.length < 4 → exec (.send 0x01#8 bytes) s = .next { s with system := { s.system with
      requests := s.system.requests ++ [body], answer := [0x10#8] } }) ∧
    (4 ≤ s.system.requests.length →
      exec (.send 0x01#8 bytes) s = .next { s with system := { s.system with answer := [0x11#8] } })) ∧
  (∀ s : State,
    (s.system.replies = [] →
      exec .fetch s = .next { s with system := { s.system with answer := [0x13#8] } }) ∧
    (∀ (r : List Word) (more : List (List Word)), s.system.replies = r :: more →
      exec .fetch s = .next { s with system := { s.system with
        replies := more, answer := 0x12#8 :: BitVec.ofNat 8 r.length ::
          r.flatMap fun w => [BitVec.ofNat 8 (w.toNat / 256), BitVec.ofNat 8 w.toNat] } }) ∧
    exec (.send 0x01#8 []) s = .next { s with system := { s.system with answer := [] } } ∧
    exec (.otherTransaction []) s = .next s ∧
    exec .sendAbandoned s = .next { s with system := { s.system with answer := [] } } ∧
    exec .fetchAbandoned s = .next { s with system := { s.system with answer := [] } }) ∧
  (∀ (kind : Byte) (rest : List Byte) (s : State),
    (kind ≠ 0x01#8 → exec (.send kind rest) s = .next s) ∧
    (kind ≠ 0x01#8 → kind ≠ 0x02#8 →
      exec (.otherTransaction (kind :: rest)) s = .next { s with system := { s.system with answer := [0x1F#8] } }) ∧
    (kind = 0x01#8 ∨ kind = 0x02#8 → exec (.otherTransaction (kind :: rest)) s = .next s))

/-- A request of unknown kind or wrong length is taken and answered BAD-REQUEST, with no effect (R172).
While a port cannot place a reply, or a chain reset waits, its requests wait: every request command of the port leaves the
state as it is (R171, R190, R191; log entry 1). -/
def Obligations.UnknownAndWaitingRequests : Prop :=
  (∀ (port : Port) (ticket : Ticket) (body : List Word) (s : State),
    s.headRequest port = some (ticket, body) → requestKind body = none →
    exec (.unknownRequestKind port) s = .next (answered ticket body .badRequest [] (popRequest port s))) ∧
  (∀ (port : Port) (s : State), (port = .link → s.link.position.isSome = true) →
    (s.replyRoom port = false ∨ s.link.chainReset.isSome = true) →
    ∀ c ∈ [Instr.unknownRequestKind port, .play port, .wind port, .cueHold port, .locate port, .record port,
      .schedulePunch port, .punchOut port, .stop port, .setControl port, .selectSource port, .cueAdd port,
      .cueRemove port, .cueClear port, .cueRead port, .mark port, .listRun port, .listHalt port, .listWrite port,
      .listRead port, .setSetting port, .readSetting port, .switchBank port, .copyBank port, .readReport port,
      .setMask port, .logRead port, .readIdent port, .resetPart port, .setPosition port], exec c s = .next s)

/-! ### Motion requests -/

/-- PLAY in STOP, CUED, WIND or LOCATE begins a spin-up: STARTING with PLAY-SPEED trim NORMAL and the timer running, read mode
SUBCODE, and the reply ACCEPTED; a locate in progress ends SUPERSEDED (R63, R110, R115, R118, R121). Beyond these R118 changes
nothing. In PLAY or STARTING it is DONE without effect, and in EMPTY, RECORD and FAULT it is refused STATE.
That a read on its way from an earlier locate counts as late no more once the tape is set moving is the model's choice, log
entry 43. -/
def Obligations.PlayRequest : Prop :=
  ∀ (port : Port) (ticket : Ticket) (body : List Word) (s : State),
    s.quiet → s.stands port .play ticket body → s.allows port →
    (s.transport.state = .stop ∨ s.transport.state = .cued ∨ s.transport.state = .wind ∨ s.transport.state = .locate →
      exec (.play port) s = .next (answered ticket body .accepted [] { popRequest port s with
        transport := { s.transport with
          state := .starting, demand := .playSpeed .normal, spinUpRunning := true, holdAwaited := false
          faultRelease := false
          locate := if s.transport.state = .locate then { s.transport.locate with
            phase := .none, elapsedRunning := false, noTimeRunning := false, lastOutcome := .superseded }
            else s.transport.locate }
        store := { s.store with trim := .normal }
        decoder := { s.decoder with readMode := .subcode, lateReads := false } })) ∧
    (s.transport.state = .play ∨ s.transport.state = .starting →
      exec (.play port) s = .next (answered ticket body .done [] (popRequest port s))) ∧
    (s.transport.state = .empty ∨ s.transport.state = .record ∨ s.transport.state = .fault →
      exec (.play port) s = .next (answered ticket body .state [] (popRequest port s)))

/-- WIND sets the transport winding in the direction and at the speed named, and is DONE, in every state but EMPTY, RECORD and
FAULT, which are STATE: read mode SUBCODE, no START run on entry from STOP, CUED or STARTING, no mark record, a locate in
progress SUPERSEDED. A direction or a speed that is neither is BAD-VALUE in every state (R63, R78, R110, R117, R118, R121,
R134). CUE-HOLD puts the transport in CUED under HOLD with hold awaited, and is ACCEPTED; in CUED it is DONE without effect,
in EMPTY, RECORD and FAULT it is STATE (R63, R110, R118, R134). From PLAY either has the neighbours leave play speed, with a
scheduled punch-in cancelled under MOTION (R37, R61, R63, R97, R120, R144). That a read on its way from an earlier locate
counts as late no more once the tape winds is the model's choice, log entry 43; so are that all WRITING slots are freed, one
still being output too (log entries 29 and 38), and OLD slots freed and not turned back to PLAY (log entry 45), and how the
record of a closed frame is kept (log entry 10). -/
def Obligations.WindAndCueHoldRequests : Prop :=
  (∀ (port : Port) (ticket : Ticket) (body : List Word) (direction : Direction) (speed : Speed) (s : State),
    s.quiet → s.stands port .wind ticket body → s.allows port →
    argWord body 1 = (match direction, speed with
      | .forward, .fast => 0#16
      | .forward, .slow => 1#16
      | .reverse, .fast => 256#16
      | .reverse, .slow => 257#16) →
    let winding : Transport := { s.transport with
      state := .wind, demand := .wind direction speed, spinUpRunning := false, recordPending := false
      holdAwaited := false, faultRelease := false
      locate := if s.transport.state = .locate then { s.transport.locate with
        phase := .none, elapsedRunning := false, noTimeRunning := false, lastOutcome := .superseded } else s.transport.locate }
    (s.transport.state = .stop ∨ s.transport.state = .cued ∨ s.transport.state = .starting ∨ s.transport.state = .wind ∨
      s.transport.state = .locate →
      exec (.wind port) s = .next (answered ticket body .done [] { popRequest port s with
        transport := winding
        store := { s.store with trim := .normal }
        decoder := { s.decoder with
          readMode := .subcode, lateReads := false
          startRun := if s.transport.state = .wind ∨ s.transport.state = .locate then s.decoder.startRun else none }
        cues := { s.cues with mark := .none } })) ∧
    (s.transport.state = .play → s.gateAgrees → s.sized →
      ∃ t, exec (.wind port) s = .next (answered ticket body .done [] t) ∧ s.leavesPlaySpeed t ∧ t.transport = winding ∧
        t.decoder = { s.decoder with
          readMode := .subcode, lateReads := false, gathering := false, current := none, next := none, closedLast := false } ∧
        t.cues = { s.cues with mark := .none } ∧ t.sequencer = s.sequencer ∧ t.copy.heldTape = s.copy.heldTape ∧
        t.reports = (s.leavingLog 0 .internal s).reports) ∧
    (s.transport.state = .empty ∨ s.transport.state = .record ∨ s.transport.state = .fault →
      exec (.wind port) s = .next (answered ticket body .state [] (popRequest port s)))) ∧
  (∀ (port : Port) (ticket : Ticket) (body : List Word) (s : State),
    s.quiet → s.stands port .wind ticket body → s.allows port → argWord body 1 ∉ [0#16, 1#16, 256#16, 257#16] →
    exec (.wind port) s = .next (answered ticket body .badValue [] (popRequest port s))) ∧
  (∀ (port : Port) (ticket : Ticket) (body : List Word) (s : State),
    s.quiet → s.stands port .cueHold ticket body → s.allows port →
    let held : Transport := { s.transport with
      state := .cued, demand := .hold, spinUpRunning := false, recordPending := false, holdAwaited := true
      faultRelease := false
      locate := if s.transport.state = .locate then { s.transport.locate with
        phase := .none, elapsedRunning := false, noTimeRunning := false, lastOutcome := .superseded } else s.transport.locate }
    (s.transport.state = .stop ∨ s.transport.state = .starting ∨ s.transport.state = .wind ∨ s.transport.state = .locate →
      exec (.cueHold port) s = .next (answered ticket body .accepted [] { popRequest port s with
        transport := held
        store := { s.store with trim := .normal }
        decoder := { s.decoder with readMode := .off }
        cues := { s.cues with mark := .none } })) ∧
    (s.transport.state = .play → s.gateAgrees → s.sized →
      ∃ t, exec (.cueHold port) s = .next (answered ticket body .accepted [] t) ∧ s.leavesPlaySpeed t ∧ t.transport = held ∧
        t.decoder = { s.decoder with
          readMode := .off, gathering := false, current := none, next := none, closedLast := false } ∧
        t.cues = { s.cues with mark := .none } ∧ t.sequencer = s.sequencer ∧ t.copy.heldTape = s.copy.heldTape ∧
        t.reports = (s.leavingLog 0 .internal s).reports) ∧
    (s.transport.state = .cued → exec (.cueHold port) s = .next (answered ticket body .done [] (popRequest port s))) ∧
    (s.transport.state = .empty ∨ s.transport.state = .record ∨ s.transport.state = .fault →
      exec (.cueHold port) s = .next (answered ticket body .state [] (popRequest port s))))

/-- LOCATE is judged in order: a target kind that is none of the three, or a time above 359,999, is BAD-VALUE in every state;
in RECORD, EMPTY and FAULT it is STATE; and a cue index past the table, or a program number that no entry has, is NOT-FOUND.
None of these changes anything (R117, R122, R136). Else the target is the time given, the time of the cue of that index, or
that of the earliest program start of that number, and the locate record is filled, the aim point being the preroll of the
active bank before the target, a locate in progress ending SUPERSEDED; away from the aim point, or without LOCKED time, the
tape winds towards it, FAST when it is more than 250 frames away; at the aim point with LOCKED time it arrives at once: CUED
under HOLD, outcome ARRIVED, MOTION-DONE. The reply is ACCEPTED (R118, R121, R122, R123). From PLAY the neighbours leave play
speed besides, with a scheduled punch-in cancelled under MOTION (R37, R61, R63, R120, R144). The model's readings and choices:
from the aim point without LOCKED time the tape winds FORWARD in phase SLOW, and an arrival at once clears hold awaited (log
entry 11); it keeps the START run, since LOCATE is not entered (log entry 52); reads on their way count as late ones, which
still set T, from an arrival on, and no more once the tape is set moving (a field of the model, log entry 43); and at the
leaving of play speed all WRITING slots are freed (log entries 29 and 38), OLD slots are not turned back to PLAY (log entry
45), and a closed frame is remembered no more (log entry 10). -/
def Obligations.LocateRequest : Prop :=
  ∀ (port : Port) (ticket : Ticket) (body : List Word) (s : State),
    s.quiet → s.stands port .locate ticket body → s.allows port →
    let code := (argWord body 1).toNat
    let argument := argLong body 2
    let refused (status : Status) : Prop :=
      exec (.locate port) s = .next (answered ticket body status [] (popRequest port s))
    (2 < code ∨ code = 0 ∧ 359999 < argument → refused .badValue) ∧
    (code ≤ 2 → (code = 0 → argument ≤ 359999) →
      (s.transport.state = .record ∨ s.transport.state = .empty ∨ s.transport.state = .fault → refused .state) ∧
      (s.transport.state ≠ .record → s.transport.state ≠ .empty → s.transport.state ≠ .fault →
        ∀ kind, (kind = TargetKind.time ∧ code = 0 ∨ kind = .cue ∧ code = 1 ∨ kind = .program ∧ code = 2) →
        (kind = .cue → s.cues.entries.length ≤ argument → refused .notFound) ∧
        (kind = .program → (∀ x ∈ s.cues.entries, x.kind ≠ .programStart argument) → refused .notFound) ∧
        ∀ target, (kind = .time ∧ target = argument ∨
            kind = .cue ∧ (s.cues.entries[argument]?).map (·.time) = some target ∨
            kind = .program ∧
              (s.cues.entries.find? fun x => decide (x.kind = .programStart argument)).map (·.time) = some target) →
          let aim := target - s.activeBank.preroll
          let direction : Direction := if aim < s.decoder.time then .reverse else .forward
          let far : Bool := decide (aim + 250 < s.decoder.time ∨ s.decoder.time + 250 < aim)
          let begun : LocateRecord := { s.transport.locate with
            origin := port.origin
            kind := kind, target := target, preroll := s.activeBank.preroll, aim := aim
            limit := s.activeBank.locateLimit, phase := if far then .fast else .slow, direction := direction
            reversals := 0, elapsedRunning := true, noTimeRunning := true
            lastOutcome := if s.transport.state = .locate then .superseded else s.transport.locate.lastOutcome }
          let moving : Transport := { s.transport with
            state := .locate, demand := .wind direction (if far then .fast else .slow), spinUpRunning := false
            recordPending := false, holdAwaited := false, faultRelease := false, locate := begun }
          let arrived : Transport := { moving with
            state := .cued, demand := .hold
            locate := { begun with phase := .none, elapsedRunning := false, noTimeRunning := false, lastOutcome := .arrived } }
          let winding (d : Decoder) : Decoder := { d with
            readMode := .subcode, lateReads := false
            startRun := if s.transport.state = .wind ∨ s.transport.state = .locate ∨ s.transport.state = .play then d.startRun
              else none }
          let waiting (d : Decoder) : Decoder := { d with readMode := .off, lateReads := true }
          let still (transport : Transport) (decoder : Decoder) : State := { popRequest port s with
            transport := transport, store := { s.store with trim := .normal }, decoder := decoder
            cues := { s.cues with mark := .none } }
          let leaves (transport : Transport) (decoder : Decoder → Decoder) (reports : Reports) : Prop :=
            ∃ t, exec (.locate port) s = .next (answered ticket body .accepted [] t) ∧ s.leavesPlaySpeed t ∧
              t.transport = transport ∧
              t.decoder = decoder { s.decoder with gathering := false, current := none, next := none, closedLast := false } ∧
              t.cues = { s.cues with mark := .none } ∧ t.sequencer = s.sequencer ∧ t.copy.heldTape = s.copy.heldTape ∧
              t.system = (popRequest port s).system ∧ t.link = (popRequest port s).link ∧ t.reports = reports
          (s.decoder.time ≠ aim ∨ s.decoder.status ≠ .locked →
            (s.transport.state ≠ .play → exec (.locate port) s =
              .next (answered ticket body .accepted [] (still moving (winding s.decoder)))) ∧
            (s.transport.state = .play → s.gateAgrees → s.sized →
              leaves moving winding (s.leavingLog 0 .internal s).reports)) ∧
          (s.decoder.time = aim → s.decoder.status = .locked →
            (s.transport.state ≠ .play → exec (.locate port) s =
              .next (answered ticket body .accepted [] (raiseFlag .motionDone (still arrived (waiting s.decoder))))) ∧
            (s.transport.state = .play → s.gateAgrees → s.sized →
              leaves arrived waiting (raiseFlag .motionDone (s.leavingLog 0 .internal s)).reports))))

/-- RECORD and SCHEDULE-PUNCH in every transport state, test by test, with the reply of the first that fails.
RECORD in STOP or CUED begins a spin-up with record pending, and in STARTING sets record pending, PENDING when it is set
already; in PLAY it schedules a punch-in at T + 4 with the active bank's crossfade length and timed flag clear; in WIND, LOCATE,
RECORD, EMPTY and FAULT it is STATE (R118, R140).
SCHEDULE-PUNCH of four words schedules a timed punch-in, and one of six words a punch-out with it, each with the crossfade
length of its choice, 0 to 7, or 8 for the active bank's (R137, R138, R139, R196). It is STATE in EMPTY and FAULT (R118);
BAD-VALUE for another choice or a time above 359,999; PENDING with the gate open, a punch-in scheduled or record pending; STATE
outside PLAY or with the status LOST; LOCKED under a pending switch of rate or tape word length; TOO-LATE for a punch-in before
T + 4; BAD-VALUE for a punch-out not above the last punch-in crossfade frame; and TOO-LATE when that frame is above 359,999 or
the take's last frame is 359,999 or more (R139). RECORD in PLAY passes the tests that bear on it: PENDING, LOCKED, TOO-LATE at
the end of the tape time (R140).
What passes is judged by Copy Control: with the current source field REFUSE it is refused COPY, with one COPY-REFUSALS count,
the COPY condition, COPY-REFUSED and its log entry, and no other effect (R106). What is scheduled changes of the transport only
the trim in its demand, which follows Q as the roles of the slots do (R23, R38); the tracker, the banks, the cue table, the
input, the reports and the copy field stay. That a read on its way from an earlier locate counts as late no more once RECORD sets
the tape moving is the model's choice, log entry 43. That PENDING comes before COPY for RECORD, and STATE before BAD-VALUE in
EMPTY and FAULT, are the model's readings, log entry 26. -/
def Obligations.RecordAndPunchInRequests : Prop :=
  ∀ (port : Port) (ticket : Ticket) (body : List Word) (s : State), s.quiet → s.allows port →
    let refused (c : Instr) (status : Status) : Prop := exec c s = .next (answered ticket body status [] (popRequest port s))
    let copyRefused (c : Instr) : Prop := exec c s = .next (answered ticket body .copy []
      (logEntry .copyRefused s.timeNow port.origin (if s.input.status.valid then 1 else 0)
        (raiseFlag .copyRefused (setCondition .copy (count .copyRefusals 1 (popRequest port s))))))
    let schedules (c : Instr) (p : Punch) (o : Option Punch) : Prop :=
      ∃ t, exec c s = .next (answered ticket body .accepted [] t) ∧
        t.mixer = { s.mixer with punchIn := some p, taken := false, punchOut := o, committed := false } ∧
        t.transport = { s.transport with demand := t.transport.demand } ∧ t.decoder = s.decoder ∧ t.banks = s.banks ∧
        t.cues = s.cues ∧ t.sequencer = s.sequencer ∧ t.input = s.input ∧ t.copy.current = s.copy.current ∧
        t.reports = s.reports ∧ t.conceal = s.conceal ∧ t.system = (popRequest port s).system ∧
        t.link = (popRequest port s).link ∧ (s.storeSound → s.recordSound → s.followsQ t)
    let lastIn (t cross : Nat) : Nat := if cross = 0 then t else t + (cross - 1) / s.activeBank.rate.pairs
    let lastOut (u cross : Nat) : Nat := if cross = 0 then u - 1 else u + (cross - 1) / s.activeBank.rate.pairs
    let chosen (choice cross : Nat) : Prop :=
      [0, 32, 64, 128, 256, 512, 1024, 2048][choice]? = some cross ∨ choice = 8 ∧ cross = s.activeBank.crossfade
    let pending : Prop := s.mixer.gateOpen = true ∨ s.mixer.punchIn.isSome = true ∨ s.transport.recordPending = true
    let locks : Prop := s.banks.pendingSwitch.isSome = true ∧ (s.banks.stagedBank.rate ≠ s.activeBank.rate ∨
      s.banks.stagedBank.tapeWordLength ≠ s.activeBank.tapeWordLength)
    (s.stands port .record ticket body →
      let last := lastIn (s.decoder.time + 4) s.activeBank.crossfade
      (s.transport.state = .wind ∨ s.transport.state = .locate ∨ s.transport.state = .record ∨ s.transport.state = .empty ∨
        s.transport.state = .fault → refused (.record port) .state) ∧
      (s.transport.state = .stop ∨ s.transport.state = .cued →
        (s.copy.current = .refuse → copyRefused (.record port)) ∧
        (s.copy.current ≠ .refuse →
          exec (.record port) s = .next (answered ticket body .accepted [] { popRequest port s with
            transport := { s.transport with
              state := .starting, demand := .playSpeed .normal, spinUpRunning := true, recordPending := true
              recordOrigin := port.origin, holdAwaited := false, faultRelease := false }
            store := { s.store with trim := .normal }
            decoder := { s.decoder with readMode := .subcode, lateReads := false } }))) ∧
      (s.transport.state = .starting →
        (s.transport.recordPending = true → refused (.record port) .pending) ∧
        (s.transport.recordPending = false → s.copy.current = .refuse → copyRefused (.record port)) ∧
        (s.transport.recordPending = false → s.copy.current ≠ .refuse →
          exec (.record port) s = .next (answered ticket body .accepted [] { popRequest port s with
            transport := { s.transport with recordPending := true, recordOrigin := port.origin } }))) ∧
      (s.transport.state = .play →
        (pending → refused (.record port) .pending) ∧
        (¬ pending → locks → refused (.record port) .locked) ∧
        (¬ pending → ¬ locks → 359999 < last → refused (.record port) .tooLate) ∧
        (¬ pending → ¬ locks → last ≤ 359999 → s.copy.current = .refuse → copyRefused (.record port)) ∧
        (¬ pending → ¬ locks → last ≤ 359999 → s.copy.current ≠ .refuse →
          schedules (.record port) ⟨s.decoder.time + 4, s.activeBank.crossfade, false, port.origin⟩ none))) ∧
    (s.stands port .schedulePunch ticket body →
      let c := Instr.schedulePunch port
      let t := argLong body 2
      let u := argLong body 4
      let paired : Prop := body.length = 6
      (s.transport.state = .empty ∨ s.transport.state = .fault → refused c .state) ∧
      (s.transport.state ≠ .empty → s.transport.state ≠ .fault →
        (8 < (argWord body 1).high ∨ 359999 < t ∨ paired ∧ (8 < (argWord body 1).low ∨ 359999 < u) →
          refused c .badValue) ∧
        (∀ crossIn crossOut, chosen (argWord body 1).high crossIn → t ≤ 359999 →
          (paired → chosen (argWord body 1).low crossOut ∧ u ≤ 359999) →
          let early : Prop := t < s.decoder.time + 4
          let overlaps : Prop := paired ∧ u ≤ lastIn t crossIn
          let past : Prop := 359999 < lastIn t crossIn ∨ paired ∧ 359999 ≤ lastOut u crossOut
          (pending → refused c .pending) ∧
          (¬ pending → s.transport.state ≠ .play ∨ s.decoder.status = .lost → refused c .state) ∧
          (¬ pending → s.transport.state = .play → s.decoder.status ≠ .lost →
            (locks → refused c .locked) ∧
            (¬ locks → early → refused c .tooLate) ∧
            (¬ locks → ¬ early → overlaps → refused c .badValue) ∧
            (¬ locks → ¬ early → ¬ overlaps → past → refused c .tooLate) ∧
            (¬ locks → ¬ early → ¬ overlaps → ¬ past → s.copy.current = .refuse → copyRefused c) ∧
            (¬ locks → ¬ early → ¬ overlaps → ¬ past → s.copy.current ≠ .refuse →
              schedules c ⟨t, crossIn, true, port.origin⟩
                (if body.length = 6 then some ⟨u, crossOut, true, port.origin⟩ else none))))))

/-- PUNCH-OUT in each state of R141's table. With the gate open and no punch-out, and with a punch-in scheduled so near that T
+ 4 lies past it, a punch-out is set at max(T + 4, last punch-in crossfade frame + 1), ACCEPTED, or TOO-LATE at the end of the
tape time. With a punch-out set already it is PENDING. A punch-in scheduled at T + 4 or later is cancelled with reason
REQUEST: both punch records are none, the capture and write slots are FREE, PUNCH-CANCELLED is logged at T under the
punch-in's origin, and the reply is DONE (R37, R141, R144). A pending record is called off during the spin-up, logged
PUNCH-CANCELLED, DONE. In any other case it is refused STATE (R118, R141). The trim demand follows Q as the roles of the queued
slots change with the take span (R23, R38). That the entry of a record called off carries frame
time T and the origin of the RECORD request is the model's reading, log entry 26. -/
def Obligations.PunchOutRequest : Prop :=
  ∀ (port : Port) (ticket : Ticket) (body : List Word) (s : State),
    s.quiet → s.stands port .punchOut ticket body → s.allows port →
    (∀ p, (s.transport.state = .record ∧ s.mixer.gateOpen = true ∨
        s.transport.state = .play ∧ s.mixer.gateOpen = false ∧ p.time < s.decoder.time + 4) →
      s.mixer.punchIn = some p → s.mixer.punchOut = none →
      let u := max (s.decoder.time + 4) (p.lastIn s.framePairs + 1)
      (Punch.lastOut ⟨u, s.activeBank.crossfade, false, port.origin⟩ s.framePairs < 359999 →
        ∃ t, exec (.punchOut port) s = .next (answered ticket body .accepted [] t) ∧
          t.mixer = { s.mixer with punchOut := some ⟨u, s.activeBank.crossfade, false, port.origin⟩, committed := false } ∧
          t.transport = { s.transport with demand := t.transport.demand } ∧ t.decoder = s.decoder ∧
          t.sequencer = s.sequencer ∧ t.banks = s.banks ∧ t.reports = s.reports ∧
          (s.storeSound → s.recordSound → s.followsQ t)) ∧
      (359999 ≤ Punch.lastOut ⟨u, s.activeBank.crossfade, false, port.origin⟩ s.framePairs →
        exec (.punchOut port) s = .next (answered ticket body .tooLate [] (popRequest port s)))) ∧
    (s.transport.state = .record ∨ s.transport.state = .play → s.mixer.punchIn.isSome = true → s.mixer.punchOut.isSome = true →
      exec (.punchOut port) s = .next (answered ticket body .pending [] (popRequest port s))) ∧
    (∀ p, s.transport.state = .play → s.mixer.gateOpen = false → s.mixer.taken = false → s.mixer.punchIn = some p →
      s.mixer.punchOut = none → s.decoder.time + 4 ≤ p.time →
      ∃ t, exec (.punchOut port) s = .next (answered ticket body .done [] t) ∧
        t.mixer = { s.mixer with punchIn := none, punchOut := none, committed := false } ∧
        t.transport = { s.transport with demand := t.transport.demand } ∧ t.decoder = s.decoder ∧
        t.sequencer = s.sequencer ∧ t.banks = s.banks ∧ t.copy.latched = false ∧
        t.reports = (logEntry .punchCancelled s.timeNow p.origin 23 s).reports ∧
        (s.storeSound → s.recordSound → s.followsQ t) ∧
        ∀ i < 16, (t.slot i).state ∉ [SlotState.capturing, .captured, .mixed] ∧
          ((t.slot i).state = .concealed → (t.slot i).mixed = false → (t.slot i).role ≠ some .old)) ∧
    (s.transport.state = .starting → s.transport.recordPending = true → s.mixer.punchIn = none →
      exec (.punchOut port) s = .next (answered ticket body .done []
        (logEntry .punchCancelled s.timeNow s.transport.recordOrigin 23
          { popRequest port s with transport := { s.transport with recordPending := false } }))) ∧
    (s.mixer.punchIn = none → s.transport.state ≠ .starting ∨ s.transport.recordPending = false →
      exec (.punchOut port) s = .next (answered ticket body .state [] (popRequest port s)))

/-- STOP in every transport state, whatever the control source and whether a list runs or not: it is DONE, and a running list
halts at once, its entry in progress SKIPPED, LIST-END raised and logged HALTED-BY-STOP under the port's origin (R119, R158).
EMPTY: nothing on the transport. FAULT: left for STOP, or EMPTY without a tape, when the last motion report is STOPPED, else
the fault release is requested (R114). STOP, CUED, STARTING, WIND and LOCATE: STOP under the demand STOP, a locate in progress
ending STOPPED (R63, R110, R121, R134). PLAY: STOP, gathering off, the slots of R37 freed, and a scheduled punch-in cancelled
with reason MOTION (R37, R120, R144). RECORD: the gate closes at once besides, with WRITE-OFF, both punch records none, no
verify entry left, the copy gate open, and PUNCH-OUT raised and logged with argument STOP at T (R56, R61, R103, R150). Choices
of the model in it: a WRITING slot that was being output at a gate's closing is noted for the boundary that follows (log entry
28), all slots that are WRITING are freed, also two (log entry 29), and so is one still being output after the end of a take
when PLAY is left (log entry 38); and the LIST-END of a running list stands in the log before PUNCH-OUT or PUNCH-CANCELLED, an
order that R182 leaves open (log entry 4). The OLD slots on the output queue are freed and not turned back to PLAY, since the
slots are freed before the schedule is cleared, an order that R120 leaves open (log entry 45). Whether a subcode read that is
still on its way counts as a late one is the model's field of log entry 43, which STOP keeps unless it leaves FAULT for EMPTY;
that a decoder off play speed remembers no closed frame is its field of log entry 10. -/
def Obligations.StopRequests : Prop :=
  ∀ (port : Port) (ticket : Ticket) (body : List Word) (s : State),
    s.quiet → s.stands port .stop ticket body → s.gateAgrees → s.sized →
    let v := popRequest port s
    let u : State := if s.sequencer.state = .idle then v else
      logEntry .listEnd s.timeNow port.origin 2 (raiseFlag .listEnd { v with
        sequencer := { s.sequencer with
          entries := s.sequencer.entries.set s.sequencer.current { s.entry s.sequencer.current with
            outcome := .skipped, seen := s.sequencer.conditions, completion := s.timeNow }
          state := .idle, saved := none, waitRemainder := 0, chainCount := 0, lastEnd := .byStop } })
    let stopped : Transport := { s.transport with
      state := .stop, demand := .stop, spinUpRunning := false, recordPending := false, holdAwaited := false
      faultRelease := false
      locate := if s.transport.state = .locate then { s.transport.locate with
        phase := .none, elapsedRunning := false, noTimeRunning := false, lastOutcome := .stopped } else s.transport.locate }
    let still (transport : Transport) : State := { u with
      transport := transport, store := { s.store with trim := .normal }
      decoder := { s.decoder with readMode := .off }, cues := { s.cues with mark := .none } }
    (s.transport.state = .empty → exec (.stop port) s = .next (answered ticket body .done [] u)) ∧
    (s.transport.state = .fault → s.transport.lastReport ≠ some .stopped →
      exec (.stop port) s =
        .next (answered ticket body .done [] { u with transport := { s.transport with faultRelease := true } })) ∧
    (s.transport.state = .fault → s.transport.lastReport = some .stopped →
      exec (.stop port) s = .next (answered ticket body .done []
        { still { stopped with state := if s.transport.tapePresent then .stop else .empty } with
          decoder := { s.decoder with readMode := .off, lateReads := s.decoder.lateReads && s.transport.tapePresent } })) ∧
    (s.transport.state = .stop ∨ s.transport.state = .cued ∨ s.transport.state = .starting ∨ s.transport.state = .wind ∨
      s.transport.state = .locate → exec (.stop port) s = .next (answered ticket body .done [] (still stopped))) ∧
    (s.transport.state = .play ∨ s.transport.state = .record →
      ∃ t, exec (.stop port) s = .next (answered ticket body .done [] t) ∧ t.transport = stopped ∧
        t.coder.current = none ∧ t.coder.verify = [] ∧ t.mixer.gateOpen = false ∧ t.mixer.punchIn = none ∧
        t.mixer.taken = false ∧ t.copy.latched = false ∧
        t.decoder = { s.decoder with
          readMode := .off, gathering := false, current := none, next := none, closedLast := false } ∧
        t.cues = { s.cues with mark := .none } ∧ t.banks = s.banks ∧ t.sequencer = u.sequencer ∧ t.store.trim = .normal ∧
        (∀ i, (t.slot i).state = .free ∨ ((t.slot i).state = .concealed ∧ (t.slot i).role ≠ some .old) ∨
          (t.slot i).state = .playing) ∧
        (s.transport.state = .play → t.output.cut = s.output.cut ∧ (s.mixer.punchIn = none → t.reports = u.reports) ∧
          ∀ p, s.mixer.punchIn = some p → t.mixer.punchOut = none ∧
            t.reports = (logEntry .punchCancelled s.timeNow p.origin 20 u).reports) ∧
        (s.transport.state = .record → t.coder.writeOn = false ∧ t.mixer.punchOut = none ∧
          t.output.cut = (s.output.cut || s.output.playing.any fun i => (s.slot i).state == .writing) ∧
          t.reports = (logEntry .punchOut s.timeNow port.origin 1 (raiseFlag .punchOut u)).reports))

/-- SET-CONTROL: AUTHORITY from the Studio Link; from the System Port BAD-VALUE, or DONE with a CONTROL entry when the control
source changes (R116, R198). A motion request is judged for authority first and for a running list next, before anything of
its own: the port that the control source does not take is answered AUTHORITY, and under each of the three control sources a
port that it takes LIST-ACTIVE while a list runs; nothing else changes (R117). -/
def Obligations.ControlSourceAndAuthority : Prop :=
  (∀ (port : Port) (ticket : Ticket) (body : List Word) (s : State),
    s.quiet → s.stands port .setControl ticket body →
    (port = .link → exec (.setControl port) s = .next (answered ticket body .authority [] (popRequest port s))) ∧
    (port = .system → 2 < (argWord body 1).toNat →
      exec (.setControl port) s = .next (answered ticket body .badValue [] (popRequest port s))) ∧
    (∀ c : ControlSource, port = .system → (argWord body 1).toNat = c.code → c = s.transport.control →
      exec (.setControl port) s = .next (answered ticket body .done [] (popRequest port s))) ∧
    (∀ c : ControlSource, port = .system → (argWord body 1).toNat = c.code → c ≠ s.transport.control →
      exec (.setControl port) s = .next (answered ticket body .done []
        (logEntry .control s.timeNow .system c.code
          { popRequest port s with transport := { s.transport with control := c } })))) ∧
  (∀ (port : Port) (kind : RequestKind) (c : Instr) (ticket : Ticket) (body : List Word) (s : State),
    (kind, c) ∈ [(RequestKind.play, Instr.play port), (.wind, .wind port), (.cueHold, .cueHold port),
      (.locate, .locate port), (.record, .record port), (.schedulePunch, .schedulePunch port),
      (.punchOut, .punchOut port)] →
    s.quiet → s.stands port kind ticket body →
    (s.transport.control = .localOnly ∧ port = .link ∨ s.transport.control = .remote ∧ port = .system →
      exec c s = .next (answered ticket body .authority [] (popRequest port s))) ∧
    (s.transport.control = .both ∨ s.transport.control = .localOnly ∧ port = .system ∨
        s.transport.control = .remote ∧ port = .link → s.sequencer.state ≠ .idle →
      exec c s = .next (answered ticket body .listActive [] (popRequest port s))))

/-! ### Source selection and copy control -/

/-- SELECT-SOURCE, judged in the order of R42: LOCKED in RECORD; BAD-VALUE for another code; the source in force is DONE and
withdraws a pending selection; another source is DONE, and waits while a capture slot is partly filled, else it takes effect at
once. As it takes effect, at once or at the capture boundary that the last pair of the slot brings, the source-lost state is
judged from the held record: ANALOG is never lost, DIGITAL is without lock (NO-LOCK) or at another rate than the active one
(RATE); a state that becomes set or clear sets or clears SOURCE-LOST and is logged at T; and the source field is derived after
it (R44, R98). A field that becomes REFUSE cancels a scheduled punch-in with COPY and is counted, sets COPY, is raised and
logged under INTERNAL (R104, R105). Until the boundary the pairs of the slot come from the old source. The model's readings
and choices: the slot being filled is the oldest CAPTURING one that holds a pair (log entry 26); what withdraws a selection
has no other effect (log entry 27); where no slot follows, the boundary is the end of the slot (log entry 37); SOURCE-LOST and
SOURCE-RESTORED are of origin INTERNAL (log entry 30) and stand first in the log, PUNCH-CANCELLED next (log entry 4). -/
def Obligations.SelectSourceRequest : Prop :=
  ∀ s : State, s.sequencer.handoffs = [] →
    let cause (source : Source) : Option LostCause := match source with
      | .analog => none
      | .digital =>
        if s.input.status.lock = false then some .noLock
        else if s.input.status.rate = some s.activeBank.rate then none else some .rate
    let field (source : Source) : SourceField := match source with
      | .analog => .field s.activeBank.analogCopy
      | .digital =>
        if (cause .digital).isSome then .silent
        else if s.input.status.valid then
          match s.input.status.copyField with
          | some .free => .field .free
          | some .once => .field .none
          | _ => .refuse
        else .refuse
    let chosen (source : Source) (u : State) : State :=
      let v : State := { u with
        input := { s.input with selected := source, pendingSelect := none, lost := cause source }
        copy := { s.copy with current := field source } }
      match s.input.lost, cause source with
      | none, some c => logEntry .sourceLost s.timeNow .internal (if c = .noLock then 0 else 1) (setCondition .sourceLost v)
      | some _, none => logEntry .sourceRestored s.timeNow .internal 0 (clearCondition .sourceLost v)
      | _, _ => v
    (∀ (port : Port) (ticket : Ticket) (body : List Word), s.stands port .selectSource ticket body →
      let replies (status : Status) (t : State) : Prop :=
        exec (.selectSource port) s = .next (answered ticket body status [] t)
      let waiting (pending : Option Source) : State :=
        { popRequest port s with input := { s.input with pendingSelect := pending } }
      (s.input.pendingSelect = none ∨ s.fillingSlot.isSome = true →
        (s.transport.state = .record → replies .locked (popRequest port s)) ∧
        (s.transport.state ≠ .record → 1 < (argWord body 1).toNat → replies .badValue (popRequest port s))) ∧
      (∀ source : Source, s.transport.state ≠ .record →
        argWord body 1 = (match source with
          | .analog => 0#16
          | .digital => 1#16) →
        (source = s.input.selected → replies .done (waiting none)) ∧
        (source ≠ s.input.selected → s.fillingSlot.isSome = true → replies .done (waiting (some source))) ∧
        (source ≠ s.input.selected → s.fillingSlot = none →
          (field source ≠ .refuse ∨ s.copy.current = .refuse ∨ s.mixer.gateOpen = false ∧ s.mixer.punchIn = none →
            replies .done (chosen source (popRequest port s))) ∧
          (∀ p, field source = .refuse → s.copy.current ≠ .refuse → s.sequencer.state = .idle →
            s.mixer.gateOpen = false → s.mixer.taken = false → s.mixer.punchIn = some p →
            let u := logEntry .punchCancelled s.timeNow p.origin 21 (chosen source s)
            ∃ t, replies .done t ∧ t.input = u.input ∧ t.copy.current = .refuse ∧ t.mixer.punchIn = none ∧
              t.mixer.punchOut = none ∧ t.transport.state = s.transport.state ∧ t.decoder = s.decoder ∧
              t.sequencer = (setCondition .copy u).sequencer ∧ t.reports =
                (logEntry .copyRefused s.timeNow .internal (if s.input.status.valid then 1 else 0)
                  (raiseFlag .copyRefused (count .copyRefusals 1 u))).reports)))) ∧
    (∀ (left right : BitVec 24) (i : Nat) (source : Source), s.storeSound → s.input.pendingSelect = some source →
      s.capturingSlot = some i → (s.slot i).pairs ≠ [] →
      ((s.slot i).pairs.length + 1 < (s.slot i).pairCount → ∃ t, exec (.inputPair left right) s = .next t ∧
        t.input = s.input ∧ t.copy.current = s.copy.current) ∧
      ((s.slot i).pairs.length + 1 = (s.slot i).pairCount →
        (∀ k ∈ s.store.captureList, k ≠ i → (s.slot k).state = .capturing → (s.slot k).pairs = []) →
        field source ≠ .refuse ∨ s.sequencer.state = .idle →
        ∃ t, exec (.inputPair left right) s = .next t ∧ t.input = (chosen source s).input ∧
          t.copy.current = field source ∧
          (field source ≠ .refuse → (t.slot i).good = (s.slot i).good ++ [s.input.lost.isNone] ∧
            t.reports = (chosen source s).reports ∧ t.sequencer = (chosen source s).sequencer)))

/-- The current source field follows the selected source, the held record and the lost state (R98): a source status record is
held as a whole, the source-lost state is judged after it, and the field is derived after that. When the source becomes lost,
the condition SOURCE-LOST is set and SOURCE-LOST logged at T with its cause; when it is restored, the condition is cleared and
SOURCE-RESTORED logged; a change of cause alone makes no entry (R44, R159). That both entries are of origin INTERNAL (log
entry 30), and stand before those of a refusal that follows (log entry 4), is the model's choice. A refusal event in a take
latches the copy gate once, counts, sets COPY, raises and logs COPY-REFUSED at T under INTERNAL, and leaves the record gate
and the transport as they are; a second one does nothing (R103, R104). -/
def Obligations.SourceStatusAndRefusal : Prop :=
  (∀ (b : Byte) (s : State), s.quiet → s.sequencer.state = .idle →
    ∃ t, exec (.sourceStatusRecord b) s = .next t ∧
      t.input.status = ⟨b.getLsbD 0, b.getLsbD 1 && b.toNat / 16 % 4 != 3, Rate.ofCode (b.toNat / 4 % 4),
        CopyField.ofCode (b.toNat / 16 % 4)⟩ ∧
      t.input.selected = s.input.selected ∧
      (s.input.selected = .analog → t.input.lost = none ∧ t.copy.current = .field s.activeBank.analogCopy) ∧
      (s.input.selected = .digital →
        (t.input.status.lock = false → t.input.lost = some .noLock ∧ t.copy.current = .silent) ∧
        (t.input.status.lock = true → t.input.status.rate ≠ some s.activeBank.rate →
          t.input.lost = some .rate ∧ t.copy.current = .silent) ∧
        (t.input.status.lock = true → t.input.status.rate = some s.activeBank.rate → t.input.lost = none ∧
          (t.input.status.valid = false → t.copy.current = .refuse) ∧
          (t.input.status.valid = true → t.input.status.copyField = some .free → t.copy.current = .field .free) ∧
          (t.input.status.valid = true → t.input.status.copyField = some .once → t.copy.current = .field .none) ∧
          (t.input.status.valid = true → t.input.status.copyField = some .none → t.copy.current = .refuse))) ∧
      t.banks = s.banks ∧ t.decoder = s.decoder ∧ t.cues = s.cues ∧ t.system = s.system ∧ t.link = s.link ∧
      t.conceal = s.conceal ∧ t.transport.state = s.transport.state ∧
      (let untroubled : Prop :=
          t.copy.current ≠ .refuse ∨ s.copy.current = .refuse ∨
          (s.mixer.gateOpen = false ∧ s.mixer.punchIn = none) ∨ (s.mixer.gateOpen = true ∧ s.copy.latched = true)
       (∀ cause, s.input.lost = none → t.input.lost = some cause →
         t.sequencer.conditions = s.sequencer.conditions ||| 0x20#7 ∧
         t.reports = (logEntry .sourceLost s.timeNow .internal (match cause with
           | .noLock => 0
           | .rate => 1) s).reports) ∧
       (s.input.lost.isSome = true → t.input.lost = none →
         t.sequencer.conditions.getLsbD 5 = false ∧
         ⟨s.reports.nextSequence, .sourceRestored, s.timeNow, .internal, 0⟩ ∈ t.reports.log ∧
         (untroubled → t.sequencer.conditions = s.sequencer.conditions &&& 0x5F#7 ∧
           t.reports = (logEntry .sourceRestored s.timeNow .internal 0 s).reports)) ∧
       (s.input.lost.isSome = t.input.lost.isSome → untroubled →
         t.sequencer.conditions = s.sequencer.conditions ∧ t.reports = s.reports))) ∧
  (∀ s : State, s.mixer.gateOpen = true →
    (s.copy.latched = true → refusalEvent s = s) ∧
    (s.copy.latched = false → refusalEvent s =
      logEntry .copyRefused s.timeNow .internal (if s.input.status.valid then 1 else 0)
        (raiseFlag .copyRefused (setCondition .copy (count .copyRefusals 1
          { s with copy := { s.copy with latched := true } })))))

/-- A pair that is not the last of its capture slot goes to that slot as its next pair, and nothing else changes while the
monitor carries another source: a good pair as it arrived, or a flagged zero pair while the source is lost (R45, R47). With
pair 0 a current source field of FREE, ONCE or NONE is combined into the slot's entry of the input field list, the more
restrictive of the two standing (R99). Without a capture slot to fill, a pair reaches the input monitor alone: with no fade in
progress it leaves the output at unity gain, reduced to the output word length in force (R47, R90, R93, R95; log entry 7). -/
def Obligations.InputPairs : Prop :=
  (∀ (left right : BitVec 24) (i : Nat) (s : State), s.quiet → s.output.source ≠ .input → s.capturingSlot = some i →
    (s.slot i).pairs.length + 1 < (s.slot i).pairCount → i < s.store.slots.length →
    let t := setSlot i { s.slot i with
      pairs := (s.slot i).pairs ++ [if s.input.lost.isSome then Pair.zero else ⟨left.toInt, right.toInt⟩]
      good := (s.slot i).good ++ [s.input.lost.isNone] } s
    ((s.slot i).pairs ≠ [] ∨ (∀ field, s.copy.current ≠ .field field) → exec (.inputPair left right) s = .next t) ∧
    (∀ field, (s.slot i).pairs = [] → s.copy.current = .field field →
      exec (.inputPair left right) s = .next { t with copy := { s.copy with
        inputFields := s.copy.inputFields.map fun e => if e.1 = i then (i, some (match e.2 with
          | none => field
          | some old => if old.code ≤ field.code then field else old)) else e } })) ∧
  (∀ (left right : BitVec 24) (s : State), s.quiet → s.output.source = .input → s.capturingSlot = none →
    s.output.fadesLeft = 0 → s.output.fadeGain = 1024 → 0 ≤ s.output.fadeStep →
    let p : Pair := if s.input.lost.isSome then ⟨0, 0⟩ else ⟨left.toInt, right.toInt⟩
    exec (.inputPair left right) s = .next { s with output := { s.output with
      heldPair := p
      delivered := if s.output.wordLength = .w24 then p else ⟨reduce16 p.left, reduce16 p.right⟩ } })

/-- The last pair of a capture slot: the slot becomes CAPTURED and joins the tail of the write queue (R27), and the Edit Mixer
judges the capture list (R146). While the oldest slot there is of a crossfade frame without its CONCEALED OLD slot, the slot
waits CAPTURED. When the slot is the oldest itself, and its frame is no crossfade frame or has its OLD slot, it is taken at
once and becomes MIXED: it leaves the capture list and the input field list, its copy field is the most restrictive of its
entry, with the copy gate open, and of the OLD slot's field in a crossfade frame whose old material contributes, else FREE
(R28, R101, R102); its pairs are those captured, zeros with the copy gate latched, and in a crossfade frame mixed pair by pair
with the OLD slot's under the gain of R147 (R103, R147); and the OLD slot of the frame is freed (R28, R34). The good flags
stay as captured. In RECORD the trim demand becomes what the table of R39 has for the W that has risen by one, in the store and
in the PLAY-SPEED demand; in any other state it stays, as in PLAY, where the OLD slot freed does not count to Q (R38, R39).
Nothing else changes. -/
def Obligations.CaptureCompletes : Prop :=
  ∀ (left right : BitVec 24) (i f : Nat) (entry : Option CopyField) (s : State), s.quiet → s.storeSound → s.recordSound →
    s.output.source ≠ .input → s.capturingSlot = some i → (s.slot i).pairs ≠ [] →
    (s.slot i).pairs.length + 1 = (s.slot i).pairCount → (s.slot i).frameTime = some f → (i, entry) ∈ s.copy.inputFields →
    let full : Slot := { s.slot i with
      state := .captured
      pairs := (s.slot i).pairs ++ [if s.input.lost.isSome then ⟨0, 0⟩ else ⟨left.toInt, right.toInt⟩]
      good := (s.slot i).good ++ [s.input.lost.isNone] }
    let new : List Pair := if s.copy.latched then full.pairs.map (fun _ => ⟨0, 0⟩) else full.pairs
    let input : Option CopyField := if s.copy.latched then none else entry
    let oldField (k : Nat) : Option CopyField := if (s.slot k).gaps < (s.slot k).pairCount then
      some (((s.slot k).copyField.or s.copy.heldTape).getD .none) else none
    let combined (x y : Option CopyField) : CopyField := match x, y with
      | some a, some b => if a.code ≤ b.code then b else a
      | some a, none => a
      | none, some b => b
      | none, none => .free
    let position (p : Punch) (n : Nat) : Nat := (f - p.time) * s.activeBank.rate.pairs + n
    let gain (n : Nat) : Nat :=
      match s.mixer.punchIn.filter (·.crosses s.framePairs f), s.mixer.punchOut with
      | some p, _ => if position p n < p.cross then 1024 * position p n / p.cross else 1024
      | none, some o => if position o n < o.cross then 1024 - 1024 * (position o n + 1) / o.cross else 0
      | none, none => 1024
    let mix (g : Nat) (x y : Int) : Int := (x * g + y * (1024 - g) + 512) / 1024
    let kept (t : State) : Prop :=
      t = { s with
        store := t.store, copy := { s.copy with inputFields := t.copy.inputFields }
        transport := { s.transport with demand := t.transport.demand } } ∧
      t.store.writeQueue = s.store.writeQueue ++ [i] ∧ t.store.gatherList = s.store.gatherList ∧
      (s.transport.state = .record → t.carries (s.store.trim.afterW (s.store.writeQueue.length + 1))) ∧
      (s.transport.state ≠ .record → s.keepsTrim t) ∧
      ∀ k, k ≠ i → s.oldSlot f ≠ some k → t.slot k = s.slot k
    (∀ h rest, s.store.captureList = h :: rest → s.crossFrame ((s.slot h).frameTime.getD 0) = true →
      s.oldSlot ((s.slot h).frameTime.getD 0) = none →
      ∃ t, exec (.inputPair left right) s = .next t ∧ kept t ∧ t.slot i = full ∧
        t.store.captureList = s.store.captureList ∧ t.store.outputQueue = s.store.outputQueue ∧
        t.copy.inputFields = s.copy.inputFields ∧ ∀ k, k ≠ i → t.slot k = s.slot k) ∧
    (∀ rest, s.store.captureList = i :: rest → (s.crossFrame f = true → (s.oldSlot f).isSome = true) →
      ∃ t, exec (.inputPair left right) s = .next t ∧ kept t ∧ t.store.captureList = rest ∧
        t.copy.inputFields = s.copy.inputFields.filter (fun e => decide (e.1 ≠ i)) ∧
        t.store.outputQueue = s.store.outputQueue.filter (fun k => decide (s.oldSlot f ≠ some k)) ∧
        (∀ k, s.oldSlot f = some k → t.slot k = Slot.freed) ∧
        (s.crossFrame f = false →
          t.slot i = { full with state := .mixed, mixed := false, pairs := new, copyField := some (combined input none) }) ∧
        (∀ k, s.crossFrame f = true → s.oldSlot f = some k →
          t.slot i = { full with
            state := .mixed, mixed := true, copyField := some (combined input (oldField k))
            pairs := new.mapIdx fun n p =>
              let old := (s.slot k).pairs.getD n ⟨0, 0⟩
              ⟨mix (gain n) p.left old.left, mix (gain n) p.right old.right⟩ }))

/-! ### The cue table -/

/-- CUE-REMOVE removes the entry at exactly the time named, or at the index named; without one it is NOT-FOUND, and another
selector is BAD-VALUE. Nothing else changes (R129).
CUE-CLEAR removes every entry and is DONE; the mark record and everything else stay (R130).
CUE-READ returns the number of entries and up to four of them from the index named, and changes nothing; an index above 98 is
BAD-VALUE (R131). -/
def Obligations.CueRemoveClearAndReadRequests : Prop :=
  (∀ (port : Port) (ticket : Ticket) (body : List Word) (s : State),
    s.quiet → s.stands port .cueRemove ticket body → s.cues.ordered →
    (∀ i e, (argWord body 1).toNat = 0 → s.cues.entries[i]? = some e → e.time = argLong body 2 →
      exec (.cueRemove port) s = .next (answered ticket body .done []
        { popRequest port s with cues := { s.cues with entries := s.cues.entries.eraseIdx i } })) ∧
    ((argWord body 1).toNat = 0 → (∀ e ∈ s.cues.entries, e.time ≠ argLong body 2) →
      exec (.cueRemove port) s = .next (answered ticket body .notFound [] (popRequest port s))) ∧
    ((argWord body 1).toNat = 1 → argLong body 2 < s.cues.entries.length →
      exec (.cueRemove port) s = .next (answered ticket body .done []
        { popRequest port s with cues := { s.cues with entries := s.cues.entries.eraseIdx (argLong body 2) } })) ∧
    ((argWord body 1).toNat = 1 → s.cues.entries.length ≤ argLong body 2 →
      exec (.cueRemove port) s = .next (answered ticket body .notFound [] (popRequest port s))) ∧
    (1 < (argWord body 1).toNat →
      exec (.cueRemove port) s = .next (answered ticket body .badValue [] (popRequest port s)))) ∧
  (∀ (port : Port) (ticket : Ticket) (body : List Word) (s : State),
    s.quiet → s.stands port .cueClear ticket body →
    exec (.cueClear port) s =
      .next (answered ticket body .done [] { popRequest port s with cues := { s.cues with entries := [] } })) ∧
  (∀ (port : Port) (ticket : Ticket) (body : List Word) (s : State),
    s.quiet → s.stands port .cueRead ticket body →
    (98 < (argWord body 1).toNat →
      exec (.cueRead port) s = .next (answered ticket body .badValue [] (popRequest port s))) ∧
    ((argWord body 1).toNat ≤ 98 → ∃ data,
      exec (.cueRead port) s = .next (answered ticket body .done
        (BitVec.ofNat 16 s.cues.entries.length :: data) (popRequest port s)) ∧
      data.length = 9 * min 4 (s.cues.entries.length - (argWord body 1).toNat) ∧
      ∀ k, k < 4 → ∀ e, s.cues.entries[(argWord body 1).toNat + k]? = some e →
        (data.drop (9 * k)).take 9 = cueWords ((argWord body 1).toNat + k) e))

/-- CUE-ADD is judged in the order of R128: a label above eight characters is BAD-REQUEST; a time, a kind, a program number of
a PROGRAM-START or a label character out of range is BAD-VALUE; a time that has an entry is DUPLICATE; and a full table is
FULL. Each leaves the table as it is. A request that passes adds its entry at its place in time order, with origin REQUEST,
and the reply carries its index (R127, R128). -/
def Obligations.CueAddRequest : Prop :=
  ∀ (port : Port) (ticket : Ticket) (body : List Word) (s : State),
    s.quiet → s.stands port .cueAdd ticket body → s.cues.ordered →
    let time := argLong body 1
    let high := (argWord body 3).high
    let low := (argWord body 3).low
    let length := (argWord body 4).toNat
    let label := (argLabel body 4).2
    (8 < length → exec (.cueAdd port) s = .next (answered ticket body .badRequest [] (popRequest port s))) ∧
    (length ≤ 8 → (359999 < time ∨ labelOk label = false ∨ 1 < high ∨ high = 0 ∧ (low = 0 ∨ 99 < low)) →
      exec (.cueAdd port) s = .next (answered ticket body .badValue [] (popRequest port s))) ∧
    (∀ kind : CueKind, length ≤ 8 → time ≤ 359999 → labelOk label = true →
      (kind = .cuePoint ∧ high = 1 ∨ ∃ n, kind = .programStart n ∧ high = 0 ∧ low = n ∧ 1 ≤ n ∧ n ≤ 99) →
      (∀ before after, s.cues.entries = before ++ after → (∀ e ∈ before, e.time < time) → (∀ e ∈ after, time < e.time) →
        s.cues.entries.length < 99 →
        exec (.cueAdd port) s = .next (answered ticket body .done [BitVec.ofNat 16 before.length]
          { popRequest port s with cues := { s.cues with
            entries := before ++ ⟨time, kind, .request, label⟩ :: after } })) ∧
      ((∃ e ∈ s.cues.entries, e.time = time) →
        exec (.cueAdd port) s = .next (answered ticket body .duplicate [] (popRequest port s))) ∧
      ((∀ e ∈ s.cues.entries, e.time ≠ time) → s.cues.entries.length = 99 →
        exec (.cueAdd port) s = .next (answered ticket body .full [] (popRequest port s))))

/-- MARK at a time t, or at NOW, the value 0xFFFFFFFE, which stands for T + 1 in STARTING, PLAY and RECORD and for T in every
other state. It is judged in the order of R133: a label above eight characters is BAD-REQUEST; a time above 359,999 or a label
character out of range is BAD-VALUE (a NOW above 359,999 too, the model's reading, log entry 25); a program start at t is
DUPLICATE; and a full table without an entry at t is FULL; each leaves the table, the mark record and the log as they are. Else
the number m is one above the highest program number before t, 99 at most. Where no entry stands at t, a PROGRAM-START entry of
origin REQUEST with the label given takes its place; a CUE-POINT at t becomes PROGRAM-START of origin REQUEST with number m,
its label replaced when one is given. The reply carries m and the entry's index, MARK is logged at t under the port's origin,
and the mark record waits for a start that T has not reached at play speed (R133, R134). -/
def Obligations.MarkRequest : Prop :=
  ∀ (port : Port) (ticket : Ticket) (body : List Word) (s : State),
    s.quiet → s.stands port .mark ticket body → s.cues.ordered →
    let running : Prop := s.transport.state = .starting ∨ s.transport.state = .play ∨ s.transport.state = .record
    let length := (argWord body 4).toNat
    let label := (argLabel body 4).2
    let refused (status : Status) : Prop :=
      exec (.mark port) s = .next (answered ticket body status [] (popRequest port s))
    (8 < length → refused .badRequest) ∧
    (∀ time, (argLong body 1 ≠ 0xFFFFFFFE ∧ time = argLong body 1 ∨
        argLong body 1 = 0xFFFFFFFE ∧ (running ∧ time = s.decoder.time + 1 ∨ ¬ running ∧ time = s.decoder.time)) →
      length ≤ 8 →
      (359999 < time ∨ labelOk label = false → refused .badValue) ∧
      (time ≤ 359999 → labelOk label = true →
        ((∃ x ∈ s.cues.entries, x.time = time ∧ x.kind.isStart = true) → refused .duplicate) ∧
        ((∀ x ∈ s.cues.entries, x.time ≠ time) → s.cues.entries.length = 99 → refused .full) ∧
        (∀ before after entries : List CueEntry, (∀ x ∈ before, x.time < time) → (∀ x ∈ after, time < x.time) →
          let m := min 99 (before.foldl (fun n x => max n x.kind.number) 0 + 1)
          (s.cues.entries = before ++ after ∧ s.cues.entries.length < 99 ∧
              entries = before ++ ⟨time, .programStart m, .request, label⟩ :: after ∨
            ∃ x, s.cues.entries = before ++ x :: after ∧ x.time = time ∧ x.kind = .cuePoint ∧
              entries = before ++ { x with
                kind := .programStart m, origin := .request, label := if label = [] then x.label else label } :: after) →
          exec (.mark port) s = .next (answered ticket body .done [wordOfBytes m before.length]
            (logEntry .mark (some time) port.origin m { popRequest port s with cues := {
              entries := entries
              mark := if running ∧ s.decoder.time < time then .waiting time m else s.cues.mark } })))))

/-- A START marker that reaches the cue table converts an entry of its time, is ignored within nine frames after a program
start, is dropped with a CUE-TABLE-FULL entry, or adds a program start of origin TAPE in time order (R132). -/
def Obligations.StartMarker : Prop :=
  ∀ (time number : Nat) (s : State), s.cues.ordered →
    ((∃ e ∈ s.cues.entries, e.time = time) →
      takeMarker time number s = { s with cues := { s.cues with entries := s.cues.entries.map fun e =>
        if e.time = time then { e with kind := .programStart number, origin := .tape } else e } }) ∧
    ((∀ e ∈ s.cues.entries, e.time ≠ time) →
      ((∃ e ∈ s.cues.entries, e.kind.isStart = true ∧ e.time < time ∧ time ≤ e.time + 9) → takeMarker time number s = s) ∧
      ((∀ e ∈ s.cues.entries, e.kind.isStart = true → e.time < time → e.time + 9 < time) →
        (s.cues.entries.length = 99 → takeMarker time number s = logEntry .cueTableFull (some time) .internal number s) ∧
        (∀ before after, s.cues.entries = before ++ after → (∀ e ∈ before, e.time < time) → (∀ e ∈ after, time < e.time) →
          s.cues.entries.length < 99 →
          takeMarker time number s = { s with cues := { s.cues with
            entries := before ++ ⟨time, .programStart number, .tape, []⟩ :: after } })))

/-! ### The edit list -/

/-- LIST-RUN with a start index above 63 is BAD-VALUE, whatever the sequencer does, and while a list runs LIST-ACTIVE; neither
changes anything (R155). At an END entry, in IDLE: the results and the condition set are emptied, LIST-START is logged, the END
entry is DONE at T, and the list ends END-REACHED with LIST-END raised and logged. The request is ACCEPTED (R155, R156, R158,
R160). At any entry the started list runs its first chain: the start entry is executed in a list that is RUNNING, as the first
of the chain; when it starts an operation it stays in progress and the sequencer is RUNNING or WAITING as it calls for; the
hand-offs of the chain, for entries no longer in progress, are discarded (R154, R156). LIST-HALT: DONE without effect in IDLE;
RUNNING and WAITING become HALTING, ACCEPTED; in HALTING the list ends at once with reason HALTED-BY-REQUEST, the entry in
progress SKIPPED, and LIST-END is raised and logged (R157, R158). The model keeps the port of the LIST-HALT that waits, for the
origin of that entry (log entry 18). -/
def Obligations.ListRunAndHaltRequests : Prop :=
  (∀ (port : Port) (ticket : Ticket) (body : List Word) (s : State),
    s.quiet → s.stands port .listRun ticket body → 63 < (argWord body 1).toNat →
    exec (.listRun port) s = .next (answered ticket body .badValue [] (popRequest port s))) ∧
  (∀ (port : Port) (ticket : Ticket) (body : List Word) (s : State),
    s.quiet → s.sized → s.stands port .listRun ticket body → (argWord body 1).toNat ≤ 63 →
    (s.sequencer.state ≠ .idle → exec (.listRun port) s = .next (answered ticket body .listActive [] (popRequest port s))) ∧
    (s.sequencer.state = .idle → (s.entry (argWord body 1).toNat).kind = 0 →
      exec (.listRun port) s = .next (answered ticket body .accepted []
        (logEntry .listEnd s.timeNow .list 0 (raiseFlag .listEnd (logEntry .listStart s.timeNow port.origin
          (argWord body 1).toNat
          { popRequest port s with sequencer := { s.sequencer with
              entries := (s.sequencer.entries.map fun e =>
                  { e with outcome := .notRun, seen := 0, completion := none, repeats := 0 }).set (argWord body 1).toNat
                { s.entry (argWord body 1).toNat with outcome := .done, seen := 0, completion := s.timeNow, repeats := 0 }
              current := (argWord body 1).toNat, conditions := 0, saved := none, waitRemainder := 0, chainCount := 0
              lastEnd := .endReached } }))))) ∧
    (s.sequencer.state = .idle →
      let started : State := logEntry .listStart s.timeNow port.origin (argWord body 1).toNat
        { popRequest port s with sequencer := { s.sequencer with
            entries := s.sequencer.entries.map fun e => { e with outcome := .notRun, seen := 0, completion := none, repeats := 0 }
            state := .running, current := (argWord body 1).toNat, conditions := 0, saved := none, waitRemainder := 0
            chainCount := 1 } }
      (exec (.listRun port) s = .next (answered ticket body .accepted []
        (beginChain (argWord body 1).toNat { started with sequencer := { started.sequencer with chainCount := 0 } }))) ∧
      (∀ t working, runEntry (argWord body 1).toNat started = (t, .inProgress working) →
        exec (.listRun port) s = .next (answered ticket body .accepted []
          { t with sequencer := { t.sequencer with state := working, handoffs := [] } })))) ∧
  (∀ (port : Port) (ticket : Ticket) (body : List Word) (s : State),
    s.quiet → s.stands port .listHalt ticket body →
    (s.sequencer.state = .idle → exec (.listHalt port) s = .next (answered ticket body .done [] (popRequest port s))) ∧
    (s.sequencer.state = .running ∨ s.sequencer.state = .waiting →
      exec (.listHalt port) s = .next (answered ticket body .accepted [] { popRequest port s with
        sequencer := { s.sequencer with state := .halting, haltPort := port } })) ∧
    (s.sequencer.state = .halting →
      exec (.listHalt port) s = .next (answered ticket body .done []
        (logEntry .listEnd s.timeNow port.origin 1 (raiseFlag .listEnd { popRequest port s with
          sequencer := { s.sequencer with
            entries := s.sequencer.entries.set s.sequencer.current
              { s.entry s.sequencer.current with
                outcome := .skipped, seen := s.sequencer.conditions, completion := s.timeNow }
            state := .idle, saved := none, waitRemainder := 0, chainCount := 0, lastEnd := .byRequest } })))))

/-- LIST-WRITE of one to four entries that fit, with no entry in progress among them: each is kept as written with an initial
result, and every other entry stays; another number of entries is BAD-REQUEST, entries past index 63 are BAD-VALUE, and the
entry in progress among them is LIST-ACTIVE (R152, R153, R169). LIST-READ returns the entries asked for, up to index 63, each
with its index, its fields and its result, and changes nothing; a start above 63 or a number outside 1..4 is BAD-VALUE (R170).
-/
def Obligations.ListWriteAndReadRequests : Prop :=
  (∀ (port : Port) (ticket : Ticket) (body : List Word) (s : State),
    s.quiet → s.sized → s.stands port .listWrite ticket body →
    let start := (argWord body 1).toNat
    let n := (body.length - 2) / 5
    (n = 0 ∨ 4 < n → exec (.listWrite port) s = .next (answered ticket body .badRequest [] (popRequest port s))) ∧
    (1 ≤ n → n ≤ 4 → 64 < start + n →
      exec (.listWrite port) s = .next (answered ticket body .badValue [] (popRequest port s))) ∧
    (1 ≤ n → n ≤ 4 → start + n ≤ 64 → s.sequencer.state ≠ .idle →
      start ≤ s.sequencer.current → s.sequencer.current < start + n →
      exec (.listWrite port) s = .next (answered ticket body .listActive [] (popRequest port s))) ∧
    (1 ≤ n → n ≤ 4 → start + n ≤ 64 →
      (s.sequencer.state = .idle ∨ s.sequencer.current < start ∨ start + n ≤ s.sequencer.current) →
      ∃ entries, exec (.listWrite port) s = .next (answered ticket body .done []
          { popRequest port s with sequencer := { s.sequencer with entries := entries } }) ∧
        entries.length = 64 ∧
        ∀ i < 64, entries[i]? = if start ≤ i ∧ i < start + n then
          some { kind := (argWord body (2 + 5 * (i - start))).high
                 mask := (argWord body (2 + 5 * (i - start))).setWidth 7
                 time := argLong body (3 + 5 * (i - start)), count := (argWord body (5 + 5 * (i - start))).toNat
                 target := (argWord body (6 + 5 * (i - start))).high, choice := (argWord body (6 + 5 * (i - start))).low
                 outcome := .notRun, seen := 0, completion := none, repeats := 0 }
          else s.sequencer.entries[i]?)) ∧
  (∀ (port : Port) (ticket : Ticket) (body : List Word) (s : State),
    s.quiet → s.sized → s.stands port .listRead ticket body →
    let start := (argWord body 1).toNat
    let n := (argWord body 2).toNat
    (63 < start ∨ n = 0 ∨ 4 < n →
      exec (.listRead port) s = .next (answered ticket body .badValue [] (popRequest port s))) ∧
    (start ≤ 63 → 1 ≤ n → n ≤ 4 → ∃ data,
      exec (.listRead port) s = .next (answered ticket body .done data (popRequest port s)) ∧
      data.length = 10 * min n (64 - start) ∧
      ∀ k < n, ∀ e, s.sequencer.entries[start + k]? = some e →
        (data.drop (10 * k)).take 10 = listEntryWords (start + k) e))

/-- The entries of the edit list that act on the list itself, the log, the clock or the cue table, as each is executed. JUMP,
JUMP-IF, CALL, RETURN and REPEAT-IF: where the list goes and the result written, the conditions seen being those before the
clearing; JUMP-IF and REPEAT-IF clear the conditions of their mask in either case (R159, R161, R162, R163). An unknown kind, a
bad target, a nested CALL and a RETURN without a saved index end the list BAD-ENTRY, the entry FAILED (R158). WAIT-TIME: FAILED
with BAD-VALUE past 359,999 or with TIME-LOST while LOST, DONE when T has come, else WAITING. WAIT-FRAMES: DONE for a count of
0, else WAITING with its count as the remainder (R164). NOTE logs its count (R160). MARK adds a program start of origin LIST or
makes one of a cue point, logs it and is DONE, or is FAILED with BAD-VALUE, DUPLICATE or FULL (R133, R134, R160); that its time
0xFFFFFFFE is no NOW but a time above 359,999 like any other, FAILED with BAD-VALUE, is the model's reading, log entry 11. A
FAILED entry is logged LIST-ENTRY-FAILED with its index and reason (R153, R198). Passing on beyond index 63 ends the list
END-REACHED, and a chain whose first 256 entries all pass on ends at the next entry: BAD-ENTRY with cause NO-WAIT, that entry
SKIPPED and not executed (R156, R158). That this entry is the current index and the one named in the log is the model's
reading, log entry 27. -/
def Obligations.FlowEntries : Prop :=
  (∀ (i : Nat) (s : State), s.sized → i < 64 →
    let e := s.entry i
    let met := s.sequencer.conditions &&& e.mask ≠ 0
    let t := (runEntry i s).1
    let goes := (runEntry i s).2
    let passed (outcome : EntryOutcome) : Prop :=
      (t.entry i).outcome = outcome ∧ (t.entry i).seen = s.sequencer.conditions ∧ (t.entry i).completion = s.timeNow
    let cleared : Prop := t.sequencer.conditions = s.sequencer.conditions &&& ~~~ e.mask
    let kept : Prop := t.sequencer.conditions = s.sequencer.conditions
    let bad : Prop := goes = .ended ∧ t.sequencer.lastEnd = .badEntry ∧ t.sequencer.state = .idle ∧ passed .failed ∧ kept
    (e.target ≤ 63 →
      (e.kind = 8 → goes = .goto e.target ∧ passed .done ∧ kept) ∧
      (e.kind = 9 → met → goes = .goto e.target ∧ passed .taken ∧ cleared) ∧
      (e.kind = 9 → ¬ met → goes = .goto (i + 1) ∧ passed .notTaken ∧ cleared) ∧
      (e.kind = 10 → s.sequencer.saved = none →
        goes = .goto e.target ∧ t.sequencer.saved = some (i + 1) ∧ passed .done ∧ kept) ∧
      (e.kind = 10 → s.sequencer.saved ≠ none → bad) ∧
      (e.kind = 12 → met → e.repeats < e.count →
        goes = .goto e.target ∧ passed .taken ∧ (t.entry i).repeats = e.repeats + 1 ∧ cleared) ∧
      (e.kind = 12 → ¬ (met ∧ e.repeats < e.count) →
        goes = .goto (i + 1) ∧ passed .notTaken ∧ (t.entry i).repeats = 0 ∧ cleared)) ∧
    (63 < e.target → e.kind = 8 ∨ e.kind = 9 ∨ e.kind = 10 ∨ e.kind = 12 → bad) ∧
    (14 < e.kind → bad) ∧
    (∀ k, e.kind = 11 → s.sequencer.saved = some k →
      goes = .goto k ∧ t.sequencer.saved = none ∧ passed .done ∧ kept) ∧
    (e.kind = 11 → s.sequencer.saved = none → bad)) ∧
  (∀ (i : Nat) (s : State), s.sized → i < 64 →
    let e := s.entry i
    let ends (outcome : EntryOutcome) (u : State) : State := { u with sequencer := { u.sequencer with
      entries := u.sequencer.entries.set i { u.entry i with
        outcome := outcome, seen := u.sequencer.conditions, completion := u.timeNow } } }
    let finishes (u : State) : Prop := runEntry i s = (ends .done u, .goto (i + 1))
    let fails (reason : Nat) : Prop := runEntry i s =
      (logEntry .listEntryFailed s.timeNow .list (i * 65536 + reason) (ends .failed s), .goto (i + 1))
    (e.kind = 1 →
      (359999 < e.time → fails 6) ∧
      (e.time ≤ 359999 → s.decoder.status = .lost → fails 24) ∧
      (e.time ≤ s.decoder.time → e.time ≤ 359999 → s.decoder.status ≠ .lost → finishes s) ∧
      (s.decoder.time < e.time → e.time ≤ 359999 → s.decoder.status ≠ .lost → runEntry i s = (s, .inProgress .waiting))) ∧
    (e.kind = 2 →
      (e.count = 0 → finishes s) ∧
      (e.count ≠ 0 → runEntry i s =
        ({ s with sequencer := { s.sequencer with waitRemainder := e.count } }, .inProgress .waiting))) ∧
    (e.kind = 13 → finishes (logEntry .note s.timeNow .list e.count s)) ∧
    (e.kind = 7 → s.cues.ordered →
      let mark (m : Nat) : MarkRecord :=
        if (s.transport.state = .starting ∨ s.transport.state = .play ∨ s.transport.state = .record) ∧ s.decoder.time < e.time
        then .waiting e.time m else s.cues.mark
      (359999 < e.time → fails 6) ∧
      (e.time ≤ 359999 → (∃ x ∈ s.cues.entries, x.time = e.time ∧ x.kind.isStart = true) → fails 10) ∧
      (e.time ≤ 359999 → (∀ x ∈ s.cues.entries, x.time ≠ e.time) → s.cues.entries.length = 99 → fails 8) ∧
      (∀ before after, e.time ≤ 359999 → (∀ x ∈ before, x.time < e.time) → (∀ x ∈ after, e.time < x.time) →
        let m := min 99 (before.foldl (fun n x => max n x.kind.number) 0 + 1)
        (s.cues.entries = before ++ after → s.cues.entries.length < 99 →
          finishes (logEntry .mark (some e.time) .list m { s with cues := {
            entries := before ++ ⟨e.time, .programStart m, .list, []⟩ :: after, mark := mark m } })) ∧
        (∀ x, s.cues.entries = before ++ x :: after → x.time = e.time → x.kind = .cuePoint →
          finishes (logEntry .mark (some e.time) .list m { s with cues := {
            entries := before ++ { x with kind := .programStart m, origin := .list } :: after, mark := mark m } }))))) ∧
  (∀ (i k : Nat) (s t : State), i < 64 → 64 ≤ k →
    runEntry i { s with sequencer := { s.sequencer with state := .running, current := i, chainCount := 1 } } = (t, .goto k) →
    beginChain i s = { logEntry .listEnd t.timeNow .list 0 (raiseFlag .listEnd t) with sequencer := { t.sequencer with
      state := .idle, saved := none, waitRemainder := 0, chainCount := 0, lastEnd := .endReached, handoffs := [] } }) ∧
  (∀ (place : Nat → Nat) (path : Nat → State) (s : State),
    path 0 = { s with sequencer := { s.sequencer with state := .running, chainCount := 0 } } →
    (∀ n ≤ 256, place n < 64) →
    (∀ n < 256, runEntry (place n) { path n with sequencer := { (path n).sequencer with
        current := place n, chainCount := (path n).sequencer.chainCount + 1 } } = (path (n + 1), .goto (place (n + 1)))) →
    let k := place 256
    let u := path 256
    beginChain (place 0) s = { logEntry .listEnd u.timeNow .list ((4 * 256 + k) * 65536 + 3) (raiseFlag .listEnd u) with
      sequencer := { u.sequencer with
        entries := u.sequencer.entries.set k { u.entry k with
          outcome := .skipped, seen := u.sequencer.conditions, completion := u.timeNow }
        current := k, state := .idle, saved := none, waitRemainder := 0, chainCount := 0, lastEnd := .badEntry
        handoffs := [] } })

/-- The entries of the edit list that move the tape or punch, as each is executed (R160, R165 to R168). LOCATE: FAILED with
BAD-VALUE, STATE or NOT-FOUND; DONE at once at its aim point; else in progress with the locate record filled under origin LIST
and its count, 250 at most, as the preroll (R122, R165); from PLAY it leaves play speed, as a request does (R37, R120, R144).
ROLL: in progress from CUED with the spin-up begun, and in STARTING; DONE in PLAY; else FAILED with STATE (R166). PUNCH-IN and
PUNCH-OUT: FAILED with the refusal status of R139, R142 or R106, in the order of their tests, else in progress with a timed
punch of origin LIST set, the trim demand following Q (R38, R167, R168). STOP: as R119 has it, DONE; it closes an open gate under origin LIST, and leaves EMPTY
and FAULT as they are (R119, R144, R150, R160). The model's readings and choices in it: from the aim point without LOCKED time
the tape winds FORWARD in phase SLOW, and an arrival at once clears hold awaited (log entry 11) and keeps the START run (log
entry 52); a punch entry with a time or a crossfade choice out of range is BAD-VALUE in EMPTY and FAULT too (log entry 48);
reads on their way count as late ones from an arrival until the tape is set moving (log entry 43); at the leaving of play
speed, what log entries 10, 28, 29, 38 and 45 say. Hand-offs for an entry no longer in progress stand in a field of the model
until the chain is over (log entry 22). -/
def Obligations.MotionEntries : Prop :=
  ∀ (i : Nat) (s : State), s.sized → i < 64 → s.gateAgrees →
    let e := s.entry i
    let ends (outcome : EntryOutcome) (u : State) : State := { u with sequencer := { u.sequencer with
      entries := u.sequencer.entries.set i { u.entry i with
        outcome := outcome, seen := u.sequencer.conditions, completion := u.timeNow } } }
    let finishes (u : State) : Prop := ∃ h, runEntry i s =
      (ends .done { u with sequencer := { s.sequencer with handoffs := h } }, .goto (i + 1))
    let failsFrom (u : State) (reason : Nat) : Prop := runEntry i s =
      (logEntry .listEntryFailed s.timeNow .list (i * 65536 + reason) (ends .failed u), .goto (i + 1))
    let fails (reason : Nat) : Prop := failsFrom s reason
    let still (transport : Transport) (decoder : Decoder) : State := { s with
      transport := transport, store := { s.store with trim := .normal }, decoder := decoder
      cues := { s.cues with mark := .none } }
    let cross : Option Nat := if e.choice = 8 then some s.activeBank.crossfade
      else [0, 32, 64, 128, 256, 512, 1024, 2048][e.choice]?
    let pending : Prop := s.mixer.gateOpen = true ∨ s.mixer.punchIn.isSome = true ∨ s.transport.recordPending = true
    let locks : Prop := s.banks.pendingSwitch.isSome = true ∧ (s.banks.stagedBank.rate ≠ s.activeBank.rate ∨
      s.banks.stagedBank.tapeWordLength ≠ s.activeBank.tapeWordLength)
    let sets (p o : Option Punch) : Prop := ∃ t, runEntry i s = (t, .inProgress .running) ∧
      t.mixer = { s.mixer with punchIn := p, punchOut := o, committed := false } ∧
      t.transport = { s.transport with demand := t.transport.demand } ∧ t.decoder = s.decoder ∧ t.banks = s.banks ∧
      t.cues = s.cues ∧ t.sequencer = s.sequencer ∧ t.input = s.input ∧ t.copy.current = s.copy.current ∧
      t.reports = s.reports ∧ t.conceal = s.conceal ∧ t.system = s.system ∧ t.link = s.link ∧
      (s.storeSound → s.recordSound → s.followsQ t)
    (e.kind = 3 →
      (2 < e.choice ∨ e.choice = 0 ∧ 359999 < e.time → fails 6) ∧
      (e.choice ≤ 2 → (e.choice = 0 → e.time ≤ 359999) →
        (s.transport.state = .record ∨ s.transport.state = .empty ∨ s.transport.state = .fault → fails 3) ∧
        (s.transport.state ≠ .record → s.transport.state ≠ .empty → s.transport.state ≠ .fault →
          ∀ kind, (kind = TargetKind.time ∧ e.choice = 0 ∨ kind = .cue ∧ e.choice = 1 ∨ kind = .program ∧ e.choice = 2) →
          (kind = .cue → s.cues.entries.length ≤ e.time → fails 9) ∧
          (kind = .program → (∀ x ∈ s.cues.entries, x.kind ≠ .programStart e.time) → fails 9) ∧
          ∀ target, (kind = .time ∧ target = e.time ∨ kind = .cue ∧ (s.cues.entries[e.time]?).map (·.time) = some target ∨
            kind = .program ∧ (s.cues.entries.find? fun x => decide (x.kind = .programStart e.time)).map (·.time) = some target) →
          let aim := target - min 250 e.count
          let direction : Direction := if aim < s.decoder.time then .reverse else .forward
          let far : Bool := decide (aim + 250 < s.decoder.time ∨ s.decoder.time + 250 < aim)
          let begun : LocateRecord := { s.transport.locate with
            origin := .list
            kind := kind, target := target, preroll := min 250 e.count, aim := aim
            limit := s.activeBank.locateLimit, phase := if far then .fast else .slow, direction := direction
            reversals := 0, elapsedRunning := true, noTimeRunning := true
            lastOutcome := if s.transport.state = .locate then .superseded else s.transport.locate.lastOutcome }
          let moved : Transport := { s.transport with
            state := .locate, demand := .wind direction (if far then .fast else .slow), spinUpRunning := false
            recordPending := false, holdAwaited := false, faultRelease := false, locate := begun }
          let arrived : Transport := { moved with
            state := .cued, demand := .hold
            locate := { begun with phase := .none, elapsedRunning := false, noTimeRunning := false, lastOutcome := .arrived } }
          let winding (d : Decoder) : Decoder := { d with
            readMode := .subcode, lateReads := false
            startRun := if s.transport.state = .wind ∨ s.transport.state = .locate ∨ s.transport.state = .play then d.startRun
              else none }
          let waiting (d : Decoder) : Decoder := { d with readMode := .off, lateReads := true }
          let leaves (t : State) (transport : Transport) (decoder : Decoder → Decoder) (reports : Reports) : Prop :=
            s.leavesPlaySpeed t ∧ t.transport = transport ∧
            t.decoder = decoder { s.decoder with gathering := false, current := none, next := none, closedLast := false } ∧
            t.cues = { s.cues with mark := .none } ∧ (∃ h, t.sequencer = { s.sequencer with handoffs := h }) ∧
            t.copy.heldTape = s.copy.heldTape ∧ t.system = s.system ∧ t.link = s.link ∧ t.reports = reports
          (s.decoder.time ≠ aim ∨ s.decoder.status ≠ .locked →
            (s.transport.state ≠ .play → ∃ h, runEntry i s =
              ({ still moved (winding s.decoder) with sequencer := { s.sequencer with handoffs := h } },
                .inProgress .running)) ∧
            (s.transport.state = .play → ∃ t, runEntry i s = (t, .inProgress .running) ∧
              leaves t moved winding (s.leavingLog 0 .list s).reports)) ∧
          (s.decoder.time = aim → s.decoder.status = .locked →
            (s.transport.state ≠ .play → finishes (raiseFlag .motionDone (still arrived (waiting s.decoder)))) ∧
            (s.transport.state = .play → ∃ t, runEntry i s = (ends .done t, .goto (i + 1)) ∧
              leaves t arrived waiting (raiseFlag .motionDone (s.leavingLog 0 .list s)).reports))))) ∧
    (e.kind = 4 →
      (s.transport.state = .cued → runEntry i s =
        ({ s with
           transport := { s.transport with
             state := .starting, demand := .playSpeed .normal, spinUpRunning := true, holdAwaited := false
             faultRelease := false }
           store := { s.store with trim := .normal }
           decoder := { s.decoder with readMode := .subcode, lateReads := false } }, .inProgress .running)) ∧
      (s.transport.state = .starting → runEntry i s = (s, .inProgress .running)) ∧
      (s.transport.state = .play → finishes s) ∧
      (s.transport.state ∉ [TransportState.cued, .starting, .play] → fails 3)) ∧
    (e.kind = 5 →
      (cross = none ∨ 359999 < e.time → fails 6) ∧
      (∀ c, cross = some c → e.time ≤ 359999 →
        let past : Prop := e.time < s.decoder.time + 4 ∨
          359999 < if c = 0 then e.time else e.time + (c - 1) / s.activeBank.rate.pairs
        (pending → fails 11) ∧
        (¬ pending → s.transport.state ≠ .play ∨ s.decoder.status = .lost → fails 3) ∧
        (¬ pending → s.transport.state = .play → s.decoder.status ≠ .lost →
          (locks → fails 4) ∧
          (¬ locks → past → fails 14) ∧
          (¬ locks → ¬ past → s.copy.current = .refuse →
            failsFrom (logEntry .copyRefused s.timeNow .list (if s.input.status.valid then 1 else 0)
              (raiseFlag .copyRefused (setCondition .copy (count .copyRefusals 1 s)))) 5) ∧
          (¬ locks → ¬ past → s.copy.current ≠ .refuse →
            sets (some ⟨e.time, c, true, .list⟩) none)))) ∧
    (e.kind = 6 →
      (cross = none ∨ 359999 < e.time → fails 6) ∧
      (∀ c, cross = some c → e.time ≤ 359999 →
        (s.mixer.punchIn = none → fails 3) ∧
        (∀ p, s.mixer.punchIn = some p →
          let early : Prop := e.time ≤ if p.cross = 0 then p.time else p.time + (p.cross - 1) / s.activeBank.rate.pairs
          let last := if c = 0 then e.time - 1 else e.time + (c - 1) / s.activeBank.rate.pairs
          (s.mixer.punchOut.isSome = true → fails 11) ∧
          (s.mixer.punchOut = none → s.decoder.status = .lost → fails 3) ∧
          (s.mixer.punchOut = none → s.decoder.status ≠ .lost →
            (e.time < s.decoder.time + 4 → fails 14) ∧
            (s.decoder.time + 4 ≤ e.time → early → fails 6) ∧
            (s.decoder.time + 4 ≤ e.time → ¬ early → 359999 ≤ last → fails 14) ∧
            (s.decoder.time + 4 ≤ e.time → ¬ early → last < 359999 →
              sets (some p) (some ⟨e.time, c, true, .list⟩)))))) ∧
    (e.kind = 14 →
      let stopped : Transport := { s.transport with
        state := .stop, demand := .stop, spinUpRunning := false, recordPending := false, holdAwaited := false
        faultRelease := false
        locate := if s.transport.state = .locate then { s.transport.locate with
          phase := .none, elapsedRunning := false, noTimeRunning := false, lastOutcome := .stopped } else s.transport.locate }
      (s.transport.state = .empty ∨ s.transport.state = .fault → finishes s) ∧
      (s.transport.state = .stop ∨ s.transport.state = .cued ∨ s.transport.state = .starting ∨ s.transport.state = .wind ∨
        s.transport.state = .locate → finishes (still stopped { s.decoder with readMode := .off })) ∧
      (s.transport.state = .play ∨ s.transport.state = .record → ∃ t h,
        runEntry i s = (ends .done t, .goto (i + 1)) ∧ s.leavesPlaySpeed t ∧ t.transport = stopped ∧
        t.decoder = { s.decoder with
          readMode := .off, gathering := false, current := none, next := none, closedLast := false } ∧
        t.cues = { s.cues with mark := .none } ∧ t.sequencer = { s.sequencer with handoffs := h } ∧
        t.copy.heldTape = s.copy.heldTape ∧ t.reports = (s.leavingLog 1 .list s).reports))

/-! ### Setting banks and reports -/

/-- SET-SETTING of a numeric setting clamps to its range; an enumerated one takes only its values, another being BAD-VALUE; a
rate or a tape word length that differs from the active bank's is LOCKED while a switch is pending with a take in hand; the
staged bank alone is written, and the reply carries the value stored (R173, R174, R192). That RAMP is coded 0 to 2 is the
model's reading of R192, log entry 23. -/
def Obligations.SetSettingRequest : Prop :=
  ∀ (port : Port) (ticket : Ticket) (body : List Word) (s : State),
    s.quiet → s.stands port .setSetting ticket body →
    let name := (argWord body 1).toNat
    let v := (argWord body 2).toNat
    let staged := s.banks.stagedBank
    let stored (b : Bank) (value : Nat) : Prop :=
      exec (.setSetting port) s = .next (answered ticket body .done [BitVec.ofNat 16 value]
        { popRequest port s with banks := (match s.banks.active with
          | .a => { s.banks with bankB := b }
          | .b => { s.banks with bankA := b }) })
    let refused (status : Status) : Prop := exec (.setSetting port) s = .next (answered ticket body status [] (popRequest port s))
    let free : Prop := s.banks.pendingSwitch = none ∨ s.takeInHand = false
    let held : Prop := s.banks.pendingSwitch.isSome = true ∧ s.takeInHand = true
    (10 < name → refused .badValue) ∧
    (∀ r : Rate, name = 0 → v = r.hertz →
      (held → r ≠ s.activeBank.rate → refused .locked) ∧
      (free ∨ r = s.activeBank.rate → stored { staged with rate := r } v)) ∧
    (name = 0 → v ∉ [32000, 44100, 48000] → refused .badValue) ∧
    (∀ w : WordLength, name = 1 → v = w.bits →
      (held → w ≠ s.activeBank.tapeWordLength → refused .locked) ∧
      (free ∨ w = s.activeBank.tapeWordLength → stored { staged with tapeWordLength := w } v)) ∧
    (name = 1 → v ∉ [16, 24] → refused .badValue) ∧
    (name = 2 → v ∈ [0, 32, 64, 128, 256, 512, 1024, 2048] → stored { staged with crossfade := v } v) ∧
    (name = 2 → v ∉ [0, 32, 64, 128, 256, 512, 1024, 2048] → refused .badValue) ∧
    (name = 3 → stored { staged with lmax := min 16 (max 1 v) } (min 16 (max 1 v))) ∧
    (name = 4 → (v = 0 → stored { staged with ramp := 64 } 0) ∧ (v = 1 → stored { staged with ramp := 128 } 1) ∧
      (v = 2 → stored { staged with ramp := 256 } 2) ∧ (2 < v → refused .badValue)) ∧
    (name = 5 → stored { staged with holdover := min 50 (max 1 v) } (min 50 (max 1 v))) ∧
    (name = 6 → stored { staged with verifyThreshold := min 40 (max 0 v) } (min 40 (max 0 v))) ∧
    (name = 7 → (v = 0 → stored { staged with analogCopy := .free } 0) ∧ (v = 1 → stored { staged with analogCopy := .once } 1) ∧
      (1 < v → refused .badValue)) ∧
    (name = 8 → stored { staged with preroll := min 250 (max 0 v) } (min 250 (max 0 v))) ∧
    (name = 9 → stored { staged with locateLimit := min 600 (max 10 v) } (min 600 (max 10 v))) ∧
    (∀ w : WordLength, name = 10 → v = w.bits → stored { staged with outputWordLength := w } v) ∧
    (name = 10 → v ∉ [16, 24] → refused .badValue)

/-- READ-SETTING of one setting or of all, of a bank named by letter or by place, and COPY-BANK (R175): reading changes
nothing, and copying makes the staged bank equal to the active one.
SWITCH-BANK: PENDING while a switch is pending, LOCKED when a take is in hand and the staged rate or tape word length
differs from the active one, else ACCEPTED and pending (R176). -/
def Obligations.BankRequests : Prop :=
  (∀ (port : Port) (ticket : Ticket) (body : List Word) (s : State), s.quiet →
    (s.stands port .readSetting ticket body → ∀ (name : BankName) (n : Nat),
      ((argWord body 1).high = 0 ∧ name = .a ∨ (argWord body 1).high = 1 ∧ name = .b ∨
        (argWord body 1).high = 2 ∧ name = s.banks.active ∨ (argWord body 1).high = 3 ∧ name = s.banks.active.other) →
      (argWord body 1).low = n →
      (∀ x, n < 11 → Setting.inOrder[n]? = some x →
        exec (.readSetting port) s = .next (answered ticket body .done
          [BitVec.ofNat 16 name.code, BitVec.ofNat 16 ((s.banks.bank name).value x)] (popRequest port s))) ∧
      (n = 11 → exec (.readSetting port) s = .next (answered ticket body .done
        (BitVec.ofNat 16 name.code :: Setting.inOrder.map fun x => BitVec.ofNat 16 ((s.banks.bank name).value x))
        (popRequest port s))) ∧
      (11 < n → exec (.readSetting port) s = .next (answered ticket body .badValue [] (popRequest port s)))) ∧
    (s.stands port .readSetting ticket body → 3 < (argWord body 1).high →
      exec (.readSetting port) s = .next (answered ticket body .badValue [] (popRequest port s))) ∧
    (s.stands port .copyBank ticket body →
      exec (.copyBank port) s = .next (answered ticket body .done []
        { popRequest port s with banks := (match s.banks.active with
          | .a => { s.banks with bankB := s.banks.bankA }
          | .b => { s.banks with bankA := s.banks.bankB }) }))) ∧
  (∀ (port : Port) (ticket : Ticket) (body : List Word) (s : State),
    s.quiet → s.stands port .switchBank ticket body →
    let take : Prop := s.mixer.punchIn.isSome = true ∨ s.mixer.gateOpen = true
    let differs : Prop := s.banks.stagedBank.rate ≠ s.banks.activeBank.rate ∨
      s.banks.stagedBank.tapeWordLength ≠ s.banks.activeBank.tapeWordLength
    (s.banks.pendingSwitch ≠ none →
      exec (.switchBank port) s = .next (answered ticket body .pending [] (popRequest port s))) ∧
    (s.banks.pendingSwitch = none → take → differs →
      exec (.switchBank port) s = .next (answered ticket body .locked [] (popRequest port s))) ∧
    (s.banks.pendingSwitch = none → ¬ (take ∧ differs) →
      exec (.switchBank port) s = .next (answered ticket body .accepted []
        { popRequest port s with banks := { s.banks with pendingSwitch := some port } })))

/-- READ-REPORT returns the port's report record and clears that port's counters and pending flags alone; SET-MASK replaces
the port's mask alone, and refuses one with an unassigned bit (R179, R181). LOG-READ returns up to eight entries from a
sequence number on, with the next sequence number and the GAP mark, and READ-IDENT the family code and silicon revision; both
change nothing (R183, R184). The codes of the last locate outcome and of the last end reason in the report record follow the
order of the tables that name them, which is the model's reading of the layouts, log entry 12.
A log entry takes the next sequence number and stands last; the oldest goes when there were 32 (R182).
A reply placed in the System Port's reply queue raises REPLY-READY unless its mask hides it, but for a READ-REPORT's, and
the attention line is raised with it (R171, R180). That the reply BAD-REQUEST to a malformed READ-REPORT, of the same kind code,
raises none either is the model's reading, log entry 23. -/
def Obligations.ReportAndLogRequests : Prop :=
  (∀ (port : Port) (ticket : Ticket) (body : List Word) (s : State), s.quiet →
    (s.stands port .readReport ticket body → ∃ t,
      exec (.readReport port) s = .next (answered ticket body .done (s.reportWords port) t) ∧
      t = { popRequest port s with reports := t.reports } ∧ t.reports.log = s.reports.log ∧
      t.reports.nextSequence = s.reports.nextSequence ∧
      (t.reports.port port).counters = Counters.zero ∧ (t.reports.port port).flags = 0 ∧
      (t.reports.port port).mask = (s.reports.port port).mask ∧
      ∀ other, other ≠ port → t.reports.port other = s.reports.port other) ∧
    (s.stands port .setMask ticket body →
      (2048 ≤ (argWord body 1).toNat →
        exec (.setMask port) s = .next (answered ticket body .badValue [] (popRequest port s))) ∧
      ((argWord body 1).toNat < 2048 → ∃ t, exec (.setMask port) s = .next (answered ticket body .done [] t) ∧
        t = { popRequest port s with reports := t.reports } ∧
        t.reports.port port = { s.reports.port port with mask := (argWord body 1).setWidth 11 } ∧
        t.reports.log = s.reports.log ∧ t.reports.nextSequence = s.reports.nextSequence ∧
        ∀ other, other ≠ port → t.reports.port other = s.reports.port other))) ∧
  (∀ (port : Port) (ticket : Ticket) (body : List Word) (s : State), s.quiet →
    (s.stands port .logRead ticket body →
      (∀ before after, s.reports.log = before ++ after → after ≠ [] → (∀ e ∈ before, e.sequence ≠ (argWord body 1).toNat) →
        (after.head?.map (·.sequence)) = some (argWord body 1).toNat →
        exec (.logRead port) s = .next (answered ticket body .done
          ([BitVec.ofNat 16 s.reports.nextSequence, 0#16, BitVec.ofNat 16 (min 8 after.length)] ++
            (after.take 8).flatMap logWords) (popRequest port s))) ∧
      ((∀ e ∈ s.reports.log, e.sequence ≠ (argWord body 1).toNat) → (argWord body 1).toNat = s.reports.nextSequence →
        exec (.logRead port) s = .next (answered ticket body .done
          [BitVec.ofNat 16 s.reports.nextSequence, 0#16, 0#16] (popRequest port s))) ∧
      ((∀ e ∈ s.reports.log, e.sequence ≠ (argWord body 1).toNat) → (argWord body 1).toNat ≠ s.reports.nextSequence →
        exec (.logRead port) s = .next (answered ticket body .done
          ([BitVec.ofNat 16 s.reports.nextSequence, 1#16, BitVec.ofNat 16 (min 8 s.reports.log.length)] ++
            (s.reports.log.take 8).flatMap logWords) (popRequest port s)))) ∧
    (s.stands port .readIdent ticket body →
      exec (.readIdent port) s = .next (answered ticket body .done [4120#16, 1#16] (popRequest port s)))) ∧
  (∀ (kind : LogKind) (time : Option Nat) (origin : Origin) (argument : Nat) (s : State), s.reports.within →
    (logEntry kind time origin argument s).reports.log =
      (if s.reports.log.length < 32 then s.reports.log else s.reports.log.drop 1) ++
        [⟨s.reports.nextSequence, kind, time, origin, argument⟩] ∧
    (logEntry kind time origin argument s).reports.nextSequence =
      (if s.reports.nextSequence = 65535 then 0 else s.reports.nextSequence + 1) ∧
    (logEntry kind time origin argument s).reports.system = s.reports.system ∧
    (logEntry kind time origin argument s).reports.link = s.reports.link) ∧
  (∀ (tag : Byte) (kind : Word) (status : Status) (data : List Word) (s : State),
    (placeReply ⟨.system, tag⟩ (replyBody kind status data) s).system.replies =
      s.system.replies ++ [replyBody kind status data] ∧
    (kind ≠ 24#16 → s.reports.system.mask.getLsbD 10 = false →
      (placeReply ⟨.system, tag⟩ (replyBody kind status data) s).reports.system.flags.getLsbD 10 = true ∧
      (placeReply ⟨.system, tag⟩ (replyBody kind status data) s).attention = true) ∧
    (kind = 24#16 ∨ s.reports.system.mask.getLsbD 10 = true →
      (placeReply ⟨.system, tag⟩ (replyBody kind status data) s).reports = s.reports))

/-! ### The Studio Link -/

/-- SET-POSITION (R188): from the System Port it is BAD-REQUEST. An unconfigured deck takes a position 1..8 or discards the
request, without a reply. A configured deck whose upstream line is UP answers DONE with the status of both lines and then
clears their error flags, or answers BAD-VALUE. That an unconfigured deck, which sends no reply, does not wait for room in the
upstream transmit queue is the model's choice, log entry 40. -/
def Obligations.SetPositionRequest : Prop :=
  (∀ (ticket : Ticket) (body : List Word) (s : State), s.stands .system .setPosition ticket body →
    exec (.setPosition .system) s = .next (answered ticket body .badRequest [] (popRequest .system s))) ∧
  ∀ (r : LinkRequest) (rest : List LinkRequest) (s : State),
    s.link.requests = r :: rest → r.hop = 0 → requestKind r.body = some .setPosition → s.link.chainReset = none →
    let value := (argWord r.body 1).toNat
    let up := s.link.upstream
    let down := s.link.downstream
    (s.link.position = none → 1 ≤ value → value ≤ 8 →
      exec (.setPosition .link) s = .next { s with link := { s.link with position := some value, requests := rest } }) ∧
    (s.link.position = none → value = 0 ∨ 8 < value →
      exec (.setPosition .link) s = .next { s with link := { s.link with requests := rest } }) ∧
    (∀ p, s.link.position = some p → s.upstreamRoom = true → up.up = true → 1 ≤ value → value ≤ 8 →
      exec (.setPosition .link) s = .next { s with link := { s.link with
        position := some value, requests := rest
        upstreamQueue := s.link.upstreamQueue ++
          [packetBytes 0 true r.tag value [29#16, 0#16, wordOfBytes up.byte down.byte]]
        upstream := { up with hard := false, soft := false, framing := false }
        downstream := { down with hard := false, soft := false, framing := false } } }) ∧
    (∀ p, s.link.position = some p → s.upstreamRoom = true → up.up = true → value = 0 ∨ 8 < value →
      exec (.setPosition .link) s = .next { s with link := { s.link with
        requests := rest, upstreamQueue := s.link.upstreamQueue ++ [packetBytes 0 true r.tag p [29#16, 6#16]] } })

/-- A line becomes UP, or DOWN with its hard error flag set; on either line a packet cut off that has its place counts as a
framing error and once to LINK-ERRORS, and the place is released; the upstream transmit queue is discarded with the upstream
line. A packet that begins on a ready line is given its place at once, and without a free place nothing is received (R186,
R187). Nothing else changes, and a line that is DOWN already stays as it is. What the downstream line's going DOWN
does with a chain reset waiting is said in SendingOnTheLines.
A packet that a reset has caught in reception leaves no trace, whether it ends or is cut off: the model's choice, log entry 16.
A packet of another extent than its length calls for, or of the wrong direction, is a framing error, and one whose check
word disagrees a soft error: it is discarded, its place is released, it counts once to LINK-ERRORS and sets the flag of its
line, or both flags when it has both errors (R186, R187). Which bytes are the check word of a packet of the wrong extent, the
last two, and that nothing arrives on a line that is DOWN, are the model's choices (log entry 16). -/
def Obligations.LineEventsAndBadPackets : Prop :=
  (∀ s : State,
    let up := s.link.upstream
    let down := s.link.downstream
    exec (.lineUp .upstream) s = .next { s with link := { s.link with upstream := { up with up := true } } } ∧
    exec (.lineUp .downstream) s = .next { s with link := { s.link with downstream := { down with up := true } } } ∧
    (up.up = false → exec (.lineDown .upstream) s = .next s) ∧
    (down.up = false → exec (.lineDown .downstream) s = .next s) ∧
    (up.up = true → up.reception = .idle →
      exec (.lineDown .upstream) s = .next { s with link := { s.link with
        upstream := { up with up := false, hard := true }, upstreamQueue := [] } }) ∧
    (up.up = true → up.reception = .placed →
      exec (.lineDown .upstream) s = .next (count .linkErrors 1 { s with link := { s.link with
        upstream := { up with up := false, hard := true, framing := true, reception := .idle }, upstreamQueue := [] } })) ∧
    (up.up = true → up.reception = .dropped →
      exec (.lineDown .upstream) s = .next { s with link := { s.link with
        upstream := { up with up := false, hard := true, reception := .idle }, upstreamQueue := [] } }) ∧
    (s.link.chainReset = none → down.up = true →
      (down.reception = .idle → exec (.lineDown .downstream) s = .next { s with link := { s.link with
        downstream := { down with up := false, hard := true } } }) ∧
      (down.reception = .placed → exec (.lineDown .downstream) s = .next (count .linkErrors 1 { s with link := { s.link with
        downstream := { down with up := false, hard := true, framing := true, reception := .idle } } })) ∧
      (down.reception = .dropped → exec (.lineDown .downstream) s = .next { s with link := { s.link with
        downstream := { down with up := false, hard := true, reception := .idle } } })) ∧
    (up.up = true → up.reception = .idle → s.link.requests.length < 4 →
      exec (.linkPacketBegin .upstream) s = .next { s with link := { s.link with
        upstream := { up with reception := .placed } } }) ∧
    (down.up = true → down.reception = .idle → s.link.upstreamQueue.length < 8 →
      exec (.linkPacketBegin .downstream) s = .next { s with link := { s.link with
        downstream := { down with reception := .placed } } }) ∧
    (up.up = false ∨ up.reception ≠ .idle ∨ 4 ≤ s.link.requests.length →
      exec (.linkPacketBegin .upstream) s = .next s) ∧
    (down.up = false ∨ down.reception ≠ .idle ∨ 8 ≤ s.link.upstreamQueue.length →
      exec (.linkPacketBegin .downstream) s = .next s)) ∧
  (∀ (bytes : List Byte) (s : State),
    let up := s.link.upstream
    let down := s.link.downstream
    let disagrees : Bool := decide (2 ≤ bytes.length) &&
      bytes.drop (bytes.length - 2) != bytesOfWords [checkWord (bytes.take (bytes.length - 2))]
    (up.up = true → up.reception ≠ .dropped → packetExtentOk bytes = false ∨ packetIsReply bytes = true →
      exec (.linkRequestPacket bytes) s = .next (count .linkErrors 1 { s with link := { s.link with
        upstream := { up with framing := true, soft := up.soft || disagrees, reception := .idle } } })) ∧
    (up.up = true → up.reception ≠ .dropped → packetExtentOk bytes = true → packetIsReply bytes = false → disagrees = true →
      exec (.linkRequestPacket bytes) s = .next (count .linkErrors 1 { s with link := { s.link with
        upstream := { up with soft := true, reception := .idle } } })) ∧
    (down.up = true → down.reception ≠ .dropped → packetExtentOk bytes = false ∨ packetIsReply bytes = false →
      exec (.linkReplyPacket bytes) s = .next (count .linkErrors 1 { s with link := { s.link with
        downstream := { down with framing := true, soft := down.soft || disagrees, reception := .idle } } })) ∧
    (down.up = true → down.reception ≠ .dropped → packetExtentOk bytes = true → packetIsReply bytes = true → disagrees = true →
      exec (.linkReplyPacket bytes) s = .next (count .linkErrors 1 { s with link := { s.link with
        downstream := { down with soft := true, reception := .idle } } })) ∧
    (up.up = true → up.reception = .dropped →
      exec (.linkRequestPacket bytes) s = .next { s with link := { s.link with upstream := { up with reception := .idle } } }) ∧
    (down.up = true → down.reception = .dropped →
      exec (.linkReplyPacket bytes) s = .next { s with link := { s.link with downstream := { down with reception := .idle } } }) ∧
    (up.up = false → exec (.linkRequestPacket bytes) s = .next s) ∧
    (down.up = false → exec (.linkReplyPacket bytes) s = .next s))

/-- A request packet laid out as R195 has it, on an upstream line that is UP and with a place given to it at its beginning, is
the request it spells: hop, tag and body reach the tail of the link request queue. So does a reply packet reach the upstream
transmit queue, unchanged, with the upstream line UP (R186, R187, R190, R195). That a request's position byte, whatever its
value, is neither judged nor kept is the model's choice, log entry 41. -/
def Obligations.PacketsArriveWhole : Prop :=
  ∀ (hop : Nat) (tag : Byte) (position : Nat) (body : List Word) (s : State),
    hop ≤ 7 → 1 ≤ body.length → body.length ≤ 64 →
    (s.link.upstream.up = true → s.link.upstream.reception = .placed →
      exec (.linkRequestPacket (packetBytes hop false tag position body)) s = .next { s with link := { s.link with
        upstream := { s.link.upstream with reception := .idle }
        requests := s.link.requests ++ [⟨hop, tag, body⟩] } }) ∧
    (s.link.downstream.up = true → s.link.downstream.reception = .placed → s.link.upstream.up = true →
      exec (.linkReplyPacket (packetBytes hop true tag position body)) s = .next { s with link := { s.link with
        downstream := { s.link.downstream with reception := .idle }
        upstreamQueue := s.link.upstreamQueue ++ [packetBytes hop true tag position body] } })

/-- The head of the link request queue, judged by its hop (R188, R189): with hop above 0 it is sent downstream with the hop
reduced by one once the partner is ready (an operand, log entry 14), or answered NO-ROUTE while the downstream line is DOWN;
an unconfigured deck discards all but SET-POSITION with hop 0; with hop 0 a configured deck takes it as the command of its
kind, for every kind (log entry 2). A chain reset that waits holds back the taking of this deck's own requests alone (R191; log
entry 15). That a request is sent on with position 0, whatever it arrived with, is log entry 41. -/
def Obligations.LinkRouting : Prop :=
  (∀ (r : LinkRequest) (rest : List LinkRequest) (s : State),
    s.link.requests = r :: rest →
    (∀ p, s.link.position = some p → 1 ≤ r.hop → s.link.downstream.up = true →
      exec (.linkRoute true) s = .next { s with link := { s.link with
        requests := rest, sentDownstream := packetBytes (r.hop - 1) false r.tag 0 r.body } } ∧
      exec (.linkRoute false) s = .next s) ∧
    (∀ p ready, s.link.position = some p → 1 ≤ r.hop → s.link.downstream.up = false → s.link.upstream.up = true →
      (s.upstreamRoom = true → exec (.linkRoute ready) s = .next { s with link := { s.link with
        requests := rest
        upstreamQueue := s.link.upstreamQueue ++ [packetBytes 0 true r.tag p [argWord r.body 0, 13#16]] } }) ∧
      (s.upstreamRoom = false → exec (.linkRoute ready) s = .next s)) ∧
    (∀ ready, s.link.position = none → 1 ≤ r.hop ∨ requestKind r.body ≠ some .setPosition →
      exec (.linkRoute ready) s = .next { s with link := { s.link with requests := rest } }) ∧
    (∀ ready, s.link.position = none → r.hop = 0 → requestKind r.body = some .setPosition →
      exec (.linkRoute ready) s = exec (.setPosition .link) s) ∧
    (∀ ready, s.link.chainReset.isSome = true → r.hop = 0 →
      s.link.position.isSome = true ∨ requestKind r.body = some .setPosition → exec (.linkRoute ready) s = .next s)) ∧
  (∀ (r : LinkRequest) (rest : List LinkRequest) (p : Nat) (ready : Bool) (kind : Option RequestKind) (c : Instr) (s : State),
    s.link.requests = r :: rest → s.link.position = some p → r.hop = 0 → requestKind r.body = kind →
    (kind, c) ∈ [(none, Instr.unknownRequestKind .link), (some RequestKind.play, .play .link), (some .wind, .wind .link),
      (some .cueHold, .cueHold .link), (some .locate, .locate .link), (some .record, .record .link),
      (some .schedulePunch, .schedulePunch .link), (some .punchOut, .punchOut .link), (some .stop, .stop .link),
      (some .setControl, .setControl .link), (some .selectSource, .selectSource .link), (some .cueAdd, .cueAdd .link),
      (some .cueRemove, .cueRemove .link), (some .cueClear, .cueClear .link), (some .cueRead, .cueRead .link),
      (some .mark, .mark .link), (some .listRun, .listRun .link), (some .listHalt, .listHalt .link),
      (some .listWrite, .listWrite .link), (some .listRead, .listRead .link), (some .setSetting, .setSetting .link),
      (some .readSetting, .readSetting .link), (some .switchBank, .switchBank .link), (some .copyBank, .copyBank .link),
      (some .readReport, .readReport .link), (some .setMask, .setMask .link), (some .logRead, .logRead .link),
      (some .readIdent, .readIdent .link), (some .resetPart, .resetPart .link), (some .setPosition, .setPosition .link)] →
    exec (.linkRoute ready) s = exec c s)

/-- The head packet of the upstream transmit queue is sent, bytes unchanged, when the line is UP and its partner ready; else it
waits (R190). A waiting chain reset, of either port, is sent downstream as RESET-PART CHAIN with hop 0 and the tag of its
ticket when the line is UP and the partner ready, and the deck's own soft reset follows with its DONE reply, logged with scope
CHAIN; else it waits. That the sending and the reset are one command, so that no packet of the deck below comes between, is the
model's choice (log entry 50). When the downstream line goes DOWN during the wait, nothing is sent and the soft reset follows
at once (R184, R191). The partner's ready is an operand, and the packets last sent are latches of the model (log entries 14, 15
and 21). The T and the place of the PUNCH-CANCELLED entry of a scheduled punch-in, and what a SKIPPED result carries, are the
model's choices (log entries 35 and 39), as is the origin kept for a pending record (log entry 13). -/
def Obligations.SendingOnTheLines : Prop :=
  ∀ s : State,
    (∀ p rest, s.link.upstreamQueue = p :: rest →
      (s.link.upstream.up = true → exec (.upstreamTransmit true) s =
        .next { s with link := { s.link with upstreamQueue := rest, sentUpstream := p } }) ∧
      (∀ ready, s.link.upstream.up = false ∨ ready = false → exec (.upstreamTransmit ready) s = .next s)) ∧
    (∀ ready, s.link.upstreamQueue = [] → exec (.upstreamTransmit ready) s = .next s) ∧
    (∀ ready, s.link.chainReset = none → exec (.chainResetForward ready) s = .next s) ∧
    (∀ ticket, s.link.chainReset = some ticket →
      exec (.chainResetForward false) s = .next s ∧
      (s.link.downstream.up = false → exec (.chainResetForward true) s = .next s) ∧
      (s.link.downstream.up = true →
        (∃ t, exec (.chainResetForward true) s = .next t ∧
          t.link.sentDownstream = packetBytes 0 false ticket.tag 0 [28#16, 1#16] ∧ s.softResetTo ticket 1 t) ∧
        (∃ t, exec (.lineDown .downstream) s = .next t ∧ t.link.sentDownstream = s.link.sentDownstream ∧
          State.softResetTo { s with link := { s.link with downstream := { s.link.downstream with up := false } } }
            ticket 1 t)))

/-! ### The frame pulse and the head channel -/

/-- A pulse with the tape off play speed, no punch, no frame of the record path or the gather list and no list running: the
write command is WRITE-OFF and nothing else changes; a pending bank switch is made first, with its entry, and Copy Control
takes the analog copy field of the new bank (R51, R64, R98, R177). That TIME-LOST is not set again at such a pulse with the
status LOST is the model's reading of R74 and R159, log entry 26. -/
def Obligations.PulseOffPlaySpeed : Prop :=
  ∀ s : State, s.quiet → s.sequencer.state = .idle → s.transport.state.rolling = false → s.decoder.gathering = false →
    s.mixer.gateOpen = false → s.mixer.punchIn = none → s.mixer.punchOut = none → s.coder.current = none →
    s.coder.verify = [] → s.store.captureList = [] → s.store.gatherList = [] → s.copy.latched = false →
    s.input.lost = none →
    (s.banks.pendingSwitch = none → s.decoder.holdover ≤ s.activeBank.holdover →
      exec .framePulse s = .next { s with coder := { s.coder with writeOn := false } }) ∧
    (∀ port, s.banks.pendingSwitch = some port → s.decoder.holdover ≤ s.banks.stagedBank.holdover →
      s.input.selected = .analog →
      exec .framePulse s = .next (logEntry .bankSwitch s.timeNow port.origin s.banks.active.other.code
        { s with
          coder := { s.coder with writeOn := false }
          banks := { s.banks with active := s.banks.active.other, pendingSwitch := none }
          copy := { s.copy with current := .field s.banks.stagedBank.analogCopy } }))

/-- The tape time tracker at a pulse in PLAY or RECORD: T steps by one, from 0 only after a lead-in, up to 359,999. A frame
closed with a valid subcode of the predicted time makes the status LOCKED; one of another time sets T two frames before itself
in PLAY, counts TIME-JUMPS on both ports, is logged TIME-JUMP with the predicted time, and cancels a scheduled punch-in (with
no list running: the chain of a list may set a new one in the same pulse); in RECORD it counts as invalid. After an invalid or
missing frame T steps on: LOCKED and HOLDOVER become HOLDOVER with the count one higher, or, with the count at its limit, LOST,
the TIME-LOST condition set, the flag raised on each port and TIME-LOST logged at T with the limit; UNKNOWN and LOST stay.
Without a frame to close nothing is judged (R64, R72, R73, R74, R75, R144). -/
def Obligations.TapeTimeAtPulse : Prop :=
  ∀ s : State, s.decoder.gathering = true → s.banks.pendingSwitch = none → s.decoder.holdover ≤ s.activeBank.holdover →
    s.transport.state = .play ∨ s.transport.state = .record →
    let stepped := if 0 < s.decoder.leadIn then 0 else min 359999 (s.decoder.time + 1)
    let leadIn := s.decoder.leadIn - 1
    let predicted := min 359999 (stepped + 2 - leadIn)
    let found := s.decoder.current.bind GatherFrame.subcodeTime
    let invalid : Prop := s.decoder.current.isSome = true ∧
      (found = none ∨ s.transport.state = .record ∧ found ≠ some predicted)
    ∃ t, exec .framePulse s = .next t ∧
      (found = some predicted →
        t.decoder.time = stepped ∧ t.decoder.leadIn = leadIn ∧ t.decoder.status = .locked ∧ t.decoder.holdover = 0) ∧
      (found = none ∨ s.transport.state = .record → t.decoder.time = stepped ∧ t.decoder.leadIn = leadIn) ∧
      (∀ v, found = some v → v ≠ predicted → s.transport.state = .play →
        t.decoder.time = v - 2 ∧ t.decoder.leadIn = 2 - v ∧ t.decoder.status = .locked ∧ t.decoder.holdover = 0 ∧
        (∀ port, (t.reports.port port).counters.timeJumps = min 255 ((s.reports.port port).counters.timeJumps + 1)) ∧
        (s.sequencer.state = .idle → s.mixer.gateOpen = false → s.mixer.taken = false → t.mixer.punchIn = none) ∧
        (s.quiet → s.sequencer.state = .idle → s.coder.verify.length ≤ 3 →
          ∃ e ∈ t.reports.log, e.kind = .timeJump ∧ e.time = some v ∧ e.origin = .internal ∧ e.argument = predicted)) ∧
      (s.decoder.current = none ∨ invalid ∧ (s.decoder.status = .unknown ∨ s.decoder.status = .lost) →
        t.decoder.status = s.decoder.status ∧ t.decoder.holdover = s.decoder.holdover) ∧
      (invalid → s.decoder.status = .locked ∨ s.decoder.status = .holdover →
        (s.decoder.holdover < s.activeBank.holdover →
          t.decoder.status = .holdover ∧ t.decoder.holdover = s.decoder.holdover + 1) ∧
        (s.decoder.holdover = s.activeBank.holdover →
          t.decoder.status = .lost ∧ t.decoder.holdover = s.activeBank.holdover ∧
          (∀ port, (s.reports.port port).mask.getLsbD 6 = false → (t.reports.port port).flags.getLsbD 6 = true) ∧
          (s.quiet → s.sequencer.state = .idle → t.sequencer.conditions.getLsbD 4 = true ∧
            (s.coder.verify.length ≤ 3 → ∃ e ∈ t.reports.log, e.kind = .timeLost ∧ e.time = some stepped ∧
              e.origin = .internal ∧ e.argument = s.activeBank.holdover))))

/-- The Edit Mixer at a pulse: the gate opens in PLAY at the tape time of the punch-in, with the transport in RECORD, PUNCH-IN
raised on each port and logged at the frame under the punch's origin with its crossfade length; it closes when T is one past
the last frame of the take, with both records none, the transport in PLAY, and PUNCH-OUT raised on each port and logged at
that frame (R120, R148, R149). At any other time nothing happens. So at a frame pulse in PLAY, with the time confirmed or held
over, the gate opens when the step of the tape time makes T the punch-in's time, and stays closed otherwise; in RECORD it
closes when the step makes T one past the last frame, and stays open otherwise, with a punch-out or without (R64, R72, R148,
R149). A punch-out of time u becomes committed at the pulse that makes T + 2 u or more, before the gate opens or while it is
open, and nothing else of the punch records changes at a pulse that does not close the gate (R142), but for one case: a pulse
at which the time is lost in RECORD withdraws a timed punch-out that is not committed and has T + 2 below u. It is none then,
PUNCH-CANCELLED is logged under its origin with the reason TIME, and the gate stays open (R74, R75, R145). -/
def Obligations.RecordGateAtPulse : Prop :=
  (∀ s : State,
    (∀ p, s.mixer.gateOpen = false → s.mixer.punchIn = some p → s.transport.state = .play →
      (s.decoder.time ≠ p.time → pulseGate s = s) ∧
      (s.decoder.time = p.time →
        (pulseGate s).mixer = { s.mixer with taken := true, gateOpen := true } ∧
        (pulseGate s).transport.state = .record ∧ (pulseGate s).decoder.time = s.decoder.time ∧
        (pulseGate s).reports.log.getLast? = some ⟨s.reports.nextSequence, .punchIn, some p.time, p.origin, p.cross⟩ ∧
        ∀ port, (s.reports.port port).mask.getLsbD 2 = false →
          ((pulseGate s).reports.port port).flags.getLsbD 2 = true)) ∧
    (∀ o, s.mixer.gateOpen = true → s.mixer.punchOut = some o → s.transport.state = .record →
      (s.decoder.time ≠ o.lastOut s.framePairs + 1 → pulseGate s = s) ∧
      (s.decoder.time = o.lastOut s.framePairs + 1 →
        (pulseGate s).mixer = { s.mixer with
          punchIn := none, taken := false, punchOut := none, committed := false, gateOpen := false } ∧
        (pulseGate s).transport.state = .play ∧ (pulseGate s).decoder.gathering = s.decoder.gathering ∧
        (pulseGate s).copy.latched = false ∧
        (pulseGate s).reports.log.getLast? =
          some ⟨s.reports.nextSequence, .punchOut, some (o.lastOut s.framePairs), o.origin, 0⟩ ∧
        ∀ port, (s.reports.port port).mask.getLsbD 3 = false →
          ((pulseGate s).reports.port port).flags.getLsbD 3 = true))) ∧
  (∀ s : State, s.quiet → s.sequencer.state = .idle → s.gateAgrees → s.readingAgrees → s.banks.pendingSwitch = none →
    s.decoder.holdover ≤ s.activeBank.holdover → s.coder.verify.length ≤ 3 →
    let stepped := if 0 < s.decoder.leadIn then 0 else min 359999 (s.decoder.time + 1)
    let predicted := min 359999 (stepped + 2 - (s.decoder.leadIn - 1))
    let found := s.decoder.current.bind GatherFrame.subcodeTime
    let logged (t : State) (kind : LogKind) (time : Nat) (origin : Origin) (argument : Nat) : Prop :=
      ∃ e ∈ t.reports.log, e.kind = kind ∧ e.time = some time ∧ e.origin = origin ∧ e.argument = argument
    let due : Prop := ∃ o ∈ s.mixer.punchOut, o.time ≤ stepped + 2
    let stays (t : State) : Prop :=
      (due → t.mixer = { s.mixer with committed := true }) ∧ (¬ due → t.mixer = s.mixer)
    (∀ p, s.transport.state = .play → s.mixer.punchIn = some p →
      found = some predicted ∨ found = none ∧ s.decoder.holdover < s.activeBank.holdover →
      ∃ t, exec .framePulse s = .next t ∧
        (stepped ≠ p.time → stays t ∧ t.mixer.gateOpen = false ∧ t.transport.state = .play) ∧
        (stepped = p.time →
          (due → t.mixer = { s.mixer with taken := true, gateOpen := true, committed := true }) ∧
          (¬ due → t.mixer = { s.mixer with taken := true, gateOpen := true }) ∧
          t.transport.state = .record ∧ t.decoder.time = p.time ∧ logged t .punchIn p.time p.origin p.cross ∧
          ∀ port, (s.reports.port port).mask.getLsbD 2 = false → (t.reports.port port).flags.getLsbD 2 = true)) ∧
    (∀ o, s.transport.state = .record → s.mixer.punchOut = some o →
      let loses : Prop := s.decoder.current.isSome = true ∧ found ≠ some predicted ∧
        (s.decoder.status = .locked ∨ s.decoder.status = .holdover) ∧ s.decoder.holdover = s.activeBank.holdover
      let withdrawn : Prop := loses ∧ o.timed = true ∧ s.mixer.committed = false ∧ stepped + 2 < o.time
      ∃ t, exec .framePulse s = .next t ∧ t.decoder.time = stepped ∧
        (withdrawn → t.mixer = { s.mixer with punchOut := none } ∧ t.transport.state = .record ∧
          logged t .punchCancelled stepped o.origin 22) ∧
        (¬ withdrawn → stepped ≠ o.lastOut s.framePairs + 1 →
          stays t ∧ t.mixer.gateOpen = true ∧ t.transport.state = .record) ∧
        (stepped = o.lastOut s.framePairs + 1 →
          t.mixer = { s.mixer with
            punchIn := none, taken := false, punchOut := none, committed := false, gateOpen := false } ∧
          t.transport.state = .play ∧ t.decoder.gathering = true ∧ t.copy.latched = false ∧
          logged t .punchOut (o.lastOut s.framePairs) o.origin 0 ∧
          ∀ port, (s.reports.port port).mask.getLsbD 3 = false → (t.reports.port port).flags.getLsbD 3 = true)) ∧
    (s.transport.state = .record → s.mixer.punchOut = none →
      ∃ t, exec .framePulse s = .next t ∧ t.mixer = s.mixer ∧ t.mixer.gateOpen = true ∧ t.transport.state = .record))

/-- A frame pulse in PLAY or RECORD closes the frame that was current and aims at the next two. What is read from the blocks
held: the subcode is the first valid record of the copies A72 to A75, B72 to B75; a data block that is the one bad block of its
group is rebuilt; a pair is read from its good or rebuilt block, else it is a flagged zero pair; and the tally counts the
blocks held as good, one block rebuilt for each such group, the rest as lost (R3, R8 to R10, R12, R13, R68 to R70). The slot of
the frame becomes CORRECTED, with the time, format, copy field and START flag of a valid record, or the named time and the
active format without one; at a foreign rate it is not unpacked, its pairs zeros and flagged (R31, R68). Its role is set again
when its time or the take span has changed (R23, R31). Blocks rebuilt are counted on both ports (R69). A valid record gives the
held tape field, the mismatch rate with its FORMAT-MISMATCH entry, and the START run, and its START marker goes to the cue
table under the three conditions of R71; an invalid one, a missing frame and no frame leave all four (R67, R68, R71, R100). The
slot closed before it, its successor now CORRECTED, leaves the gather list; one without a successor stays there when it is
alone (R32). Then the frame that was next becomes the current one, aimed at E by the table of R65, and a fresh one follows it,
but for E 359,999. The banks are those after the pulse. Fields of the model's own keep the settings of the close and whether
the pulse before closed a frame (log entry 10). -/
def Obligations.FrameClosedAtPulse : Prop :=
  (∀ (tag : Nat) (held : List HeldBlock) (fmt : Format),
    let kept (track : Track) (p : Nat) : Option (List Byte) :=
      (held.find? fun h => decide (h.track = track ∧ h.position = p)).map (·.payload)
    let copy (k : Nat) : Option Subcode := (kept (if k < 4 then .a else .b) (72 + k % 4)).bind (subcodeOf tag)
    let block (track : Track) (g j : Nat) : Option (List Byte) := kept track (8 * j + (g + tag) % 8)
    let data (track : Track) (g j : Nat) : Option (List Byte) := match block track g j with
      | some payload => some payload
      | none => if (List.range 9).all fun l => l == j || (block track g l).isSome then
          some (xorPayloads ((List.range 9).filterMap (block track g))) else none
    let good := ([Track.a, .b].flatMap fun track => (List.range 76).filter fun p => (kept track p).isSome).length
    let rebuilt := ([Track.a, .b].flatMap fun track => (List.range 8).filter fun g => (block track g 8).isSome &&
      decide (((List.range 8).filter fun j => (block track g j).isNone).length = 1)).length
    let per : Nat := match fmt.wordLength with
      | .w24 => 16
      | .w16 => 24
    (∀ k < 8, ∀ r, copy k = some r → (∀ l < k, copy l = none) → selectSubcode tag held = some r) ∧
    ((∀ k < 8, copy k = none) → selectSubcode tag held = none) ∧
    frameTally tag held = ⟨good, rebuilt, 152 - good - rebuilt⟩ ∧
    framePairs fmt tag held = (List.range fmt.rate.pairs).map fun n =>
      match data (if n % 2 = 0 then .a else .b) (n / 2 % 8) (n / 16 / per) with
      | some payload => (pairOfPayload fmt.wordLength payload (n / 16 % per * (96 / per)), true)
      | none => (⟨0, 0⟩, false)) ∧
  (∀ s : State, s.quiet → s.sequencer.state = .idle → s.transport.state = .play ∨ s.transport.state = .record →
    s.gateAgrees → s.readingAgrees → s.storeSound → s.coder.verify.length ≤ 3 →
    ∃ t, exec .framePulse s = .next t ∧
      let bank := t.activeBank
      let unchanged : Prop := t.copy.heldTape = s.copy.heldTape ∧ t.decoder.startRun = s.decoder.startRun ∧
        t.decoder.mismatch = s.decoder.mismatch ∧ t.cues.entries = s.cues.entries
      let silent : Prop := ∀ l ∈ t.reports.log, l.kind = .formatMismatch → l ∈ s.reports.log
      let counted (n : Nat) : Prop := ∀ port, (t.reports.port port).counters.blocksRebuilt =
        if n = 0 then (s.reports.port port).counters.blocksRebuilt
        else min 255 ((s.reports.port port).counters.blocksRebuilt + n)
      let inSpan (u : State) (f : Nat) : Prop := ∃ p, u.mixer.punchIn = some p ∧ p.time ≤ f ∧ f ≤ 359999 ∧
        ∀ o, u.mixer.punchOut = some o → f ≤ if o.cross = 0 then o.time - 1 else o.time + (o.cross - 1) / bank.rate.pairs
      (s.decoder.current.bind (·.slot) = none → unchanged ∧ silent ∧ counted 0) ∧
      (∀ g i, s.decoder.current = some g → g.slot = some i →
        let r := selectSubcode g.tag g.held
        let time : Nat := match r with
          | some x => x.time
          | none => g.time
        let closed (fmt : Format) (stream : List (Pair × Bool)) (tally : Tally) : Slot := { s.slot i with
          state := .corrected, role := (t.slot i).role, frameTime := some time, format := some fmt
          copyField := r.map (·.copyField), subcodeValid := r.isSome, start := r.any (·.start)
          pairCount := fmt.rate.pairs, pairs := stream.map (·.1), good := stream.map (·.2), tally := tally
          closeLmax := bank.lmax, closeRamp := bank.ramp }
        let unpacked (fmt : Format) : Prop :=
          t.slot i = closed fmt (framePairs fmt g.tag g.held) (frameTally g.tag g.held) ∧
          counted (frameTally g.tag g.held).rebuilt
        let kept : Prop := t.mixer.punchIn = s.mixer.punchIn ∧ t.mixer.punchOut = s.mixer.punchOut ∧
          t.mixer.gateOpen = s.mixer.gateOpen
        i ∈ t.store.gatherList ∧
        (kept → (s.slot i).frameTime = some time → (t.slot i).role = (s.slot i).role) ∧
        (kept ∧ (s.slot i).frameTime ≠ some time ∨ ¬ kept ∧ (s.slot i).mixed = false →
          (inSpan t time → (t.slot i).role = some .old) ∧ (¬ inSpan t time → (t.slot i).role = some .play)) ∧
        (r = none → unpacked ⟨bank.rate, bank.tapeWordLength⟩ ∧ unchanged ∧ silent) ∧
        (∀ x, r = some x →
          let marker : Prop := x.start = true ∧ s.decoder.startRun ≠ some x.program ∧
            (s.transport.state = .play ∨ ¬ inSpan s x.time)
          (x.rate = bank.rate → unpacked ⟨x.rate, x.wordLength⟩ ∧ t.decoder.mismatch = none ∧ silent) ∧
          (x.rate ≠ bank.rate →
            t.slot i = { closed ⟨x.rate, x.wordLength⟩ (List.replicate x.rate.pairs (⟨0, 0⟩, false))
              ⟨g.held.length, 0, 152 - g.held.length⟩ with good := [] } ∧ counted 0 ∧
            t.decoder.mismatch = some x.rate ∧ (s.decoder.mismatch = some x.rate → silent) ∧
            (s.decoder.mismatch ≠ some x.rate → ∃ l ∈ t.reports.log, l.kind = .formatMismatch ∧ l.time = some x.time ∧
              l.origin = .internal ∧ l.argument = match x.rate with
                | .r32 => 1
                | .r44 => 2
                | .r48 => 3)) ∧
          t.copy.heldTape = some x.copyField ∧ t.decoder.startRun = (if x.start then some x.program else none) ∧
          (marker → t.cues.entries = (takeMarker x.time x.program s).cues.entries) ∧
          (¬ marker → t.cues.entries = s.cues.entries)) ∧
        (∀ k, s.correctedSlots = [k] →
          (s.decoder.closedLast = true → k ∉ t.store.gatherList) ∧
          (s.decoder.closedLast = false → (s.slot k).hasSuccessor = false → k ∈ t.store.gatherList))) ∧
      (let e := min 359999 (t.decoder.time + 3 - t.decoder.leadIn)
       let fresh : GatherFrame := ⟨e % 256, e, none, false, []⟩
       (s.decoder.next = none → t.decoder.current = some fresh) ∧
       (∀ n, s.decoder.next = some n →
         (n.tag = e % 256 → t.decoder.current = some { n with time := e }) ∧
         (n.tag ≠ e % 256 → n.slot = none → t.decoder.current = some fresh) ∧
         (∀ k, n.tag ≠ e % 256 → n.slot = some k →
           (t.decoder.status = .locked → t.decoder.current = some fresh ∧ k ∉ t.store.gatherList) ∧
           (t.decoder.status ≠ .locked → t.decoder.current = some { n with time := e }))) ∧
       (∀ c, t.decoder.current = some c →
         t.decoder.next = (if e = 359999 then none else some ⟨(c.tag + 1) % 256, e + 1, none, false, []⟩) ∧
         ∀ k, c.slot = some k → t.slot k = { s.slot k with frameTime := some e, role := (t.slot k).role })))

/-- The write window and the capture slot of a frame pulse, T stepping to f, with a punch-out or none: as the gate opens in PLAY,
in RECORD, and as it closes, with f one past L (R148, R149).
With the gate open after the pulse, the MIXED slot of frame f becomes WRITING, WRITE-ON with its supply at block 0, its subcode
assembled with the marking of R135, and a verify entry added at the tail (log entry 42); the mark record is then as R135 has it
(ARMED before t answers no marking and stays, log entry 31). Without such a slot the frame is write-late: a CAPTURING or CAPTURED
slot of it is freed, WRITE-OFF, WRITE-LATE logged with cause 0, or 1 without a slot; this is said where no waiting CAPTURED head
can be mixed before the window (log entry 4, which also has WRITE-LATE last in the log). The OLD slots of f leave the output
queue. The trim follows the table of R39 on the W that stands as the window opens, from NORMAL as the gate opens, and once more on
the W that the frame's slot leaves.
A FREE slot opens CAPTURING for f + 2, its input field empty, where f + 2 lies in the take span, which ends with L; past its end
none opens. A timed punch-out withdrawn at the pulse ends it no more (R23, R26, R99, R142, R145).
A window still open is cut, WRITE-LATE cause 2, its supply done, and is current no more (R55; log entry 51). As the gate closes
there is no window: WRITE-OFF, the slots of the record path FREE but for WRITING ones, none opened, the trim NORMAL (R37, R38,
R51, R120, R149). Without a window the mark record is checked alone.
In PLAY before a scheduled punch-in the pulse is WRITE-OFF, checks the mark record, and opens the slot for T + 2 likewise when that
frame lies in the take span and has none; with no FREE slot, and none becoming free, none opens (R26, R51, R64, R72, R135). Its
trim stays with nothing CORRECTED, and follows the table of R38 with one slot that then joins the output queue. -/
def Obligations.WindowsAtPulse : Prop :=
  (∀ s : State, s.quiet → s.sequencer.state = .idle → s.gateAgrees → s.readingAgrees →
    s.storeSound → s.recordSound → s.banks.pendingSwitch = none → s.decoder.holdover ≤ s.activeBank.holdover →
    s.decoder.leadIn = 0 →
    let f := min 359999 (s.decoder.time + 1)
    let last (o : Punch) : Nat := if o.cross = 0 then o.time - 1 else o.time + (o.cross - 1) / s.activeBank.rate.pairs
    let found := s.decoder.current.bind GatherFrame.subcodeTime
    let predicted := min 359999 (f + 2)
    let w := s.store.writeQueue.length
    let onRecordPath (u : State) (i : Nat) : Prop := (u.slot i).state = .capturing ∨ (u.slot i).state = .captured
    let logged (u : State) (cause : Nat) : Prop := u.reports.log.getLast?.map (fun e => (e.kind, e.time, e.origin, e.argument)) =
      some (LogKind.writeLate, some f, Origin.internal, cause)
    let checked : MarkRecord := match s.cues.mark with
      | .none => .none
      | .waiting x m => if x < f then .none else .waiting x m
      | .armed x m => if x + 9 < f then .none else .armed x m
    let isCut (t : State) : Prop := ∀ w, s.coder.current = some w → s.coder.sequence < 152 →
      (∃ e ∈ t.reports.log, e.kind = .writeLate ∧ e.time = some w.time ∧ e.origin = .internal ∧ e.argument = 2) ∧
      ((s.slot w.slot).monitor ≠ .finished → t.slot w.slot = { s.slot w.slot with supplyDone := true }) ∧
      ((s.slot w.slot).monitor = .finished → (t.slot w.slot).state ≠ .writing)
    let opens : Prop := s.transport.state = .play ∧ (∃ p ∈ s.mixer.punchIn, p.time = f) ∧
      (∀ o ∈ s.mixer.punchOut, f < o.time) ∧
      (found = some predicted ∨ found = none ∧ s.decoder.holdover < s.activeBank.holdover)
    let runs : Prop := s.transport.state = .record ∧ (∀ p ∈ s.mixer.punchIn, p.time ≤ f) ∧
      ∀ o ∈ s.mixer.punchOut, f ≠ last o + 1
    let withdrawn : Prop := s.transport.state = .record ∧ s.mixer.committed = false ∧
      (∃ o ∈ s.mixer.punchOut, o.timed = true ∧ f + 2 < o.time) ∧ s.decoder.current.isSome = true ∧ found ≠ some predicted ∧
      (s.decoder.status = .locked ∨ s.decoder.status = .holdover) ∧ s.decoder.holdover = s.activeBank.holdover
    let headWaits : Prop := ∀ k ∈ s.store.captureList.head?, (s.slot k).state = .captured →
      s.crossFrame ((s.slot k).frameTime.getD 0) = true ∧
      ∀ j ∈ s.store.outputQueue, (s.slot j).frameTime ≠ (s.slot k).frameTime
    let opened : Trim := (if s.transport.state = .record then s.store.trim else .normal).atWindow w
    let captures : Prop := f + 2 ≤ 359999 ∧ (withdrawn ∨ ∀ o ∈ s.mixer.punchOut, f + 2 ≤ last o)
    (opens ∨ runs →
      ∃ t, exec .framePulse s = .next t ∧ t.decoder.time = f ∧ t.transport.state = .record ∧ isCut t ∧
      (∀ (i : Nat) (marking : Option Nat) (mark : MarkRecord), i ∈ s.store.writeQueue → (s.slot i).frameTime = some f →
        (s.slot i).state = .mixed →
        (match s.cues.mark with
          | .none => marking = none ∧ mark = .none
          | .waiting x m => marking = (if f = x then some m else none) ∧
            mark = if f = x then .armed x m else if f < x then .waiting x m else .none
          | .armed x m => marking = (if x ≤ f ∧ f ≤ x + 9 then some m else none) ∧
            mark = if x + 9 ≤ f then .none else .armed x m) →
        t.slot i = { s.slot i with state := .writing, start := marking.isSome } ∧ i ∉ t.store.writeQueue ∧
        t.coder.current = some ⟨i, f⟩ ∧ t.coder.sequence = 0 ∧ t.coder.writeOn = true ∧
        t.coder.verify.getLast? = some ⟨f, 0, 0, []⟩ ∧ t.cues.mark = mark ∧
        t.coder.subcode = ⟨f, ((s.slot i).format.getD s.activeFormat).rate, ((s.slot i).format.getD s.activeFormat).wordLength,
          marking.getD 0, marking.isSome, (s.slot i).copyField.getD .none⟩) ∧
      ((∀ i ∈ s.store.writeQueue, (s.slot i).state = .mixed → (s.slot i).frameTime ≠ some f) →
        (∀ k ∈ s.store.captureList.head?, (s.slot k).state = .capturing) ∨
          s.store.gatherList = [] ∧ (runs ∧ ¬ withdrawn ∨ headWaits) →
        t.coder.current = none ∧ t.coder.writeOn = false ∧ t.cues.mark = checked ∧
        (∀ i < 16, onRecordPath t i → (t.slot i).frameTime ≠ some f) ∧
        ((∃ i < 16, onRecordPath s i ∧ (s.slot i).frameTime = some f) → logged t 0) ∧
        ((∀ i < 16, onRecordPath s i → (s.slot i).frameTime ≠ some f) → logged t 1)) ∧
      (∀ i ∈ s.store.outputQueue, (s.slot i).role = some .old → (s.slot i).frameTime = some f → i ∉ t.store.outputQueue) ∧
      ((∀ i ∈ s.store.writeQueue, (s.slot i).frameTime ≠ some f) → t.carries opened) ∧
      ((∃ i ∈ s.store.writeQueue, (s.slot i).frameTime = some f) → t.carries (opened.afterW (w - 1))) ∧
      (captures → s.lowestFree.isSome = true →
        ∃ k, t.store.captureList.getLast? = some k ∧ t.slot k = { Slot.freed with
          state := .capturing, role := some .input, frameTime := some (f + 2), format := some s.activeFormat
          pairCount := s.activeBank.rate.pairs } ∧ t.copy.inputFields.getLast? = some (k, none)) ∧
      (¬ captures → ∀ k ∈ t.store.captureList, k ∈ s.store.captureList ∧ (t.slot k).frameTime ≠ some (f + 2))) ∧
    (s.transport.state = .record → (∃ o ∈ s.mixer.punchOut, f = last o + 1) →
      ∃ t, exec .framePulse s = .next t ∧ t.decoder.time = f ∧ t.transport.state = .play ∧ isCut t ∧
        (s.coder.current = none ∨ s.coder.sequence < 152 → t.coder.current = none) ∧ t.coder.writeOn = false ∧
        t.store.captureList = [] ∧ t.store.writeQueue = [] ∧ t.copy.inputFields = [] ∧
        (∀ i < 16, (t.slot i).state ≠ .capturing ∧ (t.slot i).state ≠ .captured ∧ (t.slot i).state ≠ .mixed) ∧
        t.cues.mark = checked ∧ t.carries .normal)) ∧
  (∀ (p : Punch) (s : State), s.quiet → s.sequencer.state = .idle → s.transport.state = .play → s.gateAgrees →
    s.readingAgrees → s.storeSound → s.recordSound → s.banks.pendingSwitch = none →
    s.decoder.holdover ≤ s.activeBank.holdover → s.mixer.punchIn = some p →
    let time := if 0 < s.decoder.leadIn then 0 else min 359999 (s.decoder.time + 1)
    let found := s.decoder.current.bind GatherFrame.subcodeTime
    let f := time + 2
    found = some (min 359999 (f - (s.decoder.leadIn - 1))) ∨ found = none ∧ s.decoder.holdover < s.activeBank.holdover →
    time ≠ p.time →
    ∃ t, exec .framePulse s = .next t ∧ t.decoder.time = time ∧ t.coder.writeOn = false ∧ t.mixer.gateOpen = false ∧
      (s.coder.current = none ∨ s.coder.sequence < 152 → t.coder.current = none) ∧ (s.correctedSlots = [] → s.keepsTrim t) ∧
      (∀ k, s.correctedSlots = [k] → t.depthQ = s.depthQ + 1 → s.judgesQ → t.carries (s.store.trim.afterQ t.depthQ)) ∧
      t.cues.mark = (match s.cues.mark with
        | .none => .none
        | .waiting x m => if x < time then .none else .waiting x m
        | .armed x m => if x + 9 < time then .none else .armed x m) ∧
      (p.time ≤ f → f ≤ 359999 → (∀ o, s.mixer.punchOut = some o →
          f ≤ if o.cross = 0 then o.time - 1 else o.time + (o.cross - 1) / s.activeBank.rate.pairs) →
        (∀ k ∈ s.store.captureList, (s.slot k).frameTime ≠ some f) →
        (s.lowestFree.isSome = true → ∃ k, t.store.captureList.getLast? = some k ∧ t.slot k = { Slot.freed with
            state := .capturing, role := some .input, frameTime := some f, format := some s.activeFormat
            pairCount := s.activeBank.rate.pairs } ∧ t.copy.inputFields.getLast? = some (k, none)) ∧
        (s.lowestFree = none → s.store.gatherList = [] → s.coder.current = none →
          ∀ k ∈ t.store.captureList, (t.slot k).frameTime ≠ some f)) ∧
      (f < p.time → ∀ k ∈ t.store.captureList, k ∈ s.store.captureList))

/-- A request for a block supplies the next one of the write frame, built from its slot and laid out as its 101 bytes, and
counts it to the frame's verify entry; before the last block nothing else changes. With the last block the slot's supply is
done, and it is freed when the monitor has finished with it (R29). Without a write frame, or past the last block, nothing is
supplied (R54, R58, R193). A confidence block is checked against the entry for frame T − 2 alone: a good block with that
frame's tag, supplied before and not counted before, is counted as passed; a bad one, one of another tag, one not supplied
yet, one counted already, and one without such an entry change nothing (R59). The frame pulse that ends the period closes that
entry: its failures, blocks supplied less blocks passed, count to VERIFY-FAILS on both ports, and more than V of the bank
active after the pulse set the VERIFY condition, raise VERIFY on each port and log it with the frame and the failures, under
INTERNAL; V or fewer record nothing more. A pulse that ends no period of an entry counts nothing (R60). The model's readings
and choices: an entry is matched by its frame time (log entry 9), so those of the last two frames of the tape time are never
closed (log entry 49); bytes which are no block change nothing (log entry 5); the block last supplied is a latch (log entry
21). -/
def Obligations.BlocksSuppliedAndChecked : Prop :=
  (∀ (w : WriteFrame) (s : State),
    (s.coder.current = none → exec .blockRequest s = .next s) ∧
    (s.coder.current = some w → 152 ≤ s.coder.sequence → exec .blockRequest s = .next s) ∧
    (∀ before e after, s.coder.current = some w → s.coder.sequence < 152 → s.coder.verify = before ++ e :: after →
      e.frameTime = w.time → (∀ x ∈ before ++ after, x.frameTime ≠ w.time) →
      let coder : Coder := { s.coder with
        supplied := (frameBlock ((s.slot w.slot).format.getD s.activeFormat) (s.slot w.slot).pairs s.coder.subcode
          s.coder.sequence).bytes
        sequence := s.coder.sequence + 1
        verify := before ++ { e with supplied := e.supplied + 1 } :: after }
      (s.coder.sequence < 151 → exec .blockRequest s = .next { s with coder := coder }) ∧
      (s.coder.sequence = 151 → w.slot < s.store.slots.length →
        ((s.slot w.slot).monitor ≠ .finished → exec .blockRequest s = .next { s with
          coder := coder
          store := { s.store with slots := s.store.slots.set w.slot { s.slot w.slot with supplyDone := true } } }) ∧
        ((s.slot w.slot).monitor = .finished → s.storeSound → exec .blockRequest s = .next { s with
          coder := { coder with current := none }
          store := { s.store with slots := s.store.slots.set w.slot Slot.freed }
          output := if s.output.playing = some w.slot then { s.output with playing := none, frame := [] }
            else s.output })))) ∧
  (∀ (bytes : List Byte) (s : State),
    blockOfBytes bytes = none ∨ (∀ e ∈ s.coder.verify, e.frameTime + 2 ≠ s.decoder.time) →
    exec (.confidenceBlock bytes) s = .next s) ∧
  (∀ (bytes : List Byte) (b : TapeBlock) (before after : List VerifyEntry) (e : VerifyEntry) (s : State),
    blockOfBytes bytes = some b → s.coder.verify = before ++ e :: after → e.frameTime + 2 = s.decoder.time →
    (∀ x ∈ before ++ after, x.frameTime + 2 ≠ s.decoder.time) →
    let place := (b.trackOf, b.position.toNat)
    let number := if b.track = 0#8 then b.position.toNat else 76 + b.position.toNat
    (b.good = true → b.tag.toNat = e.frameTime % 256 → number < e.supplied → place ∉ e.positions →
      exec (.confidenceBlock bytes) s = .next { s with coder := { s.coder with
        verify := before ++ { e with passed := e.passed + 1, positions := e.positions ++ [place] } :: after } }) ∧
    (b.good = false ∨ b.tag.toNat ≠ e.frameTime % 256 ∨ e.supplied ≤ number ∨ place ∈ e.positions →
      exec (.confidenceBlock bytes) s = .next s)) ∧
  (∀ s : State, s.quiet → s.sequencer.state = .idle → s.transport.state = .play ∨ s.transport.state = .record →
    s.gateAgrees → s.readingAgrees → s.storeSound → s.coder.verifySound →
    ∃ t, exec .framePulse s = .next t ∧
      ((∀ x ∈ s.coder.verify, x.frameTime + 2 ≠ s.decoder.time) → ∀ port,
        (t.reports.port port).counters.verifyFails = (s.reports.port port).counters.verifyFails) ∧
      (∀ e ∈ s.coder.verify, e.frameTime + 2 = s.decoder.time →
        let failures := e.supplied - e.passed
        (∀ x ∈ t.coder.verify, x.frameTime ≠ e.frameTime) ∧
        (∀ port, (t.reports.port port).counters.verifyFails =
          min 255 ((s.reports.port port).counters.verifyFails + failures)) ∧
        (t.activeBank.verifyThreshold < failures →
          t.sequencer.conditions.getLsbD 0 = true ∧
          (∀ port, (s.reports.port port).mask.getLsbD 7 = false → (t.reports.port port).flags.getLsbD 7 = true) ∧
          ∃ l ∈ t.reports.log, l.kind = .verify ∧ l.time = some e.frameTime ∧ l.origin = .internal ∧ l.argument = failures) ∧
        (failures ≤ t.activeBank.verifyThreshold →
          t.sequencer.conditions.getLsbD 0 = s.sequencer.conditions.getLsbD 0 ∧
          (∀ port, (t.reports.port port).flags.getLsbD 7 = (s.reports.port port).flags.getLsbD 7) ∧
          ∀ l ∈ t.reports.log, l.kind = .verify → l ∈ s.reports.log)))

/-- A block from the advance head is kept in the frame of its tag, the current or the next, once for each position: in the
slot the frame has, or in the lowest-numbered FREE slot, which becomes GATHERING for it at the tail of the gather list. Where
the next frame's slot was opened first, the current frame's goes before it (the model's choice, log entry 32). With no FREE
slot the oldest slot of the output queue is dropped and counted, its slot taken, and the trim demand follows the fall of Q that
a PLAY slot leaves behind (R38); with that queue empty the frame is
refused, and later blocks of it are discarded (R35). While the status is not LOCKED and neither frame is touched, a block of
any other tag is acquired: the two frames take its tag and the one after, and it is placed. A bad block, a stale tag, a tag
that only an absent next frame would have, a position held already, no current frame and a read mode other than FULL change
nothing (R30, R63, R65, R66); nor do bytes that are no block, by the model's choice, log entry 5. -/
def Obligations.AdvanceBlockIsPlaced : Prop :=
  (∀ (bytes : List Byte) (s : State), blockOfBytes bytes = none ∨ s.decoder.current = none →
    exec (.advanceBlock bytes) s = .next s) ∧
  ∀ (bytes : List Byte) (b : TapeBlock) (g : GatherFrame) (s : State),
    blockOfBytes bytes = some b → s.decoder.current = some g →
    let tag := b.tag.toNat
    let block : HeldBlock := ⟨b.trackOf, b.position.toNat, b.payload⟩
    let within (held : List HeldBlock) : Prop := ∃ h ∈ held, h.track = b.trackOf ∧ h.position = b.position.toNat
    let opened (i time : Nat) (behind : List Nat) : FrameStore := { s.store with
      slots := s.store.slots.set i { Slot.freed with
        state := .gathering, role := some (s.roleFor time), frameTime := some time
        format := some s.activeFormat, pairCount := s.activeBank.rate.pairs }
      gatherList := s.store.gatherList.filter (fun k => decide (k ∉ behind)) ++ i :: behind }
    let drops (t : State) (i : Nat) (rest : List Nat) (time : Nat) (behind : List Nat) : Prop :=
      t.store = { opened i time behind with outputQueue := rest, trim := t.store.trim } ∧
      t.reports = (count .framesDropped 1 s).reports ∧
      t = { s with
        store := t.store, decoder := t.decoder, reports := t.reports
        transport := { s.transport with demand := t.transport.demand } } ∧
      s.followsQ t
    (b.good = false ∨ s.decoder.readMode ≠ .full ∨ s.decoder.gathering = false → exec (.advanceBlock bytes) s = .next s) ∧
    (s.decoder.next = none → tag ≠ g.tag → tag = (g.tag + 1) % 256 → exec (.advanceBlock bytes) s = .next s) ∧
    (b.good = true → s.decoder.readMode = .full → s.decoder.gathering = true →
      (tag ≠ g.tag → (∀ n, s.decoder.next = some n → tag ≠ n.tag) →
        (s.decoder.status = .locked ∨ g.slot.isSome = true ∨ g.refused = true ∨
          (∃ n, s.decoder.next = some n ∧ (n.slot.isSome = true ∨ n.refused = true)) →
          exec (.advanceBlock bytes) s = .next s) ∧
        (∀ i, s.decoder.status ≠ .locked → g.slot = none → g.refused = false → g.held = [] →
          (∀ n, s.decoder.next = some n → n.slot = none ∧ n.refused = false) →
          (s.decoder.next = none → tag ≠ (g.tag + 1) % 256) → s.lowestFree = some i →
          exec (.advanceBlock bytes) s = .next { s with
            store := opened i g.time []
            decoder := { s.decoder with
              current := some { g with tag := tag, slot := some i, held := [block] }
              next := s.decoder.next.map fun n => { n with tag := (tag + 1) % 256 } } })) ∧
      (tag = g.tag →
        (g.refused = true ∨ g.slot.isSome = true ∧ within g.held → exec (.advanceBlock bytes) s = .next s) ∧
        (∀ i, g.refused = false → g.slot = some i → ¬ within g.held →
          exec (.advanceBlock bytes) s = .next { s with decoder := { s.decoder with
            current := some { g with held := g.held ++ [block] } } }) ∧
        (∀ i, g.refused = false → g.slot = none → g.held = [] → s.lowestFree = some i →
          exec (.advanceBlock bytes) s = .next { s with
            store := opened i g.time (s.decoder.next.bind (·.slot)).toList
            decoder := { s.decoder with current := some { g with slot := some i, held := [block] } } }) ∧
        (g.refused = false → g.slot = none → s.lowestFree = none → s.store.outputQueue = [] →
          exec (.advanceBlock bytes) s = .next { s with decoder := { s.decoder with
            current := some { g with refused := true } } }) ∧
        (∀ i rest, g.refused = false → g.slot = none → g.held = [] → s.lowestFree = none → s.storeSound →
          s.store.outputQueue = i :: rest → ∃ t, exec (.advanceBlock bytes) s = .next t ∧
            t.decoder = { s.decoder with current := some { g with slot := some i, held := [block] } } ∧
            drops t i rest g.time (s.decoder.next.bind (·.slot)).toList)) ∧
      (∀ n, s.decoder.next = some n → tag ≠ g.tag → tag = n.tag →
        (n.refused = true ∨ n.slot.isSome = true ∧ within n.held → exec (.advanceBlock bytes) s = .next s) ∧
        (∀ i, n.refused = false → n.slot = some i → ¬ within n.held →
          exec (.advanceBlock bytes) s = .next { s with decoder := { s.decoder with
            next := some { n with held := n.held ++ [block] } } }) ∧
        (∀ i, n.refused = false → n.slot = none → n.held = [] → s.lowestFree = some i →
          exec (.advanceBlock bytes) s = .next { s with
            store := opened i n.time []
            decoder := { s.decoder with next := some { n with slot := some i, held := [block] } } }) ∧
        (n.refused = false → n.slot = none → s.lowestFree = none → s.store.outputQueue = [] →
          exec (.advanceBlock bytes) s = .next { s with decoder := { s.decoder with
            next := some { n with refused := true } } }) ∧
        (∀ i rest, n.refused = false → n.slot = none → n.held = [] → s.lowestFree = none → s.storeSound →
          s.store.outputQueue = i :: rest → ∃ t, exec (.advanceBlock bytes) s = .next t ∧
            t.decoder = { s.decoder with next := some { n with slot := some i, held := [block] } } ∧
            drops t i rest n.time [])))

/-- A valid subcode record read in SUBCODE read mode sets T and makes the status LOCKED (R77). One with START set, read under
a demand that moves the tape forward and not in the START run already, is handed to the cue table as a START marker first,
under the demand from before the read (the model's choice, log entry 33); the START run becomes its program number in the
forward direction, and none without START or in reverse (R71, R78). In STARTING and in a wind nothing else changes; in LOCATE
away from the aim point the read also steers the wind, counting a reversal; at the aim point the locate arrives: CUED under
HOLD, outcome ARRIVED, MOTION-DONE (R123). A valid record that comes after a locate has arrived or failed sets T alone, with
the status LOCKED (R121, R124); until when such a read counts as one is the model's choice, log entry 43. Any other block with
the read mode OFF or FULL, a bad one and one without a valid record change nothing (R63, R77); nor do bytes that are no block,
by the model's choice, log entry 5. -/
def Obligations.SubcodeBlockIsRead : Prop :=
  ∀ (bytes : List Byte) (s : State), s.quiet → s.sequencer.state = .idle →
    ((s.decoder.readMode = .full ∨ s.decoder.readMode = .off ∧ s.decoder.lateReads = false) ∨
      (blockOfBytes bytes).bind (·.subcode) = none → exec (.subcodeBlock bytes) s = .next s) ∧
    (∀ r, s.decoder.readMode = .off → s.decoder.lateReads = true → (blockOfBytes bytes).bind (·.subcode) = some r →
      exec (.subcodeBlock bytes) s = .next { s with decoder := { s.decoder with
        time := r.time, leadIn := 0, status := .locked, holdover := 0 } }) ∧
    (∀ r, s.decoder.readMode = .subcode → (blockOfBytes bytes).bind (·.subcode) = some r →
      let forward : Bool := match s.transport.demand with
        | .playSpeed _ => true
        | .wind direction _ => direction == .forward
        | _ => false
      let u : State := if r.start = true ∧ forward = true ∧ s.decoder.startRun ≠ some r.program then takeMarker r.time r.program s
        else s
      let read : Decoder := { s.decoder with
        time := r.time, leadIn := 0, status := .locked, holdover := 0
        startRun := if r.start = true ∧ forward = true then some r.program else none }
      (s.transport.state = .starting ∨ s.transport.state = .wind →
        exec (.subcodeBlock bytes) s = .next { u with decoder := read }) ∧
      (s.transport.state = .locate → r.time ≠ s.transport.locate.aim →
        let direction : Direction := if s.transport.locate.aim < r.time then .reverse else .forward
        let far : Bool := decide (s.transport.locate.aim + 250 < r.time ∨ r.time + 250 < s.transport.locate.aim)
        (direction = s.transport.locate.direction ∨ s.transport.locate.reversals < 8) →
        exec (.subcodeBlock bytes) s = .next { u with
          decoder := read
          transport := { s.transport with
            demand := .wind direction (if far then .fast else .slow)
            locate := { s.transport.locate with
              phase := if far then .fast else .slow, direction := direction, noTimeRunning := true
              reversals := if direction = s.transport.locate.direction then s.transport.locate.reversals
                else s.transport.locate.reversals + 1 } } }) ∧
      (s.transport.state = .locate → r.time = s.transport.locate.aim → s.transport.locate.origin ≠ .list →
        exec (.subcodeBlock bytes) s = .next (raiseFlag .motionDone { u with
          decoder := { read with readMode := .off, lateReads := true }
          transport := { s.transport with
            state := .cued, demand := .hold, spinUpRunning := false, recordPending := false, faultRelease := false
            locate := { s.transport.locate with
              phase := .none, elapsedRunning := false, noTimeRunning := false, lastOutcome := .arrived } }
          store := { s.store with trim := .normal }
          cues := { u.cues with mark := .none } })))

/-! ### The Servo Line and the timers -/

/-- STOPPED, WINDING and HOLDING become the last motion report and change nothing else, but for STOPPED in FAULT with the
fault release requested, which leaves FAULT for STOP, or EMPTY without a tape, and HOLDING in CUED with hold awaited, which
raises MOTION-DONE (R111, R114). AT-SPEED ends a spin-up: PLAY with trim NORMAL and the timer stopped, MOTION-DONE, read mode
FULL, gathering on without frames, the START run none, the concealment stream restarted and the held tape field cleared (R63,
R78, R81, R97, R111, R115, R120). With record pending a punch-in at T + 4 is asked for under the origin of the RECORD request:
it is scheduled, the trim demand following Q (R38), or refused by the Edit Mixer with a PUNCH-CANCELLED entry of origin INTERNAL and reason LOCKED or TOO-LATE, or
by Copy Control, which counts, sets COPY, raises and logs COPY-REFUSED under INTERNAL; the transport goes on in PLAY (R106,
R140). In any other state it is the last motion report alone. Two fields of the model's own go with these: whether a read
that is on its way counts as a late one, which FAULT left for STOP keeps and a spin-up's end clears (log entry 43), and
whether the pulse before closed a frame, which play begins without (log entry 10). -/
def Obligations.ServoMotionReports : Prop :=
  (∀ s : State, s.quiet →
    exec .winding s = .next { s with transport := { s.transport with lastReport := some .winding } } ∧
    (s.transport.state ≠ .fault ∨ s.transport.faultRelease = false →
      exec .stopped s = .next { s with transport := { s.transport with lastReport := some .stopped } }) ∧
    (s.transport.state = .fault → s.transport.faultRelease = true →
      exec .stopped s = .next { s with
        transport := { s.transport with
          state := if s.transport.tapePresent then .stop else .empty
          demand := .stop, lastReport := some .stopped, spinUpRunning := false, recordPending := false
          holdAwaited := false, faultRelease := false }
        store := { s.store with trim := .normal }
        decoder := { s.decoder with readMode := .off, lateReads := s.decoder.lateReads && s.transport.tapePresent }
        cues := { s.cues with mark := .none } }) ∧
    (s.transport.state ≠ .cued ∨ s.transport.holdAwaited = false →
      exec .holding s = .next { s with transport := { s.transport with lastReport := some .holding } }) ∧
    (s.transport.state = .cued → s.transport.holdAwaited = true →
      exec .holding s = .next (raiseFlag .motionDone
        { s with transport := { s.transport with lastReport := some .holding, holdAwaited := false } }))) ∧
  (∀ s : State, s.quiet → s.sequencer.state = .idle →
    (s.transport.state ≠ .starting →
      exec .atSpeed s = .next { s with transport := { s.transport with lastReport := some .atSpeed } }) ∧
    (s.transport.state = .starting →
      let rolls : State := raiseFlag .motionDone { s with
        transport := { s.transport with
          state := .play, demand := .playSpeed .normal, lastReport := some .atSpeed, spinUpRunning := false
          recordPending := false, holdAwaited := false, faultRelease := false }
        store := { s.store with trim := .normal }
        decoder := { s.decoder with
          readMode := .full, startRun := none, gathering := true, current := none, next := none, closedLast := false
          lateReads := false }
        conceal := { gain := 0, held := ⟨0, 0⟩, heldValid := false, carried := none }
        copy := { s.copy with heldTape := none } }
      let p : Punch := ⟨s.decoder.time + 4, s.activeBank.crossfade, false, s.transport.recordOrigin⟩
      let locks : Prop := s.banks.pendingSwitch.isSome = true ∧ (s.banks.stagedBank.rate ≠ s.activeBank.rate ∨
        s.banks.stagedBank.tapeWordLength ≠ s.activeBank.tapeWordLength)
      let last := if p.cross = 0 then p.time else p.time + (p.cross - 1) / s.activeBank.rate.pairs
      (s.transport.recordPending = false → exec .atSpeed s = .next rolls) ∧
      (s.transport.recordPending = true → s.mixer.gateOpen = false → s.mixer.punchIn = none →
        (locks → exec .atSpeed s = .next (logEntry .punchCancelled s.timeNow .internal 4 rolls)) ∧
        (¬ locks → 359999 < last → exec .atSpeed s = .next (logEntry .punchCancelled s.timeNow .internal 14 rolls)) ∧
        (¬ locks → last ≤ 359999 → s.copy.current = .refuse → exec .atSpeed s = .next
          (logEntry .copyRefused s.timeNow .internal (if s.input.status.valid then 1 else 0)
            (raiseFlag .copyRefused (setCondition .copy (count .copyRefusals 1 rolls))))) ∧
        (¬ locks → last ≤ 359999 → s.copy.current ≠ .refuse → ∃ t, exec .atSpeed s = .next t ∧
          t.mixer = { s.mixer with punchIn := some p, taken := false, punchOut := none, committed := false } ∧
          t.transport = { rolls.transport with demand := t.transport.demand } ∧ t.decoder = rolls.decoder ∧
          t.banks = s.banks ∧ t.cues = s.cues ∧ t.sequencer = s.sequencer ∧ t.input = s.input ∧
          t.copy.current = s.copy.current ∧ t.copy.heldTape = none ∧ t.conceal = rolls.conceal ∧
          t.reports = rolls.reports ∧ t.system = s.system ∧ t.link = s.link ∧
          (s.storeSound → s.recordSound → rolls.followsQ t)))))

/-- TAPE-IN sets tape present, and in EMPTY takes the transport to STOP with TAPE raised and TAPE-IN logged (R111). TAPE-OUT
in any other state empties the deck: EMPTY under the demand STOP, a locate in progress ended TAPE-OUT, the cue table empty,
the tracker UNKNOWN at 0, the held tape field cleared, TAPE raised and TAPE-OUT logged; in EMPTY it does nothing (R76, R97,
R112, R121, R126). A tape end in every state at speed stops the transport, sets TAPE-END, raises TAPE and is logged with its
end as the argument at T; a locate in progress fails with it (R124); in EMPTY, STOP, CUED and FAULT it does nothing (R113,
R198). MECH-FAULT in every state, and the spin-up timer's expiry in STARTING, put the transport in FAULT under the demand
STOP, raise FAULT and log it with argument MECH or SPIN-UP; a locate in progress ends FAULT; the expiry does nothing in any
other state (R114, R115). From PLAY and RECORD each has the neighbours leave play speed, the gate closed at once and a
scheduled punch-in cancelled (R37, R120, R144, R150). TAPE-OUT and the faults end a running list: its entry in progress is
SKIPPED, LIST-END raised and logged under INTERNAL, HALTED-BY-TAPE-OUT or HALTED-BY-FAULT; a tape end ends none (R112, R158).
Choices of the model: late reads end as the tape goes or FAULT comes, and begin with a failed locate (log entry 43); at the
leaving of play speed, what log entries 10, 28, 29, 38 and 45 say; the entry of a list's, take's, punch's or locate's end comes
before the event's own, a list's first (log entry 4) and, at TAPE-OUT, still carries T (log entry 34). -/
def Obligations.TapeAndFaultReports : Prop :=
  (∀ s : State, s.quiet →
    (s.transport.state = .empty →
      exec .tapeIn s = .next (logEntry .tapeIn none .internal 0 (raiseFlag .tape { s with
        transport := { s.transport with
          state := .stop, demand := .stop, tapePresent := true, spinUpRunning := false, recordPending := false
          holdAwaited := false, faultRelease := false }
        store := { s.store with trim := .normal }
        decoder := { s.decoder with readMode := .off }
        cues := { s.cues with mark := .none } })) ∧ exec .tapeOut s = .next s) ∧
    (s.transport.state ≠ .empty →
      exec .tapeIn s = .next { s with transport := { s.transport with tapePresent := true } }) ∧
    (s.transport.state ≠ .starting → exec .spinUpTimerExpiry s = .next s)) ∧
  (∀ (c : Instr) (argument : Nat) (s : State), (c, argument) ∈ [(Instr.tapeEndFwd, 0), (Instr.tapeEndRev, 1)] → s.quiet →
    s.transport.state = .empty ∨ s.transport.state = .stop ∨ s.transport.state = .cued ∨ s.transport.state = .fault →
      exec c s = .next s) ∧
  (∀ s : State, s.quiet → s.gateAgrees → s.sized →
    let rolls : Prop := s.transport.state = .play ∨ s.transport.state = .record
    let left (new : TransportState) (outcome : LocateOutcome) : Transport := { s.transport with
      state := new, demand := .stop, spinUpRunning := false, recordPending := false, holdAwaited := false
      faultRelease := false
      locate := if s.transport.state = .locate then { s.transport.locate with
        phase := .none, elapsedRunning := false, noTimeRunning := false, lastOutcome := outcome } else s.transport.locate }
    let moved (u : State) (transport : Transport) (decoder : Decoder) : State := { u with
      transport := transport, store := { s.store with trim := .normal }, decoder := decoder
      cues := { s.cues with mark := .none } }
    let aside : Decoder := { s.decoder with
      readMode := .off, gathering := false, current := none, next := none, closedLast := false }
    let halted (reason : EndReason) (code : Nat) : State := if s.sequencer.state = .idle then s else
      logEntry .listEnd s.timeNow .internal code (raiseFlag .listEnd { s with sequencer := { s.sequencer with
        entries := s.sequencer.entries.set s.sequencer.current { s.entry s.sequencer.current with
          outcome := .skipped, seen := s.sequencer.conditions, completion := s.timeNow }
        state := .idle, saved := none, waitRemainder := 0, chainCount := 0, lastEnd := reason } })
    let ends (c : Instr) (argument : Nat) : Prop :=
      let records (u : State) : State :=
        logEntry .tapeEnd s.timeNow .internal argument (raiseFlag .tape (setCondition .tapeEnd u))
      s.sequencer.state = .idle ∨ (s.entry s.sequencer.current).kind = 1 ∨ (s.entry s.sequencer.current).kind = 2 →
      (s.transport.state = .wind ∨ s.transport.state = .starting →
        exec c s = .next (records (moved s (left .stop .none) { s.decoder with readMode := .off }))) ∧
      (s.transport.state = .locate →
        exec c s = .next (records (logEntry .locateFailed s.timeNow s.transport.locate.origin 18
          (raiseFlag .locateFailed (setCondition .locateFail
            (moved s (left .stop .tapeEnd) { s.decoder with readMode := .off, lateReads := true })))))) ∧
      (rolls → ∃ t, exec c s = .next t ∧ s.leavesPlaySpeed t ∧ t.transport = left .stop .none ∧ t.decoder = aside ∧
        t.cues = { s.cues with mark := .none } ∧ t.copy.heldTape = s.copy.heldTape ∧ t.system = s.system ∧ t.link = s.link ∧
        t.sequencer = (setCondition .tapeEnd s).sequencer ∧ t.reports = (records (s.leavingLog 3 .internal s)).reports)
    let faults (c : Instr) (argument : Nat) : Prop :=
      let v := halted .byFault 6
      let records (u : State) : State := logEntry .fault s.timeNow .internal argument (raiseFlag .fault u)
      (¬ rolls →
        exec c s = .next (records (moved v (left .fault .fault) { s.decoder with readMode := .off, lateReads := false }))) ∧
      (rolls → ∃ t, exec c s = .next t ∧ s.leavesPlaySpeed t ∧ t.transport = left .fault .fault ∧
        t.decoder = { aside with lateReads := false } ∧ t.cues = { s.cues with mark := .none } ∧
        t.copy.heldTape = s.copy.heldTape ∧ t.system = s.system ∧ t.link = s.link ∧ t.sequencer = v.sequencer ∧
        t.reports = (records (s.leavingLog 2 .internal v)).reports)
    ends .tapeEndFwd 0 ∧ ends .tapeEndRev 1 ∧ faults .mechFault 0 ∧
    (s.transport.state = .starting → faults .spinUpTimerExpiry 1) ∧
    (let v := halted .byTapeOut 5
      let emptied : Transport := { left .empty .tapeOut with tapePresent := false, lastReport := none }
      let forgotten (d : Decoder) : Decoder := { d with
        readMode := .off, time := 0, leadIn := 0, status := .unknown, holdover := 0, mismatch := none
        startRun := none, lateReads := false }
      let records (u : State) : State := logEntry .tapeOut none .internal 0 (raiseFlag .tape u)
      (s.transport.state ≠ .empty → ¬ rolls →
        exec .tapeOut s = .next (records { moved v emptied (forgotten s.decoder) with
          cues := { entries := [], mark := .none }, copy := { s.copy with heldTape := none } })) ∧
      (rolls → ∃ t, exec .tapeOut s = .next t ∧ s.leavesPlaySpeed t ∧ t.transport = emptied ∧
        t.decoder = forgotten aside ∧ t.cues = { entries := [], mark := .none } ∧ t.copy.heldTape = none ∧
        t.system = s.system ∧ t.link = s.link ∧ t.sequencer = v.sequencer ∧
        t.reports = (records (s.leavingLog 4 .internal v)).reports)))

/-- A locate that a port began fails on its elapsed timer, on its no-time timer, and on the read that would count a ninth
reversal: STOP under the demand STOP, the outcome kept, LOCATE-FAIL set, LOCATE-FAILED raised, and one LOCATE-FAILED entry of
the locate's origin with the reason (R123, R124, R198). Without a locate the events do nothing (log entry 5).
That a read on its way sets T from then on until the tape is set moving is kept in a field of the model (log entry 43). -/
def Obligations.LocateFailures : Prop :=
  ∀ s : State, s.quiet → s.sequencer.state = .idle →
    let failed (outcome : LocateOutcome) (reason : Nat) (u : State) : State :=
      logEntry .locateFailed u.timeNow s.transport.locate.origin reason (raiseFlag .locateFailed
        (setCondition .locateFail { u with
          transport := { s.transport with
            state := .stop, demand := .stop, spinUpRunning := false, recordPending := false, holdAwaited := false
            faultRelease := false
            locate := { s.transport.locate with
              phase := .none, elapsedRunning := false, noTimeRunning := false, lastOutcome := outcome } }
          store := { s.store with trim := .normal }
          decoder := { u.decoder with readMode := .off, lateReads := true }
          cues := { s.cues with mark := .none } }))
    (s.transport.state = .locate → s.transport.locate.origin ≠ .list →
      (s.transport.locate.elapsedRunning = true → exec .locateTimeout s = .next (failed .timeout 17 s)) ∧
      (s.transport.locate.noTimeRunning = true → exec .noTimeExpiry s = .next (failed .noTime 19 s)) ∧
      (∀ bytes r, s.decoder.readMode = .subcode → (blockOfBytes bytes).bind (·.subcode) = some r → r.start = false →
        r.time ≠ s.transport.locate.aim → s.transport.locate.reversals = 8 →
        (s.transport.locate.direction = .forward ↔ r.time > s.transport.locate.aim) →
        exec (.hunting bytes) s = .next (failed .hunting 16 { s with decoder := { s.decoder with
          time := r.time, leadIn := 0, status := .locked, holdover := 0, startRun := none } }))) ∧
    (s.transport.state ≠ .locate →
      exec .locateTimeout s = .next s ∧ exec .noTimeExpiry s = .next s ∧ ∀ bytes, exec (.hunting bytes) s = .next s)

/-- TIME_LOST with the holdover count at its limit: LOST, TIME-LOST set, raised and logged once with the limit; a scheduled
timed punch-in is cancelled with reason TIME. With the status UNKNOWN or LOST it does nothing (R74, R144; log entry 5). That
TIME-LOST is logged first and PUNCH-CANCELLED after it is the model's choice of an order R182 leaves open, log entry 4.
A WAIT-FRAMES entry in progress: its remainder falls by one at each frame pulse with gathering on, after the other work of the
pulse, and at 0 the entry is DONE at T; so it is at WAIT_FRAMES_EXPIRY with one frame left (log entry 5). A WAIT-TIME entry in
progress is judged after the other work of each pulse, after each read from the subcode that sets T, and as the status becomes
LOST: FAILED with BAD-VALUE past 359,999 or with TIME-LOST while LOST, DONE when T has come, else it waits. Where an entry
ends, the list passes on to the next index, or, HALTING, ends HALTED-BY-REQUEST (R153, R156, R157, R158, R164; the port of the
LIST-HALT: log entry 18). That the list acts last in a pulse is the model's choice, log entries 4 and 22. -/
def Obligations.TimeLostAndWaitExpiry : Prop :=
  (∀ s : State, s.quiet → s.sequencer.state = .idle →
    (s.decoder.status = .unknown ∨ s.decoder.status = .lost → exec .timeLost s = .next s) ∧
    (s.decoder.status = .holdover → s.decoder.holdover = s.activeBank.holdover → s.mixer.punchIn = none →
      s.mixer.punchOut = none →
      exec .timeLost s = .next (logEntry .timeLost (some s.decoder.time) .internal s.activeBank.holdover
        (raiseFlag .timeLost (setCondition .timeLost { s with decoder := { s.decoder with status := .lost } })))) ∧
    (∀ p, s.decoder.status = .holdover → s.decoder.holdover = s.activeBank.holdover → s.mixer.punchIn = some p →
      p.timed = true → s.mixer.taken = false →
      ∃ t, exec .timeLost s = .next t ∧ t.decoder.status = .lost ∧ t.mixer.punchIn = none ∧ t.mixer.punchOut = none ∧
        t.reports.log.getLast? =
          some ⟨(s.reports.nextSequence + 1) % 65536, .punchCancelled, some s.decoder.time, p.origin, 22⟩)) ∧
  (∀ s : State, s.quiet → s.sequencer.state ≠ .idle → s.gateAgrees → s.readingAgrees →
    let e := s.entry s.sequencer.current
    let remaining (n : Nat) (u : State) : State := { u with sequencer := { u.sequencer with waitRemainder := n } }
    let u := pulseWork s
    let waits : State := { u with sequencer := { u.sequencer with handoffs := [] } }
    (∃ t, exec .framePulse s = .next t ∧ t.decoder.time = u.decoder.time ∧ t.decoder.status = u.decoder.status) ∧
    u.sequencer = { s.sequencer with conditions := u.sequencer.conditions, handoffs := u.sequencer.handoffs } ∧
    (e.kind = 2 →
      (s.sequencer.waitRemainder = 1 →
        exec .waitFramesExpiry s = .next (s.entryDone s.timeNow (remaining 0 s)) ∧
        (s.decoder.gathering = true → exec .framePulse s = .next (s.entryDone u.timeNow (remaining 0 u)))) ∧
      (1 < s.sequencer.waitRemainder →
        exec .waitFramesExpiry s = .next s ∧
        (s.decoder.gathering = true → exec .framePulse s = .next (remaining (s.sequencer.waitRemainder - 1) waits))) ∧
      (s.decoder.gathering = false → exec .framePulse s = .next waits)) ∧
    (e.kind = 1 →
      (359999 < e.time → exec .framePulse s = .next (s.entryFailed 6 u)) ∧
      (e.time ≤ 359999 →
        (u.decoder.status = .lost → exec .framePulse s = .next (s.entryFailed 24 u)) ∧
        (u.decoder.status ≠ .lost → e.time ≤ u.decoder.time → exec .framePulse s = .next (s.entryDone u.timeNow u)) ∧
        (u.decoder.status ≠ .lost → u.decoder.time < e.time → exec .framePulse s = .next waits) ∧
        (∀ bytes r, s.decoder.readMode = .subcode → s.transport.state ≠ .locate →
          (blockOfBytes bytes).bind (·.subcode) = some r → r.start = false →
          let read : State := { s with decoder := { s.decoder with
            time := r.time, leadIn := 0, status := .locked, holdover := 0, startRun := none } }
          (e.time ≤ r.time → exec (.subcodeBlock bytes) s = .next (s.entryDone (some r.time) read)) ∧
          (r.time < e.time → exec (.subcodeBlock bytes) s = .next read)) ∧
        (s.decoder.status = .holdover → s.decoder.holdover = s.activeBank.holdover → s.mixer.punchIn = none →
          s.mixer.punchOut = none →
          exec .timeLost s = .next (s.entryFailed 24 (logEntry .timeLost (some s.decoder.time) .internal
            s.activeBank.holdover (raiseFlag .timeLost (setCondition .timeLost
              { s with decoder := { s.decoder with status := .lost } }))))))))

/-- How an entry in progress ends by the hand-off of the block that works for it (R151, R165 to R168). LOCATE: DONE on arrival
with the T read, and FAILED with HUNTING, TIMEOUT, TAPE-END or NO-TIME when the locate fails. ROLL: DONE at AT-SPEED, whatever
becomes of a punch-in that record pending asks for there (R140), and FAILED with TAPE-END; a punch-in set there lets the trim
demand follow Q (R38). PUNCH-IN: DONE with the punch-in
frame when the gate opens at a pulse. PUNCH-OUT: DONE with the last frame of the take when it closes at a pulse, FAILED with
TIME when a timed one is withdrawn on loss of time, and with TAPE-END when a tape end closes the take. Either, with its
punch-in scheduled: FAILED with MOTION at a tape end, with TIME at a time jump or on loss of time, and with COPY at a refusal
by the source. The event has its effect first, and at the end of the command the result is written, a FAILED one logged
LIST-ENTRY-FAILED, and the list passes on or, HALTING, ends (R153, R156, R157). That the sequencer takes hand-offs last is the
model's choice, log entries 4 and 22; late reads, log entry 43, what leaves play speed, log entries 10, 28, 29, 38 and 45, and
the order of the event's own entries, log entry 4, are as with no list running. -/
def Obligations.EntryEndsByHandOff : Prop :=
  ∀ s : State, s.quiet → s.sequencer.state ≠ .idle → s.gateAgrees → s.readingAgrees → s.sized →
    let kind := (s.entry s.sequencer.current).kind
    let left (new : TransportState) (demand : Demand) (locate : LocateRecord) : Transport := { s.transport with
      state := new, demand := demand, spinUpRunning := false, recordPending := false, holdAwaited := false
      faultRelease := false, locate := locate }
    let ended (outcome : LocateOutcome) : LocateRecord := { s.transport.locate with
      phase := .none, elapsedRunning := false, noTimeRunning := false, lastOutcome := outcome }
    let moved (transport : Transport) (decoder : Decoder) : State := { s with
      transport := transport, store := { s.store with trim := .normal }, decoder := decoder
      cues := { s.cues with mark := .none } }
    let read (d : Decoder) (time : Nat) : Decoder := { d with
      time := time, leadIn := 0, status := .locked, holdover := 0, startRun := none }
    let tapeEnds (argument : Nat) (u : State) : State :=
      logEntry .tapeEnd s.timeNow .internal argument (raiseFlag .tape (setCondition .tapeEnd u))
    let ends (P : Instr → Nat → Prop) : Prop := P .tapeEndFwd 0 ∧ P .tapeEndRev 1
    let stopped (c : Instr) (argument reason : Nat) : Prop :=
      ∃ u, exec c s = .next (s.entryFailed reason u) ∧ s.leavesPlaySpeed u ∧
        u.transport = left .stop .stop s.transport.locate ∧
        u.decoder = { s.decoder with
          readMode := .off, gathering := false, current := none, next := none, closedLast := false } ∧
        u.sequencer = (setCondition .tapeEnd s).sequencer ∧
        u.reports = (tapeEnds argument (s.leavingLog 3 .internal s)).reports
    let lostLog (origin : Origin) : Reports := (logEntry .punchCancelled (some s.decoder.time) origin 22
      (logEntry .timeLost (some s.decoder.time) .internal s.activeBank.holdover (raiseFlag .timeLost s))).reports
    let loses : Prop := s.decoder.status = .holdover ∧ s.decoder.holdover = s.activeBank.holdover
    let pulse := pulseWork s
    let worked : State := { pulse with sequencer := { pulse.sequencer with handoffs := [] } }
    let steady : Prop := s.banks.pendingSwitch = none ∧ s.decoder.holdover ≤ s.activeBank.holdover
    let stepped := if 0 < s.decoder.leadIn then 0 else min 359999 (s.decoder.time + 1)
    let predicted := min 359999 (stepped + 2 - (s.decoder.leadIn - 1))
    let found := s.decoder.current.bind GatherFrame.subcodeTime
    (kind = 3 → s.transport.state = .locate → s.transport.locate.origin = .list →
      let failed (outcome : LocateOutcome) (reason : Nat) (d : Decoder) : State :=
        let u : State := moved (left .stop .stop (ended outcome)) { d with readMode := .off, lateReads := true }
        logEntry .locateFailed u.timeNow .list reason (raiseFlag .locateFailed (setCondition .locateFail u))
      (s.transport.locate.elapsedRunning = true →
        exec .locateTimeout s = .next (s.entryFailed 17 (failed .timeout 17 s.decoder))) ∧
      (s.transport.locate.noTimeRunning = true →
        exec .noTimeExpiry s = .next (s.entryFailed 19 (failed .noTime 19 s.decoder))) ∧
      ends (fun c argument => exec c s = .next (s.entryFailed 18 (tapeEnds argument (failed .tapeEnd 18 s.decoder)))) ∧
      (∀ bytes r, (blockOfBytes bytes).bind (·.subcode) = some r → r.start = false →
        (r.time = s.transport.locate.aim → exec (.subcodeBlock bytes) s =
          .next (s.entryDone (some r.time) (raiseFlag .motionDone
            (moved { left .cued .hold (ended .arrived) with holdAwaited := s.transport.holdAwaited }
              { read s.decoder r.time with readMode := .off, lateReads := true })))) ∧
        (r.time ≠ s.transport.locate.aim → s.transport.locate.reversals = 8 →
          (s.transport.locate.direction = .forward ↔ r.time > s.transport.locate.aim) →
          exec (.hunting bytes) s = .next (s.entryFailed 16 (failed .hunting 16 (read s.decoder r.time)))))) ∧
    (kind = 4 → s.transport.state = .starting →
      let rolls : State := raiseFlag .motionDone { s with
        transport := { left .play (.playSpeed .normal) s.transport.locate with lastReport := some .atSpeed }
        store := { s.store with trim := .normal }
        decoder := { s.decoder with
          readMode := .full, startRun := none, gathering := true, current := none, next := none, closedLast := false
          lateReads := false }
        conceal := { gain := 0, held := ⟨0, 0⟩, heldValid := false, carried := none }
        copy := { s.copy with heldTape := none } }
      let p : Punch := ⟨s.decoder.time + 4, s.activeBank.crossfade, false, s.transport.recordOrigin⟩
      let locks : Prop := s.banks.pendingSwitch.isSome = true ∧ (s.banks.stagedBank.rate ≠ s.activeBank.rate ∨
        s.banks.stagedBank.tapeWordLength ≠ s.activeBank.tapeWordLength)
      let last := if p.cross = 0 then p.time else p.time + (p.cross - 1) / s.activeBank.rate.pairs
      let rolled (u : State) : Prop := exec .atSpeed s = .next (s.entryDone s.timeNow u)
      (s.transport.recordPending = false → rolled rolls) ∧
      (s.transport.recordPending = true → s.mixer.punchIn = none →
        (locks → rolled (logEntry .punchCancelled s.timeNow .internal 4 rolls)) ∧
        (¬ locks → 359999 < last → rolled (logEntry .punchCancelled s.timeNow .internal 14 rolls)) ∧
        (¬ locks → last ≤ 359999 → s.copy.current = .refuse → rolled
          (logEntry .copyRefused s.timeNow .internal (if s.input.status.valid then 1 else 0)
            (raiseFlag .copyRefused (setCondition .copy (count .copyRefusals 1 rolls))))) ∧
        (¬ locks → last ≤ 359999 → s.copy.current ≠ .refuse → ∃ u, rolled u ∧
          u.transport = { rolls.transport with demand := u.transport.demand } ∧ u.decoder = rolls.decoder ∧
          u.sequencer = s.sequencer ∧ u.reports = rolls.reports ∧ (s.storeSound → s.recordSound → rolls.followsQ u) ∧
          u.mixer = { s.mixer with punchIn := some p, taken := false, punchOut := none, committed := false })) ∧
      ends (fun c argument => exec c s = .next (s.entryFailed 18 (tapeEnds argument
        (moved (left .stop .stop s.transport.locate) { s.decoder with readMode := .off }))))) ∧
    (kind = 5 ∨ kind = 6 → s.transport.state = .play → ∀ p, s.mixer.punchIn = some p →
      p.origin = .list ∨ (∃ o, s.mixer.punchOut = some o ∧ o.origin = .list) →
      ends (fun c argument => stopped c argument 20) ∧
      (loses → p.timed = true → ∃ u, exec .timeLost s = .next (s.entryFailed 22 u) ∧
        u.decoder = { s.decoder with status := .lost } ∧ u.mixer.punchIn = none ∧ u.mixer.punchOut = none ∧
        u.transport.state = .play ∧ u.sequencer = (setCondition .timeLost s).sequencer ∧ u.reports = lostLog p.origin) ∧
      (∀ v, steady → found = some v → v ≠ predicted →
        exec .framePulse s = .next (s.entryFailed 22 worked) ∧ pulse.decoder.time = v - 2 ∧ pulse.mixer.punchIn = none) ∧
      (∀ b, s.input.selected = .digital → s.input.lost = none → s.copy.current ≠ .refuse → b.getLsbD 0 = true →
        b.getLsbD 1 = false → Rate.ofCode (b.toNat / 4 % 4) = some s.activeBank.rate →
        ∃ u, exec (.sourceStatusRecord b) s = .next (s.entryFailed 21 u) ∧ u.copy.current = .refuse ∧
          u.mixer.punchIn = none ∧ u.mixer.punchOut = none ∧ u.transport.state = .play ∧ u.decoder = s.decoder ∧
          u.sequencer = (setCondition .copy s).sequencer ∧
          u.reports = (logEntry .copyRefused s.timeNow .internal 0 (raiseFlag .copyRefused (count .copyRefusals 1
            (logEntry .punchCancelled s.timeNow p.origin 21 s)))).reports)) ∧
    (kind = 5 → s.transport.state = .play → ∀ p, s.mixer.punchIn = some p → p.origin = .list → steady →
      found = some predicted ∨ found = none ∧ s.decoder.holdover < s.activeBank.holdover → stepped = p.time →
      exec .framePulse s = .next (s.entryDone (some p.time) worked) ∧ pulse.mixer.gateOpen = true ∧
        pulse.transport.state = .record ∧ pulse.decoder.time = p.time) ∧
    (kind = 6 → s.transport.state = .record → ∀ o, s.mixer.punchOut = some o → o.origin = .list →
      ends (fun c argument => stopped c argument 18) ∧
      (loses → o.timed = true → s.mixer.committed = false → s.decoder.time + 2 < o.time →
        ∃ u, exec .timeLost s = .next (s.entryFailed 22 u) ∧ u.decoder = { s.decoder with status := .lost } ∧
          u.mixer = { s.mixer with punchOut := none } ∧ u.transport.state = .record ∧
          u.sequencer = (setCondition .timeLost s).sequencer ∧ u.reports = lostLog .list) ∧
      (steady → stepped = o.lastOut s.framePairs + 1 →
        exec .framePulse s = .next (s.entryDone (some (o.lastOut s.framePairs)) worked) ∧ pulse.mixer.gateOpen = false ∧
          pulse.transport.state = .play ∧ pulse.decoder.time = o.lastOut s.framePairs + 1))

/-! ### The output port -/

/-- A boundary with the monitor source unchanged and no slot being output (R33, R36, R93, R95, R96). With source INPUT the
frame's pairs come as they arrive, and only its status record is formed, with the field of R107 for the source, its byte being
sent when the record is a new one (R199; kept in a latch of the model, log entry 21); with source TAPE, priming over and no
PLAY slot, it is an underrun: counted, CONCEAL set, and a frame of N pairs begun (formed at the boundary by the model's
choice, log entry 7). A CORRECTED slot that waits on the gather list then is taken under pressure and stands on the output
queue after it, and with Q at 1 the trim demand is TRIM-FAST, whatever it was (R32, R36, R38). The boundary that follows a frame
cut short by the gate closing at once is met as a gap: the last pair output fades down over R pairs, then zero pairs, with the
copy field of the record before and concealment active (R94, R108); that the source in force stays RECORD for this frame, where
R91 would change it to INPUT, is the model's choice, log entry 28, and so is the f from which a fade goes on that was cut before
its end, log entry 46. -/
def Obligations.OutputBoundary : Prop :=
  ∀ s : State, s.quiet → s.sequencer.state = .idle → s.output.frame = [] → s.output.playing = none →
    (s.output.cut = true → ∃ t, exec .outputFrameBoundary s = .next t ∧ t.output.cut = false ∧
      t.output.source = s.output.source ∧ t.output.fadePair = s.output.heldPair ∧
      t.output.frame = List.replicate s.activeBank.ramp .down ++
        List.replicate (s.activeBank.rate.pairs - s.activeBank.ramp) (.plain ⟨0, 0⟩) ∧
      t.output.lastStatus = some ⟨s.activeBank.rate, (s.output.lastStatus.map (·.copyField)).getD .free, true⟩ ∧
      t.store = s.store ∧ t.conceal = s.conceal ∧ t.transport = s.transport ∧ t.reports = s.reports) ∧
    (s.output.cut = false → s.unplayed = [] → s.transport.state.monitor = .input → s.output.source = .input →
      ∀ field : CopyField,
      (s.input.selected = .analog → field = s.activeBank.analogCopy) →
      (s.input.selected = .digital → field =
        if s.input.lost.isSome then .free else if s.input.status.valid then s.input.status.copyField.getD .none else .none) →
      exec .outputFrameBoundary s = .next { s with output := { s.output with
        fadeGain := 1024, fadesLeft := 0, wordLength := s.activeBank.outputWordLength
        lastStatus := some ⟨s.activeBank.rate, field, false⟩
        statusByte := if s.output.lastStatus = some ⟨s.activeBank.rate, field, false⟩ then s.output.statusByte
          else some (BitVec.ofNat 8 (s.activeBank.rate.code + 4 * field.code)) } }) ∧
    (s.output.cut = false → s.unplayed = [] → s.transport.state = .play → s.output.source = .tape →
      s.output.priming = false → s.store.outputQueue = [] →
      ∃ t, exec .outputFrameBoundary s = .next t ∧ t.output.frame.length = s.activeBank.rate.pairs ∧
        t.reports.system.counters.underruns = min 255 (s.reports.system.counters.underruns + 1) ∧
        t.reports.link.counters.underruns = min 255 (s.reports.link.counters.underruns + 1) ∧
        t.sequencer.conditions = s.sequencer.conditions ||| 2#7 ∧
        t.output.lastStatus.map (·.concealing) = some true ∧ t.decoder = s.decoder ∧ t.mixer = s.mixer ∧
        (s.store.gatherList = [] → t.store = s.store ∧ t.transport = s.transport ∧ t.conceal.held = s.conceal.held) ∧
        (∀ i, s.store.gatherList = [i] → (s.slot i).state = .corrected → (s.slot i).role = some .play →
          i < s.store.slots.length → (t.slot i).state = .concealed ∧ (t.slot i).frameTime = (s.slot i).frameTime ∧
          (t.slot i).pairs.length = (s.slot i).pairs.length ∧ t.store.outputQueue = [i] ∧ t.store.gatherList = [] ∧
          t.carries .fast))

/-- A boundary that finds a frame not yet over lets its items leave first, as the tick does: this first clause is the model's
choice, log entry 3, since R33 and R93 say nothing of a boundary before the last pair. The rest is said of a boundary at which none
is left and no slot is being output, and after which the monitor carries a slot or another source (R33, R91 to R96, R107, R108).
TAPE: while priming, with Q below 3, N zero pairs; else the oldest PLAY slot leaves the output queue, becomes PLAYING, and its
pairs leave under f, priming being over; the trim demand is judged by the table of R38, once on the Q at which priming ends and
then on the Q that the slot leaves, and is carried in the PLAY-SPEED demand, while at every other boundary it stays (R38). RECORD:
the newest WRITING slot whose output has not begun is played, and the older ones are passed over, becoming FREE once supplied;
without one it is a gap frame. At a change of source the fade pair is the
last pair output: to INPUT, R fade pairs and then the pairs that arrive; to TAPE, the fade, zero pairs and priming; to RECORD,
the fade and the played slot's pairs from R on, or a gap frame. A change from TAPE frees the PLAY slots of the output queue
(R37); from RECORD to INPUT they stay (the model's choice, log entry 36). With a source other than RECORD a WRITING slot not
yet begun counts as passed over (the model's reading, log entry 8). The status record carries the slot's field, the previous
one for frames of no material, and the more restrictive of both at a change; it says whether concealment is active, and is
sent when it is new (its byte in a latch, log entry 21). That the items of a TAPE, RECORD or fade frame stand as a list fixed
at the boundary, and that a change to INPUT leaves an empty list with R fade pairs still to leave as input pairs arrive, is
the model's choice, log entry 7; and so it is that the newest WRITING slot is the one of the latest frame time, log entry 47.
-/
def Obligations.MonitorFrames : Prop :=
  (∀ s t : State, s.pending = [] → s.output.frame ≠ [] → step s = .next t →
    exec .outputFrameBoundary s = exec .outputFrameBoundary t) ∧
  ∀ s : State, s.quiet → s.sequencer.state = .idle → s.storeSound → s.output.frame = [] → s.output.playing = none →
    s.output.cut = false →
    let source := s.transport.state.monitor
    let changing := decide (source ≠ s.output.source)
    let ramp := s.activeBank.ramp
    let pairs := s.activeBank.rate.pairs
    let zeros (n : Nat) : List OutputItem := List.replicate n (.plain ⟨0, 0⟩)
    let previous : CopyField := (s.output.lastStatus.map (·.copyField)).getD .free
    let field (new : CopyField) : CopyField := if changing = true ∧ new.code < previous.code then previous else new
    let inputField : CopyField := match s.input.selected with
      | .analog => s.activeBank.analogCopy
      | .digital =>
        if s.input.lost.isSome then .free else if s.input.status.valid then s.input.status.copyField.getD .none else .none
    let waits (k : Nat) : Prop := (s.slot k).state = .writing ∧ (s.slot k).monitor = .notBegun
    let passed (k : Nat) (v : Slot) : Prop :=
      (waits k → v = if (s.slot k).supplyDone then Slot.freed else { s.slot k with monitor := .finished }) ∧
      (¬ waits k → v = if changing = true ∧ s.output.source = .tape ∧ k ∈ s.store.outputQueue ∧ (s.slot k).role = some .play
        then Slot.freed else s.slot k)
    let begins (t : State) (frame : List OutputItem) (playing : Option Nat) (copy : CopyField) (concealing : Bool) : Prop :=
      let r : OutputStatus := ⟨s.activeBank.rate, copy, concealing⟩
      exec .outputFrameBoundary s = .next t ∧ t.output.source = source ∧ t.output.frame = frame ∧
      t.output.playing = playing ∧ t.output.wordLength = s.activeBank.outputWordLength ∧ t.output.heldPair = s.output.heldPair ∧
      t.output.lastStatus = some r ∧ t.output.statusByte = (if s.output.lastStatus = some r then s.output.statusByte
        else some (BitVec.ofNat 8 (r.rate.code + 4 * copy.code + 16 * concealing.toNat))) ∧
      (changing = true → t.output.fadePair = s.output.heldPair ∧ t.output.fadeStep = 1024 / (ramp : Int) ∧
        t.output.priming = decide (source = .tape)) ∧
      t = { s with
        output := t.output, store := t.store, coder := { s.coder with current := t.coder.current }
        transport := { s.transport with demand := t.transport.demand } } ∧
      t.store.captureList = s.store.captureList ∧ t.store.writeQueue = s.store.writeQueue ∧
      t.store.gatherList = s.store.gatherList
    let queued (t : State) : Prop := s.keepsTrim t ∧ t.store.outputQueue =
      if changing = true ∧ s.output.source = .tape then s.store.outputQueue.filter (fun k => decide ((s.slot k).role ≠ some .play))
      else s.store.outputQueue
    let primed : Trim := if s.output.priming then s.store.trim.afterQ s.depthQ else s.store.trim
    (source = .tape → changing = false → s.output.priming = true → s.depthQ < 3 →
      ∃ t, begins t (zeros pairs) none previous false ∧ queued t ∧ (∀ k, passed k (t.slot k)) ∧ t.output.priming = true) ∧
    (∀ i before after, source = .tape → changing = false → (s.output.priming = true → 3 ≤ s.depthQ) →
      s.store.outputQueue = before ++ i :: after → (∀ k ∈ before, (s.slot k).role ≠ some .play) →
      (s.slot i).role = some .play →
      ∃ t, begins t ((s.slot i).pairs.map .up) (some i) (((s.slot i).copyField.or s.copy.heldTape).getD .none)
          (decide (1 ≤ (s.slot i).interpolated + (s.slot i).gaps)) ∧
        t.output.priming = false ∧ t.store.outputQueue = before ++ after ∧ t.carries (primed.afterQ (s.depthQ - 1)) ∧
        t.slot i = { s.slot i with state := .playing } ∧ ∀ k, k ≠ i → passed k (t.slot k)) ∧
    (∀ i, source = .record → i < 16 → waits i →
      (∀ k < 16, k ≠ i → waits k → (s.slot k).frameTime.getD 0 < (s.slot i).frameTime.getD 0) →
      ∃ t, begins t (if changing then List.replicate ramp .down ++ ((s.slot i).pairs.drop ramp).map .up
            else (s.slot i).pairs.map .up) (some i) (field ((s.slot i).copyField.getD .none))
          ((s.slot i).good.any (· == false) || decide ((s.slot i).good.length < (s.slot i).pairCount)) ∧
        queued t ∧ t.slot i = { s.slot i with monitor := .begun } ∧ ∀ k, k ≠ i → passed k (t.slot k)) ∧
    (source = .record → (∀ k < 16, ¬ waits k) →
      ∃ t, begins t (List.replicate ramp .down ++ zeros (pairs - ramp)) none previous true ∧ queued t ∧
        t.output.fadePair = s.output.heldPair ∧ ∀ k, passed k (t.slot k)) ∧
    (source = .input → changing = true →
      ∃ t, begins t [] none (field inputField) false ∧ queued t ∧ t.output.fadesLeft = ramp ∧
        ∀ k, passed k (t.slot k)) ∧
    (source = .tape → changing = true →
      ∃ t, begins t (List.replicate ramp .down ++ zeros (pairs - ramp)) none previous false ∧ queued t ∧
        ∀ k, passed k (t.slot k))

/-! ### The tape format and the arithmetic of the sound -/

/-- A 16-bit sample read from tape becomes w × 256 and reduces to w again; expanding a reduced sample differs from it by
−128..127 up to 8,388,479, and above lies 128 to 255 below it. So a 16-bit sample written and read again is the same, and a
24-bit one passes unchanged (R20). -/
def Obligations.WordLengthRoundTrip : Prop :=
  (∀ w : Int, -32768 ≤ w → w ≤ 32767 →
    expand16 w = w * 256 ∧ -8388608 ≤ expand16 w ∧ expand16 w ≤ 8388352 ∧ (256 * w + 128) / 256 = w ∧
    reduce16 (expand16 w) = w ∧ sampleOfBytes .w16 (sampleBytes .w16 (expand16 w)) = expand16 w) ∧
  (∀ v : Int, -8388608 ≤ v → v ≤ 8388607 →
    (v ≤ 8388479 → -128 ≤ v - 256 * reduce16 v ∧ v - 256 * reduce16 v ≤ 127) ∧
    (8388480 ≤ v → expand16 (reduce16 v) = 8388352 ∧ 128 ≤ v - 8388352 ∧ v - 8388352 ≤ 255) ∧
    sampleOfBytes .w24 (sampleBytes .w24 v) = v)

/-- The gains act as the rules say they must: an interpolated value lies between its ends (R85), a scaled sample between 0 and
itself, itself at 1024 and 0 at 0 (R86), and a mixed sample between the new and the old one, which it is at 1024 and at 0
(R147). -/
def Obligations.GainsStayBetween : Prop :=
  (∀ (a b : Int) (length i : Nat), 1 ≤ i → i ≤ length →
    min a b ≤ interpolate a b length i ∧ interpolate a b length i ≤ max a b) ∧
  (∀ v g : Int, 0 ≤ g → g ≤ 1024 → min v 0 ≤ scaleSample v g ∧ scaleSample v g ≤ max v 0) ∧
  (∀ v : Int, scaleSample v 1024 = v ∧ scaleSample v 0 = 0) ∧
  (∀ (g : Nat) (new old : Int), g ≤ 1024 → min new old ≤ mixSample g new old ∧ mixSample g new old ≤ max new old) ∧
  (∀ new old : Int, mixSample 1024 new old = new ∧ mixSample 0 new old = old)

/-- Runs of bad pairs and the take of a frame (R82 to R87). A run that begins with a good value before it and ends at a good
pair b, in the frame or where the successor's leading bad pairs end, is SHORT when all its pairs are Lmax or fewer; else it is
LONG, as it is without a good value before it, without a successor, or where the successor has no good pair. Bad pairs of a
SHORT run, from index i on, are interpolated under a gain that rises; what is left of the run is carried, and none once it is
done. Bad pairs of a LONG run scale the held value under a gain that falls, which clears held valid at 0. A good pair takes
its own value under a rising gain, becomes the held value and ends the carried run. Over a frame as many pairs come out as
went in, and the interpolated and the gap pairs together are its bad pairs. The take of a CORRECTED PLAY slot under the
settings of its close writes those pairs and the summary, leaves the good flags, moves the slot from the gather list to the
tail of the output queue, frees and counts the slots there of its frame time or later (R25), and with gap pairs counts
FRAMES-MUTED once on each port and sets CONCEAL (R87). Where Q is judged, the trim demand goes by the table of R38, on the Q
that those freed leave, if PLAY slots were among them, and then on the Q with the slot joined; where it is not, it stays. -/
def Obligations.FramesAreConcealed : Prop :=
  (∀ (lmax : Nat) (a b : Pair) (ahead : LookAhead) (run next rest more : List (Pair × Bool)),
    (∀ p ∈ run, p.2 = false) → (∀ p ∈ next, p.2 = false) →
    classifyRun lmax false a ahead (run ++ (b, true) :: rest) = .long ∧ classifyRun lmax false a ahead run = .long ∧
    classifyRun lmax true a ahead (run ++ (b, true) :: rest) =
      (if run.length ≤ lmax then .short a b run.length 1 else .long) ∧
    classifyRun lmax true a .nothing run = .long ∧ classifyRun lmax true a (.successor next) run = .long ∧
    classifyRun lmax true a (.successor (next ++ (b, true) :: more)) run =
      (if run.length + next.length ≤ lmax then .short a b (run.length + next.length) 1 else .long)) ∧
  (∀ (lmax : Nat) (step : Int) (ahead : LookAhead) (run : List (Pair × Bool)) (u : Conceal),
    (∀ p ∈ run, p.2 = false) → run ≠ [] → 0 ≤ step → 0 ≤ u.gain → u.gain ≤ 1024 →
    let r := concealPairs lmax step ahead run u
    let kind := u.carried.getD (classifyRun lmax u.heldValid u.held ahead run)
    (∀ a b length i, kind = .short a b length i → 1 ≤ i → i + run.length ≤ length + 1 →
      r.interpolated = run.length ∧ r.gaps = 0 ∧
      (∀ k < run.length, r.pairs[k]? = some (scalePair
        ⟨interpolate a.left b.left length (i + k), interpolate a.right b.right length (i + k)⟩
        (min 1024 (u.gain + (k + 1) * step)))) ∧
      r.unit = { gain := min 1024 (u.gain + run.length * step), heldValid := true
                 held := ⟨interpolate a.left b.left length (i + run.length - 1),
                   interpolate a.right b.right length (i + run.length - 1)⟩
                 carried := if i + run.length ≤ length then some (.short a b length (i + run.length)) else none }) ∧
    (kind = .long →
      r.interpolated = 0 ∧ r.gaps = run.length ∧
      (∀ k < run.length, r.pairs[k]? = some (scalePair u.held (max 0 (u.gain - (k + 1) * step)))) ∧
      r.unit = { gain := max 0 (u.gain - run.length * step), held := u.held
                 heldValid := u.heldValid && decide (0 < u.gain - run.length * step), carried := some .long })) ∧
  (∀ (lmax : Nat) (step : Int) (ahead : LookAhead) (p : Pair) (rest stream : List (Pair × Bool)) (u : Conceal),
    (let g := min 1024 (u.gain + step)
     let r := concealPairs lmax step ahead rest { gain := g, held := p, heldValid := true, carried := none }
     concealPairs lmax step ahead ((p, true) :: rest) u = { r with pairs := scalePair p g :: r.pairs }) ∧
    (let r := concealPairs lmax step ahead stream u
     r.pairs.length = stream.length ∧ r.interpolated + r.gaps = (stream.filter fun p => !p.2).length)) ∧
  (∀ (last i f : Nat) (ahead : LookAhead) (s : State), s.storeSound →
    i < 16 → (s.slot i).state = .corrected → (s.slot i).role = some .play → (s.slot i).frameTime = some f →
    (∀ k ∈ s.store.captureList.head?, (s.slot k).state = .capturing) →
    let r := concealPairs (s.slot i).closeLmax (1024 / ((s.slot i).closeRamp : Int)) ahead (s.slot i).stream s.conceal
    let late (k : Nat) : Prop := k ∈ s.store.outputQueue ∧ f ≤ (s.slot k).frameTime.getD 0
    let t := takeFrame last i ahead s
    let dropped := (s.store.outputQueue.filter fun k => decide (f ≤ (s.slot k).frameTime.getD 0)).length
    let left := (s.store.outputQueue.filter fun k =>
      decide ((s.slot k).role = some .play ∧ (s.slot k).frameTime.getD 0 < f)).length
    let cleared : Trim := if left = s.depthQ then s.store.trim else s.store.trim.afterQ left
    (s.judgesQ → t.carries (cleared.afterQ (left + 1))) ∧ (¬ s.judgesQ → s.keepsTrim t) ∧
    t.conceal = r.unit ∧ (1 ≤ r.gaps → t.sequencer.conditions = s.sequencer.conditions ||| 2#7) ∧
    (r.gaps = 0 → t.sequencer = s.sequencer) ∧
    t.slot i = { s.slot i with state := .concealed, pairs := r.pairs, interpolated := r.interpolated, gaps := r.gaps } ∧
    (∀ k, k ≠ i → (late k → t.slot k = Slot.freed) ∧ (¬ late k → t.slot k = s.slot k)) ∧
    t.store.gatherList = s.store.gatherList.filter (fun k => decide (k ≠ i)) ∧
    t.store.outputQueue =
      s.store.outputQueue.filter (fun k => decide ((s.slot k).frameTime.getD 0 < f)) ++ [i] ∧
    t.store.captureList = s.store.captureList ∧ t.store.writeQueue = s.store.writeQueue ∧ t.decoder = s.decoder ∧
    t.reports = (count .framesDropped dropped (if r.gaps = 0 then s else count .framesMuted 1 s)).reports)

/-- A block written for a frame carries good its track, its position and the frame's tag, and is read back from its 101 bytes;
a main block's group and index are read back from its position and tag; and a subcode block yields the record it was written
from (R3 to R7, R14 to R16, R193). -/
def Obligations.BlocksReadBack : Prop :=
  (∀ (track : Track) (position tag : Nat) (payload : List Byte), position ≤ 75 → tag < 256 → payload.length = 96 →
    let b := makeBlock track position tag payload
    b.bytes.length = 101 ∧ blockOfBytes b.bytes = some b ∧
    b.bytes = [BitVec.ofNat 8 position, BitVec.ofNat 8 track.code, BitVec.ofNat 8 tag] ++ payload ++
      [BitVec.ofNat 8 (b.check.toNat / 256), BitVec.ofNat 8 b.check.toNat] ∧
    b.good = true ∧ b.trackOf = track ∧ b.position.toNat = position ∧ b.tag.toNat = tag ∧ b.payload = payload) ∧
  (∀ j g f : Nat, j ≤ 8 → g ≤ 7 →
    blockPosition j g f ≤ 71 ∧ blockPosition j g f / 8 = j ∧ groupOfPosition (blockPosition j g f) (f % 256) = g) ∧
  (∀ (fmt : Format) (pairs : List Pair) (r : Subcode) (k : Nat), k < 152 → 72 ≤ k % 76 → r.time ≤ 359999 →
    r.program ≤ 99 → (r.start = true → 1 ≤ r.program) →
    (blockOfBytes (frameBlock fmt pairs r k).bytes).bind (·.subcode) = some r)

/-- Any one data block of a group that is bad is rebuilt from the other data blocks and the parity block, exactly, and tallied
as one rebuilt block (R13, R69). -/
def Obligations.ParityRebuilds : Prop :=
  ∀ (fmt : Format) (pairs : List Pair) (track : Track) (g bad : Nat), bad < 8 →
    correctGroup ((List.range 9).map fun j =>
        if j = bad then none
        else some (if j = 8 then parityPayload fmt pairs track g else dataPayload fmt pairs track g j)) =
      ((List.range 8).map fun j => some (dataPayload fmt pairs track g j), ⟨8, 1, 0⟩)

/-- A frame written whole and read back whole: each block is read back from its bytes, and with all of them held every pair
comes back good, as it was in a 24-bit frame and expanded from its 16 bits in a 16-bit one, the tally is 152 good blocks, and
the frame's subcode is the record it was written with (R1 to R16, R54, R68 to R70). -/
def Obligations.FrameReadsBack : Prop :=
  ∀ (fmt : Format) (pairs : List Pair) (r : Subcode),
    pairs.length = fmt.rate.pairs → r.time ≤ 359999 → r.program ≤ 99 → (r.start = true → 1 ≤ r.program) →
    (∀ p ∈ pairs, -8388608 ≤ p.left ∧ p.left ≤ 8388607 ∧ -8388608 ≤ p.right ∧ p.right ≤ 8388607) →
    let tag := r.time % 256
    let held : List HeldBlock := (List.range 152).map fun k =>
      ⟨(frameBlock fmt pairs r k).trackOf, (frameBlock fmt pairs r k).position.toNat, (frameBlock fmt pairs r k).payload⟩
    (∀ k < 152, blockOfBytes (frameBlock fmt pairs r k).bytes = some (frameBlock fmt pairs r k)) ∧
    selectSubcode tag held = some r ∧ frameTally tag held = ⟨152, 0, 0⟩ ∧
    framePairs fmt tag held = pairs.map fun p =>
      ((match fmt.wordLength with
        | .w24 => p
        | .w16 => ⟨expand16 (reduce16 p.left), expand16 (reduce16 p.right)⟩), true)

/-! ### What every step keeps -/

/-- Every step keeps the Report Unit within its bounds: counters 0..255 on both ports, at most 32 log entries, the next
sequence number below 65,536 (R178, R182); the cue table in rising time order, at most 99 entries, no time twice, each at
a tape time (R126, R127); the sixteen slots and the 64 list entries; and every queue of the ports within its places (R21,
R152, R171, R187, R190). -/
def Obligations.StepKeepsTablesAndSizes : Prop :=
  ∀ s t : State, step s = .next t → (s.reports.within → t.reports.within) ∧ (s.cues.ordered → t.cues.ordered) ∧
    (s.sized → t.sized) ∧ (s.queuesWithin → t.queuesWithin)

/-- Every step keeps the record gate open exactly in RECORD, and gathering and the read mode those of the transport state (R63,
R103, R120, R137), and leaves late reads possible in STOP and CUED alone (a field of the model, log entry 43). With the gate so,
every step keeps the servo demand that of the transport state: PLAY-SPEED with the trim demand in PLAY and RECORD, the trim
NORMAL in every other state, and in PLAY for as long as the monitor is not on TAPE or is priming (R38, R39, R110). -/
def Obligations.StepKeepsAgreement : Prop :=
  ∀ s t : State, step s = .next t → (s.gateAgrees → t.gateAgrees) ∧ (s.readingAgrees → t.readingAgrees) ∧
    (s.gateAgrees → s.demandAgrees → t.demandAgrees)

/-- Every step keeps the tape time, the lead-in, the gains and the settings in their ranges (R17, R72, R74, R86, R90, R173).
That a switch to a lower holdover limit lowers the count is the model's reading, log entry 26. -/
def Obligations.StepKeepsRanges : Prop :=
  ∀ s t : State, step s = .next t →
    (s.decoder.ranged → t.decoder.ranged) ∧ (s.gainsWithin → t.gainsWithin) ∧ (s.settingsWithin → t.settingsWithin)

/-- That every step leaves no hand-off behind is the model's choice of when the sequencer takes them, log entry 22, on a field
of the model's own, and no rule's. From such a state every step keeps a take in one format: no pending switch changes the rate
or the tape word length while a take is in hand (R139, R143, R174, R176). -/
def Obligations.StepKeepsTakeFormat : Prop :=
  ∀ s t : State, step s = .next t → s.handoffsTaken → t.handoffsTaken ∧ (s.formatKept → t.formatKept)

/-- Every step keeps the Frame Store sound: each slot with the record and the role of its state and on the collections of its
state, none twice, the output queue in rising order of frame time, and the blocks that hold slots agreeing with the collections
(R21, R22, R24, R25, R30, R33, R50, R62, R99). That the current frame's slot stands before the next frame's on the gather list,
whichever opened first, is the model's choice, log entry 32. -/
def Obligations.StepKeepsStore : Prop :=
  ∀ s t : State, step s = .next t → s.readingAgrees → s.storeSound → t.storeSound

/-- From a sound state every step keeps the record path sound: the capture list and the write queue in rising order of frame
time, every waiting slot of a frame in the take span no later than T + 2, no punch-in off play speed, and the verify list
within three entries and 152 blocks each (R23, R24, R26, R27, R50, R58, R59, R139, R144). That a fourth entry removes the
oldest one, and an entry of the same frame the old one, is the model's reading, log entry 9. -/
def Obligations.StepKeepsRecordPath : Prop :=
  ∀ s t : State, step s = .next t → s.readingAgrees → s.storeSound → s.gateAgrees → s.decoder.ranged → s.formatKept →
    s.handoffsTaken → s.recordSound → t.recordSound
end

