-- ==== Sys2Proof/Laws/Bytes.lean ====
section
/-! SUPPORT. What the byte forms can do: words and their bytes (R192), a tape block and its 101 bytes (R5, R193), a transaction and
its kind (R194). Later proofs cite these and do not take the bytes apart again. -/

namespace Sys2Proof.Machine

/-! ### Words (R192) -/

@[simp] theorem bytesOfWords_length (l : List Word) : (bytesOfWords l).length = 2 * l.length := by
  induction l with
  | nil => rfl
  | cons w l ih => simp [bytesOfWords, ih]; omega

theorem wordOfBytes_high_low (w : Word) : wordOfBytes (byteOf w.high).toNat (byteOf w.low).toNat = w := by
  have := w.isLt
  apply BitVec.eq_of_toNat_eq
  simp only [wordOfBytes, wordOf, byteOf, Word.high, Word.low, BitVec.toNat_ofNat]
  omega

/-- Words laid out as bytes and read again are the same words. -/
@[simp] theorem wordsOfBytes_bytesOfWords (l : List Word) : wordsOfBytes (bytesOfWords l) = l := by
  induction l with
  | nil => rfl
  | cons w l ih => simp [bytesOfWords, wordsOfBytes, wordOfBytes_high_low, ih]

/-! ### Blocks (R5, R193) -/

/-- A block of 96 payload bytes is read back from the bytes it is exchanged as. -/
theorem blockOfBytes_bytes {b : TapeBlock} (h : b.payload.length = 96) : blockOfBytes b.bytes = some b := by
  have e : [byteOf b.check.high, byteOf b.check.low] = bytesOfWords [b.check] := rfl
  simp [TapeBlock.bytes, TapeBlock.covered, blockOfBytes, h, Config.payloadBytes, bytesOfWords]
  simp [e, argWord]

/-- Bytes that spell a block are 101. -/
theorem blockOfBytes_length {bytes : List Byte} {b : TapeBlock} (h : blockOfBytes bytes = some b) : bytes.length = 101 := by
  unfold blockOfBytes at h
  split at h
  · split at h
    · rename_i e; simp [e, Config.payloadBytes]
    · simp at h
  · simp at h

/-- What a command that brings a block does: the work on the block, or nothing when the bytes are no block. -/
theorem onBlock_some {bytes : List Byte} {b : TapeBlock} (h : blockOfBytes bytes = some b) (work : TapeBlock → State → State)
    (s : State) : onBlock bytes work s = work b s := by
  simp [onBlock, h]

theorem onBlock_none {bytes : List Byte} (h : blockOfBytes bytes = none) (work : TapeBlock → State → State) (s : State) :
    onBlock bytes work s = s := by
  simp [onBlock, h]

/-! ### Transactions (R185, R194) -/

/-- A transaction of the kind named has its effect. -/
theorem onTransaction_of {kind : TransactionKind} {bytes : List Byte} (h : transactionKind bytes = some kind)
    (effect : State → State) (s : State) : onTransaction kind bytes effect s = effect s := by
  simp [onTransaction, h]

/-- Bytes of another kind, or of none, change nothing. -/
theorem onTransaction_other {kind : TransactionKind} {bytes : List Byte} (h : transactionKind bytes ≠ some kind)
    (effect : State → State) (s : State) : onTransaction kind bytes effect s = s := by
  simp [onTransaction, h]

/-- A SEND of a body of 1 to 64 words brings that body, whatever is clocked in after it. -/
theorem sendBody_whole {body : List Word} (extra : List Byte) (h : 1 ≤ body.length) (k : body.length ≤ 64) :
    sendBody (byteOf body.length :: (bytesOfWords body ++ extra)) = .whole body := by
  have e : (byteOf body.length).toNat = body.length := by
    simp only [byteOf, BitVec.toNat_ofNat]; omega
  have n : ¬ (body.length = 0 ∨ 64 < body.length) := by omega
  have m : ¬ ((bytesOfWords body ++ extra).length < 2 * body.length) := by simp
  have t : (bytesOfWords body ++ extra).take (2 * body.length) = bytesOfWords body := by
    rw [← bytesOfWords_length body, List.take_left]
  simp only [sendBody, e, n, m, t, if_false, wordsOfBytes_bytesOfWords]

end Sys2Proof.Machine
end

