-- ==== Sys2Proof/Laws/State.lean ====
section
/-! SUPPORT. What each named update leaves as it was: one lemma for each field of State that the update does not write. -/

namespace Sys2Proof.Machine

@[simp] theorem setSlot_transport (i : Nat) (v : Slot) (s : State) : (setSlot i v s).transport = s.transport := rfl
@[simp] theorem setSlot_coder (i : Nat) (v : Slot) (s : State) : (setSlot i v s).coder = s.coder := rfl
@[simp] theorem setSlot_decoder (i : Nat) (v : Slot) (s : State) : (setSlot i v s).decoder = s.decoder := rfl
@[simp] theorem setSlot_conceal (i : Nat) (v : Slot) (s : State) : (setSlot i v s).conceal = s.conceal := rfl
@[simp] theorem setSlot_output (i : Nat) (v : Slot) (s : State) : (setSlot i v s).output = s.output := rfl
@[simp] theorem setSlot_mixer (i : Nat) (v : Slot) (s : State) : (setSlot i v s).mixer = s.mixer := rfl
@[simp] theorem setSlot_sequencer (i : Nat) (v : Slot) (s : State) : (setSlot i v s).sequencer = s.sequencer := rfl
@[simp] theorem setSlot_cues (i : Nat) (v : Slot) (s : State) : (setSlot i v s).cues = s.cues := rfl
@[simp] theorem setSlot_copy (i : Nat) (v : Slot) (s : State) : (setSlot i v s).copy = s.copy := rfl
@[simp] theorem setSlot_input (i : Nat) (v : Slot) (s : State) : (setSlot i v s).input = s.input := rfl
@[simp] theorem setSlot_banks (i : Nat) (v : Slot) (s : State) : (setSlot i v s).banks = s.banks := rfl
@[simp] theorem setSlot_reports (i : Nat) (v : Slot) (s : State) : (setSlot i v s).reports = s.reports := rfl
@[simp] theorem setSlot_system (i : Nat) (v : Slot) (s : State) : (setSlot i v s).system = s.system := rfl
@[simp] theorem setSlot_link (i : Nat) (v : Slot) (s : State) : (setSlot i v s).link = s.link := rfl
@[simp] theorem setSlot_pending (i : Nat) (v : Slot) (s : State) : (setSlot i v s).pending = s.pending := rfl

@[simp] theorem updateSlot_transport (i : Nat) (f : Slot → Slot) (s : State) : (updateSlot i f s).transport = s.transport := rfl
@[simp] theorem updateSlot_coder (i : Nat) (f : Slot → Slot) (s : State) : (updateSlot i f s).coder = s.coder := rfl
@[simp] theorem updateSlot_decoder (i : Nat) (f : Slot → Slot) (s : State) : (updateSlot i f s).decoder = s.decoder := rfl
@[simp] theorem updateSlot_conceal (i : Nat) (f : Slot → Slot) (s : State) : (updateSlot i f s).conceal = s.conceal := rfl
@[simp] theorem updateSlot_output (i : Nat) (f : Slot → Slot) (s : State) : (updateSlot i f s).output = s.output := rfl
@[simp] theorem updateSlot_mixer (i : Nat) (f : Slot → Slot) (s : State) : (updateSlot i f s).mixer = s.mixer := rfl
@[simp] theorem updateSlot_sequencer (i : Nat) (f : Slot → Slot) (s : State) : (updateSlot i f s).sequencer = s.sequencer := rfl
@[simp] theorem updateSlot_cues (i : Nat) (f : Slot → Slot) (s : State) : (updateSlot i f s).cues = s.cues := rfl
@[simp] theorem updateSlot_copy (i : Nat) (f : Slot → Slot) (s : State) : (updateSlot i f s).copy = s.copy := rfl
@[simp] theorem updateSlot_input (i : Nat) (f : Slot → Slot) (s : State) : (updateSlot i f s).input = s.input := rfl
@[simp] theorem updateSlot_banks (i : Nat) (f : Slot → Slot) (s : State) : (updateSlot i f s).banks = s.banks := rfl
@[simp] theorem updateSlot_reports (i : Nat) (f : Slot → Slot) (s : State) : (updateSlot i f s).reports = s.reports := rfl
@[simp] theorem updateSlot_system (i : Nat) (f : Slot → Slot) (s : State) : (updateSlot i f s).system = s.system := rfl
@[simp] theorem updateSlot_link (i : Nat) (f : Slot → Slot) (s : State) : (updateSlot i f s).link = s.link := rfl
@[simp] theorem updateSlot_pending (i : Nat) (f : Slot → Slot) (s : State) : (updateSlot i f s).pending = s.pending := rfl

@[simp] theorem setTrim_coder (t : Trim) (s : State) : (setTrim t s).coder = s.coder := rfl
@[simp] theorem setTrim_decoder (t : Trim) (s : State) : (setTrim t s).decoder = s.decoder := rfl
@[simp] theorem setTrim_conceal (t : Trim) (s : State) : (setTrim t s).conceal = s.conceal := rfl
@[simp] theorem setTrim_output (t : Trim) (s : State) : (setTrim t s).output = s.output := rfl
@[simp] theorem setTrim_mixer (t : Trim) (s : State) : (setTrim t s).mixer = s.mixer := rfl
@[simp] theorem setTrim_sequencer (t : Trim) (s : State) : (setTrim t s).sequencer = s.sequencer := rfl
@[simp] theorem setTrim_cues (t : Trim) (s : State) : (setTrim t s).cues = s.cues := rfl
@[simp] theorem setTrim_copy (t : Trim) (s : State) : (setTrim t s).copy = s.copy := rfl
@[simp] theorem setTrim_input (t : Trim) (s : State) : (setTrim t s).input = s.input := rfl
@[simp] theorem setTrim_banks (t : Trim) (s : State) : (setTrim t s).banks = s.banks := rfl
@[simp] theorem setTrim_reports (t : Trim) (s : State) : (setTrim t s).reports = s.reports := rfl
@[simp] theorem setTrim_system (t : Trim) (s : State) : (setTrim t s).system = s.system := rfl
@[simp] theorem setTrim_link (t : Trim) (s : State) : (setTrim t s).link = s.link := rfl
@[simp] theorem setTrim_pending (t : Trim) (s : State) : (setTrim t s).pending = s.pending := rfl

@[simp] theorem freeOne_transport (s : State) (i : Nat) : (freeOne s i).transport = s.transport := rfl
@[simp] theorem freeOne_decoder (s : State) (i : Nat) : (freeOne s i).decoder = s.decoder := rfl
@[simp] theorem freeOne_conceal (s : State) (i : Nat) : (freeOne s i).conceal = s.conceal := rfl
@[simp] theorem freeOne_mixer (s : State) (i : Nat) : (freeOne s i).mixer = s.mixer := rfl
@[simp] theorem freeOne_sequencer (s : State) (i : Nat) : (freeOne s i).sequencer = s.sequencer := rfl
@[simp] theorem freeOne_cues (s : State) (i : Nat) : (freeOne s i).cues = s.cues := rfl
@[simp] theorem freeOne_input (s : State) (i : Nat) : (freeOne s i).input = s.input := rfl
@[simp] theorem freeOne_banks (s : State) (i : Nat) : (freeOne s i).banks = s.banks := rfl
@[simp] theorem freeOne_reports (s : State) (i : Nat) : (freeOne s i).reports = s.reports := rfl
@[simp] theorem freeOne_system (s : State) (i : Nat) : (freeOne s i).system = s.system := rfl
@[simp] theorem freeOne_link (s : State) (i : Nat) : (freeOne s i).link = s.link := rfl
@[simp] theorem freeOne_pending (s : State) (i : Nat) : (freeOne s i).pending = s.pending := rfl

@[simp] theorem count_transport (c : Counter) (n : Nat) (s : State) : (count c n s).transport = s.transport := rfl
@[simp] theorem count_store (c : Counter) (n : Nat) (s : State) : (count c n s).store = s.store := rfl
@[simp] theorem count_coder (c : Counter) (n : Nat) (s : State) : (count c n s).coder = s.coder := rfl
@[simp] theorem count_decoder (c : Counter) (n : Nat) (s : State) : (count c n s).decoder = s.decoder := rfl
@[simp] theorem count_conceal (c : Counter) (n : Nat) (s : State) : (count c n s).conceal = s.conceal := rfl
@[simp] theorem count_output (c : Counter) (n : Nat) (s : State) : (count c n s).output = s.output := rfl
@[simp] theorem count_mixer (c : Counter) (n : Nat) (s : State) : (count c n s).mixer = s.mixer := rfl
@[simp] theorem count_sequencer (c : Counter) (n : Nat) (s : State) : (count c n s).sequencer = s.sequencer := rfl
@[simp] theorem count_cues (c : Counter) (n : Nat) (s : State) : (count c n s).cues = s.cues := rfl
@[simp] theorem count_copy (c : Counter) (n : Nat) (s : State) : (count c n s).copy = s.copy := rfl
@[simp] theorem count_input (c : Counter) (n : Nat) (s : State) : (count c n s).input = s.input := rfl
@[simp] theorem count_banks (c : Counter) (n : Nat) (s : State) : (count c n s).banks = s.banks := rfl
@[simp] theorem count_system (c : Counter) (n : Nat) (s : State) : (count c n s).system = s.system := rfl
@[simp] theorem count_link (c : Counter) (n : Nat) (s : State) : (count c n s).link = s.link := rfl
@[simp] theorem count_pending (c : Counter) (n : Nat) (s : State) : (count c n s).pending = s.pending := rfl

@[simp] theorem raiseFlag_transport (f : Flag) (s : State) : (raiseFlag f s).transport = s.transport := rfl
@[simp] theorem raiseFlag_store (f : Flag) (s : State) : (raiseFlag f s).store = s.store := rfl
@[simp] theorem raiseFlag_coder (f : Flag) (s : State) : (raiseFlag f s).coder = s.coder := rfl
@[simp] theorem raiseFlag_decoder (f : Flag) (s : State) : (raiseFlag f s).decoder = s.decoder := rfl
@[simp] theorem raiseFlag_conceal (f : Flag) (s : State) : (raiseFlag f s).conceal = s.conceal := rfl
@[simp] theorem raiseFlag_output (f : Flag) (s : State) : (raiseFlag f s).output = s.output := rfl
@[simp] theorem raiseFlag_mixer (f : Flag) (s : State) : (raiseFlag f s).mixer = s.mixer := rfl
@[simp] theorem raiseFlag_sequencer (f : Flag) (s : State) : (raiseFlag f s).sequencer = s.sequencer := rfl
@[simp] theorem raiseFlag_cues (f : Flag) (s : State) : (raiseFlag f s).cues = s.cues := rfl
@[simp] theorem raiseFlag_copy (f : Flag) (s : State) : (raiseFlag f s).copy = s.copy := rfl
@[simp] theorem raiseFlag_input (f : Flag) (s : State) : (raiseFlag f s).input = s.input := rfl
@[simp] theorem raiseFlag_banks (f : Flag) (s : State) : (raiseFlag f s).banks = s.banks := rfl
@[simp] theorem raiseFlag_system (f : Flag) (s : State) : (raiseFlag f s).system = s.system := rfl
@[simp] theorem raiseFlag_link (f : Flag) (s : State) : (raiseFlag f s).link = s.link := rfl
@[simp] theorem raiseFlag_pending (f : Flag) (s : State) : (raiseFlag f s).pending = s.pending := rfl

@[simp] theorem raiseReplyReady_transport (s : State) : (raiseReplyReady s).transport = s.transport := rfl
@[simp] theorem raiseReplyReady_store (s : State) : (raiseReplyReady s).store = s.store := rfl
@[simp] theorem raiseReplyReady_coder (s : State) : (raiseReplyReady s).coder = s.coder := rfl
@[simp] theorem raiseReplyReady_decoder (s : State) : (raiseReplyReady s).decoder = s.decoder := rfl
@[simp] theorem raiseReplyReady_conceal (s : State) : (raiseReplyReady s).conceal = s.conceal := rfl
@[simp] theorem raiseReplyReady_output (s : State) : (raiseReplyReady s).output = s.output := rfl
@[simp] theorem raiseReplyReady_mixer (s : State) : (raiseReplyReady s).mixer = s.mixer := rfl
@[simp] theorem raiseReplyReady_sequencer (s : State) : (raiseReplyReady s).sequencer = s.sequencer := rfl
@[simp] theorem raiseReplyReady_cues (s : State) : (raiseReplyReady s).cues = s.cues := rfl
@[simp] theorem raiseReplyReady_copy (s : State) : (raiseReplyReady s).copy = s.copy := rfl
@[simp] theorem raiseReplyReady_input (s : State) : (raiseReplyReady s).input = s.input := rfl
@[simp] theorem raiseReplyReady_banks (s : State) : (raiseReplyReady s).banks = s.banks := rfl
@[simp] theorem raiseReplyReady_system (s : State) : (raiseReplyReady s).system = s.system := rfl
@[simp] theorem raiseReplyReady_link (s : State) : (raiseReplyReady s).link = s.link := rfl
@[simp] theorem raiseReplyReady_pending (s : State) : (raiseReplyReady s).pending = s.pending := rfl

@[simp] theorem logEntry_transport (k : LogKind) (t : Option Nat) (o : Origin) (a : Nat) (s : State) : (logEntry k t o a s).transport = s.transport := rfl
@[simp] theorem logEntry_store (k : LogKind) (t : Option Nat) (o : Origin) (a : Nat) (s : State) : (logEntry k t o a s).store = s.store := rfl
@[simp] theorem logEntry_coder (k : LogKind) (t : Option Nat) (o : Origin) (a : Nat) (s : State) : (logEntry k t o a s).coder = s.coder := rfl
@[simp] theorem logEntry_decoder (k : LogKind) (t : Option Nat) (o : Origin) (a : Nat) (s : State) : (logEntry k t o a s).decoder = s.decoder := rfl
@[simp] theorem logEntry_conceal (k : LogKind) (t : Option Nat) (o : Origin) (a : Nat) (s : State) : (logEntry k t o a s).conceal = s.conceal := rfl
@[simp] theorem logEntry_output (k : LogKind) (t : Option Nat) (o : Origin) (a : Nat) (s : State) : (logEntry k t o a s).output = s.output := rfl
@[simp] theorem logEntry_mixer (k : LogKind) (t : Option Nat) (o : Origin) (a : Nat) (s : State) : (logEntry k t o a s).mixer = s.mixer := rfl
@[simp] theorem logEntry_sequencer (k : LogKind) (t : Option Nat) (o : Origin) (a : Nat) (s : State) : (logEntry k t o a s).sequencer = s.sequencer := rfl
@[simp] theorem logEntry_cues (k : LogKind) (t : Option Nat) (o : Origin) (a : Nat) (s : State) : (logEntry k t o a s).cues = s.cues := rfl
@[simp] theorem logEntry_copy (k : LogKind) (t : Option Nat) (o : Origin) (a : Nat) (s : State) : (logEntry k t o a s).copy = s.copy := rfl
@[simp] theorem logEntry_input (k : LogKind) (t : Option Nat) (o : Origin) (a : Nat) (s : State) : (logEntry k t o a s).input = s.input := rfl
@[simp] theorem logEntry_banks (k : LogKind) (t : Option Nat) (o : Origin) (a : Nat) (s : State) : (logEntry k t o a s).banks = s.banks := rfl
@[simp] theorem logEntry_system (k : LogKind) (t : Option Nat) (o : Origin) (a : Nat) (s : State) : (logEntry k t o a s).system = s.system := rfl
@[simp] theorem logEntry_link (k : LogKind) (t : Option Nat) (o : Origin) (a : Nat) (s : State) : (logEntry k t o a s).link = s.link := rfl
@[simp] theorem logEntry_pending (k : LogKind) (t : Option Nat) (o : Origin) (a : Nat) (s : State) : (logEntry k t o a s).pending = s.pending := rfl

@[simp] theorem clearReport_transport (p : Port) (s : State) : (clearReport p s).transport = s.transport := rfl
@[simp] theorem clearReport_store (p : Port) (s : State) : (clearReport p s).store = s.store := rfl
@[simp] theorem clearReport_coder (p : Port) (s : State) : (clearReport p s).coder = s.coder := rfl
@[simp] theorem clearReport_decoder (p : Port) (s : State) : (clearReport p s).decoder = s.decoder := rfl
@[simp] theorem clearReport_conceal (p : Port) (s : State) : (clearReport p s).conceal = s.conceal := rfl
@[simp] theorem clearReport_output (p : Port) (s : State) : (clearReport p s).output = s.output := rfl
@[simp] theorem clearReport_mixer (p : Port) (s : State) : (clearReport p s).mixer = s.mixer := rfl
@[simp] theorem clearReport_sequencer (p : Port) (s : State) : (clearReport p s).sequencer = s.sequencer := rfl
@[simp] theorem clearReport_cues (p : Port) (s : State) : (clearReport p s).cues = s.cues := rfl
@[simp] theorem clearReport_copy (p : Port) (s : State) : (clearReport p s).copy = s.copy := rfl
@[simp] theorem clearReport_input (p : Port) (s : State) : (clearReport p s).input = s.input := rfl
@[simp] theorem clearReport_banks (p : Port) (s : State) : (clearReport p s).banks = s.banks := rfl
@[simp] theorem clearReport_system (p : Port) (s : State) : (clearReport p s).system = s.system := rfl
@[simp] theorem clearReport_link (p : Port) (s : State) : (clearReport p s).link = s.link := rfl
@[simp] theorem clearReport_pending (p : Port) (s : State) : (clearReport p s).pending = s.pending := rfl

@[simp] theorem setCondition_transport (c : Condition) (s : State) : (setCondition c s).transport = s.transport := rfl
@[simp] theorem setCondition_store (c : Condition) (s : State) : (setCondition c s).store = s.store := rfl
@[simp] theorem setCondition_coder (c : Condition) (s : State) : (setCondition c s).coder = s.coder := rfl
@[simp] theorem setCondition_decoder (c : Condition) (s : State) : (setCondition c s).decoder = s.decoder := rfl
@[simp] theorem setCondition_conceal (c : Condition) (s : State) : (setCondition c s).conceal = s.conceal := rfl
@[simp] theorem setCondition_output (c : Condition) (s : State) : (setCondition c s).output = s.output := rfl
@[simp] theorem setCondition_mixer (c : Condition) (s : State) : (setCondition c s).mixer = s.mixer := rfl
@[simp] theorem setCondition_cues (c : Condition) (s : State) : (setCondition c s).cues = s.cues := rfl
@[simp] theorem setCondition_copy (c : Condition) (s : State) : (setCondition c s).copy = s.copy := rfl
@[simp] theorem setCondition_input (c : Condition) (s : State) : (setCondition c s).input = s.input := rfl
@[simp] theorem setCondition_banks (c : Condition) (s : State) : (setCondition c s).banks = s.banks := rfl
@[simp] theorem setCondition_reports (c : Condition) (s : State) : (setCondition c s).reports = s.reports := rfl
@[simp] theorem setCondition_system (c : Condition) (s : State) : (setCondition c s).system = s.system := rfl
@[simp] theorem setCondition_link (c : Condition) (s : State) : (setCondition c s).link = s.link := rfl
@[simp] theorem setCondition_pending (c : Condition) (s : State) : (setCondition c s).pending = s.pending := rfl

@[simp] theorem clearCondition_transport (c : Condition) (s : State) : (clearCondition c s).transport = s.transport := rfl
@[simp] theorem clearCondition_store (c : Condition) (s : State) : (clearCondition c s).store = s.store := rfl
@[simp] theorem clearCondition_coder (c : Condition) (s : State) : (clearCondition c s).coder = s.coder := rfl
@[simp] theorem clearCondition_decoder (c : Condition) (s : State) : (clearCondition c s).decoder = s.decoder := rfl
@[simp] theorem clearCondition_conceal (c : Condition) (s : State) : (clearCondition c s).conceal = s.conceal := rfl
@[simp] theorem clearCondition_output (c : Condition) (s : State) : (clearCondition c s).output = s.output := rfl
@[simp] theorem clearCondition_mixer (c : Condition) (s : State) : (clearCondition c s).mixer = s.mixer := rfl
@[simp] theorem clearCondition_cues (c : Condition) (s : State) : (clearCondition c s).cues = s.cues := rfl
@[simp] theorem clearCondition_copy (c : Condition) (s : State) : (clearCondition c s).copy = s.copy := rfl
@[simp] theorem clearCondition_input (c : Condition) (s : State) : (clearCondition c s).input = s.input := rfl
@[simp] theorem clearCondition_banks (c : Condition) (s : State) : (clearCondition c s).banks = s.banks := rfl
@[simp] theorem clearCondition_reports (c : Condition) (s : State) : (clearCondition c s).reports = s.reports := rfl
@[simp] theorem clearCondition_system (c : Condition) (s : State) : (clearCondition c s).system = s.system := rfl
@[simp] theorem clearCondition_link (c : Condition) (s : State) : (clearCondition c s).link = s.link := rfl
@[simp] theorem clearCondition_pending (c : Condition) (s : State) : (clearCondition c s).pending = s.pending := rfl

@[simp] theorem handOff_transport (h : Handoff) (s : State) : (handOff h s).transport = s.transport := rfl
@[simp] theorem handOff_store (h : Handoff) (s : State) : (handOff h s).store = s.store := rfl
@[simp] theorem handOff_coder (h : Handoff) (s : State) : (handOff h s).coder = s.coder := rfl
@[simp] theorem handOff_decoder (h : Handoff) (s : State) : (handOff h s).decoder = s.decoder := rfl
@[simp] theorem handOff_conceal (h : Handoff) (s : State) : (handOff h s).conceal = s.conceal := rfl
@[simp] theorem handOff_output (h : Handoff) (s : State) : (handOff h s).output = s.output := rfl
@[simp] theorem handOff_mixer (h : Handoff) (s : State) : (handOff h s).mixer = s.mixer := rfl
@[simp] theorem handOff_cues (h : Handoff) (s : State) : (handOff h s).cues = s.cues := rfl
@[simp] theorem handOff_copy (h : Handoff) (s : State) : (handOff h s).copy = s.copy := rfl
@[simp] theorem handOff_input (h : Handoff) (s : State) : (handOff h s).input = s.input := rfl
@[simp] theorem handOff_banks (h : Handoff) (s : State) : (handOff h s).banks = s.banks := rfl
@[simp] theorem handOff_reports (h : Handoff) (s : State) : (handOff h s).reports = s.reports := rfl
@[simp] theorem handOff_system (h : Handoff) (s : State) : (handOff h s).system = s.system := rfl
@[simp] theorem handOff_link (h : Handoff) (s : State) : (handOff h s).link = s.link := rfl
@[simp] theorem handOff_pending (h : Handoff) (s : State) : (handOff h s).pending = s.pending := rfl

@[simp] theorem clearPunches_transport (s : State) : (clearPunches s).transport = s.transport := rfl
@[simp] theorem clearPunches_store (s : State) : (clearPunches s).store = s.store := rfl
@[simp] theorem clearPunches_coder (s : State) : (clearPunches s).coder = s.coder := rfl
@[simp] theorem clearPunches_decoder (s : State) : (clearPunches s).decoder = s.decoder := rfl
@[simp] theorem clearPunches_conceal (s : State) : (clearPunches s).conceal = s.conceal := rfl
@[simp] theorem clearPunches_output (s : State) : (clearPunches s).output = s.output := rfl
@[simp] theorem clearPunches_sequencer (s : State) : (clearPunches s).sequencer = s.sequencer := rfl
@[simp] theorem clearPunches_cues (s : State) : (clearPunches s).cues = s.cues := rfl
@[simp] theorem clearPunches_copy (s : State) : (clearPunches s).copy = s.copy := rfl
@[simp] theorem clearPunches_input (s : State) : (clearPunches s).input = s.input := rfl
@[simp] theorem clearPunches_banks (s : State) : (clearPunches s).banks = s.banks := rfl
@[simp] theorem clearPunches_reports (s : State) : (clearPunches s).reports = s.reports := rfl
@[simp] theorem clearPunches_system (s : State) : (clearPunches s).system = s.system := rfl
@[simp] theorem clearPunches_link (s : State) : (clearPunches s).link = s.link := rfl
@[simp] theorem clearPunches_pending (s : State) : (clearPunches s).pending = s.pending := rfl

@[simp] theorem setLocate_store (f : LocateRecord → LocateRecord) (s : State) : (setLocate f s).store = s.store := rfl
@[simp] theorem setLocate_coder (f : LocateRecord → LocateRecord) (s : State) : (setLocate f s).coder = s.coder := rfl
@[simp] theorem setLocate_decoder (f : LocateRecord → LocateRecord) (s : State) : (setLocate f s).decoder = s.decoder := rfl
@[simp] theorem setLocate_conceal (f : LocateRecord → LocateRecord) (s : State) : (setLocate f s).conceal = s.conceal := rfl
@[simp] theorem setLocate_output (f : LocateRecord → LocateRecord) (s : State) : (setLocate f s).output = s.output := rfl
@[simp] theorem setLocate_mixer (f : LocateRecord → LocateRecord) (s : State) : (setLocate f s).mixer = s.mixer := rfl
@[simp] theorem setLocate_sequencer (f : LocateRecord → LocateRecord) (s : State) : (setLocate f s).sequencer = s.sequencer := rfl
@[simp] theorem setLocate_cues (f : LocateRecord → LocateRecord) (s : State) : (setLocate f s).cues = s.cues := rfl
@[simp] theorem setLocate_copy (f : LocateRecord → LocateRecord) (s : State) : (setLocate f s).copy = s.copy := rfl
@[simp] theorem setLocate_input (f : LocateRecord → LocateRecord) (s : State) : (setLocate f s).input = s.input := rfl
@[simp] theorem setLocate_banks (f : LocateRecord → LocateRecord) (s : State) : (setLocate f s).banks = s.banks := rfl
@[simp] theorem setLocate_reports (f : LocateRecord → LocateRecord) (s : State) : (setLocate f s).reports = s.reports := rfl
@[simp] theorem setLocate_system (f : LocateRecord → LocateRecord) (s : State) : (setLocate f s).system = s.system := rfl
@[simp] theorem setLocate_link (f : LocateRecord → LocateRecord) (s : State) : (setLocate f s).link = s.link := rfl
@[simp] theorem setLocate_pending (f : LocateRecord → LocateRecord) (s : State) : (setLocate f s).pending = s.pending := rfl

@[simp] theorem setEntry_transport (i : Nat) (e : ListEntry) (s : State) : (setEntry i e s).transport = s.transport := rfl
@[simp] theorem setEntry_store (i : Nat) (e : ListEntry) (s : State) : (setEntry i e s).store = s.store := rfl
@[simp] theorem setEntry_coder (i : Nat) (e : ListEntry) (s : State) : (setEntry i e s).coder = s.coder := rfl
@[simp] theorem setEntry_decoder (i : Nat) (e : ListEntry) (s : State) : (setEntry i e s).decoder = s.decoder := rfl
@[simp] theorem setEntry_conceal (i : Nat) (e : ListEntry) (s : State) : (setEntry i e s).conceal = s.conceal := rfl
@[simp] theorem setEntry_output (i : Nat) (e : ListEntry) (s : State) : (setEntry i e s).output = s.output := rfl
@[simp] theorem setEntry_mixer (i : Nat) (e : ListEntry) (s : State) : (setEntry i e s).mixer = s.mixer := rfl
@[simp] theorem setEntry_cues (i : Nat) (e : ListEntry) (s : State) : (setEntry i e s).cues = s.cues := rfl
@[simp] theorem setEntry_copy (i : Nat) (e : ListEntry) (s : State) : (setEntry i e s).copy = s.copy := rfl
@[simp] theorem setEntry_input (i : Nat) (e : ListEntry) (s : State) : (setEntry i e s).input = s.input := rfl
@[simp] theorem setEntry_banks (i : Nat) (e : ListEntry) (s : State) : (setEntry i e s).banks = s.banks := rfl
@[simp] theorem setEntry_reports (i : Nat) (e : ListEntry) (s : State) : (setEntry i e s).reports = s.reports := rfl
@[simp] theorem setEntry_system (i : Nat) (e : ListEntry) (s : State) : (setEntry i e s).system = s.system := rfl
@[simp] theorem setEntry_link (i : Nat) (e : ListEntry) (s : State) : (setEntry i e s).link = s.link := rfl
@[simp] theorem setEntry_pending (i : Nat) (e : ListEntry) (s : State) : (setEntry i e s).pending = s.pending := rfl

@[simp] theorem writeResult_transport (i : Nat) (o : EntryOutcome) (b : BitVec 7) (t : Option Nat) (s : State) : (writeResult i o b t s).transport = s.transport := rfl
@[simp] theorem writeResult_store (i : Nat) (o : EntryOutcome) (b : BitVec 7) (t : Option Nat) (s : State) : (writeResult i o b t s).store = s.store := rfl
@[simp] theorem writeResult_coder (i : Nat) (o : EntryOutcome) (b : BitVec 7) (t : Option Nat) (s : State) : (writeResult i o b t s).coder = s.coder := rfl
@[simp] theorem writeResult_decoder (i : Nat) (o : EntryOutcome) (b : BitVec 7) (t : Option Nat) (s : State) : (writeResult i o b t s).decoder = s.decoder := rfl
@[simp] theorem writeResult_conceal (i : Nat) (o : EntryOutcome) (b : BitVec 7) (t : Option Nat) (s : State) : (writeResult i o b t s).conceal = s.conceal := rfl
@[simp] theorem writeResult_output (i : Nat) (o : EntryOutcome) (b : BitVec 7) (t : Option Nat) (s : State) : (writeResult i o b t s).output = s.output := rfl
@[simp] theorem writeResult_mixer (i : Nat) (o : EntryOutcome) (b : BitVec 7) (t : Option Nat) (s : State) : (writeResult i o b t s).mixer = s.mixer := rfl
@[simp] theorem writeResult_cues (i : Nat) (o : EntryOutcome) (b : BitVec 7) (t : Option Nat) (s : State) : (writeResult i o b t s).cues = s.cues := rfl
@[simp] theorem writeResult_copy (i : Nat) (o : EntryOutcome) (b : BitVec 7) (t : Option Nat) (s : State) : (writeResult i o b t s).copy = s.copy := rfl
@[simp] theorem writeResult_input (i : Nat) (o : EntryOutcome) (b : BitVec 7) (t : Option Nat) (s : State) : (writeResult i o b t s).input = s.input := rfl
@[simp] theorem writeResult_banks (i : Nat) (o : EntryOutcome) (b : BitVec 7) (t : Option Nat) (s : State) : (writeResult i o b t s).banks = s.banks := rfl
@[simp] theorem writeResult_reports (i : Nat) (o : EntryOutcome) (b : BitVec 7) (t : Option Nat) (s : State) : (writeResult i o b t s).reports = s.reports := rfl
@[simp] theorem writeResult_system (i : Nat) (o : EntryOutcome) (b : BitVec 7) (t : Option Nat) (s : State) : (writeResult i o b t s).system = s.system := rfl
@[simp] theorem writeResult_link (i : Nat) (o : EntryOutcome) (b : BitVec 7) (t : Option Nat) (s : State) : (writeResult i o b t s).link = s.link := rfl
@[simp] theorem writeResult_pending (i : Nat) (o : EntryOutcome) (b : BitVec 7) (t : Option Nat) (s : State) : (writeResult i o b t s).pending = s.pending := rfl

@[simp] theorem writeNow_transport (i : Nat) (o : EntryOutcome) (s : State) : (writeNow i o s).transport = s.transport := rfl
@[simp] theorem writeNow_store (i : Nat) (o : EntryOutcome) (s : State) : (writeNow i o s).store = s.store := rfl
@[simp] theorem writeNow_coder (i : Nat) (o : EntryOutcome) (s : State) : (writeNow i o s).coder = s.coder := rfl
@[simp] theorem writeNow_decoder (i : Nat) (o : EntryOutcome) (s : State) : (writeNow i o s).decoder = s.decoder := rfl
@[simp] theorem writeNow_conceal (i : Nat) (o : EntryOutcome) (s : State) : (writeNow i o s).conceal = s.conceal := rfl
@[simp] theorem writeNow_output (i : Nat) (o : EntryOutcome) (s : State) : (writeNow i o s).output = s.output := rfl
@[simp] theorem writeNow_mixer (i : Nat) (o : EntryOutcome) (s : State) : (writeNow i o s).mixer = s.mixer := rfl
@[simp] theorem writeNow_cues (i : Nat) (o : EntryOutcome) (s : State) : (writeNow i o s).cues = s.cues := rfl
@[simp] theorem writeNow_copy (i : Nat) (o : EntryOutcome) (s : State) : (writeNow i o s).copy = s.copy := rfl
@[simp] theorem writeNow_input (i : Nat) (o : EntryOutcome) (s : State) : (writeNow i o s).input = s.input := rfl
@[simp] theorem writeNow_banks (i : Nat) (o : EntryOutcome) (s : State) : (writeNow i o s).banks = s.banks := rfl
@[simp] theorem writeNow_reports (i : Nat) (o : EntryOutcome) (s : State) : (writeNow i o s).reports = s.reports := rfl
@[simp] theorem writeNow_system (i : Nat) (o : EntryOutcome) (s : State) : (writeNow i o s).system = s.system := rfl
@[simp] theorem writeNow_link (i : Nat) (o : EntryOutcome) (s : State) : (writeNow i o s).link = s.link := rfl
@[simp] theorem writeNow_pending (i : Nat) (o : EntryOutcome) (s : State) : (writeNow i o s).pending = s.pending := rfl

@[simp] theorem endQuietly_transport (r : EndReason) (s : State) : (endQuietly r s).transport = s.transport := rfl
@[simp] theorem endQuietly_store (r : EndReason) (s : State) : (endQuietly r s).store = s.store := rfl
@[simp] theorem endQuietly_coder (r : EndReason) (s : State) : (endQuietly r s).coder = s.coder := rfl
@[simp] theorem endQuietly_decoder (r : EndReason) (s : State) : (endQuietly r s).decoder = s.decoder := rfl
@[simp] theorem endQuietly_conceal (r : EndReason) (s : State) : (endQuietly r s).conceal = s.conceal := rfl
@[simp] theorem endQuietly_output (r : EndReason) (s : State) : (endQuietly r s).output = s.output := rfl
@[simp] theorem endQuietly_mixer (r : EndReason) (s : State) : (endQuietly r s).mixer = s.mixer := rfl
@[simp] theorem endQuietly_cues (r : EndReason) (s : State) : (endQuietly r s).cues = s.cues := rfl
@[simp] theorem endQuietly_copy (r : EndReason) (s : State) : (endQuietly r s).copy = s.copy := rfl
@[simp] theorem endQuietly_input (r : EndReason) (s : State) : (endQuietly r s).input = s.input := rfl
@[simp] theorem endQuietly_banks (r : EndReason) (s : State) : (endQuietly r s).banks = s.banks := rfl
@[simp] theorem endQuietly_reports (r : EndReason) (s : State) : (endQuietly r s).reports = s.reports := rfl
@[simp] theorem endQuietly_system (r : EndReason) (s : State) : (endQuietly r s).system = s.system := rfl
@[simp] theorem endQuietly_link (r : EndReason) (s : State) : (endQuietly r s).link = s.link := rfl
@[simp] theorem endQuietly_pending (r : EndReason) (s : State) : (endQuietly r s).pending = s.pending := rfl

@[simp] theorem clearConditions_transport (m : BitVec 7) (s : State) : (clearConditions m s).transport = s.transport := rfl
@[simp] theorem clearConditions_store (m : BitVec 7) (s : State) : (clearConditions m s).store = s.store := rfl
@[simp] theorem clearConditions_coder (m : BitVec 7) (s : State) : (clearConditions m s).coder = s.coder := rfl
@[simp] theorem clearConditions_decoder (m : BitVec 7) (s : State) : (clearConditions m s).decoder = s.decoder := rfl
@[simp] theorem clearConditions_conceal (m : BitVec 7) (s : State) : (clearConditions m s).conceal = s.conceal := rfl
@[simp] theorem clearConditions_output (m : BitVec 7) (s : State) : (clearConditions m s).output = s.output := rfl
@[simp] theorem clearConditions_mixer (m : BitVec 7) (s : State) : (clearConditions m s).mixer = s.mixer := rfl
@[simp] theorem clearConditions_cues (m : BitVec 7) (s : State) : (clearConditions m s).cues = s.cues := rfl
@[simp] theorem clearConditions_copy (m : BitVec 7) (s : State) : (clearConditions m s).copy = s.copy := rfl
@[simp] theorem clearConditions_input (m : BitVec 7) (s : State) : (clearConditions m s).input = s.input := rfl
@[simp] theorem clearConditions_banks (m : BitVec 7) (s : State) : (clearConditions m s).banks = s.banks := rfl
@[simp] theorem clearConditions_reports (m : BitVec 7) (s : State) : (clearConditions m s).reports = s.reports := rfl
@[simp] theorem clearConditions_system (m : BitVec 7) (s : State) : (clearConditions m s).system = s.system := rfl
@[simp] theorem clearConditions_link (m : BitVec 7) (s : State) : (clearConditions m s).link = s.link := rfl
@[simp] theorem clearConditions_pending (m : BitVec 7) (s : State) : (clearConditions m s).pending = s.pending := rfl

@[simp] theorem setReport_store (r : Option MotionReport) (s : State) : (setReport r s).store = s.store := rfl
@[simp] theorem setReport_coder (r : Option MotionReport) (s : State) : (setReport r s).coder = s.coder := rfl
@[simp] theorem setReport_decoder (r : Option MotionReport) (s : State) : (setReport r s).decoder = s.decoder := rfl
@[simp] theorem setReport_conceal (r : Option MotionReport) (s : State) : (setReport r s).conceal = s.conceal := rfl
@[simp] theorem setReport_output (r : Option MotionReport) (s : State) : (setReport r s).output = s.output := rfl
@[simp] theorem setReport_mixer (r : Option MotionReport) (s : State) : (setReport r s).mixer = s.mixer := rfl
@[simp] theorem setReport_sequencer (r : Option MotionReport) (s : State) : (setReport r s).sequencer = s.sequencer := rfl
@[simp] theorem setReport_cues (r : Option MotionReport) (s : State) : (setReport r s).cues = s.cues := rfl
@[simp] theorem setReport_copy (r : Option MotionReport) (s : State) : (setReport r s).copy = s.copy := rfl
@[simp] theorem setReport_input (r : Option MotionReport) (s : State) : (setReport r s).input = s.input := rfl
@[simp] theorem setReport_banks (r : Option MotionReport) (s : State) : (setReport r s).banks = s.banks := rfl
@[simp] theorem setReport_reports (r : Option MotionReport) (s : State) : (setReport r s).reports = s.reports := rfl
@[simp] theorem setReport_system (r : Option MotionReport) (s : State) : (setReport r s).system = s.system := rfl
@[simp] theorem setReport_link (r : Option MotionReport) (s : State) : (setReport r s).link = s.link := rfl
@[simp] theorem setReport_pending (r : Option MotionReport) (s : State) : (setReport r s).pending = s.pending := rfl

@[simp] theorem setStatus_transport (t : TimeStatus) (n : Nat) (s : State) : (setStatus t n s).transport = s.transport := rfl
@[simp] theorem setStatus_store (t : TimeStatus) (n : Nat) (s : State) : (setStatus t n s).store = s.store := rfl
@[simp] theorem setStatus_coder (t : TimeStatus) (n : Nat) (s : State) : (setStatus t n s).coder = s.coder := rfl
@[simp] theorem setStatus_conceal (t : TimeStatus) (n : Nat) (s : State) : (setStatus t n s).conceal = s.conceal := rfl
@[simp] theorem setStatus_output (t : TimeStatus) (n : Nat) (s : State) : (setStatus t n s).output = s.output := rfl
@[simp] theorem setStatus_mixer (t : TimeStatus) (n : Nat) (s : State) : (setStatus t n s).mixer = s.mixer := rfl
@[simp] theorem setStatus_sequencer (t : TimeStatus) (n : Nat) (s : State) : (setStatus t n s).sequencer = s.sequencer := rfl
@[simp] theorem setStatus_cues (t : TimeStatus) (n : Nat) (s : State) : (setStatus t n s).cues = s.cues := rfl
@[simp] theorem setStatus_copy (t : TimeStatus) (n : Nat) (s : State) : (setStatus t n s).copy = s.copy := rfl
@[simp] theorem setStatus_input (t : TimeStatus) (n : Nat) (s : State) : (setStatus t n s).input = s.input := rfl
@[simp] theorem setStatus_banks (t : TimeStatus) (n : Nat) (s : State) : (setStatus t n s).banks = s.banks := rfl
@[simp] theorem setStatus_reports (t : TimeStatus) (n : Nat) (s : State) : (setStatus t n s).reports = s.reports := rfl
@[simp] theorem setStatus_system (t : TimeStatus) (n : Nat) (s : State) : (setStatus t n s).system = s.system := rfl
@[simp] theorem setStatus_link (t : TimeStatus) (n : Nat) (s : State) : (setStatus t n s).link = s.link := rfl
@[simp] theorem setStatus_pending (t : TimeStatus) (n : Nat) (s : State) : (setStatus t n s).pending = s.pending := rfl

@[simp] theorem deliverPair_transport (p : Pair) (s : State) : (deliverPair p s).transport = s.transport := rfl
@[simp] theorem deliverPair_store (p : Pair) (s : State) : (deliverPair p s).store = s.store := rfl
@[simp] theorem deliverPair_coder (p : Pair) (s : State) : (deliverPair p s).coder = s.coder := rfl
@[simp] theorem deliverPair_decoder (p : Pair) (s : State) : (deliverPair p s).decoder = s.decoder := rfl
@[simp] theorem deliverPair_conceal (p : Pair) (s : State) : (deliverPair p s).conceal = s.conceal := rfl
@[simp] theorem deliverPair_mixer (p : Pair) (s : State) : (deliverPair p s).mixer = s.mixer := rfl
@[simp] theorem deliverPair_sequencer (p : Pair) (s : State) : (deliverPair p s).sequencer = s.sequencer := rfl
@[simp] theorem deliverPair_cues (p : Pair) (s : State) : (deliverPair p s).cues = s.cues := rfl
@[simp] theorem deliverPair_copy (p : Pair) (s : State) : (deliverPair p s).copy = s.copy := rfl
@[simp] theorem deliverPair_input (p : Pair) (s : State) : (deliverPair p s).input = s.input := rfl
@[simp] theorem deliverPair_banks (p : Pair) (s : State) : (deliverPair p s).banks = s.banks := rfl
@[simp] theorem deliverPair_reports (p : Pair) (s : State) : (deliverPair p s).reports = s.reports := rfl
@[simp] theorem deliverPair_system (p : Pair) (s : State) : (deliverPair p s).system = s.system := rfl
@[simp] theorem deliverPair_link (p : Pair) (s : State) : (deliverPair p s).link = s.link := rfl
@[simp] theorem deliverPair_pending (p : Pair) (s : State) : (deliverPair p s).pending = s.pending := rfl

@[simp] theorem setFrame_transport (l : List OutputItem) (s : State) : (setFrame l s).transport = s.transport := rfl
@[simp] theorem setFrame_store (l : List OutputItem) (s : State) : (setFrame l s).store = s.store := rfl
@[simp] theorem setFrame_coder (l : List OutputItem) (s : State) : (setFrame l s).coder = s.coder := rfl
@[simp] theorem setFrame_decoder (l : List OutputItem) (s : State) : (setFrame l s).decoder = s.decoder := rfl
@[simp] theorem setFrame_conceal (l : List OutputItem) (s : State) : (setFrame l s).conceal = s.conceal := rfl
@[simp] theorem setFrame_mixer (l : List OutputItem) (s : State) : (setFrame l s).mixer = s.mixer := rfl
@[simp] theorem setFrame_sequencer (l : List OutputItem) (s : State) : (setFrame l s).sequencer = s.sequencer := rfl
@[simp] theorem setFrame_cues (l : List OutputItem) (s : State) : (setFrame l s).cues = s.cues := rfl
@[simp] theorem setFrame_copy (l : List OutputItem) (s : State) : (setFrame l s).copy = s.copy := rfl
@[simp] theorem setFrame_input (l : List OutputItem) (s : State) : (setFrame l s).input = s.input := rfl
@[simp] theorem setFrame_banks (l : List OutputItem) (s : State) : (setFrame l s).banks = s.banks := rfl
@[simp] theorem setFrame_reports (l : List OutputItem) (s : State) : (setFrame l s).reports = s.reports := rfl
@[simp] theorem setFrame_system (l : List OutputItem) (s : State) : (setFrame l s).system = s.system := rfl
@[simp] theorem setFrame_link (l : List OutputItem) (s : State) : (setFrame l s).link = s.link := rfl
@[simp] theorem setFrame_pending (l : List OutputItem) (s : State) : (setFrame l s).pending = s.pending := rfl

@[simp] theorem startFade_transport (s : State) : (startFade s).transport = s.transport := rfl
@[simp] theorem startFade_store (s : State) : (startFade s).store = s.store := rfl
@[simp] theorem startFade_coder (s : State) : (startFade s).coder = s.coder := rfl
@[simp] theorem startFade_decoder (s : State) : (startFade s).decoder = s.decoder := rfl
@[simp] theorem startFade_conceal (s : State) : (startFade s).conceal = s.conceal := rfl
@[simp] theorem startFade_mixer (s : State) : (startFade s).mixer = s.mixer := rfl
@[simp] theorem startFade_sequencer (s : State) : (startFade s).sequencer = s.sequencer := rfl
@[simp] theorem startFade_cues (s : State) : (startFade s).cues = s.cues := rfl
@[simp] theorem startFade_copy (s : State) : (startFade s).copy = s.copy := rfl
@[simp] theorem startFade_input (s : State) : (startFade s).input = s.input := rfl
@[simp] theorem startFade_banks (s : State) : (startFade s).banks = s.banks := rfl
@[simp] theorem startFade_reports (s : State) : (startFade s).reports = s.reports := rfl
@[simp] theorem startFade_system (s : State) : (startFade s).system = s.system := rfl
@[simp] theorem startFade_link (s : State) : (startFade s).link = s.link := rfl
@[simp] theorem startFade_pending (s : State) : (startFade s).pending = s.pending := rfl

@[simp] theorem answerWith_transport (l : List Byte) (s : State) : (answerWith l s).transport = s.transport := rfl
@[simp] theorem answerWith_store (l : List Byte) (s : State) : (answerWith l s).store = s.store := rfl
@[simp] theorem answerWith_coder (l : List Byte) (s : State) : (answerWith l s).coder = s.coder := rfl
@[simp] theorem answerWith_decoder (l : List Byte) (s : State) : (answerWith l s).decoder = s.decoder := rfl
@[simp] theorem answerWith_conceal (l : List Byte) (s : State) : (answerWith l s).conceal = s.conceal := rfl
@[simp] theorem answerWith_output (l : List Byte) (s : State) : (answerWith l s).output = s.output := rfl
@[simp] theorem answerWith_mixer (l : List Byte) (s : State) : (answerWith l s).mixer = s.mixer := rfl
@[simp] theorem answerWith_sequencer (l : List Byte) (s : State) : (answerWith l s).sequencer = s.sequencer := rfl
@[simp] theorem answerWith_cues (l : List Byte) (s : State) : (answerWith l s).cues = s.cues := rfl
@[simp] theorem answerWith_copy (l : List Byte) (s : State) : (answerWith l s).copy = s.copy := rfl
@[simp] theorem answerWith_input (l : List Byte) (s : State) : (answerWith l s).input = s.input := rfl
@[simp] theorem answerWith_banks (l : List Byte) (s : State) : (answerWith l s).banks = s.banks := rfl
@[simp] theorem answerWith_reports (l : List Byte) (s : State) : (answerWith l s).reports = s.reports := rfl
@[simp] theorem answerWith_link (l : List Byte) (s : State) : (answerWith l s).link = s.link := rfl
@[simp] theorem answerWith_pending (l : List Byte) (s : State) : (answerWith l s).pending = s.pending := rfl

@[simp] theorem popRequest_transport (p : Port) (s : State) : (popRequest p s).transport = s.transport := by cases p <;> rfl
@[simp] theorem popRequest_store (p : Port) (s : State) : (popRequest p s).store = s.store := by cases p <;> rfl
@[simp] theorem popRequest_coder (p : Port) (s : State) : (popRequest p s).coder = s.coder := by cases p <;> rfl
@[simp] theorem popRequest_decoder (p : Port) (s : State) : (popRequest p s).decoder = s.decoder := by cases p <;> rfl
@[simp] theorem popRequest_conceal (p : Port) (s : State) : (popRequest p s).conceal = s.conceal := by cases p <;> rfl
@[simp] theorem popRequest_output (p : Port) (s : State) : (popRequest p s).output = s.output := by cases p <;> rfl
@[simp] theorem popRequest_mixer (p : Port) (s : State) : (popRequest p s).mixer = s.mixer := by cases p <;> rfl
@[simp] theorem popRequest_sequencer (p : Port) (s : State) : (popRequest p s).sequencer = s.sequencer := by cases p <;> rfl
@[simp] theorem popRequest_cues (p : Port) (s : State) : (popRequest p s).cues = s.cues := by cases p <;> rfl
@[simp] theorem popRequest_copy (p : Port) (s : State) : (popRequest p s).copy = s.copy := by cases p <;> rfl
@[simp] theorem popRequest_input (p : Port) (s : State) : (popRequest p s).input = s.input := by cases p <;> rfl
@[simp] theorem popRequest_banks (p : Port) (s : State) : (popRequest p s).banks = s.banks := by cases p <;> rfl
@[simp] theorem popRequest_reports (p : Port) (s : State) : (popRequest p s).reports = s.reports := by cases p <;> rfl
@[simp] theorem popRequest_pending (p : Port) (s : State) : (popRequest p s).pending = s.pending := by cases p <;> rfl

@[simp] theorem placeUpstream_transport (l : List Byte) (s : State) : (placeUpstream l s).transport = s.transport := by unfold placeUpstream; split <;> rfl
@[simp] theorem placeUpstream_store (l : List Byte) (s : State) : (placeUpstream l s).store = s.store := by unfold placeUpstream; split <;> rfl
@[simp] theorem placeUpstream_coder (l : List Byte) (s : State) : (placeUpstream l s).coder = s.coder := by unfold placeUpstream; split <;> rfl
@[simp] theorem placeUpstream_decoder (l : List Byte) (s : State) : (placeUpstream l s).decoder = s.decoder := by unfold placeUpstream; split <;> rfl
@[simp] theorem placeUpstream_conceal (l : List Byte) (s : State) : (placeUpstream l s).conceal = s.conceal := by unfold placeUpstream; split <;> rfl
@[simp] theorem placeUpstream_output (l : List Byte) (s : State) : (placeUpstream l s).output = s.output := by unfold placeUpstream; split <;> rfl
@[simp] theorem placeUpstream_mixer (l : List Byte) (s : State) : (placeUpstream l s).mixer = s.mixer := by unfold placeUpstream; split <;> rfl
@[simp] theorem placeUpstream_sequencer (l : List Byte) (s : State) : (placeUpstream l s).sequencer = s.sequencer := by unfold placeUpstream; split <;> rfl
@[simp] theorem placeUpstream_cues (l : List Byte) (s : State) : (placeUpstream l s).cues = s.cues := by unfold placeUpstream; split <;> rfl
@[simp] theorem placeUpstream_copy (l : List Byte) (s : State) : (placeUpstream l s).copy = s.copy := by unfold placeUpstream; split <;> rfl
@[simp] theorem placeUpstream_input (l : List Byte) (s : State) : (placeUpstream l s).input = s.input := by unfold placeUpstream; split <;> rfl
@[simp] theorem placeUpstream_banks (l : List Byte) (s : State) : (placeUpstream l s).banks = s.banks := by unfold placeUpstream; split <;> rfl
@[simp] theorem placeUpstream_reports (l : List Byte) (s : State) : (placeUpstream l s).reports = s.reports := by unfold placeUpstream; split <;> rfl
@[simp] theorem placeUpstream_system (l : List Byte) (s : State) : (placeUpstream l s).system = s.system := by unfold placeUpstream; split <;> rfl
@[simp] theorem placeUpstream_pending (l : List Byte) (s : State) : (placeUpstream l s).pending = s.pending := by unfold placeUpstream; split <;> rfl

@[simp] theorem setLine_transport (l : Line) (v : LineStatus) (s : State) : (setLine l v s).transport = s.transport := by cases l <;> rfl
@[simp] theorem setLine_store (l : Line) (v : LineStatus) (s : State) : (setLine l v s).store = s.store := by cases l <;> rfl
@[simp] theorem setLine_coder (l : Line) (v : LineStatus) (s : State) : (setLine l v s).coder = s.coder := by cases l <;> rfl
@[simp] theorem setLine_decoder (l : Line) (v : LineStatus) (s : State) : (setLine l v s).decoder = s.decoder := by cases l <;> rfl
@[simp] theorem setLine_conceal (l : Line) (v : LineStatus) (s : State) : (setLine l v s).conceal = s.conceal := by cases l <;> rfl
@[simp] theorem setLine_output (l : Line) (v : LineStatus) (s : State) : (setLine l v s).output = s.output := by cases l <;> rfl
@[simp] theorem setLine_mixer (l : Line) (v : LineStatus) (s : State) : (setLine l v s).mixer = s.mixer := by cases l <;> rfl
@[simp] theorem setLine_sequencer (l : Line) (v : LineStatus) (s : State) : (setLine l v s).sequencer = s.sequencer := by cases l <;> rfl
@[simp] theorem setLine_cues (l : Line) (v : LineStatus) (s : State) : (setLine l v s).cues = s.cues := by cases l <;> rfl
@[simp] theorem setLine_copy (l : Line) (v : LineStatus) (s : State) : (setLine l v s).copy = s.copy := by cases l <;> rfl
@[simp] theorem setLine_input (l : Line) (v : LineStatus) (s : State) : (setLine l v s).input = s.input := by cases l <;> rfl
@[simp] theorem setLine_banks (l : Line) (v : LineStatus) (s : State) : (setLine l v s).banks = s.banks := by cases l <;> rfl
@[simp] theorem setLine_reports (l : Line) (v : LineStatus) (s : State) : (setLine l v s).reports = s.reports := by cases l <;> rfl
@[simp] theorem setLine_system (l : Line) (v : LineStatus) (s : State) : (setLine l v s).system = s.system := by cases l <;> rfl
@[simp] theorem setLine_pending (l : Line) (v : LineStatus) (s : State) : (setLine l v s).pending = s.pending := by cases l <;> rfl

@[simp] theorem leave_transport (x : OutputItem) (s : State) : (leave x s).transport = s.transport := by cases x <;> rfl
@[simp] theorem leave_store (x : OutputItem) (s : State) : (leave x s).store = s.store := by cases x <;> rfl
@[simp] theorem leave_coder (x : OutputItem) (s : State) : (leave x s).coder = s.coder := by cases x <;> rfl
@[simp] theorem leave_decoder (x : OutputItem) (s : State) : (leave x s).decoder = s.decoder := by cases x <;> rfl
@[simp] theorem leave_conceal (x : OutputItem) (s : State) : (leave x s).conceal = s.conceal := by cases x <;> rfl
@[simp] theorem leave_mixer (x : OutputItem) (s : State) : (leave x s).mixer = s.mixer := by cases x <;> rfl
@[simp] theorem leave_sequencer (x : OutputItem) (s : State) : (leave x s).sequencer = s.sequencer := by cases x <;> rfl
@[simp] theorem leave_cues (x : OutputItem) (s : State) : (leave x s).cues = s.cues := by cases x <;> rfl
@[simp] theorem leave_copy (x : OutputItem) (s : State) : (leave x s).copy = s.copy := by cases x <;> rfl
@[simp] theorem leave_input (x : OutputItem) (s : State) : (leave x s).input = s.input := by cases x <;> rfl
@[simp] theorem leave_banks (x : OutputItem) (s : State) : (leave x s).banks = s.banks := by cases x <;> rfl
@[simp] theorem leave_reports (x : OutputItem) (s : State) : (leave x s).reports = s.reports := by cases x <;> rfl
@[simp] theorem leave_system (x : OutputItem) (s : State) : (leave x s).system = s.system := by cases x <;> rfl
@[simp] theorem leave_link (x : OutputItem) (s : State) : (leave x s).link = s.link := by cases x <;> rfl
@[simp] theorem leave_pending (x : OutputItem) (s : State) : (leave x s).pending = s.pending := by cases x <;> rfl

@[simp] theorem handOffIf_transport (c : Bool) (h : Handoff) (s : State) : (handOffIf c h s).transport = s.transport := by cases c <;> rfl
@[simp] theorem handOffIf_store (c : Bool) (h : Handoff) (s : State) : (handOffIf c h s).store = s.store := by cases c <;> rfl
@[simp] theorem handOffIf_coder (c : Bool) (h : Handoff) (s : State) : (handOffIf c h s).coder = s.coder := by cases c <;> rfl
@[simp] theorem handOffIf_decoder (c : Bool) (h : Handoff) (s : State) : (handOffIf c h s).decoder = s.decoder := by cases c <;> rfl
@[simp] theorem handOffIf_conceal (c : Bool) (h : Handoff) (s : State) : (handOffIf c h s).conceal = s.conceal := by cases c <;> rfl
@[simp] theorem handOffIf_output (c : Bool) (h : Handoff) (s : State) : (handOffIf c h s).output = s.output := by cases c <;> rfl
@[simp] theorem handOffIf_mixer (c : Bool) (h : Handoff) (s : State) : (handOffIf c h s).mixer = s.mixer := by cases c <;> rfl
@[simp] theorem handOffIf_cues (c : Bool) (h : Handoff) (s : State) : (handOffIf c h s).cues = s.cues := by cases c <;> rfl
@[simp] theorem handOffIf_copy (c : Bool) (h : Handoff) (s : State) : (handOffIf c h s).copy = s.copy := by cases c <;> rfl
@[simp] theorem handOffIf_input (c : Bool) (h : Handoff) (s : State) : (handOffIf c h s).input = s.input := by cases c <;> rfl
@[simp] theorem handOffIf_banks (c : Bool) (h : Handoff) (s : State) : (handOffIf c h s).banks = s.banks := by cases c <;> rfl
@[simp] theorem handOffIf_reports (c : Bool) (h : Handoff) (s : State) : (handOffIf c h s).reports = s.reports := by cases c <;> rfl
@[simp] theorem handOffIf_system (c : Bool) (h : Handoff) (s : State) : (handOffIf c h s).system = s.system := by cases c <;> rfl
@[simp] theorem handOffIf_link (c : Bool) (h : Handoff) (s : State) : (handOffIf c h s).link = s.link := by cases c <;> rfl
@[simp] theorem handOffIf_pending (c : Bool) (h : Handoff) (s : State) : (handOffIf c h s).pending = s.pending := by cases c <;> rfl

@[simp] theorem placeReply_transport (t : Ticket) (l : List Word) (s : State) : (placeReply t l s).transport = s.transport := by
  rcases t with ⟨p, g⟩
  cases p
  · simp only [placeReply]; split <;> rfl
  · simp [placeReply]
@[simp] theorem placeReply_store (t : Ticket) (l : List Word) (s : State) : (placeReply t l s).store = s.store := by
  rcases t with ⟨p, g⟩
  cases p
  · simp only [placeReply]; split <;> rfl
  · simp [placeReply]
@[simp] theorem placeReply_coder (t : Ticket) (l : List Word) (s : State) : (placeReply t l s).coder = s.coder := by
  rcases t with ⟨p, g⟩
  cases p
  · simp only [placeReply]; split <;> rfl
  · simp [placeReply]
@[simp] theorem placeReply_decoder (t : Ticket) (l : List Word) (s : State) : (placeReply t l s).decoder = s.decoder := by
  rcases t with ⟨p, g⟩
  cases p
  · simp only [placeReply]; split <;> rfl
  · simp [placeReply]
@[simp] theorem placeReply_conceal (t : Ticket) (l : List Word) (s : State) : (placeReply t l s).conceal = s.conceal := by
  rcases t with ⟨p, g⟩
  cases p
  · simp only [placeReply]; split <;> rfl
  · simp [placeReply]
@[simp] theorem placeReply_output (t : Ticket) (l : List Word) (s : State) : (placeReply t l s).output = s.output := by
  rcases t with ⟨p, g⟩
  cases p
  · simp only [placeReply]; split <;> rfl
  · simp [placeReply]
@[simp] theorem placeReply_mixer (t : Ticket) (l : List Word) (s : State) : (placeReply t l s).mixer = s.mixer := by
  rcases t with ⟨p, g⟩
  cases p
  · simp only [placeReply]; split <;> rfl
  · simp [placeReply]
@[simp] theorem placeReply_sequencer (t : Ticket) (l : List Word) (s : State) : (placeReply t l s).sequencer = s.sequencer := by
  rcases t with ⟨p, g⟩
  cases p
  · simp only [placeReply]; split <;> rfl
  · simp [placeReply]
@[simp] theorem placeReply_cues (t : Ticket) (l : List Word) (s : State) : (placeReply t l s).cues = s.cues := by
  rcases t with ⟨p, g⟩
  cases p
  · simp only [placeReply]; split <;> rfl
  · simp [placeReply]
@[simp] theorem placeReply_copy (t : Ticket) (l : List Word) (s : State) : (placeReply t l s).copy = s.copy := by
  rcases t with ⟨p, g⟩
  cases p
  · simp only [placeReply]; split <;> rfl
  · simp [placeReply]
@[simp] theorem placeReply_input (t : Ticket) (l : List Word) (s : State) : (placeReply t l s).input = s.input := by
  rcases t with ⟨p, g⟩
  cases p
  · simp only [placeReply]; split <;> rfl
  · simp [placeReply]
@[simp] theorem placeReply_banks (t : Ticket) (l : List Word) (s : State) : (placeReply t l s).banks = s.banks := by
  rcases t with ⟨p, g⟩
  cases p
  · simp only [placeReply]; split <;> rfl
  · simp [placeReply]
@[simp] theorem placeReply_pending (t : Ticket) (l : List Word) (s : State) : (placeReply t l s).pending = s.pending := by
  rcases t with ⟨p, g⟩
  cases p
  · simp only [placeReply]; split <;> rfl
  · simp [placeReply]

/-! ### What the updates write -/

@[simp] theorem setSlot_slots (i : Nat) (v : Slot) (s : State) : (setSlot i v s).store.slots = s.store.slots.set i v := rfl
@[simp] theorem setSlot_captureList (i : Nat) (v : Slot) (s : State) : (setSlot i v s).store.captureList = s.store.captureList := rfl
@[simp] theorem setSlot_gatherList (i : Nat) (v : Slot) (s : State) : (setSlot i v s).store.gatherList = s.store.gatherList := rfl
@[simp] theorem setSlot_outputQueue (i : Nat) (v : Slot) (s : State) : (setSlot i v s).store.outputQueue = s.store.outputQueue := rfl
@[simp] theorem setSlot_writeQueue (i : Nat) (v : Slot) (s : State) : (setSlot i v s).store.writeQueue = s.store.writeQueue := rfl
@[simp] theorem setSlot_trim (i : Nat) (v : Slot) (s : State) : (setSlot i v s).store.trim = s.store.trim := rfl
@[simp] theorem setTrim_slots (t : Trim) (s : State) : (setTrim t s).store.slots = s.store.slots := rfl
@[simp] theorem setTrim_trim (t : Trim) (s : State) : (setTrim t s).store.trim = t := rfl
@[simp] theorem setTrim_state (t : Trim) (s : State) : (setTrim t s).transport.state = s.transport.state := rfl
@[simp] theorem logEntry_systemReport (k : LogKind) (t : Option Nat) (o : Origin) (a : Nat) (s : State) :
    (logEntry k t o a s).reports.system = s.reports.system := rfl
@[simp] theorem logEntry_linkReport (k : LogKind) (t : Option Nat) (o : Origin) (a : Nat) (s : State) :
    (logEntry k t o a s).reports.link = s.reports.link := rfl
@[simp] theorem raiseFlag_log (f : Flag) (s : State) : (raiseFlag f s).reports.log = s.reports.log := rfl
@[simp] theorem raiseFlag_nextSequence (f : Flag) (s : State) :
    (raiseFlag f s).reports.nextSequence = s.reports.nextSequence := rfl
@[simp] theorem count_log (c : Counter) (n : Nat) (s : State) : (count c n s).reports.log = s.reports.log := rfl
@[simp] theorem count_nextSequence (c : Counter) (n : Nat) (s : State) :
    (count c n s).reports.nextSequence = s.reports.nextSequence := rfl
@[simp] theorem clearPunches_gateOpen (s : State) : (clearPunches s).mixer.gateOpen = false := rfl
@[simp] theorem clearPunches_taken (s : State) : (clearPunches s).mixer.taken = false := rfl
@[simp] theorem clearPunches_punchIn (s : State) : (clearPunches s).mixer.punchIn = none := rfl
@[simp] theorem clearPunches_punchOut (s : State) : (clearPunches s).mixer.punchOut = none := rfl
@[simp] theorem setReport_state (r : Option MotionReport) (s : State) : (setReport r s).transport.state = s.transport.state := rfl
@[simp] theorem setReport_lastReport (r : Option MotionReport) (s : State) : (setReport r s).transport.lastReport = r := rfl
@[simp] theorem setStatus_status (t : TimeStatus) (n : Nat) (s : State) : (setStatus t n s).decoder.status = t := rfl
@[simp] theorem setStatus_holdover (t : TimeStatus) (n : Nat) (s : State) : (setStatus t n s).decoder.holdover = n := rfl
@[simp] theorem setStatus_time (t : TimeStatus) (n : Nat) (s : State) : (setStatus t n s).decoder.time = s.decoder.time := rfl
@[simp] theorem setFrame_frame (l : List OutputItem) (s : State) : (setFrame l s).output.frame = l := rfl
@[simp] theorem deliverPair_heldPair (p : Pair) (s : State) : (deliverPair p s).output.heldPair = p := rfl
@[simp] theorem answerWith_answer (l : List Byte) (s : State) : (answerWith l s).system.answer = l := rfl
@[simp] theorem answerWith_requests (l : List Byte) (s : State) : (answerWith l s).system.requests = s.system.requests := rfl
@[simp] theorem answerWith_replies (l : List Byte) (s : State) : (answerWith l s).system.replies = s.system.replies := rfl
@[simp] theorem handOff_handoffs (h : Handoff) (s : State) :
    (handOff h s).sequencer.handoffs = s.sequencer.handoffs ++ [h] := rfl
@[simp] theorem setCondition_handoffs (c : Condition) (s : State) :
    (setCondition c s).sequencer.handoffs = s.sequencer.handoffs := rfl
@[simp] theorem setCondition_state (c : Condition) (s : State) :
    (setCondition c s).sequencer.state = s.sequencer.state := rfl

/-! ### Late reads -/

@[simp] theorem setLateReads_transport (s : State) : (setLateReads s).transport = s.transport := rfl
@[simp] theorem setLateReads_store (s : State) : (setLateReads s).store = s.store := rfl
@[simp] theorem setLateReads_coder (s : State) : (setLateReads s).coder = s.coder := rfl
@[simp] theorem setLateReads_conceal (s : State) : (setLateReads s).conceal = s.conceal := rfl
@[simp] theorem setLateReads_output (s : State) : (setLateReads s).output = s.output := rfl
@[simp] theorem setLateReads_mixer (s : State) : (setLateReads s).mixer = s.mixer := rfl
@[simp] theorem setLateReads_sequencer (s : State) : (setLateReads s).sequencer = s.sequencer := rfl
@[simp] theorem setLateReads_cues (s : State) : (setLateReads s).cues = s.cues := rfl
@[simp] theorem setLateReads_copy (s : State) : (setLateReads s).copy = s.copy := rfl
@[simp] theorem setLateReads_input (s : State) : (setLateReads s).input = s.input := rfl
@[simp] theorem setLateReads_banks (s : State) : (setLateReads s).banks = s.banks := rfl
@[simp] theorem setLateReads_reports (s : State) : (setLateReads s).reports = s.reports := rfl
@[simp] theorem setLateReads_system (s : State) : (setLateReads s).system = s.system := rfl
@[simp] theorem setLateReads_link (s : State) : (setLateReads s).link = s.link := rfl
@[simp] theorem setLateReads_pending (s : State) : (setLateReads s).pending = s.pending := rfl
@[simp] theorem setLateReads_lateReads (s : State) : (setLateReads s).decoder.lateReads = true := rfl
@[simp] theorem setLateReads_decoder_readMode (s : State) : (setLateReads s).decoder.readMode = s.decoder.readMode := rfl
@[simp] theorem setLateReads_decoder_gathering (s : State) : (setLateReads s).decoder.gathering = s.decoder.gathering := rfl
@[simp] theorem setLateReads_decoder_current (s : State) : (setLateReads s).decoder.current = s.decoder.current := rfl
@[simp] theorem setLateReads_decoder_next (s : State) : (setLateReads s).decoder.next = s.decoder.next := rfl
@[simp] theorem setLateReads_decoder_time (s : State) : (setLateReads s).decoder.time = s.decoder.time := rfl
@[simp] theorem setLateReads_decoder_leadIn (s : State) : (setLateReads s).decoder.leadIn = s.decoder.leadIn := rfl
@[simp] theorem setLateReads_decoder_status (s : State) : (setLateReads s).decoder.status = s.decoder.status := rfl
@[simp] theorem setLateReads_decoder_holdover (s : State) : (setLateReads s).decoder.holdover = s.decoder.holdover := rfl
@[simp] theorem setLateReads_decoder_mismatch (s : State) : (setLateReads s).decoder.mismatch = s.decoder.mismatch := rfl
@[simp] theorem setLateReads_decoder_startRun (s : State) : (setLateReads s).decoder.startRun = s.decoder.startRun := rfl
@[simp] theorem setLateReads_decoder_closedLast (s : State) : (setLateReads s).decoder.closedLast = s.decoder.closedLast := rfl

end Sys2Proof.Machine
end

