-- ==== Sys2Proof/Laws/Move.lean ====
section
/-! SUPPORT. What a change of transport state can do, and what the end of a command does with no list running (R63, R110, R120,
R158). -/

namespace Sys2Proof.Machine

/-- The part of a change of transport state that every change has: the transport's own fields, the trim demand, the read mode,
the START run, the late reads and the mark record. -/
def entered (new : TransportState) (demand : Demand) (s : State) : State := { s with
  transport := { s.transport with
    state := new, demand := demand
    spinUpRunning := new == .starting
    recordPending := s.transport.recordPending && new == .starting
    holdAwaited := s.transport.holdAwaited && new == .cued
    faultRelease := false }
  store := { s.store with trim := .normal }
  decoder := { s.decoder with
    readMode := new.readMode
    startRun := if startRunCleared s.transport.state new then none else s.decoder.startRun
    lateReads := s.decoder.lateReads && (new == .stop || new == .cued) }
  cues := { s.cues with mark := if new.rolling ∨ new = .starting then s.cues.mark else .none } }

/-- A change that neither leaves nor enters play speed does no more than that. -/
theorem enterState_steady {new : TransportState} {demand : Demand} {s : State}
    (h : s.transport.state.rolling = new.rolling) : enterState new demand s = entered new demand s := by
  cases hn : new.rolling <;> simp [enterState, entered, h, hn]

/-- A change to play speed starts the decoder and the concealment stream as well. -/
theorem enterState_start {new : TransportState} {demand : Demand} {s : State}
    (h : s.transport.state.rolling = false) (hn : new.rolling = true) :
    enterState new demand s = startRolling (entered new demand s) := by
  simp [enterState, entered, h, hn]

/-- A change from play speed to another state has the neighbours leave play speed. -/
theorem enterState_leave {new : TransportState} {demand : Demand} {s : State}
    (h : s.transport.state.rolling = true) (hn : new.rolling = false) :
    enterState new demand s = leaveRolling (entered new demand s) := by
  simp [enterState, entered, h, hn]

/-- With no list running the hand-offs are discarded. -/
theorem takeHandoffs_idle {s : State} (h : s.sequencer.state = .idle) :
    takeHandoffs s = { s with sequencer := { s.sequencer with handoffs := [] } } := by
  simp [takeHandoffs, State.kindInProgress, h]

/-- With no list running no WAIT-TIME entry is judged. -/
theorem judgeWaitTime_idle {s : State} (h : s.sequencer.state = .idle) : judgeWaitTime s = s := by
  simp [judgeWaitTime, State.kindInProgress, h]

/-- With no list running no wait remainder falls. -/
theorem stepWaitFrames_idle {s : State} (h : s.sequencer.state = .idle) : stepWaitFrames s = s := by
  simp [stepWaitFrames, State.kindInProgress, h]

/-- Without a locate in progress there is none to end. -/
theorem endLocate_none {outcome : LocateOutcome} {s : State} (h : s.transport.state ≠ .locate) :
    endLocate outcome s = s := by
  simp [endLocate, State.locating, h]

/-- With the gate closed nothing closes it at once. -/
theorem closeAtOnce_closed {event : ClosingEvent} {origin : Origin} {s : State} (h : s.mixer.gateOpen = false) :
    closeAtOnce event origin s = s := by
  simp [closeAtOnce, h]

/-- With no list running nothing halts it. -/
theorem haltList_idle {reason : EndReason} {origin : Origin} {s : State} (h : s.sequencer.state = .idle) :
    haltList reason origin s = s := by
  simp [haltList, h]

/-! ### The end of an entry in progress (R153, R156, R157) -/

/-- The entry in progress is the same in both states, and the list that it belongs to halts in both or in neither. -/
def SameEntry (s u : State) : Prop :=
  u.sequencer.state = s.sequencer.state ∧ u.sequencer.current = s.sequencer.current ∧
  u.sequencer.haltPort = s.sequencer.haltPort

/-- An entry that ends DONE with a completion time of its own. -/
theorem endEntry_at {s u : State} (h : SameEntry s u) (time : Nat) :
    endEntry (.done (some time)) u = s.entryDone (some time) u := by
  obtain ⟨h1, h2, h3⟩ := h
  by_cases e : s.sequencer.state = .halting <;>
    simp [endEntry, State.entryDone, State.passesOn, writeResult, setEntry, endList, endQuietly, EndReason.logCode, EndReason.code,
      State.timeNow, raiseFlag, logEntry, h1, h2, h3, e]

/-- An entry that ends DONE at T. -/
theorem endEntry_done {s u : State} (h : SameEntry s u) : endEntry (.done none) u = s.entryDone u.timeNow u := by
  obtain ⟨h1, h2, h3⟩ := h
  by_cases e : s.sequencer.state = .halting <;>
    simp [endEntry, State.entryDone, State.passesOn, writeNow, writeResult, setEntry, endList, endQuietly, EndReason.logCode,
      EndReason.code, State.timeNow, raiseFlag, logEntry, h1, h2, h3, e]

/-- An entry that ends FAILED. -/
theorem endEntry_failed {s u : State} (h : SameEntry s u) (reason : Nat) :
    endEntry (.failed reason) u = s.entryFailed reason u := by
  obtain ⟨h1, h2, h3⟩ := h
  by_cases e : s.sequencer.state = .halting <;>
    simp [endEntry, State.entryFailed, State.passesOn, writeFailed, writeNow, writeResult, setEntry, endList, endQuietly,
      EndReason.logCode, EndReason.code, State.timeNow, raiseFlag, logEntry, h1, h2, h3, e]

/-! ### The Report Unit's bounds (R178, R182) -/

theorem counterAdd_le (v n : Nat) : counterAdd v n ≤ 255 := by simp [counterAdd]

theorem Counters.within_add {k : Counters} (h : k.within) (c : Counter) (n : Nat) : (k.add c n).within := by
  obtain ⟨h1, h2, h3, h4, h5, h6, h7, h8⟩ := h
  cases c <;> simp [Counters.within, Counters.add, counterAdd, *]

theorem Counters.within_zero : Counters.zero.within := by simp [Counters.within, Counters.zero]

theorem within_count {s : State} (h : s.reports.within) (c : Counter) (n : Nat) : (count c n s).reports.within := by
  obtain ⟨h1, h2, h3, h4⟩ := h
  exact ⟨Counters.within_add h1 c n, Counters.within_add h2 c n, h3, h4⟩

theorem within_raiseFlag {s : State} (h : s.reports.within) (f : Flag) : (raiseFlag f s).reports.within := h

theorem within_raiseReplyReady {s : State} (h : s.reports.within) : (raiseReplyReady s).reports.within := h

theorem within_logEntry {s : State} (h : s.reports.within) (kind : LogKind) (time : Option Nat) (origin : Origin)
    (argument : Nat) : (logEntry kind time origin argument s).reports.within := by
  obtain ⟨h1, h2, h3, h4⟩ := h
  refine ⟨h1, h2, ?_, Nat.mod_lt _ (by decide)⟩
  simp only [logEntry, Reports.addEntry, Config.logLimit]
  split <;> simp <;> omega

end Sys2Proof.Machine
end

