-- ==== Sys2Proof/Laws/PerInstr.lean ====
section
/-! SUPPORT. The statements made about each command as syntax: one family, one lemma for each constructor. -/

namespace Sys2Proof.Laws

/-- No table word spells the command: the opcode table of the 4120 gives its rows no bits. -/
def NoTableWord.Statement (i : Instr) : Prop := ∀ nbits w : Nat, decodeTableWord nbits w ≠ some i

theorem NoTableWord.powerOnReset : NoTableWord.Statement .powerOnReset := by
  intro _ _ h; cases h

theorem NoTableWord.send (kind : Byte) (bytes : List Byte) : NoTableWord.Statement (.send kind bytes) := by
  intro _ _ h; cases h

theorem NoTableWord.fetch : NoTableWord.Statement .fetch := by
  intro _ _ h; cases h

theorem NoTableWord.otherTransaction (bytes : List Byte) : NoTableWord.Statement (.otherTransaction bytes) := by
  intro _ _ h; cases h

theorem NoTableWord.sendAbandoned : NoTableWord.Statement .sendAbandoned := by
  intro _ _ h; cases h

theorem NoTableWord.fetchAbandoned : NoTableWord.Statement .fetchAbandoned := by
  intro _ _ h; cases h

theorem NoTableWord.unknownRequestKind (port : Port) : NoTableWord.Statement (.unknownRequestKind port) := by
  intro _ _ h; cases h

theorem NoTableWord.play (port : Port) : NoTableWord.Statement (.play port) := by
  intro _ _ h; cases h

theorem NoTableWord.wind (port : Port) : NoTableWord.Statement (.wind port) := by
  intro _ _ h; cases h

theorem NoTableWord.cueHold (port : Port) : NoTableWord.Statement (.cueHold port) := by
  intro _ _ h; cases h

theorem NoTableWord.locate (port : Port) : NoTableWord.Statement (.locate port) := by
  intro _ _ h; cases h

theorem NoTableWord.record (port : Port) : NoTableWord.Statement (.record port) := by
  intro _ _ h; cases h

theorem NoTableWord.schedulePunch (port : Port) : NoTableWord.Statement (.schedulePunch port) := by
  intro _ _ h; cases h

theorem NoTableWord.punchOut (port : Port) : NoTableWord.Statement (.punchOut port) := by
  intro _ _ h; cases h

theorem NoTableWord.stop (port : Port) : NoTableWord.Statement (.stop port) := by
  intro _ _ h; cases h

theorem NoTableWord.setControl (port : Port) : NoTableWord.Statement (.setControl port) := by
  intro _ _ h; cases h

theorem NoTableWord.selectSource (port : Port) : NoTableWord.Statement (.selectSource port) := by
  intro _ _ h; cases h

theorem NoTableWord.cueAdd (port : Port) : NoTableWord.Statement (.cueAdd port) := by
  intro _ _ h; cases h

theorem NoTableWord.cueRemove (port : Port) : NoTableWord.Statement (.cueRemove port) := by
  intro _ _ h; cases h

theorem NoTableWord.cueClear (port : Port) : NoTableWord.Statement (.cueClear port) := by
  intro _ _ h; cases h

theorem NoTableWord.cueRead (port : Port) : NoTableWord.Statement (.cueRead port) := by
  intro _ _ h; cases h

theorem NoTableWord.mark (port : Port) : NoTableWord.Statement (.mark port) := by
  intro _ _ h; cases h

theorem NoTableWord.listRun (port : Port) : NoTableWord.Statement (.listRun port) := by
  intro _ _ h; cases h

theorem NoTableWord.listHalt (port : Port) : NoTableWord.Statement (.listHalt port) := by
  intro _ _ h; cases h

theorem NoTableWord.listWrite (port : Port) : NoTableWord.Statement (.listWrite port) := by
  intro _ _ h; cases h

theorem NoTableWord.listRead (port : Port) : NoTableWord.Statement (.listRead port) := by
  intro _ _ h; cases h

theorem NoTableWord.setSetting (port : Port) : NoTableWord.Statement (.setSetting port) := by
  intro _ _ h; cases h

theorem NoTableWord.readSetting (port : Port) : NoTableWord.Statement (.readSetting port) := by
  intro _ _ h; cases h

theorem NoTableWord.switchBank (port : Port) : NoTableWord.Statement (.switchBank port) := by
  intro _ _ h; cases h

theorem NoTableWord.copyBank (port : Port) : NoTableWord.Statement (.copyBank port) := by
  intro _ _ h; cases h

theorem NoTableWord.readReport (port : Port) : NoTableWord.Statement (.readReport port) := by
  intro _ _ h; cases h

theorem NoTableWord.setMask (port : Port) : NoTableWord.Statement (.setMask port) := by
  intro _ _ h; cases h

theorem NoTableWord.logRead (port : Port) : NoTableWord.Statement (.logRead port) := by
  intro _ _ h; cases h

theorem NoTableWord.readIdent (port : Port) : NoTableWord.Statement (.readIdent port) := by
  intro _ _ h; cases h

theorem NoTableWord.resetPart (port : Port) : NoTableWord.Statement (.resetPart port) := by
  intro _ _ h; cases h

theorem NoTableWord.setPosition (port : Port) : NoTableWord.Statement (.setPosition port) := by
  intro _ _ h; cases h

theorem NoTableWord.linkRequestPacket (bytes : List Byte) : NoTableWord.Statement (.linkRequestPacket bytes) := by
  intro _ _ h; cases h

theorem NoTableWord.linkReplyPacket (bytes : List Byte) : NoTableWord.Statement (.linkReplyPacket bytes) := by
  intro _ _ h; cases h

theorem NoTableWord.lineUp (line : Line) : NoTableWord.Statement (.lineUp line) := by
  intro _ _ h; cases h

theorem NoTableWord.lineDown (line : Line) : NoTableWord.Statement (.lineDown line) := by
  intro _ _ h; cases h

theorem NoTableWord.linkRoute (partnerReady : Bool) : NoTableWord.Statement (.linkRoute partnerReady) := by
  intro _ _ h; cases h

theorem NoTableWord.upstreamTransmit (partnerReady : Bool) : NoTableWord.Statement (.upstreamTransmit partnerReady) := by
  intro _ _ h; cases h

theorem NoTableWord.chainResetForward (partnerReady : Bool) : NoTableWord.Statement (.chainResetForward partnerReady) := by
  intro _ _ h; cases h

theorem NoTableWord.framePulse : NoTableWord.Statement .framePulse := by
  intro _ _ h; cases h

theorem NoTableWord.blockRequest : NoTableWord.Statement .blockRequest := by
  intro _ _ h; cases h

theorem NoTableWord.advanceBlock (bytes : List Byte) : NoTableWord.Statement (.advanceBlock bytes) := by
  intro _ _ h; cases h

theorem NoTableWord.subcodeBlock (bytes : List Byte) : NoTableWord.Statement (.subcodeBlock bytes) := by
  intro _ _ h; cases h

theorem NoTableWord.confidenceBlock (bytes : List Byte) : NoTableWord.Statement (.confidenceBlock bytes) := by
  intro _ _ h; cases h

theorem NoTableWord.stopped : NoTableWord.Statement .stopped := by
  intro _ _ h; cases h

theorem NoTableWord.atSpeed : NoTableWord.Statement .atSpeed := by
  intro _ _ h; cases h

theorem NoTableWord.winding : NoTableWord.Statement .winding := by
  intro _ _ h; cases h

theorem NoTableWord.holding : NoTableWord.Statement .holding := by
  intro _ _ h; cases h

theorem NoTableWord.tapeIn : NoTableWord.Statement .tapeIn := by
  intro _ _ h; cases h

theorem NoTableWord.tapeOut : NoTableWord.Statement .tapeOut := by
  intro _ _ h; cases h

theorem NoTableWord.tapeEndFwd : NoTableWord.Statement .tapeEndFwd := by
  intro _ _ h; cases h

theorem NoTableWord.tapeEndRev : NoTableWord.Statement .tapeEndRev := by
  intro _ _ h; cases h

theorem NoTableWord.mechFault : NoTableWord.Statement .mechFault := by
  intro _ _ h; cases h

theorem NoTableWord.spinUpTimerExpiry : NoTableWord.Statement .spinUpTimerExpiry := by
  intro _ _ h; cases h

theorem NoTableWord.locateTimeout : NoTableWord.Statement .locateTimeout := by
  intro _ _ h; cases h

theorem NoTableWord.noTimeExpiry : NoTableWord.Statement .noTimeExpiry := by
  intro _ _ h; cases h

theorem NoTableWord.hunting (bytes : List Byte) : NoTableWord.Statement (.hunting bytes) := by
  intro _ _ h; cases h

theorem NoTableWord.sourceStatusRecord (status : Byte) : NoTableWord.Statement (.sourceStatusRecord status) := by
  intro _ _ h; cases h

theorem NoTableWord.inputPair (left right : BitVec 24) : NoTableWord.Statement (.inputPair left right) := by
  intro _ _ h; cases h

theorem NoTableWord.timeLost : NoTableWord.Statement .timeLost := by
  intro _ _ h; cases h

theorem NoTableWord.waitFramesExpiry : NoTableWord.Statement .waitFramesExpiry := by
  intro _ _ h; cases h

theorem NoTableWord.outputFrameBoundary : NoTableWord.Statement .outputFrameBoundary := by
  intro _ _ h; cases h

theorem NoTableWord.linkPacketBegin (line : Line) : NoTableWord.Statement (.linkPacketBegin line) := by
  intro _ _ h; cases h

end Sys2Proof.Laws
end

