-- ==== Sys2Proof/Laws/Serve.lean ====
section
/-! SUPPORT. What taking a request can do: the request leaves its queue, its owner judges it, the reply is placed (R171). -/

namespace Sys2Proof.Machine

/-- The end of a command that left no hand-off and no waiting selection adds nothing. -/
theorem settle_quiet {s : State} (h : s.quiet) : settle s = s := by
  obtain ⟨h1, h2⟩ := h
  have e : takeSelection s = s := by simp [takeSelection, h2]
  have f : { s with sequencer := { s.sequencer with handoffs := [] } } = s := by rw [← h1]
  simp only [settle, e, takeHandoffs, f, h1]
  cases s.kindInProgress <;> simp

@[simp] theorem placeReply_quiet (t : Ticket) (l : List Word) (s : State) : (placeReply t l s).quiet ↔ s.quiet := by
  simp [State.quiet]

@[simp] theorem popRequest_quiet (p : Port) (s : State) : (popRequest p s).quiet ↔ s.quiet := by
  simp [State.quiet]

/-- A request that stands is taken: judged, answered, and nothing more while its judgement leaves the state quiet. -/
theorem serve_taken {port : Port} {kind : RequestKind} {judge : Ticket → List Word → State → Judgement} {s : State}
    {ticket : Ticket} {body : List Word} (h : s.stands port kind ticket body)
    (hq : (judge ticket body (popRequest port s)).1.quiet) :
    serve port kind judge s =
      answered ticket body (judge ticket body (popRequest port s)).2.1 (judge ticket body (popRequest port s)).2.2
        (judge ticket body (popRequest port s)).1 := by
  simp only [serve, h.1, h.2, ↓reduceIte, answered]
  rw [settle_quiet]
  simpa using hq

/-- Without a request of the kind named at the head, nothing happens (log entry 1). -/
theorem serve_idle {port : Port} {kind : RequestKind} {judge : Ticket → List Word → State → Judgement} {s : State}
    (h : ∀ ticket body, ¬ s.stands port kind ticket body) : serve port kind judge s = s := by
  unfold serve
  split
  · rename_i ticket body e
    split
    · exact absurd ⟨e, ‹_›⟩ (h ticket body)
    · rfl
  · rfl

/-- A ticket names the port its request came from. -/
theorem headRequest_port {s : State} {port : Port} {ticket : Ticket} {body : List Word}
    (h : s.headRequest port = some (ticket, body)) : ticket.port = port := by
  unfold State.headRequest at h
  split at h
  · simp at h
  · cases port with
    | system =>
      simp only [Option.map_eq_some_iff, Prod.mk.injEq] at h
      obtain ⟨_, _, rfl, _⟩ := h; rfl
    | link =>
      simp only at h
      split at h
      · simp at h
      · split at h
        · split at h
          · simp only [Option.some.injEq, Prod.mk.injEq] at h
            obtain ⟨rfl, _⟩ := h; rfl
          · simp at h
        · simp at h

/-- The control source that allows a port, in the judgement's own terms. -/
theorem allows_motion {s : State} {port : Port} (h : s.allows port) : s.motionAllowed port = none := by
  obtain ⟨h1, h2⟩ := h
  rcases h1 with e | ⟨e, rfl⟩ | ⟨e, rfl⟩ <;> simp [State.motionAllowed, e, h2]

/-- A motion request of an allowed port goes on to its owner. -/
theorem motion_allowed {s : State} {port : Port} {rest : State → State × Status} (h : s.allows port) :
    motion port s rest = plain (rest s) := by
  simp [motion, allows_motion h]

@[simp] theorem popRequest_allows (p q : Port) (s : State) : (popRequest p s).allows q ↔ s.allows q := by
  simp [State.allows]

end Sys2Proof.Machine
end

