-- ==== Sys2Proof/Laws/SlotWork.lean ====
section
/-! SUPPORT. What the work on slots can do: freeing, roles, the Edit Mixer's takes, a change of the take span (R21 to R39, R146).
Later proofs cite `SlotWork` for these operations and never unfold them. -/

namespace Sys2Proof.Machine

/-- What work on slots leaves as it was: every block but the Frame Store, the servo demand, the current write frame, the
input field list and the output frame in progress. A copy gate may open, and never latches. -/
structure SlotWork (s t : State) : Prop where
  transport : t.transport = { s.transport with demand := t.transport.demand }
  slots : t.store.slots.length = s.store.slots.length
  coder : t.coder = { s.coder with current := t.coder.current }
  decoder : t.decoder = s.decoder
  conceal : t.conceal = s.conceal
  output : t.output = { s.output with playing := t.output.playing, frame := t.output.frame }
  mixer : t.mixer = s.mixer
  sequencer : t.sequencer = s.sequencer
  cues : t.cues = s.cues
  current : t.copy.current = s.copy.current
  latched : t.copy.latched = true → s.copy.latched = true
  heldTape : t.copy.heldTape = s.copy.heldTape
  input : t.input = s.input
  banks : t.banks = s.banks
  reports : t.reports = s.reports
  system : t.system = s.system
  link : t.link = s.link
  pending : t.pending = s.pending

theorem SlotWork.refl (s : State) : SlotWork s s := by constructor <;> first | rfl | exact id

theorem SlotWork.trans {s t u : State} (h : SlotWork s t) (k : SlotWork t u) : SlotWork s u where
  transport := by rw [k.transport, h.transport]
  slots := k.slots.trans h.slots
  coder := by rw [k.coder, h.coder]
  decoder := k.decoder.trans h.decoder
  conceal := k.conceal.trans h.conceal
  output := by rw [k.output, h.output]
  mixer := k.mixer.trans h.mixer
  sequencer := k.sequencer.trans h.sequencer
  cues := k.cues.trans h.cues
  current := k.current.trans h.current
  latched := fun e => h.latched (k.latched e)
  heldTape := k.heldTape.trans h.heldTape
  input := k.input.trans h.input
  banks := k.banks.trans h.banks
  reports := k.reports.trans h.reports
  system := k.system.trans h.system
  link := k.link.trans h.link
  pending := k.pending.trans h.pending

theorem SlotWork.state {s t : State} (h : SlotWork s t) : t.transport.state = s.transport.state := by rw [h.transport]

theorem SlotWork.activeBank {s t : State} (h : SlotWork s t) : t.activeBank = s.activeBank := by
  simp [State.activeBank, h.banks]

theorem SlotWork.timeNow {s t : State} (h : SlotWork s t) : t.timeNow = s.timeNow := by simp [State.timeNow, h.decoder]

theorem SlotWork.quiet {s t : State} (h : SlotWork s t) : t.quiet ↔ s.quiet := by simp [State.quiet, h.sequencer, h.input]

theorem slotWork_setSlot (i : Nat) (v : Slot) (s : State) : SlotWork s (setSlot i v s) := by
  constructor <;> first | rfl | exact id | simp

theorem slotWork_setTrim (t : Trim) (s : State) : SlotWork s (setTrim t s) := by
  constructor <;> first | rfl | exact id

theorem slotWork_judgeQ (s : State) : SlotWork s (judgeQ s) := by
  unfold judgeQ; split
  · exact slotWork_setTrim _ _
  · exact .refl s

theorem slotWork_judgeW (s : State) : SlotWork s (judgeW s) := by
  unfold judgeW; split
  · exact slotWork_setTrim _ _
  · exact .refl s

theorem slotWork_withDepths {f : State → State} {s : State} (h : SlotWork s (f s)) : SlotWork s (withDepths f s) := by
  unfold withDepths
  simp only
  split
  · split
    · exact h
    · exact h.trans (slotWork_judgeW _)
  · have k := h.trans (slotWork_judgeQ (f s))
    split
    · exact k
    · exact k.trans (slotWork_judgeW _)

theorem slotWork_freeOne (s : State) (i : Nat) : SlotWork s (freeOne s i) := by
  constructor
  case output => simp only [freeOne]; split <;> rfl
  case slots => simp [freeOne]
  all_goals first
    | rfl
    | exact id

theorem slotWork_foldl_freeOne (l : List Nat) (s : State) : SlotWork s (l.foldl freeOne s) := by
  induction l generalizing s with
  | nil => exact .refl s
  | cons i l ih => exact (slotWork_freeOne s i).trans (ih _)

/-- Freeing slots is work on slots. -/
theorem slotWork_freeSlots (l : List Nat) (s : State) : SlotWork s (freeSlots l s) :=
  slotWork_withDepths (slotWork_foldl_freeOne l s)

theorem slotWork_setRoles (s : State) : SlotWork s (setRoles s) :=
  slotWork_withDepths (by constructor <;> first | rfl | exact id | simp)

theorem slotWork_takeSlot (i : Nat) (s : State) : SlotWork s (takeSlot i s) := by
  unfold takeSlot
  exact SlotWork.trans (t := _) (by constructor <;> first | rfl | exact id | simp) (slotWork_freeSlots _ _)

theorem slotWork_mixerRun (n : Nat) (s : State) : SlotWork s (mixerRun n s) := by
  induction n generalizing s with
  | zero => exact .refl s
  | succ n ih =>
    unfold mixerRun
    split
    · exact .refl s
    · simp only
      split
      · exact (slotWork_takeSlot _ s).trans (ih _)
      · exact .refl s

/-- The Edit Mixer's takes are work on slots. -/
theorem slotWork_mixerJudge (s : State) : SlotWork s (mixerJudge s) := slotWork_mixerRun _ s

/-- The copy gate opens. -/
theorem slotWork_openCopy (s : State) : SlotWork s { s with copy := { s.copy with latched := false } } := by
  constructor <;> first | rfl | simp

/-- A change of the take span is work on slots, and an empty span leaves the copy gate open (R23, R103). -/
theorem slotWork_spanChanged (s : State) :
    SlotWork s (spanChanged s) ∧ (s.mixer.punchIn = none → (spanChanged s).copy.latched = false) := by
  unfold spanChanged
  simp only
  have h := (slotWork_setRoles s).trans (slotWork_freeSlots ((setRoles s).slotsWhere (setRoles s).outsideSpan) (setRoles s))
  generalize freeSlots ((setRoles s).slotsWhere (setRoles s).outsideSpan) (setRoles s) = u at h
  have hm : u.mixer.punchIn = s.mixer.punchIn := by rw [h.mixer]
  by_cases hp : s.mixer.punchIn = none
  · rw [if_pos (hm.trans hp)]
    have k := slotWork_openCopy u
    have hv : ({ u with copy := { u.copy with latched := false } } : State).copy.latched = false := rfl
    generalize ({ u with copy := { u.copy with latched := false } } : State) = v at k hv
    have l := (slotWork_mixerJudge v).latched
    exact ⟨(h.trans k).trans (slotWork_mixerJudge v), fun _ => by simpa [hv] using l⟩
  · rw [if_neg (fun e => hp (hm ▸ e))]
    exact ⟨h.trans (slotWork_mixerJudge u), fun e => absurd e hp⟩

end Sys2Proof.Machine
end

