-- ==== Sys2Proof/Laws/Store.lean ====
section
/-! SUPPORT. What freeing slots does to the slots, to the collections and to the blocks that hold slots (R22, R24, R25, R37,
R54, R94, R99), and what a new verify entry does to the verify list (R58). Proofs about the Frame Store cite these and do not
unfold a freeing again. -/

namespace Sys2Proof.Machine

theorem slot_setSlot (i k : Nat) (v : Slot) (s : State) :
    (setSlot i v s).slot k = if k = i ∧ i < s.store.slots.length then v else s.slot k := by
  simp only [State.slot, setSlot, List.getD_eq_getElem?_getD, List.getElem?_set]
  by_cases e : i = k
  · subst e
    by_cases l : i < s.store.slots.length <;> simp [l]
  · simp [e, Ne.symm e]

theorem bne_eq_notMem (x i : Nat) : (x != i) = decide (x ∉ [i]) := by
  by_cases e : x = i <;> simp [e]

/-- Everything that freeing the slots `l` changes, beside the servo demand and the trim that follow the depths. -/
structure Frees (l : List Nat) (s t : State) : Prop where
  work : SlotWork s t
  slot : ∀ k, t.slot k = if k ∈ l then Slot.freed else s.slot k
  captureList : t.store.captureList = s.store.captureList.filter (· ∉ l)
  gatherList : t.store.gatherList = s.store.gatherList.filter (· ∉ l)
  outputQueue : t.store.outputQueue = s.store.outputQueue.filter (· ∉ l)
  writeQueue : t.store.writeQueue = s.store.writeQueue.filter (· ∉ l)
  inputFields : t.copy.inputFields = s.copy.inputFields.filter (·.1 ∉ l)
  current : t.coder.current = s.coder.current.filter (·.slot ∉ l)
  playing : t.output.playing = s.output.playing.filter (· ∉ l)
  frame : t.output.frame = if s.output.playing.any (· ∈ l) then [] else s.output.frame

theorem Frees.nil (s : State) : Frees [] s s where
  work := .refl s
  slot := by simp
  captureList := by simp
  gatherList := by simp
  outputQueue := by simp
  writeQueue := by simp
  inputFields := by simp
  current := by cases s.coder.current <;> simp [Option.filter]
  playing := by cases s.output.playing <;> simp [Option.filter]
  frame := by simp

theorem freeOne_frees (s : State) (i : Nat) : Frees [i] s (freeOne s i) where
  work := slotWork_freeOne s i
  slot := fun k => by
    show (setSlot i Slot.freed s).slot k = _
    rw [slot_setSlot]
    by_cases e : k = i
    · subst e
      by_cases l : k < s.store.slots.length <;> simp [l, State.slot]
    · simp [e]
  captureList := by simp only [freeOne, setSlot, bne_eq_notMem]
  gatherList := by simp only [freeOne, setSlot, bne_eq_notMem]
  outputQueue := by simp only [freeOne, setSlot, bne_eq_notMem]
  writeQueue := by simp only [freeOne, setSlot, bne_eq_notMem]
  inputFields := by simp only [freeOne, setSlot, bne_eq_notMem]
  current := by simp only [freeOne, setSlot, bne_eq_notMem]
  playing := by
    by_cases e : s.output.playing = some i
    · simp [freeOne, setSlot, e, Option.filter]
    · cases h : s.output.playing with
      | none => simp [freeOne, setSlot, h]
      | some j =>
        have n : j ≠ i := by rintro rfl; exact e h
        simp [freeOne, setSlot, h, n, Option.filter]
  frame := by
    by_cases e : s.output.playing = some i
    · simp [freeOne, setSlot, e]
    · cases h : s.output.playing with
      | none => simp [freeOne, setSlot, h]
      | some j =>
        have n : j ≠ i := by rintro rfl; exact e h
        simp [freeOne, setSlot, h, n]

theorem notMem_append_decide (a l : List Nat) (i : Nat) : decide (i ∉ a ++ l) = (decide (i ∉ l) && decide (i ∉ a)) := by
  by_cases h : i ∈ a <;> by_cases k : i ∈ l <;> simp [h, k]

/-- Freeing some slots and then others is freeing them all. -/
theorem Frees.append {a l : List Nat} {s t u : State} (h : Frees a s t) (k : Frees l t u) : Frees (a ++ l) s u where
  work := h.work.trans k.work
  slot := fun i => by
    rw [k.slot, h.slot]
    by_cases x : i ∈ a <;> by_cases y : i ∈ l <;> simp [x, y]
  captureList := by simp only [k.captureList, h.captureList, List.filter_filter, notMem_append_decide]
  gatherList := by simp only [k.gatherList, h.gatherList, List.filter_filter, notMem_append_decide]
  outputQueue := by simp only [k.outputQueue, h.outputQueue, List.filter_filter, notMem_append_decide]
  writeQueue := by simp only [k.writeQueue, h.writeQueue, List.filter_filter, notMem_append_decide]
  inputFields := by simp only [k.inputFields, h.inputFields, List.filter_filter, notMem_append_decide]
  current := by
    rw [k.current, h.current]
    cases s.coder.current with
    | none => rfl
    | some w => by_cases x : w.slot ∈ a <;> by_cases y : w.slot ∈ l <;> simp [Option.filter, x, y]
  playing := by
    rw [k.playing, h.playing]
    cases s.output.playing with
    | none => rfl
    | some j => by_cases x : j ∈ a <;> by_cases y : j ∈ l <;> simp [Option.filter, x, y]
  frame := by
    rw [k.frame, h.frame, h.playing]
    cases s.output.playing with
    | none => simp
    | some j => by_cases x : j ∈ a <;> by_cases y : j ∈ l <;> simp [Option.filter, x, y]

theorem foldl_freeOne_frees (l : List Nat) (s : State) : Frees l s (l.foldl freeOne s) := by
  induction l generalizing s with
  | nil => exact .nil s
  | cons i l ih => exact (freeOne_frees s i).append (ih _)

/-- What a trim demand writes: the trim and the servo demand. -/
def State.trimmed (s : State) (trim : Trim) (demand : Demand) : State :=
  { s with store := { s.store with trim := trim }, transport := { s.transport with demand := demand } }

theorem judgeQ_trimmed (s : State) : ∃ trim demand, judgeQ s = s.trimmed trim demand := by
  unfold judgeQ
  split
  · exact ⟨_, _, rfl⟩
  · exact ⟨s.store.trim, s.transport.demand, rfl⟩

theorem judgeW_trimmed (s : State) : ∃ trim demand, judgeW s = s.trimmed trim demand := by
  unfold judgeW
  split
  · exact ⟨_, _, rfl⟩
  · exact ⟨s.store.trim, s.transport.demand, rfl⟩

/-- The judgement of the depths after a change leaves all of the change as it is but the trim and the servo demand. -/
theorem withDepths_trimmed (f : State → State) (s : State) : ∃ trim demand, withDepths f s = (f s).trimmed trim demand := by
  have q : ∃ trim demand, (if (f s).depthQ = s.depthQ then f s else judgeQ (f s)) = (f s).trimmed trim demand := by
    split
    · exact ⟨(f s).store.trim, (f s).transport.demand, rfl⟩
    · exact judgeQ_trimmed _
  obtain ⟨trim, demand, e⟩ := q
  simp only [withDepths, e]
  split
  · exact ⟨_, _, rfl⟩
  · obtain ⟨trim', demand', e'⟩ := judgeW_trimmed ((f s).trimmed trim demand)
    exact ⟨trim', demand', e'⟩

/-- Freeing slots frees exactly the slots named: each takes the FREE values and leaves every collection and every block that
held it. -/
theorem freeSlots_frees (l : List Nat) (s : State) : Frees l s (freeSlots l s) := by
  obtain ⟨trim, demand, e⟩ := withDepths_trimmed (fun t => l.foldl freeOne t) s
  have h := foldl_freeOne_frees l s
  have w := slotWork_freeSlots l s
  rw [freeSlots] at w ⊢
  rw [e] at w ⊢
  exact ⟨w, h.slot, h.captureList, h.gatherList, h.outputQueue, h.writeQueue, h.inputFields, h.current, h.playing, h.frame⟩

/-! ### The verify list (R58) -/

/-- A new entry stands last, nothing supplied or checked; the list holds at most three, each of them the new one or one that
stood before for another frame. -/
theorem addVerify_spec (f : Nat) (l : List VerifyEntry) :
    (addVerify f l).length ≤ 3 ∧ (addVerify f l).getLast? = some ⟨f, 0, 0, []⟩ ∧
    ∀ e ∈ addVerify f l, e = ⟨f, 0, 0, []⟩ ∨ e ∈ l ∧ e.frameTime ≠ f := by
  have d (k : List VerifyEntry) :
      (k ++ [(⟨f, 0, 0, []⟩ : VerifyEntry)]).drop ((k ++ [(⟨f, 0, 0, []⟩ : VerifyEntry)]).length - 3) =
      k.drop (k.length - 2) ++ [⟨f, 0, 0, []⟩] := by
    have n : (k ++ [(⟨f, 0, 0, []⟩ : VerifyEntry)]).length - 3 = k.length - 2 := by simp
    rw [n, List.drop_append_of_le_length (by omega)]
  simp only [addVerify, d]
  refine ⟨by simp; omega, by simp, fun e h => ?_⟩
  rcases List.mem_append.1 h with h | h
  · have := List.mem_filter.1 (List.mem_of_mem_drop h)
    exact .inr ⟨this.1, by simpa using this.2⟩
  · exact .inl (by simpa using h)

end Sys2Proof.Machine
end

