-- ==== Sys2Proof/Laws/Trim.lean ====
section
/-! SUPPORT. What the judgements of Q and W make of the trim demand (R38, R39, R110): the model's tables are those of Safety.lean,
and a change of the collections lets the trim follow Q or W. Proofs about the trim cite these and do not unfold a judgement. -/

namespace Sys2Proof.Machine

theorem trimByQ_eq_afterQ (current : Trim) (q : Nat) : trimByQ current q = current.afterQ q := by
  cases current <;> simp only [trimByQ, Trim.afterQ] <;> repeat' split
  all_goals first | rfl | simp_all <;> omega

theorem trimByW_eq_afterW (current : Trim) (w : Nat) : trimByW current w = current.afterW w := by
  cases current <;> simp [trimByW, Trim.afterW]

theorem setTrim_carries {s : State} (trim : Trim) (h : s.transport.state = .play ∨ s.transport.state = .record) :
    (setTrim trim s).carries trim := by
  simp [setTrim, State.carries, h]

/-- Where Q is judged, the trim follows the table of R38. -/
theorem judgeQ_carries {s : State} (h : s.judgesQ) : (judgeQ s).carries (s.store.trim.afterQ s.depthQ) := by
  have e : judgeQ s = setTrim (trimByQ s.store.trim s.depthQ) s := if_pos h
  rw [e, trimByQ_eq_afterQ]
  exact setTrim_carries _ (.inl h.1)

/-- Where Q is not judged, its judgement changes nothing. -/
theorem judgeQ_of_not_judgesQ {s : State} (h : ¬ s.judgesQ) : judgeQ s = s := if_neg h

/-- In RECORD the trim follows the table of R39. -/
theorem judgeW_carries {s : State} (h : s.transport.state = .record) :
    (judgeW s).carries (s.store.trim.afterW s.depthW) := by
  unfold judgeW
  rw [if_pos h, trimByW_eq_afterW]
  exact setTrim_carries _ (.inr h)

/-- Outside RECORD the judgement of W changes nothing. -/
theorem judgeW_of_ne_record {s : State} (h : s.transport.state ≠ .record) : judgeW s = s := if_neg h

/-- As a write window opens in RECORD, the trim follows the table of R39, a NORMAL one with no slot waiting becoming TRIM-SLOW. -/
theorem windowTrim_carries {s : State} (h : s.transport.state = .record) :
    (windowTrim s).carries (s.store.trim.atWindow s.depthW) := by
  unfold windowTrim Trim.atWindow
  split
  · exact setTrim_carries _ (.inr h)
  · exact judgeW_carries h

/-- A change of the collections or roles outside RECORD, which itself leaves the transport, the trim and the output alone, lets the
trim follow Q. -/
theorem withDepths_followsQ {f : State → State} {s : State} (h : s.transport.state ≠ .record)
    (transport : (f s).transport = s.transport) (trim : (f s).store.trim = s.store.trim) (output : (f s).output = s.output) :
    s.followsQ (withDepths f s) := by
  have judges : (f s).judgesQ ↔ s.judgesQ := by simp [State.judgesQ, transport, output]
  have record (u : State) (e : u.transport.state = s.transport.state) : judgeW u = u := judgeW_of_ne_record (e ▸ h)
  have state : (judgeQ (f s)).transport.state = s.transport.state := by
    unfold judgeQ; split <;> simp [setTrim, transport]
  have depth : (judgeQ (f s)).depthQ = (f s).depthQ := by
    unfold judgeQ; split <;> rfl
  have whole : withDepths f s = if (f s).depthQ = s.depthQ then f s else judgeQ (f s) := by
    unfold withDepths
    by_cases q : (f s).depthQ = s.depthQ
    · simp [q, record (f s) (by rw [transport])]
    · simp [q, record _ state]
  rw [whole]
  by_cases q : (f s).depthQ = s.depthQ
  · rw [if_pos q]
    exact ⟨fun _ n => absurd q n, fun _ => ⟨trim, by rw [transport]⟩⟩
  · rw [if_neg q]
    refine ⟨fun j _ => ?_, fun n => ?_⟩
    · rw [depth, ← trim]; exact judgeQ_carries (judges.2 j)
    · have no : ¬ s.judgesQ := n.resolve_right (by rw [depth]; exact q)
      rw [judgeQ_of_not_judgesQ (mt judges.1 no)]
      exact ⟨trim, by rw [transport]⟩

end Sys2Proof.Machine
end

