-- ==== Sys2Proof/WellFormed.lean ====
section
/-! DEFINITION. Which commands a partner device can send: the shape checks of the transactions and the tape blocks. Every other
operand is in range by its type, or is judged where it arrives. -/

namespace Sys2Proof

/-- A SEND as it is clocked in whole: kind 0x01, the length byte, and the body that a length of 1..64 calls for (R185, R194). -/
def wellFormedSend (kind : Byte) : List Byte → Bool
  | length :: body => kind == 1#8 && (length.toNat == 0 || 64 < length.toNat || 2 * length.toNat ≤ body.length)
  | [] => false

/-- A transaction of neither kind 0x01 nor kind 0x02 (R194). -/
def wellFormedOther : List Byte → Bool
  | kind :: _ => kind != 1#8 && kind != 2#8
  | [] => false

/-- A tape block is 101 bytes long (R5). -/
def wellFormedBlock (bytes : List Byte) : Bool := bytes.length == 101

/-- The shape of a command as its partner sends it: a SEND is of kind 0x01 and brings its body, another transaction is of
neither kind 0x01 nor 0x02 (R185, R194), and a tape block is 101 bytes (R5). -/
def Instr.wellFormed : Instr → Bool
  | .send kind bytes => wellFormedSend kind bytes
  | .otherTransaction bytes => wellFormedOther bytes
  | .advanceBlock bytes => wellFormedBlock bytes
  | .subcodeBlock bytes => wellFormedBlock bytes
  | .confidenceBlock bytes => wellFormedBlock bytes
  | .hunting bytes => wellFormedBlock bytes
  | _ => true

end Sys2Proof
end

