-- ==== Sys2Proof/Tests/Slice0.lean ====
section
/-! SUPPORT. Small tests: the smoke test of WellFormed, values worked out in the spec, and for each statement with hypotheses a
state and operands that meet them. -/

namespace Sys2Proof.Tests

-- One theorem after another: each one evaluated at the same time would hold a stack of its own.
set_option Elab.async false

open Sys2Proof.Machine

/-! ### WellFormed refuses what no partner sends -/

theorem test_wellFormed_refuses_short_send :
    (Instr.send 1#8 [3#8, 0#8, 1#8, 0#8, 2#8]).wellFormed = false ∧ (Instr.send 1#8 []).wellFormed = false := by decide
theorem test_wellFormed_refuses_other_kinds :
    (Instr.send 2#8 [0#8]).wellFormed = false ∧ (Instr.otherTransaction []).wellFormed = false ∧
    (Instr.otherTransaction [1#8]).wellFormed = false ∧ (Instr.otherTransaction [2#8]).wellFormed = false := by decide
theorem test_wellFormed_refuses_short_blocks :
    (Instr.advanceBlock (List.replicate 100 0#8)).wellFormed = false ∧ (Instr.subcodeBlock []).wellFormed = false ∧
    (Instr.confidenceBlock (List.replicate 102 0#8)).wellFormed = false ∧ (Instr.hunting [1#8]).wellFormed = false := by decide
theorem test_wellFormed_accepts :
    (Instr.send 1#8 [2#8, 0#8, 1#8, 0#8, 2#8]).wellFormed = true ∧ (Instr.send 1#8 [0#8]).wellFormed = true ∧
    Instr.fetch.wellFormed = true ∧ (Instr.otherTransaction [3#8]).wellFormed = true ∧
    (Instr.advanceBlock (List.replicate 101 0#8)).wellFormed = true := by decide

/-! ### Values worked out in the spec -/

/-- R6: the ASCII bytes 1 to 9 have check word 0x29B1. -/
theorem test_check_word :
    checkWord [0x31#8, 0x32#8, 0x33#8, 0x34#8, 0x35#8, 0x36#8, 0x37#8, 0x38#8, 0x39#8] = 0x29B1#16 := by decide +kernel

/-- R19: reduction at the ends of the range and around 0. -/
theorem test_reduction :
    reduce16 8388607 = 32767 ∧ reduce16 8388480 = 32767 ∧ reduce16 8388479 = 32767 ∧ reduce16 (-8388608) = -32768 ∧
    reduce16 127 = 0 ∧ reduce16 128 = 1 ∧ reduce16 (-128) = 0 ∧ reduce16 (-129) = -1 := by decide

/-- Section 1.9: pair 1000 of a 48,000 Hz frame at tape time 35, in 24 bits and in 16. -/
theorem test_placing_pair_1000 :
    blockPosition 3 4 35 = 31 ∧ groupOfPosition 31 35 = 4 ∧ blockPosition 2 4 35 = 23 ∧
    pairBytes .w24 ⟨-2, 1000000⟩ = [0xFF#8, 0xFF#8, 0xFE#8, 0x0F#8, 0x42#8, 0x40#8] ∧
    pairBytes .w16 ⟨-2, 1000000⟩ = [0x00#8, 0x00#8, 0x0F#8, 0x42#8] := by decide

/-- Section 1.9: the last pair of a 44,100 Hz frame at tape time 90,000, and the pairs of its group. -/
theorem test_placing_last_pair : blockPosition 4 1 (90000 % 256) = 33 ∧ groupPairs 1764 1 = 111 := by decide

/-- Section 1.10: the parity of one byte column. -/
theorem test_parity_column :
    [0x12#8, 0x34#8, 0x56#8, 0x78#8, 0x9A#8, 0xBC#8, 0xDE#8, 0xF1#8].foldl (· ^^^ ·) 0#8 = 0x01#8 := by decide

/-- Section 5.9: interpolated and muted values. -/
theorem test_concealment_values :
    interpolate 1000 (-2001) 2 1 = 0 ∧ interpolate 1000 (-2001) 2 2 = -1001 ∧ interpolate 400 800 3 1 = 500 ∧
    interpolate 400 800 3 2 = 600 ∧ interpolate 400 800 3 3 = 700 ∧ scaleSample 10000 1016 = 9922 ∧
    scaleSample (-10000) 1016 = -9922 ∧ scaleSample 10000 944 = 9219 ∧ scaleSample 9000 952 = 8367 ∧
    scaleSample 5000 1016 = 4961 := by decide

/-- Section 5.9: a run of two at the end of a frame is filled across the boundary from the successor. -/
theorem test_run_over_the_boundary :
    classifyRun 4 true ⟨400, 0⟩ (.successor [(⟨0, 0⟩, false), (⟨800, 0⟩, true)]) [(⟨0, 0⟩, false), (⟨0, 0⟩, false)] =
      .short ⟨400, 0⟩ ⟨800, 0⟩ 3 1 := by decide

/-- R147 and section 9.7: the mix with its gains. -/
theorem test_mix_values :
    gainIn 32 8 = 256 ∧ mixSample 256 400000 (-100000) = 25000 ∧ mixSample 256 100000 9844 = 32383 := by decide

/-- R146: the source field and the entry of a punch record with length 256 at 48,000 Hz and 2,048 at 32,000 Hz. -/
theorem test_crossfade_frames :
    Punch.lastOut ⟨5200, 256, true, .list⟩ 1920 = 5200 ∧ Punch.lastIn ⟨605, 2048, true, .list⟩ 1280 = 606 ∧
    Punch.lastOut ⟨5200, 0, true, .list⟩ 1920 = 5199 := by decide

/-! ### Witnesses: small states -/

/-- A deck with a tape in a transport state, at T = 1,000 and LOCKED, under control source BOTH. -/
def deck (st : TransportState) : State := { State.reset with
  transport := { State.reset.transport with state := st, tapePresent := true, control := .both }
  decoder := { State.reset.decoder with
    readMode := st.readMode, gathering := st.rolling, status := .locked, time := 1000 } }

/-- A deck in RECORD with its gate open since frame 990. -/
def taking : State := { deck .record with
  mixer := { State.reset.mixer with punchIn := some ⟨990, 0, true, .system⟩, taken := true, gateOpen := true } }

/-- A deck in PLAY with a punch-in scheduled by the Studio Link. -/
def scheduled (t : Nat) : State :=
  { deck .play with mixer := { State.reset.mixer with punchIn := some ⟨t, 256, true, .link⟩ } }

/-- The take of `taking` with a punch-out set. -/
def ending (u : Nat) : State := { taking with mixer := { taking.mixer with punchOut := some ⟨u, 256, true, .link⟩ } }

def late (s : State) : State := { s with decoder := { s.decoder with time := 359995 } }
def pendingRecord : State :=
  { deck .starting with transport := { (deck .starting).transport with recordPending := true } }

def losing (s : State) : State := { s with decoder := { s.decoder with status := .lost } }

def switching (s : State) : State := { s with banks := { s.banks with pendingSwitch := some .link } }

/-- The staged bank has another rate. -/
def staged32 (s : State) : State := { s with banks := { s.banks with bankB := { s.banks.bankB with rate := .r32 } } }

/-- A deck whose first slot has a record of its own. -/
def withSlot (v : Slot) (s : State) : State := { s with store := { s.store with slots := s.store.slots.set 0 v } }

/-- A trim demand, in the Frame Store and on the Servo Line. -/
def trimmed (trim : Trim) (s : State) : State := { s with
  store := { s.store with trim := trim }, transport := { s.transport with demand := .playSpeed trim } }

/-- A deck in PLAY with source TAPE and n PLAY slots from a frame on standing on the output queue. -/
def queueing (n first : Nat) (trim : Trim) (priming : Bool) : State :=
  let s := trimmed trim (deck .play)
  { s with
    store := { s.store with
      slots := (List.range 16).map fun i => if i < n then { Slot.freed with
        state := .concealed, role := some .play, frameTime := some (first + i), pairCount := 1920 } else Slot.freed
      outputQueue := List.range n }
    output := { s.output with source := .tape, priming := priming } }

/-- The trim and the servo demand after a command. -/
def trimAfter (c : Instr) (s : State) : Option (Trim × Demand) := match exec c s with
  | .next t => some (t.store.trim, t.transport.demand)
  | _ => none

/-- A request that stands in the System Port's queue. -/
def asked (body : List Word) (s : State) : State := { s with system := { s.system with requests := [body] } }

def me : Ticket := ⟨.system, 0#8⟩

/-- A configured deck with both lines UP and a request in its link request queue. -/
def linked (hop : Nat) (body : List Word) (s : State) : State := { s with link := { s.link with
  position := some 2, requests := [⟨hop, 5#8, body⟩]
  upstream := { s.link.upstream with up := true }, downstream := { s.link.downstream with up := true } } }

/-- The request of a body stands at the System Port of a state that is quiet. -/
def Poses (kind : RequestKind) (body : List Word) (s : State) : Prop :=
  (asked body s).quiet ∧ (asked body s).stands .system kind me body

/-- The motion request of a body stands and is allowed. -/
def Moves (kind : RequestKind) (body : List Word) (s : State) : Prop :=
  Poses kind body s ∧ (asked body s).allows .system

/-! ### Witnesses: the queue, reset and the ports -/

theorem witness_StepRunsFrontCommand :
    ({ State.reset with pending := [.tapeIn, .stopped] } : State).pending = [.tapeIn, .stopped] ∧
    (let s : State := { State.reset with output := { State.reset.output with frame := [.plain ⟨5, -6⟩, .plain ⟨0, 0⟩] } }
     s.pending = [] ∧ s.output.frame = [.plain ⟨5, -6⟩, .plain ⟨0, 0⟩]) ∧
    (State.reset.pending = [] ∧ State.reset.output.frame = []) := by decide

theorem witness_ResetPartRequest :
    (Poses .resetPart [28#16, 0#16] (deck .stop) ∧ (argWord [28#16, 0#16] 1).toNat = 0) ∧
    (Poses .resetPart [28#16, 1#16] (deck .stop) ∧ (argWord [28#16, 1#16] 1).toNat = 1 ∧
      (asked [28#16, 1#16] (deck .stop)).link.downstream.up = false) ∧
    ((linked 0 [28#16, 0#16] (deck .stop)).stands .link .resetPart ⟨.link, 5#8⟩ [28#16, 0#16]) ∧
    (Poses .resetPart [28#16, 2#16] (deck .stop) ∧ 1 < (argWord [28#16, 2#16] 1).toNat) ∧
    (Poses .resetPart [28#16, 1#16] (linked 0 [] (deck .stop)) ∧
      (asked [28#16, 1#16] (linked 0 [] (deck .stop))).link.downstream.up = true) ∧
    (Poses .resetPart [28#16, 0#16] (scheduled 1010) ∧ (scheduled 1010).mixer.punchIn = some ⟨1010, 256, true, .link⟩ ∧
      (scheduled 1010).mixer.taken = false) := by
  unfold Poses State.quiet State.stands; and_intros <;> decide +kernel

/-- R144, R150 and R184: a soft reset that meets a scheduled punch-in logs PUNCH-CANCELLED with MOTION and then RESET. -/
theorem test_reset_cancels_punch :
    (softReset .system 0 (scheduled 1010)).reports.log =
      [⟨0, .punchCancelled, some 1000, .link, 20⟩, ⟨1, .reset, none, .system, 0⟩] := by decide +kernel

theorem witness_SystemPortTransactions :
    ((0#8).toNat = 0 ∧ 64 < (65#8).toNat) ∧
    (1 ≤ (64#8).toNat ∧ (64#8).toNat ≤ 64 ∧ (List.replicate 127 0#8 : List Byte).length < 2 * (64#8).toNat) ∧
    (1 ≤ [1#16].length ∧ (List.replicate 64 1#16).length ≤ 64 ∧ State.reset.system.requests.length < 4) ∧
    (4 ≤ ({ State.reset with system := { State.reset.system with
      requests := [[1#16], [1#16], [1#16], [1#16]] } } : State).system.requests.length) ∧
    State.reset.system.replies = [] ∧
    ({ State.reset with system := { State.reset.system with replies := [[1#16, 0#16]] } } : State).system.replies =
      [1#16, 0#16] :: [] ∧
    ((3#8 : Byte) ≠ 0x01#8 ∧ (3#8 : Byte) ≠ 0x02#8) := by decide +kernel

theorem witness_UnknownAndWaitingRequests :
    ((asked [30#16] (deck .stop)).headRequest .system = some (me, [30#16]) ∧ requestKind [30#16] = none) ∧
    ((asked [1#16, 1#16] (deck .stop)).headRequest .system = some (me, [1#16, 1#16]) ∧ requestKind [1#16, 1#16] = none) ∧
    (let full : State := { deck .stop with system := { (deck .stop).system with replies := [[], [], [], []] } }
     full.replyRoom .system = false) ∧
    (let held : State := { deck .stop with link := { (deck .stop).link with position := some 1, chainReset := some me } }
     held.link.position.isSome = true ∧ held.link.chainReset.isSome = true) := by decide

/-- R194 and R192: a SEND of two words, more significant bytes first. -/
theorem test_send_bytes :
    exec (.send 0x01#8 [0x02#8, 0x00#8, 0x01#8, 0xAB#8, 0xCD#8]) State.reset = .next { State.reset with
      system := { State.reset.system with requests := [[0x0001#16, 0xABCD#16]], answer := [0x10#8] } } := rfl

/-! ### Witnesses: motion requests -/

theorem witness_PlayRequest :
    ∀ st ∈ [TransportState.stop, .cued, .wind, .locate, .play, .starting, .empty, .record, .fault], Moves .play [1#16] (deck st) := by
  unfold Moves Poses State.quiet State.stands State.allows; decide +kernel

theorem witness_WindAndCueHoldRequests :
    (∀ st ∈ [TransportState.stop, .cued, .starting, .wind, .locate, .empty, .record, .fault],
      Moves .wind [2#16, 257#16] (deck st)) ∧
    (Moves .wind [2#16, 0#16] (deck .stop) ∧ Moves .wind [2#16, 1#16] (deck .stop) ∧ Moves .wind [2#16, 256#16] (deck .stop)) ∧
    (Moves .wind [2#16, 257#16] (scheduled 1010) ∧ (scheduled 1010).gateAgrees ∧ (scheduled 1010).sized) ∧
    (Moves .wind [2#16, 2#16] (deck .stop) ∧ argWord [2#16, 2#16] 1 ∉ [0#16, 1#16, 256#16, 257#16]) ∧
    (∀ st ∈ [TransportState.stop, .starting, .wind, .locate, .cued, .empty, .record, .fault], Moves .cueHold [3#16] (deck st)) ∧
    (Moves .cueHold [3#16] (deck .play) ∧ (deck .play).gateAgrees ∧ (deck .play).sized) := by
  unfold Moves Poses State.quiet State.stands State.allows State.gateAgrees State.sized; and_intros <;> decide +kernel

/-- A LOCATE whose aim point is T of `deck`. -/
def atHand : List Word := [4#16, 0#16, 0#16, BitVec.ofNat 16 (1000 + State.reset.activeBank.preroll)]

theorem witness_LocateRequest :
    (∀ st ∈ [TransportState.stop, .cued, .starting, .wind, .locate, .play], ∀ body ∈ [[4#16, 0#16, 0#16, 5075#16],
      [4#16, 0#16, 0#16, 1100#16], [4#16, 0#16, 5#16, 32319#16]], Moves .locate body (deck st) ∧
        (argWord body 1).toNat = 0 ∧ argLong body 2 ≤ 359999 ∧
        (deck st).decoder.time ≠ argLong body 2 - (deck st).activeBank.preroll) ∧
    argLong [4#16, 0#16, 5#16, 32319#16] 2 = 359999 ∧
    (∀ st ∈ [TransportState.stop, .wind, .play], Moves .locate atHand (deck st) ∧ (deck st).decoder.status = .locked ∧
      (deck st).decoder.time = argLong atHand 2 - (deck st).activeBank.preroll) ∧
    ((scheduled 1010).gateAgrees ∧ (scheduled 1010).sized ∧ Moves .locate atHand (scheduled 1010)) ∧
    (∀ st ∈ [TransportState.record, .empty, .fault], Moves .locate atHand (deck st)) ∧
    (Moves .locate [4#16, 3#16, 0#16, 0#16] (deck .stop) ∧ 2 < (argWord [4#16, 3#16, 0#16, 0#16] 1).toNat) ∧
    (Moves .locate [4#16, 0#16, 5#16, 32320#16] (deck .stop) ∧ argLong [4#16, 0#16, 5#16, 32320#16] 2 = 360000) := by
  unfold Moves Poses State.quiet State.stands State.allows State.gateAgrees State.sized; and_intros <;> decide +kernel

/-- R121 after an arrival at once: the reads on their way count as late ones. -/
theorem test_arrival_at_once_late_reads :
    (startLocate .system .time 1000 0 (deck .wind)).decoder.lateReads = true ∧
    (startLocate .system .time 1000 0 (deck .wind)).transport.locate.lastOutcome = .arrived ∧
    (startLocate .system .time 1001 0 (deck .wind)).decoder.lateReads = false := by decide +kernel

def refusing (s : State) : State := { s with copy := { s.copy with current := .refuse } }

theorem witness_RecordAndPunchInRequests :
    (∀ st ∈ [TransportState.stop, .cued, .starting], Moves .record [5#16] (deck st) ∧ (deck st).copy.current ≠ .refuse ∧
      (deck st).transport.recordPending = false ∧
      Moves .record [5#16] (refusing (deck st)) ∧ (refusing (deck st)).copy.current = .refuse) ∧
    (∀ s ∈ [deck .play, refusing (deck .play), queueing 4 1003 .normal false], Moves .record [5#16] s ∧
      s.transport.state = .play ∧ s.takeInHand = false ∧ s.transport.recordPending = false ∧ s.banks.pendingSwitch = none ∧
      s.decoder.time + 4 + (2048 - 1) / s.activeBank.rate.pairs ≤ 359999 ∧ s.decoder.status ≠ .lost) ∧
    (let body := [6#16, 0x807#16, 0#16, 1004#16]
     body.length ≠ 6 ∧ (argWord body 1).high = 8 ∧ argLong body 2 = 1004 ∧
     ∀ s ∈ [deck .play, refusing (deck .play), queueing 4 1003 .normal false], Moves .schedulePunch body s) ∧
    (let body := [6#16, 0x700#16, 0#16, 1004#16, 0#16, 1006#16]
     body.length = 6 ∧ (argWord body 1).high = 7 ∧ (argWord body 1).low = 0 ∧ argLong body 4 = 1006 ∧
     argLong body 2 + (2048 - 1) / (deck .play).activeBank.rate.pairs < argLong body 4 ∧
     ∀ s ∈ [deck .play, refusing (deck .play), queueing 4 1003 .normal false], Moves .schedulePunch body s) ∧
    ((queueing 4 1003 .normal false).depthQ = 4 ∧ (queueing 4 1003 .normal false).output.priming = false) := by
  unfold Moves Poses State.quiet State.stands State.allows; and_intros <;> decide +kernel

/-- The queue of `queueing` is sound, so that what RecordAndPunchInRequests says of the trim of `queueing 4 1003` has a case. -/
theorem queueing_sound :
    ((queueing 4 1003 .normal false).storeSound ∧ (queueing 4 1003 .normal false).recordSound) ∧
    (queueing 3 1001 .fast true).storeSound ∧ (queueing 6 1001 .normal true).storeSound ∧
    (queueing 6 1001 .normal false).storeSound ∧ (queueing 4 1001 .slow false).storeSound ∧
    (queueing 2 1001 .normal false).storeSound ∧ (queueing 2 1001 .normal true).storeSound := by
  unfold State.storeSound State.collectionsSound State.holdersSound State.recordSound Coder.verifySound
  and_intros <;> decide +kernel

/-- The refusals of RecordAndPunchInRequests: each of its clauses has a state and, for SCHEDULE-PUNCH, bodies of four words and
of six and choices from 0 to 8. -/
theorem witness_RecordAndPunchInRequests_refused :
    (∀ st ∈ [TransportState.wind, .locate, .record, .empty, .fault, .starting], Moves .record [5#16] (deck st) ∧
      (deck st).transport.recordPending = false ∧ (deck st).copy.current ≠ .refuse) ∧
    (Moves .record [5#16] pendingRecord ∧ pendingRecord.transport.recordPending = true) ∧
    (Moves .record [5#16] (scheduled 1010) ∧ (scheduled 1010).mixer.punchIn.isSome = true) ∧
    (Moves .record [5#16] (switching (staged32 (deck .play))) ∧
      (switching (staged32 (deck .play))).banks.pendingSwitch.isSome = true ∧
      (switching (staged32 (deck .play))).banks.stagedBank.rate ≠ (switching (staged32 (deck .play))).activeBank.rate) ∧
    (let s : State := { late (deck .play) with banks := { State.reset.banks with
        bankA := { State.reset.banks.bankA with crossfade := 2048 } } }
     Moves .record [5#16] s ∧ s.decoder.time + 4 = 359999 ∧ s.activeBank.crossfade = 2048) ∧
    (∀ body ∈ [[6#16, 0x000#16, 0#16, 1004#16], [6#16, 0x700#16, 0#16, 1004#16], [6#16, 0x800#16, 0#16, 1004#16],
        [6#16, 0x008#16, 0#16, 1004#16, 0#16, 1006#16], [6#16, 0x807#16, 0#16, 1004#16, 0#16, 1006#16]],
      (argWord body 1).high ≤ 8 ∧ (argWord body 1).low ≤ 8 ∧ argLong body 2 = 1004 ∧
      ∀ s ∈ [taking, scheduled 1010, pendingRecord, deck .stop, losing (deck .play), switching (staged32 (deck .play)),
        deck .empty, deck .fault], Moves .schedulePunch body s) ∧
    (∀ body ∈ [[6#16, 0x300#16, 0#16, 1003#16], [6#16, 0x308#16, 0#16, 1003#16, 0#16, 1010#16]],
      Moves .schedulePunch body (deck .play) ∧ argLong body 2 < (deck .play).decoder.time + 4) := by
  unfold Moves Poses State.quiet State.stands State.allows; and_intros <;> decide +kernel

/-- Requests out of range, and those that tests 7 and 8 of R139 refuse at their bounds. -/
theorem witness_RecordAndPunchInRequests_bounds :
    (∀ body ∈ [[6#16, 0x900#16, 0#16, 1004#16], [6#16, 0x800#16, 5#16, 32320#16], [6#16, 0x009#16, 0#16, 1004#16, 0#16, 1006#16],
        [6#16, 0x000#16, 0#16, 1004#16, 5#16, 32320#16], [6#16, 0x700#16, 0#16, 1004#16, 0#16, 1005#16],
        [6#16, 0x001#16, 5#16, 32310#16, 5#16, 32319#16], [6#16, 0x700#16, 5#16, 32319#16]],
      Moves .schedulePunch body (deck .play)) ∧
    (argLong [6#16, 0x800#16, 5#16, 32320#16] 2 = 360000 ∧ argLong [6#16, 0x000#16, 0#16, 1004#16, 5#16, 32320#16] 4 = 360000) ∧
    (let body := [6#16, 0x700#16, 0#16, 1004#16, 0#16, 1005#16]
     argLong body 4 = argLong body 2 + (2048 - 1) / (deck .play).activeBank.rate.pairs) ∧
    (let body := [6#16, 0x001#16, 5#16, 32310#16, 5#16, 32319#16]
     argLong body 2 = 359990 ∧ argLong body 4 + (32 - 1) / (deck .play).activeBank.rate.pairs = 359999) ∧
    argLong [6#16, 0x700#16, 5#16, 32319#16] 2 + (2048 - 1) / (deck .play).activeBank.rate.pairs = 360000 := by
  unfold Moves Poses State.quiet State.stands State.allows; and_intros <;> decide +kernel

/-- The status of the reply to a request at the System Port. -/
def statusOf (c : Instr) (body : List Word) (s : State) : Option Word := match exec c (asked body s) with
  | .next t => (t.system.replies.getLast?).bind (·[1]?)
  | _ => none

/-- R139: the six-word form at the last punch-in crossfade frame, one past it, and with a take that ends at 359,998 and at
359,999: BAD-VALUE, ACCEPTED, ACCEPTED, TOO-LATE (R192). -/
theorem test_six_word_bounds :
    ([[6#16, 0x700#16, 0#16, 1004#16, 0#16, 1005#16], [6#16, 0x700#16, 0#16, 1004#16, 0#16, 1006#16],
      [6#16, 0x000#16, 5#16, 32310#16, 5#16, 32319#16], [6#16, 0x001#16, 5#16, 32310#16, 5#16, 32319#16]].map
      fun body => statusOf (.schedulePunch .system) body (deck .play)) = [some 6#16, some 1#16, some 1#16, some 14#16] := by
  decide +kernel

/-- R38: of four PLAY slots on the queue, frames 1,003 to 1,006, a take from 1,004, 1,005, 1,006 or 1,007 on leaves Q at 1, 2,
3 or 4. -/
theorem test_schedule_trim :
    ([(1004#16, Trim.normal), (1005#16, .normal), (1006#16, .slow), (1007#16, .slow)].map fun (first, trim) =>
      trimAfter (.schedulePunch .system) (asked [6#16, 0x800#16, 0#16, first] (queueing 4 1003 trim false))) =
      [some (.fast, .playSpeed .fast), some (.normal, .playSpeed .normal), some (.normal, .playSpeed .normal),
        some (.slow, .playSpeed .slow)] := by
  decide +kernel

theorem witness_PunchOutRequest :
    (Moves .punchOut [7#16] taking ∧ taking.transport.state = .record ∧ taking.mixer.gateOpen = true ∧
      taking.mixer.punchIn = some ⟨990, 0, true, .system⟩ ∧ taking.mixer.punchOut = none ∧
      Punch.lastOut ⟨1004, taking.activeBank.crossfade, false, .system⟩ taking.framePairs < 359999) ∧
    (Moves .punchOut [7#16] (late taking) ∧
      359999 ≤ Punch.lastOut ⟨359999, taking.activeBank.crossfade, false, .system⟩ taking.framePairs) ∧
    (Moves .punchOut [7#16] (scheduled 1003) ∧ (scheduled 1003).mixer.punchOut = none ∧
      1003 < (scheduled 1003).decoder.time + 4 ∧
      Punch.lastOut ⟨1004, taking.activeBank.crossfade, false, .system⟩ (scheduled 1003).framePairs < 359999) ∧
    (Moves .punchOut [7#16] (ending 1010) ∧ (ending 1010).mixer.punchIn.isSome = true ∧
      (ending 1010).mixer.punchOut.isSome = true) ∧
    (Moves .punchOut [7#16] (scheduled 1004) ∧ (scheduled 1004).mixer.gateOpen = false ∧
      (scheduled 1004).mixer.taken = false ∧ (scheduled 1004).decoder.time + 4 ≤ 1004) ∧
    (Moves .punchOut [7#16] pendingRecord ∧ pendingRecord.transport.recordPending = true ∧ pendingRecord.mixer.punchIn = none) ∧
    (∀ st ∈ [TransportState.stop, .starting, .play, .empty, .fault], Moves .punchOut [7#16] (deck st) ∧
      (deck st).mixer.punchIn = none ∧ (deck st).transport.recordPending = false) := by
  unfold Moves Poses State.quiet State.stands State.allows; and_intros <;> decide +kernel

def running (s : State) : State := { s with sequencer := { s.sequencer with state := .running } }
def reported (r : MotionReport) (s : State) : State := { s with transport := { s.transport with lastReport := some r } }
def punching (s : State) : State := { s with mixer := { s.mixer with punchIn := some ⟨1010, 256, true, .link⟩ } }

theorem witness_StopRequests :
    (∀ st ∈ [TransportState.empty, .stop, .cued, .starting, .wind, .locate, .play, .fault],
      Poses .stop [8#16] (deck st) ∧ (deck st).gateAgrees ∧ (deck st).sized) ∧
    (Poses .stop [8#16] taking ∧ taking.transport.state = .record ∧ taking.gateAgrees ∧ taking.sized) ∧
    (Poses .stop [8#16] (running taking) ∧ (running taking).gateAgrees ∧ (running taking).sized) ∧
    (Poses .stop [8#16] (reported .stopped (deck .fault)) ∧ (reported .stopped (deck .fault)).gateAgrees ∧
      (reported .stopped (deck .fault)).transport.lastReport = some .stopped ∧ (deck .fault).transport.lastReport ≠ some .stopped) ∧
    (Poses .stop [8#16] (punching (deck .play)) ∧ (punching (deck .play)).gateAgrees ∧
      (punching (deck .play)).mixer.punchIn = some ⟨1010, 256, true, .link⟩) := by
  unfold Poses State.quiet State.stands State.gateAgrees State.sized; and_intros <;> decide +kernel

def control (c : ControlSource) (s : State) : State := { s with transport := { s.transport with control := c } }

theorem witness_ControlSourceAndAuthority :
    (let s := linked 0 [9#16, 0#16] (deck .stop)
     s.quiet ∧ s.stands .link .setControl ⟨.link, 5#8⟩ [9#16, 0#16]) ∧
    (Poses .setControl [9#16, 3#16] (deck .stop) ∧ 2 < (argWord [9#16, 3#16] 1).toNat) ∧
    (Poses .setControl [9#16, 2#16] (deck .stop) ∧ (argWord [9#16, 2#16] 1).toNat = ControlSource.both.code ∧
      ControlSource.both = (deck .stop).transport.control) ∧
    (Poses .setControl [9#16, 0#16] (deck .stop) ∧ (argWord [9#16, 0#16] 1).toNat = ControlSource.localOnly.code ∧
      ControlSource.localOnly ≠ (deck .stop).transport.control) ∧
    (let s := control .localOnly (linked 0 [1#16] (deck .stop))
     s.quiet ∧ s.stands .link .play ⟨.link, 5#8⟩ [1#16] ∧ s.transport.control = .localOnly) ∧
    (Poses .play [1#16] (control .remote (deck .stop))) ∧
    (Poses .play [1#16] (running (deck .stop)) ∧ (running (deck .stop)).sequencer.state ≠ .idle) ∧
    (Poses .play [1#16] (control .localOnly (running (deck .stop))) ∧
      (control .localOnly (running (deck .stop))).sequencer.state ≠ .idle) ∧
    (let s := control .remote (linked 0 [1#16] (running (deck .stop)))
     s.quiet ∧ s.stands .link .play ⟨.link, 5#8⟩ [1#16] ∧ s.transport.control = .remote ∧ s.sequencer.state ≠ .idle) := by
  unfold Poses State.quiet State.stands; and_intros <;> decide +kernel

/-! ### Witnesses: the input, the cue table and the edit list -/

/-- A slot being captured with one pair of two thousand in hand. -/
def capturing : Slot := { Slot.freed with
  state := .capturing, role := some .input, frameTime := some 1002, pairCount := 1920, pairs := [⟨1, 2⟩], good := [true] }

def filling (s : State) : State :=
  withSlot capturing { s with store := { s.store with captureList := [0] } }

def digital (s : State) : State := { s with
  input := { s.input with selected := .digital }, copy := { s.copy with current := .silent } }

/-- The state that a run of commands reaches. -/
def ran (commands : List Instr) (s : State) : State := commands.foldl (fun s c => match exec c s with
  | .next t => t
  | _ => s) s

/-- A run from reset: a tape is put in, a status record arrives and DIGITAL is selected through the System Port. -/
def chosen (b : Byte) : State :=
  ran [.tapeIn, .sourceStatusRecord b, .send 1#8 [2#8, 0#8, 10#8, 0#8, 1#8], .selectSource .system, .fetch] State.reset

/-- R42, R44 and R98 on that run: without lock, at another rate, locked at the active rate, and with a clear valid bit. -/
theorem test_select_digital :
    ([0x00#8, 0x05#8, 0x0F#8, 0x0D#8].map fun b => ((chosen b).input.lost, (chosen b).copy.current, (chosen b).input.selected)) =
      [(some .noLock, .silent, .digital), (some .rate, .silent, .digital), (none, .field .free, .digital),
        (none, .refuse, .digital)] ∧
    (chosen 0x00#8).reports.log.map (fun e => (e.kind, e.argument)) = [(.tapeIn, 0), (.sourceLost, 0)] := by decide +kernel

/-- The deck holds a status record under source ANALOG. -/
def offered (b : Byte) (s : State) : State := ran [.sourceStatusRecord b] s

/-- A selection waits on a deck whose slot 0 is n pairs long with one pair in hand. -/
def selecting (source : Source) (n : Nat) (s : State) : State :=
  let s := withSlot { capturing with pairCount := n }
    { s with store := { s.store with captureList := [0] }, copy := { s.copy with inputFields := [(0, some .once)] } }
  { s with input := { s.input with pendingSelect := some source } }

theorem selecting_sound :
    (selecting .analog 2 (scheduled 1002)).storeSound ∧ (selecting .analog 1920 (scheduled 1002)).storeSound ∧
    (selecting .digital 2 (scheduled 1002)).storeSound ∧ (selecting .digital 1920 (scheduled 1002)).storeSound := by
  unfold State.storeSound State.collectionsSound State.holdersSound
  and_intros <;> decide +kernel

theorem witness_SelectSourceRequest :
    (Poses .selectSource [10#16, 0#16] (deck .record) ∧ Poses .selectSource [10#16, 2#16] (deck .record)) ∧
    (Poses .selectSource [10#16, 2#16] (deck .stop) ∧ 1 < (argWord [10#16, 2#16] 1).toNat) ∧
    (∀ b ∈ [0x00#8, 0x05#8, 0x0F#8, 0x1F#8, 0x0D#8, 0x2F#8], Poses .selectSource [10#16, 1#16] (offered b (deck .stop)) ∧
      .digital ≠ (offered b (deck .stop)).input.selected ∧ (offered b (deck .stop)).fillingSlot = none ∧
      (offered b (deck .stop)).mixer.gateOpen = false ∧ (offered b (deck .stop)).mixer.punchIn = none) ∧
    (let s := offered 0x2F#8 (scheduled 1010)
     Poses .selectSource [10#16, 1#16] s ∧ s.copy.current ≠ .refuse ∧ s.input.status.lock = true ∧
     s.input.status.rate = some s.activeBank.rate ∧ s.input.status.valid = true ∧ s.input.status.copyField = some .none ∧
     s.sequencer.state = .idle ∧ s.mixer.gateOpen = false ∧ s.mixer.taken = false ∧
     s.mixer.punchIn = some ⟨1010, 256, true, .link⟩) := by
  unfold Poses State.quiet State.stands; refine ⟨?_, ?_, ?_, ?_⟩ <;> decide +kernel

/-- DIGITAL is left from a state that a run reaches, with and without a lost source, at once or at a capture boundary. -/
theorem witness_SelectSourceRequest_reached :
    (∀ b ∈ [0x00#8, 0x05#8, 0x0F#8, 0x0D#8],
      (asked [10#16, 0#16] (chosen b)).headRequest .system = some (me, [10#16, 0#16]) ∧
      (asked [10#16, 1#16] (chosen b)).headRequest .system = some (me, [10#16, 1#16]) ∧ (chosen b).transport.state = .stop ∧
      (chosen b).sequencer.handoffs = [] ∧ (chosen b).input.selected = .digital ∧ (chosen b).fillingSlot = none) ∧
    requestKind [10#16, 0#16] = some .selectSource ∧ requestKind [10#16, 1#16] = some .selectSource ∧
    ((asked [10#16, 0#16] (filling (chosen 0x0F#8))).headRequest .system = some (me, [10#16, 0#16]) ∧
      (filling (chosen 0x0F#8)).fillingSlot = some 0 ∧ (filling (chosen 0x0F#8)).input.selected = .digital) ∧
    ((asked [10#16, 0#16] (selecting .digital 1920 (deck .play))).headRequest .system = some (me, [10#16, 0#16]) ∧
      (selecting .digital 1920 (deck .play)).fillingSlot = some 0 ∧
      (selecting .digital 1920 (deck .play)).input.pendingSelect = some .digital) := by
  refine ⟨?_, ?_, ?_, ?_, ?_⟩ <;> decide +kernel

theorem witness_SelectSourceRequest_boundary :
    (∀ source ∈ [Source.analog, .digital], ∀ n ∈ [2, 1920],
      (selecting source n (scheduled 1002)).sequencer.handoffs = [] ∧
      (selecting source n (scheduled 1002)).input.pendingSelect = some source ∧
      (selecting source n (scheduled 1002)).capturingSlot = some 0 ∧
      ((selecting source n (scheduled 1002)).slot 0).pairs = [⟨1, 2⟩] ∧
      ((selecting source n (scheduled 1002)).slot 0).pairCount = n ∧
      (selecting source n (scheduled 1002)).store.captureList = [0] ∧
      (selecting source n (scheduled 1002)).sequencer.state = .idle) ∧
    (selecting .analog 2 (scheduled 1002)).storeSound ∧ (selecting .analog 1920 (scheduled 1002)).storeSound ∧
    (selecting .digital 2 (scheduled 1002)).storeSound ∧ (selecting .digital 1920 (scheduled 1002)).storeSound :=
  ⟨by decide +kernel, selecting_sound⟩

/-- R42: a waiting selection takes effect with the last pair of the slot, which still comes from the old source. -/
theorem test_selection_at_boundary :
    (match exec (.inputPair 3 4) (selecting .digital 2 (scheduled 1002)) with
      | .next t => (t.input.selected, t.input.lost, t.copy.current, (t.slot 0).good)
      | _ => (.analog, none, .refuse, [])) = (.digital, some .noLock, .silent, [true, true]) := by
  decide +kernel

/-- The current source field and the source-lost state after a status record on a digital deck. -/
def afterStatus (b : Byte) : Option (Option LostCause × SourceField) :=
  match exec (.sourceStatusRecord b) (digital (deck .stop)) with
  | .next t => some (t.input.lost, t.copy.current)
  | _ => none

/-- R44, R98 and R199 on each kind of record: no lock, another rate, valid clear, and the three copy fields. -/
theorem test_source_status_records :
    afterStatus 0x00#8 = some (some .noLock, .silent) ∧ afterStatus 0x05#8 = some (some .rate, .silent) ∧
    afterStatus 0x0D#8 = some (none, .refuse) ∧ afterStatus 0x0F#8 = some (none, .field .free) ∧
    afterStatus 0x1F#8 = some (none, .field .none) ∧ afterStatus 0x2F#8 = some (none, .refuse) := by
  and_intros <;> decide +kernel

def latched : State := { taking with copy := { taking.copy with latched := true } }

theorem witness_SourceStatusAndRefusal :
    ((deck .stop).quiet ∧ (deck .stop).sequencer.state = .idle ∧ (deck .stop).input.selected = .analog) ∧
    ((digital (deck .stop)).quiet ∧ (digital (deck .stop)).sequencer.state = .idle ∧
      (digital (deck .stop)).input.selected = .digital) ∧
    (let lost : State := { digital (deck .stop) with input := { (digital (deck .stop)).input with lost := some .noLock } }
     lost.quiet ∧ lost.sequencer.state = .idle ∧ lost.input.lost.isSome = true) ∧
    (taking.mixer.gateOpen = true ∧ taking.copy.latched = false) ∧ (latched.mixer.gateOpen = true ∧ latched.copy.latched = true) := by
  unfold State.quiet; and_intros <;> decide +kernel

def monitoring (s : State) (source : MonitorSource) : State := { s with output := { s.output with source := source } }

theorem witness_InputPairs :
    (let s := monitoring (filling (deck .play)) .tape
     s.quiet ∧ s.output.source ≠ .input ∧ s.capturingSlot = some 0 ∧ (s.slot 0).pairs ≠ [] ∧
     (s.slot 0).pairs.length + 1 < (s.slot 0).pairCount ∧ 0 < s.store.slots.length) ∧
    (let s := withSlot { capturing with pairs := [], good := [] } (monitoring (filling (deck .play)) .tape)
     s.quiet ∧ s.output.source ≠ .input ∧ s.capturingSlot = some 0 ∧ (s.slot 0).pairs = [] ∧ s.copy.current = .field .free) ∧
    (let s := deck .stop
     s.quiet ∧ s.output.source = .input ∧ s.capturingSlot = none ∧ s.output.fadesLeft = 0 ∧ s.output.fadeGain = 1024 ∧
     0 ≤ s.output.fadeStep) := by
  unfold State.quiet; and_intros <;> decide +kernel

/-- A table of two entries, a cue point and a program start. -/
def tabled : State := { deck .stop with cues := { entries := [⟨100, .cuePoint, .request, []⟩, ⟨200, .programStart 4, .tape, []⟩], mark := .none } }

/-- A full table. -/
def full : State := { deck .stop with cues := {
  entries := (List.range 99).map fun i => ⟨10 * i, .cuePoint, .request, []⟩, mark := .none } }

/-- The targets of LocateRequest in the cue table. -/
theorem witness_LocateRequest_cues :
    (Moves .locate [4#16, 1#16, 0#16, 1#16] tabled ∧ (tabled.cues.entries[1]?).map (·.time) = some 200) ∧
    (Moves .locate [4#16, 1#16, 0#16, 2#16] tabled ∧ tabled.cues.entries.length ≤ 2) ∧
    (Moves .locate [4#16, 2#16, 0#16, 4#16] tabled ∧
      (tabled.cues.entries.find? fun x => decide (x.kind = .programStart 4)).map (·.time) = some 200) ∧
    (Moves .locate [4#16, 2#16, 0#16, 5#16] tabled ∧ ∀ x ∈ tabled.cues.entries, x.kind ≠ .programStart 5) := by
  unfold Moves Poses State.quiet State.stands State.allows; and_intros <;> decide +kernel

theorem witness_CueRemoveClearAndReadRequests :
    tabled.cues.ordered ∧ Poses .cueClear [13#16] tabled ∧
    (Poses .cueRemove [12#16, 0#16, 0#16, 200#16] tabled ∧ argLong [12#16, 0#16, 0#16, 200#16] 2 = 200 ∧
      (tabled.cues.entries[1]?).map (·.time) = some 200) ∧
    (Poses .cueRemove [12#16, 0#16, 0#16, 150#16] tabled ∧
      ∀ e ∈ tabled.cues.entries, e.time ≠ argLong [12#16, 0#16, 0#16, 150#16] 2) ∧
    (Poses .cueRemove [12#16, 1#16, 0#16, 1#16] tabled ∧ argLong [12#16, 1#16, 0#16, 1#16] 2 < tabled.cues.entries.length) ∧
    (Poses .cueRemove [12#16, 1#16, 0#16, 2#16] tabled ∧ tabled.cues.entries.length ≤ argLong [12#16, 1#16, 0#16, 2#16] 2) ∧
    (Poses .cueRemove [12#16, 2#16, 0#16, 1#16] tabled ∧ 1 < (argWord [12#16, 2#16, 0#16, 1#16] 1).toNat) ∧
    (Poses .cueRead [14#16, 98#16] tabled ∧ (argWord [14#16, 98#16] 1).toNat ≤ 98) ∧
    (Poses .cueRead [14#16, 0#16] tabled) ∧
    (Poses .cueRead [14#16, 99#16] tabled ∧ 98 < (argWord [14#16, 99#16] 1).toNat) := by
  unfold Poses State.quiet State.stands CueTable.ordered; and_intros <;> decide +kernel

/-- A CUE-ADD body for a cue point with a label of two letters. -/
def adding (high low : Word) : List Word := [11#16, high, low, 0x100#16, 2#16, 0x4142#16, 0#16, 0#16, 0#16]

theorem witness_CueAddRequest :
    (tabled.cues.ordered ∧ full.cues.ordered) ∧
    (Poses .cueAdd (adding 0#16 150#16) tabled ∧ argLong (adding 0#16 150#16) 1 ≤ 359999 ∧
      (argWord (adding 0#16 150#16) 4).toNat ≤ 8 ∧ labelOk (argLabel (adding 0#16 150#16) 4).2 = true ∧
      (argWord (adding 0#16 150#16) 3).high = 1 ∧
      tabled.cues.entries = [⟨100, .cuePoint, .request, []⟩] ++ [⟨200, .programStart 4, .tape, []⟩] ∧
      tabled.cues.entries.length < 99) ∧
    (Poses .cueAdd (adding 0#16 200#16) tabled ∧ ∃ e ∈ tabled.cues.entries, e.time = argLong (adding 0#16 200#16) 1) ∧
    (Poses .cueAdd (adding 0#16 5#16) full ∧ full.cues.entries.length = 99 ∧
      ∀ e ∈ full.cues.entries, e.time ≠ argLong (adding 0#16 5#16) 1) ∧
    (Poses .cueAdd (adding 5#16 32319#16) tabled ∧ argLong (adding 5#16 32319#16) 1 = 359999) ∧
    (Poses .cueAdd [11#16, 0#16, 150#16, 0x100#16, 9#16, 0#16, 0#16, 0#16, 0#16] tabled) ∧
    (Poses .cueAdd (adding 5#16 32320#16) tabled ∧ 359999 < argLong (adding 5#16 32320#16) 1) ∧
    (Poses .cueAdd [11#16, 0#16, 150#16, 100#16, 0#16, 0#16, 0#16, 0#16, 0#16] tabled) ∧
    (Poses .cueAdd [11#16, 0#16, 150#16, 0x100#16, 1#16, 0x1F00#16, 0#16, 0#16, 0#16] tabled ∧
      labelOk (argLabel [11#16, 0#16, 150#16, 0x100#16, 1#16, 0x1F00#16, 0#16, 0#16, 0#16] 4).2 = false) := by
  unfold Poses State.quiet State.stands CueTable.ordered; and_intros <;> decide +kernel

def marking (high low : Word) : List Word := [15#16, high, low, 0#16, 0#16, 0#16, 0#16, 0#16, 0#16]

theorem witness_MarkRequest :
    (tabled.cues.ordered ∧ full.cues.ordered ∧ (deck .play).cues.ordered) ∧
    (Poses .mark (marking 0#16 300#16) tabled ∧ argLong (marking 0#16 300#16) 1 ≤ 359999 ∧
      (argWord (marking 0#16 300#16) 4).toNat ≤ 8 ∧ labelOk (argLabel (marking 0#16 300#16) 4).2 = true ∧
      (∀ e ∈ tabled.cues.entries, e.time < argLong (marking 0#16 300#16) 1) ∧ tabled.cues.entries.length < 99) ∧
    (Poses .mark (marking 5#16 32319#16) (deck .play) ∧ argLong (marking 5#16 32319#16) 1 = 359999 ∧
      (deck .play).decoder.time < 359999) ∧
    (Poses .mark (marking 5#16 32320#16) tabled ∧ 359999 < argLong (marking 5#16 32320#16) 1) ∧
    (Poses .mark (marking 0xFFFF#16 0xFFFE#16) (deck .play) ∧ Poses .mark (marking 0xFFFF#16 0xFFFE#16) tabled ∧
      argLong (marking 0xFFFF#16 0xFFFE#16) 1 = 0xFFFFFFFE) ∧
    (Poses .mark [15#16, 0#16, 5#16, 0#16, 9#16, 0#16, 0#16, 0#16, 0#16] tabled) ∧
    (Poses .mark (marking 0#16 100#16) tabled ∧ tabled.cues.entries =
      [] ++ ⟨100, .cuePoint, .request, []⟩ :: [⟨200, .programStart 4, .tape, []⟩]) ∧
    (Poses .mark (marking 0#16 200#16) tabled ∧ ∃ x ∈ tabled.cues.entries, x.time = 200 ∧ x.kind.isStart = true) ∧
    (Poses .mark (marking 0#16 5#16) full ∧ full.cues.entries.length = 99 ∧ ∀ x ∈ full.cues.entries, x.time ≠ 5) := by
  unfold Poses State.quiet State.stands CueTable.ordered; and_intros <;> decide +kernel

/-- R133: the number one above the highest before it. -/
theorem test_mark_number : markNumber 300 tabled.cues.entries = 5 ∧ markNumber 150 tabled.cues.entries = 1 := by decide

theorem witness_StartMarker :
    tabled.cues.ordered ∧ (∃ e ∈ tabled.cues.entries, e.time = 100) ∧
    ((∀ e ∈ tabled.cues.entries, e.time ≠ 209) ∧
      ∃ e ∈ tabled.cues.entries, e.kind.isStart = true ∧ e.time < 209 ∧ 209 ≤ e.time + 9) ∧
    ((∀ e ∈ tabled.cues.entries, e.time ≠ 210) ∧
      (∀ e ∈ tabled.cues.entries, e.kind.isStart = true → e.time < 210 → e.time + 9 < 210) ∧
      tabled.cues.entries.length < 99) ∧
    ((∀ e ∈ full.cues.entries, e.time ≠ 985) ∧ full.cues.entries.length = 99 ∧
      ∀ e ∈ full.cues.entries, e.kind.isStart = true → e.time < 985 → e.time + 9 < 985) := by
  unfold CueTable.ordered; and_intros <;> decide +kernel

/-- A deck whose list memory holds an entry at an index, in a sequencer state. -/
def listed (state : SequencerState) (i : Nat) (e : ListEntry) (s : State) : State := { s with
  sequencer := { s.sequencer with entries := s.sequencer.entries.set i e, state := state, current := i } }

theorem witness_ListRunAndHaltRequests :
    ((deck .stop).sized ∧ Poses .listRun [16#16, 63#16] (deck .stop) ∧ (argWord [16#16, 63#16] 1).toNat ≤ 63 ∧
      (deck .stop).sequencer.state = .idle ∧ ((deck .stop).entry 63).kind = 0) ∧
    ((runEntry 5 (listed .running 5 { ListEntry.blank with kind := 2, count := 3 } (deck .stop))).2 = .inProgress .waiting) ∧
    (∀ s ∈ [deck .stop, running (deck .stop)], Poses .listRun [16#16, 64#16] s ∧ 63 < (argWord [16#16, 64#16] 1).toNat) ∧
    (Poses .listRun [16#16, 0#16] (running (deck .stop)) ∧ (running (deck .stop)).sequencer.state ≠ .idle) ∧
    (Poses .listHalt [17#16] (deck .stop)) ∧ (Poses .listHalt [17#16] (running (deck .stop))) ∧
    (Poses .listHalt [17#16] (listed .waiting 3 ListEntry.blank (deck .stop))) ∧
    (Poses .listHalt [17#16] (listed .halting 3 ListEntry.blank (deck .stop))) := by
  unfold Poses State.quiet State.stands State.sized; and_intros <;> decide +kernel

/-- A LIST-WRITE body with n entries at a start index. -/
def writing (start : Word) (n : Nat) : List Word := [18#16, start] ++ List.replicate (5 * n) 0x201#16

theorem witness_ListWriteAndReadRequests :
    (deck .stop).sized ∧ (Poses .listWrite (writing 0#16 0) (deck .stop) ∧ ((writing 0#16 0).length - 2) / 5 = 0) ∧
    (Poses .listWrite (writing 0#16 5) (deck .stop) ∧ 4 < ((writing 0#16 5).length - 2) / 5) ∧
    (Poses .listWrite (writing 61#16 4) (deck .stop) ∧ 64 < (argWord (writing 61#16 4) 1).toNat + 4) ∧
    (Poses .listWrite (writing 60#16 4) (deck .stop) ∧ (argWord (writing 60#16 4) 1).toNat + 4 ≤ 64) ∧
    (Poses .listWrite (writing 2#16 2) (listed .waiting 3 ListEntry.blank (deck .stop)) ∧
      (listed .waiting 3 ListEntry.blank (deck .stop)).sequencer.current < 2 + 2) ∧
    (Poses .listWrite (writing 1#16 2) (listed .waiting 3 ListEntry.blank (deck .stop))) ∧
    (Poses .listRead [19#16, 63#16, 4#16] (deck .stop)) ∧ (Poses .listRead [19#16, 0#16, 1#16] (deck .stop)) ∧
    (Poses .listRead [19#16, 64#16, 1#16] (deck .stop)) ∧ (Poses .listRead [19#16, 0#16, 0#16] (deck .stop)) ∧
    (Poses .listRead [19#16, 0#16, 5#16] (deck .stop)) := by
  unfold Poses State.quiet State.stands State.sized; and_intros <;> decide +kernel

/-- A running list whose entry 63 is of a flow kind with target 0, the TIME-LOST condition being set. -/
def flowing (kind : Nat) (mask : BitVec 7) (saved : Option Nat) (used : Nat) : State :=
  let s := listed .running 63 { ListEntry.blank with kind := kind, mask := mask, count := 2, repeats := used } (deck .stop)
  { s with sequencer := { s.sequencer with conditions := 0x10#7, saved := saved } }

theorem witness_FlowEntries :
    (∀ k ∈ [8, 10, 11, 12], (flowing k 0 none 0).sized ∧ ((flowing k 0 none 0).entry 63).target ≤ 63 ∧
      ((flowing k 0 none 0).entry 63).kind = k) ∧
    ((flowing 9 0x10 none 0).sequencer.conditions &&& ((flowing 9 0x10 none 0).entry 63).mask ≠ 0) ∧
    ((flowing 9 0x01 none 0).sequencer.conditions &&& ((flowing 9 0x01 none 0).entry 63).mask = 0) ∧
    ((flowing 11 0 (some 5) 0).sequencer.saved = some 5) ∧
    (((flowing 12 0x10 none 1).entry 63).repeats < ((flowing 12 0x10 none 1).entry 63).count) ∧
    (((flowing 12 0x10 none 2).entry 63).repeats = ((flowing 12 0x10 none 2).entry 63).count) ∧
    ((flowing 10 0 (some 5) 0).sequencer.saved ≠ none) ∧
    (∀ k ∈ [8, 9, 10, 11, 12], let s := listed .running 63 { ListEntry.blank with kind := k, target := 64 } (deck .stop)
      s.sized ∧ (s.entry 63).kind = k ∧ 63 < (s.entry 63).target) := by
  unfold State.sized; and_intros <;> decide +kernel

/-- A list whose entry 63 is of a kind, with a time and a count. -/
def listing (kind time count choice : Nat) (s : State) : State :=
  listed .running 63 { ListEntry.blank with kind := kind, time := time, count := count, choice := choice } s

/-- The entries of FlowEntries that wait, log and mark. -/
theorem witness_FlowEntries_others :
    (∀ t ∈ [360000, 359999, 1001, 1000], ((listing 1 t 0 0 (deck .play)).entry 63).kind = 1 ∧
      ((listing 1 t 0 0 (deck .play)).entry 63).time = t ∧ (listing 1 t 0 0 (deck .play)).decoder.status ≠ .lost) ∧
    ((listing 1 1001 0 0 (losing (deck .play))).decoder.status = .lost) ∧
    (∀ n ∈ [0, 1], ((listing 2 0 n 0 (deck .play)).entry 63).count = n) ∧
    (((listing 13 0 7 0 (deck .play)).entry 63).kind = 13 ∧ ((listing 15 0 7 0 (deck .play)).entry 63).kind = 15) ∧
    (∀ t ∈ [360000, 100, 150, 200], ((listing 7 t 0 0 tabled).entry 63).time = t ∧ (listing 7 t 0 0 tabled).cues = tabled.cues) ∧
    ((listing 7 985 0 0 full).cues.entries.length = 99 ∧ ∀ x ∈ full.cues.entries, x.time ≠ 985) ∧
    ((runEntry 63 (listing 8 0 0 0 (deck .stop))).2 = .goto 0 ∧
      (runEntry 63 { listing 13 0 7 0 (deck .stop) with sequencer := { (listing 13 0 7 0 (deck .stop)).sequencer with
        state := .running, current := 63, chainCount := 1 } }).2 = .goto 64) := by
  and_intros <;> decide +kernel

/-- A list whose entry 0 is a JUMP to itself. -/
def looping : State := listed .idle 0 { ListEntry.blank with kind := 8 } (deck .stop)

/-- The states of a chain over that entry. -/
def loopPath : Nat → State
  | 0 => { looping with sequencer := { looping.sequencer with state := .running, chainCount := 0 } }
  | n + 1 => writeNow 0 .done { looping with sequencer := { looping.sequencer with
      state := .running, current := 0, chainCount := n + 1 } }

/-- The chain of FlowEntries that runs into its limit. -/
theorem witness_FlowEntries_chain :
    loopPath 0 = { looping with sequencer := { looping.sequencer with state := .running, chainCount := 0 } } ∧
    (∀ n ≤ 256, (fun _ => 0 : Nat → Nat) n < 64) ∧
    ∀ n < 256, runEntry 0 { loopPath n with sequencer := { (loopPath n).sequencer with
      current := 0, chainCount := (loopPath n).sequencer.chainCount + 1 } } = (loopPath (n + 1), .goto 0) := by
  refine ⟨rfl, fun _ _ => Nat.zero_lt_succ _, fun n _ => ?_⟩
  cases n <;> rfl

theorem witness_MotionEntries :
    (∀ st ∈ [TransportState.empty, .stop, .starting, .cued, .wind, .locate, .fault, .play], ∀ k ∈ [3, 4, 5, 6, 14],
      (listing k 1075 75 0 (deck st)).sized ∧ (listing k 1075 75 0 (deck st)).gateAgrees ∧
      ((listing k 1075 75 0 (deck st)).entry 63).kind = k) ∧
    ((listing 14 0 0 0 taking).gateAgrees ∧ (listing 14 0 0 0 (scheduled 1010)).gateAgrees) ∧
    (let s := listing 3 1075 75 0 (scheduled 1010)
     s.sized ∧ s.gateAgrees ∧ s.transport.state = .play ∧ s.decoder.status = .locked ∧ s.decoder.time = 1075 - min 250 75) ∧
    ((deck .stop).decoder.status = .locked ∧ (deck .stop).decoder.time = 1075 - min 250 75) ∧
    ((listing 3 2 0 1 tabled).cues.entries.length ≤ 2 ∧ ((listing 3 1 0 1 tabled).cues.entries[1]?).map (·.time) = some 200 ∧
      ((listing 3 4 0 2 tabled).cues.entries.find? fun x => decide (x.kind = .programStart 4)).map (·.time) = some 200) ∧
    (let s := listing 5 1004 0 8 (deck .play)
     s.mixer.gateOpen = false ∧ s.mixer.punchIn = none ∧ s.transport.recordPending = false ∧ s.decoder.status ≠ .lost ∧
     s.banks.pendingSwitch = none ∧ s.decoder.time + 4 ≤ 1004 ∧ s.copy.current ≠ .refuse) ∧
    ((listing 5 1004 0 8 (refusing (deck .play))).copy.current = .refuse ∧
      (listing 5 1004 0 8 (switching (staged32 (deck .play)))).banks.stagedBank.rate ≠ .r48) ∧
    (let s := listing 6 1010 0 7 taking
     s.gateAgrees ∧ s.mixer.punchIn = some ⟨990, 0, true, .system⟩ ∧ s.mixer.punchOut = none ∧ s.decoder.status ≠ .lost ∧
     s.decoder.time + 4 ≤ 1010 ∧ 990 < 1010) ∧
    ((listing 6 1010 0 7 (ending 1010)).mixer.punchOut.isSome = true ∧ (listing 6 1010 0 7 (ending 1010)).gateAgrees ∧
      (listing 6 1010 0 7 (losing taking)).decoder.status = .lost) := by
  unfold State.sized State.gateAgrees; and_intros <;> decide +kernel

/-! ### Witnesses: settings, reports and the Studio Link -/

theorem witness_SetSettingRequest :
    (Poses .setSetting [20#16, 11#16, 0#16] (deck .stop) ∧ 10 < (argWord [20#16, 11#16, 0#16] 1).toNat) ∧
    (Poses .setSetting [20#16, 3#16, 17#16] (deck .stop)) ∧ (Poses .setSetting [20#16, 5#16, 50#16] (deck .stop)) ∧
    (Poses .setSetting [20#16, 6#16, 0#16] (deck .stop)) ∧ (Poses .setSetting [20#16, 8#16, 251#16] (deck .stop)) ∧
    (Poses .setSetting [20#16, 9#16, 9#16] (deck .stop)) ∧
    (Poses .setSetting [20#16, 3#16, 0#16] (deck .stop)) ∧
    (Poses .setSetting [20#16, 2#16, 2048#16] (deck .stop) ∧ 2048 ∈ [0, 32, 64, 128, 256, 512, 1024, 2048]) ∧
    (Poses .setSetting [20#16, 2#16, 33#16] (deck .stop) ∧ 33 ∉ [0, 32, 64, 128, 256, 512, 1024, 2048]) ∧
    (Poses .setSetting [20#16, 0#16, 32000#16] (switching taking) ∧ (switching taking).banks.pendingSwitch.isSome = true ∧
      (switching taking).takeInHand = true ∧ Rate.r32 ≠ (switching taking).activeBank.rate ∧
      (argWord [20#16, 0#16, 32000#16] 2).toNat = Rate.r32.hertz) ∧
    (Poses .setSetting [20#16, 0#16, 44100#16] taking ∧ taking.banks.pendingSwitch = none ∧
      (argWord [20#16, 0#16, 44100#16] 2).toNat = Rate.r44.hertz) ∧
    (Poses .setSetting [20#16, 1#16, 16#16] (switching taking) ∧ WordLength.w16 ≠ (switching taking).activeBank.tapeWordLength ∧
      WordLength.w16.bits = 16 ∧ WordLength.w24.bits = 24 ∧ 20 ∉ [16, 24]) ∧
    (Poses .setSetting [20#16, 1#16, 20#16] taking ∧ Poses .setSetting [20#16, 10#16, 24#16] taking ∧
      Poses .setSetting [20#16, 10#16, 20#16] taking) ∧
    (Poses .setSetting [20#16, 4#16, 2#16] taking ∧ Poses .setSetting [20#16, 4#16, 3#16] taking) ∧
    (Poses .setSetting [20#16, 7#16, 1#16] taking ∧ Poses .setSetting [20#16, 7#16, 2#16] taking) := by
  unfold Poses State.quiet State.stands; and_intros <;> decide +kernel

theorem witness_SetSettingRequest_rate : Poses .setSetting [20#16, 0#16, 44101#16] taking ∧ 44101 ∉ [32000, 44100, 48000] := by
  unfold Poses State.quiet State.stands; decide +kernel

theorem witness_BankRequests :
    (Poses .readSetting [21#16, 0x20A#16] (deck .stop) ∧ (argWord [21#16, 0x20A#16] 1).high = 2 ∧
      (argWord [21#16, 0x20A#16] 1).low = 10 ∧ Setting.inOrder[10]? = some .outputWordLength) ∧
    (Poses .readSetting [21#16, 0x30B#16] (deck .stop)) ∧ (Poses .readSetting [21#16, 0x10C#16] (deck .stop)) ∧
    (Poses .readSetting [21#16, 0x400#16] (deck .stop) ∧ 3 < (argWord [21#16, 0x400#16] 1).high) ∧
    (Poses .copyBank [23#16] (staged32 (deck .stop))) ∧
    (Poses .switchBank [22#16] (switching (deck .stop)) ∧ (switching (deck .stop)).banks.pendingSwitch ≠ none) ∧
    (Poses .switchBank [22#16] (staged32 taking) ∧ (staged32 taking).mixer.gateOpen = true ∧
      (staged32 taking).banks.stagedBank.rate ≠ (staged32 taking).banks.activeBank.rate) ∧
    (Poses .switchBank [22#16] (staged32 (deck .stop)) ∧ (staged32 (deck .stop)).takeInHand = false) := by
  unfold Poses State.quiet State.stands; and_intros <;> decide +kernel

/-- A deck whose log holds the entries numbered 65,534 and 65,535. -/
def logged : State := { deck .stop with reports := { State.reset.reports with
  log := [⟨65534, .note, some 5, .list, 1⟩, ⟨65535, .note, some 6, .list, 2⟩], nextSequence := 0 } }

theorem witness_ReportAndLogRequests :
    (Poses .readReport [24#16] (deck .stop)) ∧ (Poses .readIdent [27#16] (deck .stop)) ∧
    (Poses .setMask [25#16, 2048#16] (deck .stop)) ∧ (Poses .setMask [25#16, 2047#16] (deck .stop)) ∧
    (Poses .logRead [26#16, 65535#16] logged ∧ logged.reports.log = [⟨65534, .note, some 5, .list, 1⟩] ++ [⟨65535, .note, some 6, .list, 2⟩] ∧
      (argWord [26#16, 65535#16] 1).toNat = 65535) ∧
    (Poses .logRead [26#16, 0#16] logged ∧ (argWord [26#16, 0#16] 1).toNat = logged.reports.nextSequence ∧
      ∀ e ∈ logged.reports.log, e.sequence ≠ 0) ∧
    (Poses .logRead [26#16, 7#16] logged ∧ (argWord [26#16, 7#16] 1).toNat ≠ logged.reports.nextSequence ∧
      ∀ e ∈ logged.reports.log, e.sequence ≠ 7) := by
  unfold Poses State.quiet State.stands; and_intros <;> decide +kernel

/-- The log entries and replies of ReportAndLogRequests. -/
theorem witness_ReportAndLogRequests_entries :
    logged.reports.within ∧
    ({ logged.reports with log := List.replicate 32 ⟨0, .reset, none, .system, 0⟩, nextSequence := 65535 } : Reports).within ∧
    ((1#16 : Word) ≠ 24#16 ∧ State.reset.reports.system.mask.getLsbD 10 = false) ∧ (1024#11).getLsbD 10 = true := by
  unfold Reports.within Counters.within; and_intros <;> decide +kernel

def unconfigured (hop : Nat) (body : List Word) (s : State) : State :=
  let t := linked hop body s
  { t with link := { t.link with position := none } }

theorem witness_SetPositionRequest :
    (asked [29#16, 1#16] (deck .stop)).stands .system .setPosition me [29#16, 1#16] ∧
    (let s := unconfigured 0 [29#16, 8#16] (deck .stop)
     s.link.requests = [⟨0, 5#8, [29#16, 8#16]⟩] ∧ requestKind [29#16, 8#16] = some .setPosition ∧
     s.link.chainReset = none ∧ s.link.position = none) ∧
    (let s := unconfigured 0 [29#16, 9#16] (deck .stop)
     s.link.requests = [⟨0, 5#8, [29#16, 9#16]⟩] ∧ 8 < (argWord [29#16, 9#16] 1).toNat ∧ s.link.position = none) ∧
    (let s := linked 0 [29#16, 1#16] (deck .stop)
     s.link.requests = [⟨0, 5#8, [29#16, 1#16]⟩] ∧ s.link.position = some 2 ∧ s.upstreamRoom = true ∧
     s.link.upstream.up = true) ∧
    (requestKind [29#16, 0#16] = some .setPosition ∧ (argWord [29#16, 0#16] 1).toNat = 0) := by
  unfold State.stands; and_intros <;> decide +kernel

def receiving (s : State) : State := { s with link := { s.link with
  upstream := { s.link.upstream with reception := .placed }, downstream := { s.link.downstream with reception := .placed } } }

/-- A reset has caught a packet in reception on each line. -/
def dropping (s : State) : State := { s with link := { s.link with
  upstream := { s.link.upstream with reception := .dropped }, downstream := { s.link.downstream with reception := .dropped } } }

/-- Both link queues are full. -/
def crammed (s : State) : State := { s with link := { s.link with
  requests := List.replicate 4 ⟨0, 0#8, [8#16]⟩, upstreamQueue := List.replicate 8 [0#8] } }

/-- A request packet of one word as R195 lays it out, its check word worked out apart from the model. -/
def playPacket : List Byte := [0x00#8, 0x01#8, 0x05#8, 0x00#8, 0x00#8, 0x01#8, 0x08#8, 0x25#8]

/-- The packet is free of errors on the upstream line, wrong in direction downstream, spoilt by one changed bit, and wrong in both
ways without its first byte. -/
theorem test_packet_layout :
    packetErrors false playPacket = ⟨false, false⟩ ∧ packetErrors true playPacket = ⟨true, false⟩ ∧
    packetErrors false (playPacket.set 5 0x03#8) = ⟨false, true⟩ ∧ packetErrors false (playPacket.drop 1) = ⟨true, true⟩ ∧
    packetErrors false [0x00#8] = ⟨true, false⟩ ∧
    linkRequestOf playPacket = ⟨0, 5#8, [1#16]⟩ := by
  and_intros <;> decide +kernel

theorem witness_LineEventsAndBadPackets :
    (let s := linked 0 [] (deck .stop)
     s.link.upstream.up = true ∧ s.link.upstream.reception = .idle ∧ s.link.requests.length < 4 ∧
     s.link.downstream.up = true ∧ s.link.downstream.reception = .idle ∧ s.link.chainReset = none ∧
     s.link.upstreamQueue.length < 8) ∧
    (let s := receiving (linked 0 [] (deck .stop))
     s.link.upstream.up = true ∧ s.link.upstream.reception = .placed ∧ s.link.upstream.reception ≠ .dropped ∧
     s.link.downstream.reception ≠ .idle) ∧
    ((deck .stop).link.upstream.up = false ∧ (deck .stop).link.downstream.up = false) ∧
    (let s := receiving (linked 0 [] (deck .stop))
     s.link.downstream.up = true ∧ s.link.downstream.reception = .placed ∧ s.link.chainReset = none) ∧
    (let s := dropping (linked 0 [] (deck .stop))
     s.link.upstream.up = true ∧ s.link.upstream.reception = .dropped ∧ s.link.downstream.up = true ∧
     s.link.downstream.reception = .dropped ∧ s.link.chainReset = none) ∧
    (let s := crammed (linked 0 [] (deck .stop))
     s.link.upstream.up = true ∧ s.link.upstream.reception = .idle ∧ s.link.requests.length = 4 ∧
     s.link.downstream.up = true ∧ s.link.downstream.reception = .idle ∧ s.link.upstreamQueue.length = 8) ∧
    packetExtentOk [] = false ∧
    (packetExtentOk playPacket = true ∧ packetIsReply playPacket = false ∧ packetCheckOk (playPacket.set 5 0x03#8) = false ∧
      (playPacket.set 5 0x03#8).drop 6 ≠ bytesOfWords [checkWord ((playPacket.set 5 0x03#8).take 6)]) ∧
    (packetExtentOk (playPacket.drop 1) = false ∧ (playPacket.drop 1).drop 5 ≠ bytesOfWords [checkWord ((playPacket.drop 1).take 5)]) ∧
    (packetExtentOk (packetBytes 0 true 5#8 1 [1#16, 0#16]) = true ∧ packetIsReply (packetBytes 0 true 5#8 1 [1#16, 0#16]) = true ∧
      packetCheckOk (packetBytes 0 true 5#8 1 [1#16, 0#16]) = true) := by
  and_intros <;> decide +kernel

/-- R186 and R187: the downstream line fails with a packet in reception, with one that a reset has caught, and idle. -/
theorem test_downstream_fails :
    ([receiving, dropping, id].map fun f => match exec (.lineDown .downstream) (f (linked 0 [] (deck .stop))) with
      | .next t => (t.link.downstream, t.reports.link.counters.linkErrors)
      | _ => (LineStatus.down, 9)) =
      [(⟨false, true, false, true, .idle⟩, 1), (⟨false, true, false, false, .idle⟩, 0), (⟨false, true, false, false, .idle⟩, 0)] := by
  decide +kernel

theorem witness_PacketsArriveWhole :
    7 ≤ 7 ∧ 1 ≤ [1#16].length ∧ (List.replicate 64 1#16).length ≤ 64 ∧
    (let s := receiving (linked 0 [] (deck .stop))
     s.link.upstream.up = true ∧ s.link.upstream.reception = .placed ∧ s.link.downstream.up = true ∧
     s.link.downstream.reception = .placed) := by
  and_intros <;> decide +kernel

def noDownstream (s : State) : State := { s with link := { s.link with downstream := LineStatus.down } }

/-- A deck with a chain reset that waits. -/
def held (ticket : Ticket) (s : State) : State := { s with link := { s.link with chainReset := some ticket } }

theorem witness_LinkRouting :
    (let s := linked 1 [1#16] (deck .stop)
     s.link.requests = [⟨1, 5#8, [1#16]⟩] ∧ s.link.position = some 2 ∧
     s.link.downstream.up = true) ∧
    (let s := noDownstream (linked 7 [1#16] (deck .stop))
     s.link.downstream.up = false ∧ s.link.upstream.up = true ∧ s.upstreamRoom = true) ∧
    ((unconfigured 1 [1#16] (deck .stop)).link.position = none ∧ requestKind [1#16] ≠ some .setPosition) ∧
    ((linked 0 [1#16] (deck .stop)).link.position = some 2 ∧ requestKind [1#16] = some .play ∧ requestKind [0#16] = none ∧
      requestKind [27#16] = some .readIdent) ∧
    (let s := unconfigured 0 [29#16, 1#16] (deck .stop)
     s.link.requests = [⟨0, 5#8, [29#16, 1#16]⟩] ∧ s.link.position = none) ∧
    (let t := held me (linked 0 [29#16, 1#16] (deck .stop))
     t.link.requests = [⟨0, 5#8, [29#16, 1#16]⟩] ∧ t.link.chainReset.isSome = true ∧ t.link.position.isSome = true ∧
     requestKind [29#16, 1#16] = some .setPosition) := by
  and_intros <;> decide +kernel

theorem witness_SendingOnTheLines :
    (let s := held ⟨.link, 5#8⟩ { linked 0 [] (deck .stop) with
        link := { (linked 0 [] (deck .stop)).link with upstreamQueue := [playPacket] } }
     s.link.upstreamQueue = playPacket :: [] ∧ s.link.upstream.up = true ∧ s.link.chainReset = some ⟨.link, 5#8⟩ ∧
     s.link.downstream.up = true) ∧
    ((held me (running (linked 0 [] (deck .stop)))).link.chainReset = some me ∧
      (held me (running (linked 0 [] (deck .stop)))).link.downstream.up = true) ∧
    ((held me (deck .stop)).link.chainReset = some me ∧ (held me (deck .stop)).link.downstream.up = false) ∧
    ((deck .stop).link.upstreamQueue = [] ∧ (deck .stop).link.chainReset = none) := by
  and_intros <;> decide +kernel

/-! ### Witnesses: the frame pulse and the head channel -/

theorem witness_PulseOffPlaySpeed :
    ((deck .stop).quiet ∧ (deck .stop).sequencer.state = .idle ∧ (deck .stop).transport.state.rolling = false ∧
      (deck .stop).decoder.gathering = false ∧ (deck .stop).mixer.gateOpen = false ∧ (deck .stop).mixer.punchIn = none ∧
      (deck .stop).mixer.punchOut = none ∧ (deck .stop).coder.current = none ∧ (deck .stop).coder.verify = [] ∧
      (deck .stop).store.captureList = [] ∧ (deck .stop).store.gatherList = [] ∧ (deck .stop).copy.latched = false ∧
      (deck .stop).input.lost = none ∧ (deck .stop).banks.pendingSwitch = none ∧
      (deck .stop).decoder.holdover ≤ (deck .stop).activeBank.holdover) ∧
    ((switching (deck .stop)).banks.pendingSwitch = some .link ∧ (switching (deck .stop)).input.selected = .analog ∧
      (switching (deck .stop)).decoder.holdover ≤ (switching (deck .stop)).banks.stagedBank.holdover) := by
  unfold State.quiet; and_intros <;> decide +kernel

/-- The record of a frame, and a current frame that holds it as its one subcode block. -/
def record (time : Nat) : Subcode := ⟨time, .r48, .w24, 0, false, .once⟩
def gathered (time : Nat) : GatherFrame := ⟨time % 256, time, some 0, false, [⟨.a, 72, subcodePayload (record time)⟩]⟩

def gathering (st : TransportState) (g : Option GatherFrame) : State :=
  let s := deck st
  { s with decoder := { s.decoder with current := g } }

/-- A deck in HOLDOVER at its limit. -/
def holding (s : State) : State :=
  { s with decoder := { s.decoder with status := .holdover, holdover := s.activeBank.holdover } }

theorem witness_TapeTimeAtPulse :
    ((gathering .play (some (gathered 1003))).decoder.gathering = true ∧
      (gathering .play (some (gathered 1003))).banks.pendingSwitch = none ∧
      (gathering .play (some (gathered 1003))).decoder.holdover ≤ (gathering .play (some (gathered 1003))).activeBank.holdover ∧
      (gathered 1003).subcodeTime = some (min 359999 (min 359999 (1000 + 1) + 2 - 0))) ∧
    ((gathered 1).subcodeTime = some 1 ∧ 1 ≠ min 359999 (min 359999 (1000 + 1) + 2 - 0)) ∧
    ((gathering .record none).transport.state = .record ∧ (gathering .record none).decoder.current.bind GatherFrame.subcodeTime = none) ∧
    (let s := gathering .play (some (GatherFrame.fresh 1003 1003))
     s.quiet ∧ s.sequencer.state = .idle ∧ s.coder.verify.length ≤ 3 ∧ s.decoder.current.isSome = true ∧
     s.decoder.current.bind GatherFrame.subcodeTime = none ∧ s.decoder.status = .locked ∧
     s.decoder.holdover < s.activeBank.holdover ∧ s.mixer.gateOpen = false ∧ s.mixer.taken = false) ∧
    (let s := holding (gathering .play (some (GatherFrame.fresh 1003 1003)))
     s.quiet ∧ s.sequencer.state = .idle ∧ s.decoder.holdover = s.activeBank.holdover ∧ s.decoder.status = .holdover) ∧
    (let s := losing (gathering .play (some (GatherFrame.fresh 1003 1003)))
     s.decoder.current.isSome = true ∧ s.decoder.status = .lost) := by
  unfold State.quiet; and_intros <;> decide +kernel

/-- A take with a punch-out of a crossfade length. -/
def endingWith (u cross : Nat) : State :=
  { taking with mixer := { taking.mixer with punchOut := some ⟨u, cross, true, .link⟩ } }

/-- A scheduled take with a punch-out of no crossfade. -/
def scheduledUntil (t u : Nat) : State :=
  { scheduled t with mixer := { (scheduled t).mixer with punchOut := some ⟨u, 0, true, .link⟩ } }

/-- No block of the current frame has come: the pulse meets a missing frame. -/
def unstriped (s : State) : State := { s with decoder := { s.decoder with
  current := some ⟨1003 % 256, 1003, none, false, []⟩, next := some ⟨1004 % 256, 1004, none, false, []⟩ } }

theorem witness_RecordGateAtPulse :
    ((scheduled 1000).mixer.gateOpen = false ∧ (scheduled 1000).mixer.punchIn = some ⟨1000, 256, true, .link⟩ ∧
      (scheduled 1000).transport.state = .play ∧ (scheduled 1000).decoder.time = 1000) ∧
    (scheduled 1001).decoder.time ≠ 1001 ∧
    ((ending 999).mixer.gateOpen = true ∧ (ending 999).mixer.punchOut = some ⟨999, 256, true, .link⟩ ∧
      (ending 999).transport.state = .record ∧
      (ending 999).decoder.time = Punch.lastOut ⟨999, 256, true, .link⟩ (ending 999).framePairs + 1) ∧
    (ending 1000).decoder.time ≠ Punch.lastOut ⟨1000, 256, true, .link⟩ (ending 1000).framePairs + 1 ∧
    (∀ port, (State.reset.reports.port port).mask.getLsbD 2 = false ∧ (State.reset.reports.port port).mask.getLsbD 3 = false) ∧
    (∀ s ∈ [scheduled 1001, scheduled 1002, scheduledUntil 1002 1003, scheduledUntil 1002 1004, scheduledUntil 1001 1003,
      scheduledUntil 1001 1004, ending 1000, ending 1001, ending 1003, ending 1004, taking], s.quiet ∧
      s.sequencer.state = .idle ∧ s.gateAgrees ∧ s.readingAgrees ∧ s.banks.pendingSwitch = none ∧
      s.decoder.holdover < s.activeBank.holdover ∧ s.coder.verify.length ≤ 3 ∧ s.decoder.leadIn = 0 ∧
      s.decoder.current = none ∧ s.mixer.committed = false) ∧
    (Punch.lastOut ⟨1000, 256, true, .link⟩ (ending 1000).framePairs + 1 = min 359999 (1000 + 1) ∧
      Punch.lastOut ⟨1001, 256, true, .link⟩ (ending 1001).framePairs + 1 ≠ min 359999 (1000 + 1)) := by
  refine ⟨?_, ?_, ?_, ?_, fun port => by cases port <;> decide +kernel, ?_, ?_⟩
  case refine_5 => unfold State.quiet State.gateAgrees State.readingAgrees; decide +kernel
  all_goals decide +kernel

/-- A pulse at which the time is lost in RECORD with a punch-out at T + 3, which is withdrawn, and at T + 2, which is not. -/
theorem witness_RecordGateAtPulse_lost :
    ∀ u ∈ [1003, 1004], let s := holding (unstriped (ending u))
      s.quiet ∧ s.sequencer.state = .idle ∧ s.gateAgrees ∧ s.readingAgrees ∧ s.banks.pendingSwitch = none ∧
      s.decoder.holdover = s.activeBank.holdover ∧ s.coder.verify.length ≤ 3 ∧ s.decoder.current.isSome = true ∧
      s.decoder.current.bind GatherFrame.subcodeTime = none ∧ s.decoder.status = .holdover ∧ s.mixer.committed = false ∧
      s.mixer.punchOut = some ⟨u, 256, true, .link⟩ := by
  unfold State.quiet State.gateAgrees State.readingAgrees; decide +kernel

/-- R142 and R145 at the pulse to T = 1,001: a punch-out at T + 2 becomes committed, in PLAY too, one at T + 3 does not; when the
time is lost at the pulse, the first stands and the second is withdrawn. -/
theorem test_punch_out_commits :
    ([scheduledUntil 1002 1003, scheduledUntil 1002 1004, ending 1003, ending 1004, holding (unstriped (ending 1003)),
        holding (unstriped (ending 1004))].map fun s => match exec .framePulse s with
      | .next t => (t.mixer.punchOut.map (·.time), t.mixer.committed)
      | _ => (none, false)) =
      [(some 1003, true), (some 1004, false), (some 1003, true), (some 1004, false), (some 1003, true), (none, false)] := by
  decide +kernel

def supplying (n : Nat) : State :=
  let s := withSlot { Slot.freed with state := .writing, role := some .input, frameTime := some 998, pairCount := 1920 } taking
  { s with coder := { s.coder with current := some ⟨0, 998⟩, sequence := n, verify := [⟨998, n, 0, []⟩], writeOn := true } }

/-- Slot 0 waits on the write queue, MIXED for the frame of the next pulse. -/
def windowed : State :=
  withSlot { Slot.freed with state := .mixed, role := some .input, frameTime := some 1001, pairCount := 1920 }
    { taking with store := { taking.store with writeQueue := [0] } }

/-- Slot 0 is still CAPTURING for the frame of the next pulse. -/
def unfinished : State :=
  withSlot { Slot.freed with state := .capturing, role := some .input, frameTime := some 1001, pairCount := 1920 }
    { taking with store := { taking.store with captureList := [0] }, copy := { taking.copy with inputFields := [(0, none)] } }

/-- Slot 0 is the OLD slot of the frame of the next pulse. -/
def withOld : State :=
  withSlot { Slot.freed with state := .concealed, role := some .old, frameTime := some 1001, pairCount := 1920 }
    { taking with store := { taking.store with outputQueue := [0] } }

/-- The monitor has finished with the slot in supply. -/
def played (s : State) : State := withSlot { s.slot 0 with monitor := .finished } s

/-- What a pulse with its windows asks of a state. -/
def Opens (s : State) : Prop :=
  s.quiet ∧ s.sequencer.state = .idle ∧ s.gateAgrees ∧ s.readingAgrees ∧ s.storeSound ∧ s.recordSound ∧
  s.banks.pendingSwitch = none ∧ s.decoder.holdover ≤ s.activeBank.holdover ∧ s.decoder.leadIn = 0

/-- What a pulse in RECORD that does not close the gate asks as well. -/
def Runs (s : State) : Prop :=
  s.transport.state = .record ∧ (∀ p ∈ s.mixer.punchIn, p.time ≤ min 359999 (s.decoder.time + 1)) ∧
  ∀ o ∈ s.mixer.punchOut, min 359999 (s.decoder.time + 1) ≠ (if o.cross = 0 then o.time - 1 else
    o.time + (o.cross - 1) / s.activeBank.rate.pairs) + 1

/-- MIXED slots of some frames stand on the write queue, under a trim demand. -/
def mixedFor (frames : List Nat) (trim : Trim) (s : State) : State :=
  let s := trimmed trim s
  { s with store := { s.store with
      slots := (List.range 16).map fun i => match frames[i]? with
        | some f => { Slot.freed with state := .mixed, role := some .input, frameTime := some f, pairCount := 1920 }
        | none => Slot.freed
      writeQueue := List.range frames.length } }

/-- The current frame of the period is being gathered in slot 5, behind slot 4, CORRECTED and waiting. -/
def striped (s : State) : State := { s with
  store := { s.store with
    gatherList := [4, 5]
    slots := (s.store.slots.set 4 { Slot.freed with
        state := .corrected, role := some .play, frameTime := some 1002, pairCount := 1920 }).set 5
      { Slot.freed with state := .gathering, role := some .play, frameTime := some 1003, pairCount := 1920 } }
  decoder := { s.decoder with
    current := some ⟨1003 % 256, 1003, some 5, false, []⟩, next := some ⟨1004 % 256, 1004, none, false, []⟩ } }

/-- R37: STOP in RECORD frees the OLD slot that waits on the output queue. -/
theorem test_stop_frees_old :
    (match exec (.stop .system) (asked [8#16] withOld) with
      | .next t => t.slot 0 == Slot.freed && t.store.outputQueue == []
      | _ => false) = true := by decide +kernel

theorem windowed_opens : Opens windowed := by
  unfold Opens State.quiet State.gateAgrees State.readingAgrees State.storeSound State.collectionsSound State.holdersSound
    State.recordSound Coder.verifySound
  and_intros <;> decide +kernel

theorem unfinished_opens : Opens unfinished := by
  unfold Opens State.quiet State.gateAgrees State.readingAgrees State.storeSound State.collectionsSound State.holdersSound
    State.recordSound Coder.verifySound
  and_intros <;> decide +kernel

theorem gathering_opens : Opens (striped windowed) ∧ Opens (striped unfinished) ∧ Opens (unstriped unfinished) := by
  unfold Opens State.quiet State.gateAgrees State.readingAgrees State.storeSound State.collectionsSound State.holdersSound
    State.recordSound Coder.verifySound
  and_intros <;> decide +kernel

theorem withOld_opens : Opens withOld := by
  unfold Opens State.quiet State.gateAgrees State.readingAgrees State.storeSound State.collectionsSound State.holdersSound
    State.recordSound Coder.verifySound
  and_intros <;> decide +kernel

/-- The Frame Store and the record path of a state are sound. -/
def Sound (s : State) : Prop := s.storeSound ∧ s.recordSound

/-- A slot one pair short of its frame, the first on the capture list. -/
def completing (s : State) : State :=
  monitoring (withSlot { capturing with pairCount := 2 } { s with
    store := { s.store with captureList := [0] }, copy := { s.copy with inputFields := [(0, some .once)] } }) .tape

/-- Slot 1 is the CONCEALED OLD slot of frame 1,002. -/
def withPartner (s : State) : State := { s with store := { s.store with
  outputQueue := [1]
  slots := s.store.slots.set 1 { Slot.freed with
    state := .concealed, role := some .old, frameTime := some 1002, pairCount := 1920, pairs := [⟨4, 5⟩, ⟨6, 7⟩] } } }

/-- Slots 2 and up are MIXED for the frames before 1,002, under a trim demand. -/
def backed (frames : List Nat) (trim : Trim) (s : State) : State :=
  let s := trimmed trim s
  { s with store := { s.store with
      slots := s.store.slots.mapIdx fun i v => match (if 2 ≤ i then frames[i - 2]? else none) with
        | some f => { Slot.freed with state := .mixed, role := some .input, frameTime := some f, pairCount := 1920 }
        | none => v
      writeQueue := (List.range frames.length).map (· + 2) } }

theorem backed_sound :
    Sound (backed [999, 1000, 1001] .normal (completing taking)) ∧ Sound (backed [1001] .slow (completing taking)) ∧
    Sound (backed [1000, 1001] .fast (completing taking)) := by
  unfold Sound State.storeSound State.collectionsSound State.holdersSound State.recordSound Coder.verifySound
  and_intros <;> decide +kernel

/-- R39: a capture slot that joins the write queue in RECORD makes W 4, 2 and 3. -/
theorem test_capture_trim :
    ([([999, 1000, 1001], Trim.normal), ([1001], .slow), ([1000, 1001], .fast)].map fun (frames, trim) =>
      trimAfter (.inputPair 3 4) (backed frames trim (completing taking))) =
      [some (.fast, .playSpeed .fast), some (.normal, .playSpeed .normal), some (.fast, .playSpeed .fast)] := by
  decide +kernel

theorem completing_sound :
    Sound (completing taking) ∧ Sound (completing (scheduled 1002)) ∧ Sound (withPartner (completing (scheduled 1002))) := by
  unfold Sound State.storeSound State.collectionsSound State.holdersSound State.recordSound Coder.verifySound
  and_intros <;> decide +kernel

/-- Four PLAY slots of frames 1,003 to 1,006 stand on the output queue of a deck with source TAPE, under TRIM-SLOW. -/
def backlog (s : State) : State :=
  let q := queueing 4 1003 .slow false
  { s with store := q.store, output := q.output, transport := { s.transport with demand := .playSpeed .slow } }

/-- What PunchOutRequest, MotionEntries, ServoMotionReports and EntryEndsByHandOff ask where they say that the trim follows Q. -/
theorem witness_trim_follows :
    Sound (backlog (scheduled 1004)) ∧ Sound (backlog (scheduled 1003)) ∧ Sound (backlog taking) ∧ Sound (backlog pendingRecord) ∧
    Sound (listing 5 1004 0 8 (backlog (deck .play))) ∧ Sound (listing 6 1010 0 7 (backlog taking)) ∧
    (backlog (scheduled 1004)).judgesQ := by
  unfold Sound State.storeSound State.collectionsSound State.holdersSound State.recordSound Coder.verifySound State.judgesQ
  and_intros <;> decide +kernel

theorem witness_CaptureCompletes :
    (∀ s ∈ [completing taking, completing (scheduled 1002), withPartner (completing (scheduled 1002)),
        backed [999, 1000, 1001] .normal (completing taking), backed [1001] .slow (completing taking)],
      s.sequencer.handoffs = [] ∧ s.input.pendingSelect = none ∧ s.output.source ≠ .input ∧ s.capturingSlot = some 0 ∧
      (s.slot 0).pairs ≠ [] ∧ (s.slot 0).pairs.length + 1 = (s.slot 0).pairCount ∧ (s.slot 0).frameTime = some 1002 ∧
      (0, some .once) ∈ s.copy.inputFields ∧ s.store.captureList = 0 :: []) ∧
    (completing taking).crossFrame 1002 = false ∧
    ((backed [999, 1000, 1001] .normal (completing taking)).transport.state = .record ∧
      (backed [999, 1000, 1001] .normal (completing taking)).depthW = 3 ∧ (backed [1001] .slow (completing taking)).depthW = 1) ∧
    ((completing (scheduled 1002)).crossFrame 1002 = true ∧ (completing (scheduled 1002)).oldSlot 1002 = none) ∧
    ((withPartner (completing (scheduled 1002))).crossFrame 1002 = true ∧
      (withPartner (completing (scheduled 1002))).oldSlot 1002 = some 1) := by
  and_intros <;> decide +kernel

/-- R147: the first pair of a punch-in is the old pair exactly, and pair 1 of 256 has gain 4. -/
theorem test_capture_mixes :
    (match exec (.inputPair 1024 0) (withPartner (completing (scheduled 1002))) with
      | .next t => (t.slot 0).state == .mixed && (t.slot 0).pairs == [⟨4, 5⟩, ⟨10, 7⟩] && t.slot 1 == Slot.freed &&
          (t.slot 0).copyField == some .none
      | _ => false) = true := by decide +kernel

theorem supplying_opens : Opens (supplying 100) ∧ Opens (played (supplying 100)) := by
  unfold Opens State.quiet State.gateAgrees State.readingAgrees State.storeSound State.collectionsSound State.holdersSound
    State.recordSound Coder.verifySound
  and_intros <;> decide +kernel

/-- Slot 0 is CAPTURED for the frame of the pulse that opens the gate, a crossfade frame without its OLD slot. -/
def caught : State :=
  let s := withSlot { Slot.freed with
    state := .captured, role := some .input, frameTime := some 1001, pairCount := 1920 } (scheduled 1001)
  { s with
    store := { s.store with captureList := [0], writeQueue := [0] }, copy := { s.copy with inputFields := [(0, none)] } }

/-- A take at a tape time. -/
def takingAt (time : Nat) : State := { taking with decoder := { taking.decoder with time := time } }

theorem spans_open :
    Opens (mixedFor [1001] .normal (endingWith 1002 0)) ∧ Opens (endingWith 1003 0) ∧ Opens (endingWith 1004 0) ∧
    Opens (mixedFor [1000] .slow (endingWith 1001 0)) ∧ Opens (holding (unstriped (endingWith 1004 0))) ∧
    Opens (mixedFor [1001] .normal (scheduled 1001)) ∧ Opens (scheduledUntil 1001 1002) ∧
    Opens (scheduledUntil 1001 1004) ∧ Opens caught ∧ Opens (takingAt 359996) ∧ Opens (takingAt 359997) ∧
    Opens (takingAt 359999) ∧ Opens (striped (scheduled 1001)) := by
  unfold Opens State.quiet State.gateAgrees State.readingAgrees State.storeSound State.collectionsSound State.holdersSound
    State.recordSound Coder.verifySound
  and_intros <;> decide +kernel

theorem trims_open :
    Opens (mixedFor [] .normal taking) ∧ Opens (mixedFor [999, 1000, 1001, 1002] .normal taking) ∧
    Opens (mixedFor [1000, 1001, 1002] .fast taking) ∧ Opens (mixedFor [999, 1000] .fast taking) ∧
    Opens (mixedFor [1001] .slow taking) ∧ Opens (mixedFor [1000, 1001] .slow taking) := by
  unfold Opens State.quiet State.gateAgrees State.readingAgrees State.storeSound State.collectionsSound State.holdersSound
    State.recordSound Coder.verifySound
  and_intros <;> decide +kernel

/-- The three pulses of WindowsAtPulse with a punch-out set: the last frame of a take and the two before it, the closing pulse, a
withdrawal, and the opening pulse with a slot MIXED, with one that waits and with none; and the end of the tape time. -/
theorem witness_WindowsAtPulse_spans :
    (Runs (mixedFor [1001] .normal (endingWith 1002 0)) ∧ Runs (endingWith 1003 0) ∧ Runs (endingWith 1004 0) ∧
      Runs (holding (unstriped (endingWith 1004 0))) ∧ Runs (takingAt 359996) ∧ Runs (takingAt 359997) ∧ Runs (takingAt 359999)) ∧
    ((endingWith 1004 0).lowestFree.isSome = true ∧ 1001 + 2 ≤ 1004 - 1 ∧ ¬ 1001 + 2 ≤ 1003 - 1 ∧ 359997 + 2 = 359999) ∧
    (let s := mixedFor [1000] .slow (endingWith 1001 0)
     s.transport.state = .record ∧ s.mixer.punchOut = some ⟨1001, 0, true, .link⟩ ∧ s.decoder.time + 1 = 1001 - 1 + 1 ∧
     s.store.writeQueue = [0]) ∧
    (let s := holding (unstriped (endingWith 1004 0))
     s.mixer.committed = false ∧ 1001 + 2 < 1004 ∧ s.decoder.current.isSome = true ∧
     s.decoder.current.bind GatherFrame.subcodeTime = none ∧ s.decoder.status = .holdover ∧
     s.decoder.holdover = s.activeBank.holdover) ∧
    (∀ s ∈ [mixedFor [1001] .normal (scheduled 1001), scheduledUntil 1001 1002, scheduledUntil 1001 1004, caught],
      s.transport.state = .play ∧ s.mixer.punchIn = some ⟨1001, 256, true, .link⟩ ∧ s.decoder.time + 1 = 1001 ∧
      s.decoder.current = none ∧ s.decoder.holdover < s.activeBank.holdover ∧ s.store.gatherList = []) ∧
    (caught.store.captureList.head? = some 0 ∧ (caught.slot 0).state = .captured ∧ caught.crossFrame 1001 = true ∧
      caught.store.outputQueue = []) := by
  unfold Runs; and_intros <;> decide +kernel

/-- R39: the trim demand at and after a window, W being 0, 4, 3, 2, 1 and 2 as it opens, with the slot of frame 1,001 among
those counted but for the first and the fourth. -/
theorem test_window_trim :
    ([([], Trim.normal), ([999, 1000, 1001, 1002], .normal), ([1000, 1001, 1002], .fast), ([999, 1000], .fast), ([1001], .slow),
        ([1000, 1001], .slow)].map fun (frames, trim) => trimAfter .framePulse (mixedFor frames trim taking)) =
      [some (.slow, .playSpeed .slow), some (.fast, .playSpeed .fast), some (.normal, .playSpeed .normal),
        some (.normal, .playSpeed .normal), some (.slow, .playSpeed .slow), some (.normal, .playSpeed .normal)] := by
  decide +kernel

/-- R26 and R149: no slot is opened past the last frame of the take; the last slot opened is that frame's; the closing pulse has no
window; the gate opens on its MIXED slot; a withdrawal lets the span run on. -/
theorem test_spans_at_pulse :
    ([endingWith 1003 0, endingWith 1004 0, mixedFor [1000] .slow (endingWith 1001 0),
        mixedFor [1001] .normal (scheduled 1001), holding (unstriped (endingWith 1004 0)), scheduledUntil 1001 1002].map
      fun s => match exec .framePulse s with
      | .next t => (t.store.captureList.map fun k => (t.slot k).frameTime, t.store.writeQueue, t.coder.current.map (·.time),
          t.transport.state)
      | _ => ([], [], none, .stop)) =
      [([], [], none, .record), ([some 1003], [], none, .record), ([], [], none, .play), ([some 1003], [], some 1001, .record),
        ([some 1003], [], none, .record), ([], [], none, .record)] := by
  decide +kernel

theorem witness_WindowsAtPulse :
    (∀ s ∈ [windowed, unfinished, withOld, supplying 100, striped windowed, striped unfinished, unstriped unfinished],
      s.transport.state = .record ∧ s.mixer.punchIn = some ⟨990, 0, true, .system⟩ ∧ s.mixer.punchOut = none) ∧
    (Opens windowed ∧ 0 ∈ windowed.store.writeQueue ∧ (windowed.slot 0).frameTime = some 1001 ∧
      (windowed.slot 0).state = .mixed ∧ windowed.lowestFree.isSome = true) ∧
    (Opens unfinished ∧ (∀ i ∈ unfinished.store.writeQueue, (unfinished.slot i).frameTime ≠ some 1001) ∧
      (unfinished.slot 0).state = .capturing ∧ (unfinished.slot 0).frameTime = some 1001) ∧
    (Opens withOld ∧ 0 ∈ withOld.store.outputQueue ∧ (withOld.slot 0).role = some .old ∧
      (withOld.slot 0).frameTime = some 1001 ∧ ∀ i < 16, (withOld.slot i).state ≠ .capturing ∧ (withOld.slot i).state ≠ .captured) ∧
    (Opens (supplying 100) ∧ (supplying 100).coder.current = some ⟨0, 998⟩ ∧ (supplying 100).coder.sequence < 152 ∧
      ((supplying 100).slot 0).monitor ≠ .finished) ∧
    (Opens (played (supplying 100)) ∧ ((played (supplying 100)).slot 0).monitor = .finished) ∧
    (Opens (striped windowed) ∧ (striped windowed).decoder.current.isSome = true ∧ 0 ∈ (striped windowed).store.writeQueue ∧
      ((striped windowed).slot 0).frameTime = some 1001 ∧ ((striped windowed).slot 0).state = .mixed) ∧
    (Opens (striped unfinished) ∧ (striped unfinished).store.gatherList = [4, 5] ∧ (striped unfinished).store.writeQueue = [] ∧
      ∀ k ∈ (striped unfinished).store.captureList.head?, ((striped unfinished).slot k).state = .capturing) ∧
    (Opens (unstriped unfinished) ∧ (unstriped unfinished).decoder.current.isSome = true ∧
      (unstriped unfinished).store.gatherList = []) := by
  refine ⟨?_, ⟨windowed_opens, ?_⟩, ⟨unfinished_opens, ?_⟩, ⟨withOld_opens, ?_⟩, ⟨supplying_opens.1, ?_⟩, ⟨supplying_opens.2, ?_⟩,
    ⟨gathering_opens.1, ?_⟩, ⟨gathering_opens.2.1, ?_⟩, gathering_opens.2.2, ?_⟩ <;> decide +kernel

/-- The mark record of a deck. -/
def marked (m : MarkRecord) (s : State) : State := { s with cues := { s.cues with mark := m } }

/-- R135 at the window of frame 1,001: the marking and the mark record after it, at the ends of the ten frames. -/
theorem test_window_marks :
    ([MarkRecord.none, .waiting 1001 7, .waiting 1002 7, .waiting 1000 7, .armed 1001 7, .armed 992 7, .armed 991 7, .armed 993 7].map
      fun m => match exec .framePulse (marked m windowed) with
        | .next t => (t.coder.subcode.program, t.coder.subcode.start, t.cues.mark)
        | _ => (0, false, .none)) =
      [(0, false, .none), (7, true, .armed 1001 7), (0, false, .waiting 1002 7), (0, false, .none), (7, true, .armed 1001 7),
        (7, true, .none), (0, false, .none), (7, true, .armed 993 7)] := by decide +kernel

/-- A deck in PLAY that gathers frame 1,003 in slot 0 from the blocks in hand, the frame after it having no block yet. -/
def reading (held : List HeldBlock) (s : State) : State :=
  let s := withSlot { Slot.freed with state := .gathering, role := some .play, frameTime := some 1003, pairCount := 1920 } s
  { s with
    store := { s.store with gatherList := [0] }
    decoder := { s.decoder with
      current := some ⟨1003 % 256, 1003, some 0, false, held⟩, next := some ⟨1004 % 256, 1004, none, false, []⟩ } }

/-- The block in hand is position 72 of track A with a record. -/
def stripe (r : Subcode) : List HeldBlock := [⟨.a, 72, subcodePayload r⟩]

/-- All sixteen slots wait on the output queue. -/
def queued (s : State) : State := { s with
  store := { s.store with
    slots := (List.range 16).map fun i => { Slot.freed with
      state := .concealed, role := some .play, frameTime := some (970 + i), pairCount := 1920 }
    outputQueue := List.range 16 }
  decoder := { s.decoder with current := some ⟨1003 % 256, 1003, none, false, []⟩, next := some ⟨1004 % 256, 1004, none, false, []⟩ } }

/-- The scheduled take of one frame alone, frame 1,003. -/
def single : State :=
  { scheduled 1003 with mixer := { (scheduled 1003).mixer with punchOut := some ⟨1004, 0, true, .link⟩ } }

/-- What a pulse in PLAY before a scheduled punch-in asks of a state. -/
def Awaits (s : State) : Prop :=
  s.quiet ∧ s.sequencer.state = .idle ∧ s.transport.state = .play ∧ s.gateAgrees ∧ s.readingAgrees ∧ s.storeSound ∧
  s.recordSound ∧ s.banks.pendingSwitch = none ∧ s.decoder.holdover < s.activeBank.holdover ∧ s.mixer.punchIn.isSome = true

theorem scheduled_awaits :
    Awaits (scheduled 1003) ∧ Awaits (scheduled 1004) ∧ Awaits single ∧ Awaits (queued (scheduled 1003)) ∧
    Awaits (reading (stripe (record 1003)) (scheduled 1003)) := by
  unfold Awaits State.quiet State.gateAgrees State.readingAgrees State.storeSound State.collectionsSound State.holdersSound
    State.recordSound Coder.verifySound
  and_intros <;> decide +kernel

/-- The second part of WindowsAtPulse: a slot opened for frame T + 2 of the take, none for one before it, and none to open. -/
theorem witness_WindowsAtPulse_play :
    (∀ s ∈ [scheduled 1003, scheduled 1004, single, queued (scheduled 1003), reading (stripe (record 1003)) (scheduled 1003)],
      s.decoder.leadIn = 0 ∧ min 359999 (s.decoder.time + 1) = 1001) ∧
    (Awaits (scheduled 1003) ∧ Awaits (scheduled 1004) ∧ Awaits single ∧ Awaits (queued (scheduled 1003)) ∧
      Awaits (reading (stripe (record 1003)) (scheduled 1003))) ∧
    (∀ s ∈ [scheduled 1003, scheduled 1004, single, queued (scheduled 1003)], s.decoder.current.bind GatherFrame.subcodeTime = none) ∧
    ((reading (stripe (record 1003)) (scheduled 1003)).decoder.current.bind GatherFrame.subcodeTime = some 1003) ∧
    ((scheduled 1003).mixer.punchIn = some ⟨1003, 256, true, .link⟩ ∧ (scheduled 1003).store.captureList = [] ∧
      (scheduled 1003).lowestFree.isSome = true) ∧
    (single.mixer.punchOut = some ⟨1004, 0, true, .link⟩ ∧ single.lowestFree.isSome = true) ∧
    ((queued (scheduled 1003)).lowestFree = none ∧ (queued (scheduled 1003)).store.gatherList = [] ∧
      (queued (scheduled 1003)).coder.current = none ∧ (queued (scheduled 1003)).store.captureList = []) ∧
    (scheduled 1004).mixer.punchIn = some ⟨1004, 256, true, .link⟩ := by
  refine ⟨?_, scheduled_awaits, ?_⟩ <;> decide +kernel

/-- The current frame of `reading` with the frame before it CORRECTED in slot 4, closed by the pulse before or not. -/
def following (last : Bool) (s : State) : State :=
  let s := reading (stripe (record 1003)) s
  { s with
    store := { s.store with
      gatherList := [4, 0]
      slots := s.store.slots.set 4 { Slot.freed with
        state := .corrected, role := some .play, frameTime := some 1002, pairCount := 1920 } }
    decoder := { s.decoder with closedLast := last } }

/-- A deck in PLAY before its punch-in with source TAPE, slot 4 CORRECTED and ready behind n PLAY slots on the output queue. -/
def joining (n : Nat) (trim : Trim) : State :=
  let s := following true (scheduled 1010)
  let q := queueing n 980 trim false
  { s with
    transport := q.transport, output := q.output
    store := { s.store with
      trim := trim, outputQueue := (List.range n).map (· + 8)
      slots := s.store.slots.mapIdx fun i v => if 8 ≤ i ∧ i < 8 + n then q.slot (i - 8) else v } }

theorem joining_awaits : Awaits (joining 4 .normal) ∧ Awaits (joining 0 .normal) ∧ Awaits (joining 2 .fast) := by
  unfold Awaits State.quiet State.gateAgrees State.readingAgrees State.storeSound State.collectionsSound State.holdersSound
    State.recordSound Coder.verifySound
  and_intros <;> decide +kernel

/-- R32 and R38: the frame that waits joins the queue at the pulse, and Q rises to 5, 1 and 3. -/
theorem witness_WindowsAtPulse_play_trim :
    ((joining 4 .normal).correctedSlots = [4] ∧ (joining 4 .normal).transport.state = .play ∧
      (joining 4 .normal).output.source = .tape ∧ (joining 4 .normal).output.priming = false) ∧
    ([joining 4 .normal, joining 0 .normal, joining 2 .fast].map fun s => (s.depthQ, trimAfter .framePulse s)) =
      [(4, some (.slow, .playSpeed .slow)), (0, some (.fast, .playSpeed .fast)), (2, some (.normal, .playSpeed .normal))] := by
  and_intros <;> decide +kernel

/-- R26: the slot for T + 2 is opened at the pulse two frames before the punch-in, and not at the one before. -/
theorem test_slot_before_punch :
    ([scheduled 1003, scheduled 1004].map fun s => match exec .framePulse s with
      | .next t => (t.store.captureList, (t.slot 0).frameTime, t.mixer.gateOpen)
      | _ => ([], none, true)) = [([0], some 1003, false), ([], none, false)] := by decide +kernel

/-- The next frame is gathered in slot 1 under another tag than the one that the pulse aims at. -/
def astray (status : TimeStatus) (s : State) : State := { s with
  store := { s.store with
    gatherList := [1]
    slots := s.store.slots.set 1 { Slot.freed with
      state := .gathering, role := some .play, frameTime := some 1010, pairCount := 1920 } }
  decoder := { s.decoder with
    status := status, current := some ⟨1009 % 256, 1009, none, false, []⟩, next := some ⟨1010 % 256, 1010, some 1, false, []⟩ } }

/-- The frame that the pulse aims at is the last of the tape time. -/
def lastAim : State := { deck .play with decoder := { (deck .play).decoder with time := 359996 } }

/-- A record of frame 1,003 with a START marker. -/
def started : Subcode := { record 1003 with program := 7, start := true }

/-- What FrameClosedAtPulse asks of a state. -/
def Closes (s : State) : Prop :=
  s.quiet ∧ s.sequencer.state = .idle ∧ (s.transport.state = .play ∨ s.transport.state = .record) ∧ s.gateAgrees ∧
  s.readingAgrees ∧ s.storeSound ∧ s.coder.verify.length ≤ 3

theorem reading_closes :
    Closes (reading [] (deck .play)) ∧ Closes (reading (stripe (record 1003)) (deck .play)) ∧
    Closes (reading (stripe (record 1001)) taking) ∧ Closes (reading (stripe { record 1003 with rate := .r32 }) (deck .play)) ∧
    Closes (reading (stripe started) (deck .play)) ∧ Closes (following true (deck .play)) ∧
    Closes (following false (deck .play)) ∧ Closes (astray .locked (deck .play)) ∧ Closes (astray .unknown (deck .play)) ∧
    Closes lastAim ∧ Closes (unstriped taking) ∧
    Closes (reading (stripe (record 1259)) (deck .play)) ∧ Closes (reading (stripe (record 1003)) (scheduled 1001)) := by
  unfold Closes State.quiet State.gateAgrees State.readingAgrees State.storeSound State.collectionsSound State.holdersSound
  and_intros <;> decide +kernel

theorem witness_FrameClosedAtPulse :
    (selectSubcode (1003 % 256) (stripe (record 1003)) = some (record 1003) ∧
      subcodeOf (1003 % 256) (subcodePayload (record 1003)) = some (record 1003) ∧ selectSubcode (1003 % 256) [] = none) ∧
    (Closes (reading [] (deck .play)) ∧ Closes (reading (stripe (record 1003)) (deck .play)) ∧
      Closes (reading (stripe (record 1001)) taking) ∧ Closes (reading (stripe { record 1003 with rate := .r32 }) (deck .play)) ∧
      Closes (reading (stripe started) (deck .play)) ∧ Closes (following true (deck .play)) ∧
      Closes (following false (deck .play)) ∧ Closes (astray .locked (deck .play)) ∧ Closes (astray .unknown (deck .play)) ∧
      Closes lastAim ∧ Closes (unstriped taking) ∧
    Closes (reading (stripe (record 1259)) (deck .play)) ∧ Closes (reading (stripe (record 1003)) (scheduled 1001))) ∧
    (selectSubcode (1003 % 256) (stripe (record 1001)) = none ∧ selectSubcode (1003 % 256) (stripe started) = some started ∧
      selectSubcode (1003 % 256) (stripe { record 1003 with rate := .r32 }) = some { record 1003 with rate := .r32 } ∧
      (deck .play).activeBank.rate = .r48 ∧ (deck .play).decoder.mismatch = none ∧
      (deck .play).decoder.startRun ≠ some started.program) ∧
    ((unstriped taking).decoder.current.bind (·.slot) = none) ∧
    (∀ last ∈ [true, false], (following last (deck .play)).correctedSlots = [4] ∧
      (following last (deck .play)).decoder.closedLast = last ∧
      ((following last (deck .play)).slot 4).hasSuccessor = false) ∧
    (∀ status ∈ [TimeStatus.locked, .unknown],
      (astray status (deck .play)).decoder.next = some ⟨1010 % 256, 1010, some 1, false, []⟩ ∧ 1010 % 256 ≠ 1004 % 256) ∧
    (min 359999 (359996 + 1 + 3) = 359999 ∧ lastAim.decoder.next = none) ∧
    (selectSubcode (1003 % 256) (stripe (record 1259)) = some (record 1259) ∧
      ((reading (stripe (record 1259)) (deck .play)).slot 0).frameTime = some 1003 ∧
      ((reading (stripe (record 1003)) (scheduled 1001)).slot 0).mixed = false) := by
  refine ⟨?_, reading_closes, ?_⟩ <;> decide +kernel

/-- R23, R31: the role of a slot closed at another time, closed as the gate opens on its frame, and closed with nothing changed. -/
theorem test_closed_role :
    ([reading (stripe (record 1259)) (deck .play), reading (stripe (record 1003)) (scheduled 1001),
        reading (stripe (record 1003)) (deck .play)].map fun s => match exec .framePulse s with
      | .next t => ((t.slot 0).role, (t.slot 0).frameTime, t.mixer.gateOpen)
      | _ => (none, none, false)) =
      [(some .play, some 1259, false), (some .old, some 1003, true), (some .play, some 1003, false)] := by decide +kernel

/-- R31, R67 to R70: the frame closed with one good block in hand, and with one at another rate. -/
theorem test_frame_closed :
    ([record 1003, { record 1003 with rate := .r32 }].map fun r => match exec .framePulse (reading (stripe r) (deck .play)) with
      | .next t => (t.slot 0).state == .corrected && (t.slot 0).frameTime == some 1003 && (t.slot 0).pairCount == r.rate.pairs &&
          (t.slot 0).tally == ⟨1, 0, 151⟩ && t.copy.heldTape == some .once &&
          t.decoder.mismatch == (if r.rate = .r48 then none else some .r32) && t.decoder.current.map (·.time) == some 1004
      | _ => false) = [true, true] := by decide +kernel

/-- R64, R29: a pulse of a take over a striped tape closes the frame being gathered and takes the window in one. -/
theorem test_window_while_gathering :
    (match exec .framePulse (striped windowed) with
      | .next t => (t.slot 0).state == .writing && (t.slot 5).state == .corrected && t.decoder.time == 1001
      | _ => false) = true := by decide +kernel

/-- A good main block of frame 998, position 3 of track A. -/
def readBlock : TapeBlock := makeBlock .a 3 (998 % 256) zeroPayload

theorem readBlock_good : readBlock.good = true := by
  simp [readBlock, makeBlock, TapeBlock.good, TapeBlock.covered, byteOf, Track.code]

theorem readBlock_read : blockOfBytes readBlock.bytes = some readBlock := blockOfBytes_bytes (by decide)

theorem supplied_sound : (played (supplying 151)).storeSound := by
  unfold State.storeSound State.collectionsSound State.holdersSound
  and_intros <;> decide +kernel

/-- The verify threshold of the bank that `State.reset` has active (R173). -/
def V : Nat := State.reset.activeBank.verifyThreshold

theorem supplying_closes :
    Closes (supplying V) ∧ (supplying V).coder.verifySound ∧ Closes (supplying (V + 1)) ∧
    (supplying (V + 1)).coder.verifySound ∧ Closes (deck .play) := by
  unfold Closes State.quiet State.gateAgrees State.readingAgrees State.storeSound State.collectionsSound State.holdersSound
    Coder.verifySound
  and_intros <;> decide +kernel

theorem witness_BlocksSuppliedAndChecked :
    readBlock.good = true ∧ blockOfBytes readBlock.bytes = some readBlock ∧ blockOfBytes [] = none ∧
    ((deck .stop).coder.current = none ∧ ∀ e ∈ (deck .stop).coder.verify, e.frameTime + 2 ≠ (deck .stop).decoder.time) ∧
    ((supplying 150).coder.current = some ⟨0, 998⟩ ∧ (supplying 150).coder.sequence < 151 ∧
      (supplying 150).coder.verify = [] ++ ⟨998, 150, 0, []⟩ :: []) ∧
    ((supplying 151).coder.sequence = 151 ∧ 0 < (supplying 151).store.slots.length ∧ ((supplying 151).slot 0).monitor ≠ .finished) ∧
    ((played (supplying 151)).storeSound ∧ ((played (supplying 151)).slot 0).monitor = .finished) ∧
    (152 ≤ (supplying 152).coder.sequence) ∧
    ((supplying 4).coder.verify = [] ++ ⟨998, 4, 0, []⟩ :: [] ∧ 998 + 2 = (supplying 4).decoder.time ∧
      readBlock.tag.toNat = 998 % 256 ∧ readBlock.position.toNat < 4 ∧ readBlock.track = 0#8) ∧
    ((supplying 3).coder.verify = [] ++ ⟨998, 3, 0, []⟩ :: [] ∧ 3 ≤ readBlock.position.toNat) ∧
    (Closes (supplying V) ∧ (supplying V).coder.verifySound ∧ Closes (supplying (V + 1)) ∧
      (supplying (V + 1)).coder.verifySound ∧ Closes (deck .play)) ∧
    (∀ n ∈ [V, V + 1], (supplying n).coder.verify = [⟨998, n, 0, []⟩] ∧ 998 + 2 = (supplying n).decoder.time ∧
      (supplying n).activeBank.verifyThreshold = V) ∧ (deck .play).coder.verify = [] := by
  refine ⟨readBlock_good, readBlock_read, ?_, ?_, ?_, ?_, ⟨supplied_sound, ?_⟩, ?_, ?_, ?_, supplying_closes, ?_, rfl⟩ <;>
    decide +kernel

/-- R60: one failure more than V is a condition, a flag and a log entry; V failures are counted alone. -/
theorem test_verify_closes :
    ([V, V + 1].map fun n => match exec .framePulse (supplying n) with
      | .next t => (t.reports.link.counters.verifyFails, t.sequencer.conditions.getLsbD 0,
          (t.reports.log.filter fun e => e.kind == .verify).map fun e => (e.time, e.argument))
      | _ => (0, false, [])) = [(V, false, []), (V + 1, true, [(some 998, V + 1)])] := by decide +kernel

/-- A block at a position that no block has. -/
def spoilt : TapeBlock := makeBlock .a 76 (998 % 256) zeroPayload

theorem spoilt_bad : spoilt.good = false := by
  simp [spoilt, makeBlock, TapeBlock.good, TapeBlock.covered, byteOf, Track.code]

/-- A deck in PLAY whose sixteen slots all wait on the output queue, the current frame without a slot. -/
def crowded (g : GatherFrame) (next : Option GatherFrame) : State :=
  let s := gathering .play (some g)
  { s with
    store := { s.store with
      slots := (List.range 16).map fun i => { Slot.freed with
        state := .concealed, role := some .play, frameTime := some (970 + i), pairCount := 1920 }
      outputQueue := List.range 16 }
    decoder := { s.decoder with next := next } }

theorem crowded_sound :
    (crowded ⟨998 % 256, 998, none, false, []⟩ none).storeSound ∧
    (crowded ⟨997 % 256, 997, none, false, []⟩ (some ⟨998 % 256, 998, none, false, []⟩)).storeSound := by
  unfold State.storeSound State.collectionsSound State.holdersSound
  and_intros <;> decide +kernel

/-- Of the sixteen slots that wait on the output queue the first n are of role PLAY, with source TAPE and a trim demand. -/
def crowdedBy (n : Nat) (trim : Trim) : State :=
  let s := trimmed trim (monitoring (crowded ⟨998 % 256, 998, none, false, []⟩ none) .tape)
  { s with store := { s.store with
      slots := s.store.slots.mapIdx fun i v => if i < n then v else { v with role := some .old } } }

/-- R35 and R38: the slot dropped leaves Q at 15, 3 and 1, or, one of role OLD, at 0 as it was. -/
theorem witness_AdvanceBlockIsPlaced_trim :
    ((crowdedBy 16 .normal).storeSound ∧ (crowdedBy 4 .slow).storeSound ∧ (crowdedBy 2 .normal).storeSound ∧
      (crowdedBy 0 .normal).storeSound) ∧
    (∀ s ∈ [crowdedBy 16 .normal, crowdedBy 4 .slow, crowdedBy 2 .normal, crowdedBy 0 .normal], s.lowestFree = none ∧
      s.store.outputQueue = 0 :: (List.range 16).tail ∧ s.transport.state = .play ∧ s.output.source = .tape ∧
      s.output.priming = false ∧ s.decoder.current = some ⟨998 % 256, 998, none, false, []⟩) ∧
    ([(16, Trim.normal), (4, .slow), (2, .normal), (0, .normal)].map fun (n, trim) =>
      let t := (findGatherSlot (crowdedBy n trim)).1
      (t.depthQ, t.store.trim, t.transport.demand)) =
      [(15, .slow, .playSpeed .slow), (3, .normal, .playSpeed .normal), (1, .fast, .playSpeed .fast),
        (0, .normal, .playSpeed .normal)] := by
  unfold State.storeSound State.collectionsSound State.holdersSound
  and_intros <;> decide +kernel

theorem witness_AdvanceBlockIsPlaced :
    readBlock.good = true ∧ blockOfBytes readBlock.bytes = some readBlock ∧ spoilt.good = false ∧
    blockOfBytes spoilt.bytes = some spoilt ∧ blockOfBytes [] = none ∧ (deck .play).decoder.current = none ∧
    ((gathering .play (some ⟨998 % 256, 998, some 0, false, []⟩)).decoder.current = some ⟨998 % 256, 998, some 0, false, []⟩ ∧
      (deck .play).decoder.readMode = .full ∧ (deck .play).decoder.gathering = true ∧
      (deck .play).decoder.status = .locked ∧ readBlock.tag.toNat = 998 % 256) ∧
    (deck .wind).decoder.readMode ≠ .full ∧ readBlock.tag.toNat ≠ 1003 % 256 ∧
    ((gathering .play (some ⟨997 % 256, 997, none, false, []⟩)).decoder.next = none ∧ readBlock.tag.toNat ≠ 997 % 256 ∧
      readBlock.tag.toNat = (997 % 256 + 1) % 256) ∧
    ((gathering .play (some ⟨998 % 256, 998, none, false, []⟩)).lowestFree = some 0) ∧
    (readBlock.trackOf = .a ∧ readBlock.position.toNat = 3 ∧
      ∃ h ∈ [(⟨.a, 3, []⟩ : HeldBlock)], h.track = readBlock.trackOf ∧ h.position = readBlock.position.toNat) ∧
    (let s := gathering .play (some ⟨1003 % 256, 1003, none, false, []⟩)
     let u : State := { s with decoder := { s.decoder with status := .unknown } }
     u.decoder.status ≠ .locked ∧ readBlock.tag.toNat ≠ (1003 % 256 + 1) % 256 ∧ u.decoder.next = none ∧ u.lowestFree = some 0) ∧
    ((crowded ⟨998 % 256, 998, none, false, []⟩ none).lowestFree = none ∧
      (crowded ⟨998 % 256, 998, none, false, []⟩ none).store.outputQueue = 0 :: (List.range 16).tail) ∧
    (let s := crowded ⟨998 % 256, 998, none, false, []⟩ none
     let u : State := { s with store := { s.store with outputQueue := [] } }
     u.lowestFree = none ∧ u.store.outputQueue = []) ∧
    ((crowded ⟨997 % 256, 997, none, false, []⟩ (some ⟨998 % 256, 998, none, false, []⟩)).decoder.next =
      some ⟨998 % 256, 998, none, false, []⟩) := by
  refine ⟨readBlock_good, readBlock_read, spoilt_bad, blockOfBytes_bytes (by decide), ?_⟩; and_intros <;> decide +kernel

def locating (aim reversals : Nat) (d : Direction) : State :=
  let s := deck .locate
  { s with transport := { s.transport with
      locate := { LocateRecord.none with
        aim := aim, reversals := reversals, direction := d, phase := .slow, elapsedRunning := true, noTimeRunning := true } } }

def subcodeBlockOf (time : Nat) : TapeBlock := makeBlock .a 72 (time % 256) (subcodePayload (record time))

theorem subcodeBlockOf_reads : (subcodeBlockOf 1250).subcode = some (record 1250) := by
  have h : (subcodeBlockOf 1250).good = true := by
    simp [subcodeBlockOf, makeBlock, TapeBlock.good, TapeBlock.covered, byteOf, Track.code]
  have p : 72 ≤ (subcodeBlockOf 1250).position.toNat := by decide +kernel
  have r : subcodeOf (subcodeBlockOf 1250).tag.toNat (subcodeBlockOf 1250).payload = some (record 1250) := by decide +kernel
  simp [TapeBlock.subcode, h, p, r]

theorem subcodeBlockOf_read : (blockOfBytes (subcodeBlockOf 1250).bytes).bind (·.subcode) = some (record 1250) := by
  have h : (subcodeBlockOf 1250).payload.length = 96 := by
    rw [subcodeBlockOf, makeBlock]; decide +kernel
  rw [blockOfBytes_bytes h, Option.bind_some, subcodeBlockOf_reads]

/-- A record with START set, as the first ten frames of a program have. -/
def startRecord : Subcode := { record 1250 with program := 7, start := true }

def startBlock : TapeBlock := makeBlock .a 72 (1250 % 256) (subcodePayload startRecord)

theorem startBlock_read : (blockOfBytes startBlock.bytes).bind (·.subcode) = some startRecord := by
  have g : startBlock.good = true := by
    simp [startBlock, makeBlock, TapeBlock.good, TapeBlock.covered, byteOf, Track.code]
  have p : 72 ≤ startBlock.position.toNat := by decide +kernel
  have r : subcodeOf startBlock.tag.toNat startBlock.payload = some startRecord := by decide +kernel
  have h : startBlock.payload.length = 96 := by rw [startBlock, makeBlock]; decide +kernel
  rw [blockOfBytes_bytes h, Option.bind_some]
  simp [TapeBlock.subcode, g, p, r]

theorem spoilt_unread : (blockOfBytes spoilt.bytes).bind (·.subcode) = none := by
  rw [blockOfBytes_bytes (show spoilt.payload.length = 96 by decide), Option.bind_some]
  simp [TapeBlock.subcode, spoilt_bad]

/-- A locate whose elapsed timer has run out: STOP, with a read perhaps still on its way. -/
def timedOut : State := match exec .locateTimeout (locating 1000 0 .forward) with
  | .next t => t
  | _ => State.reset

theorem runs_late {bytes : List Byte} {b : TapeBlock} {r : Subcode} {s : State} (h : blockOfBytes bytes = some b)
    (hr : b.subcode = some r) (o : s.decoder.readMode = .off) (l : s.decoder.lateReads = true) :
    exec (.subcodeBlock bytes) s = .next (readLate r.time s) := by
  simp [exec, execSubcodeBlock, onBlock, h, State.subcodeRead, State.lateRead, o, l, hr]

theorem subcodeBlockOf_block : blockOfBytes (subcodeBlockOf 1250).bytes = some (subcodeBlockOf 1250) := by
  refine blockOfBytes_bytes ?_
  rw [subcodeBlockOf, makeBlock]; decide +kernel

/-- R124: the expiry is taken first, and the read that comes after it sets T alone. -/
theorem test_late_read : exec (.subcodeBlock (subcodeBlockOf 1250).bytes) timedOut = .next (readLate (record 1250).time timedOut) :=
  runs_late subcodeBlockOf_block subcodeBlockOf_reads (by decide +kernel) (by decide +kernel)

theorem test_late_read_alone : readLate 1250 timedOut = { timedOut with decoder := { timedOut.decoder with
    time := 1250, leadIn := 0, status := .locked, holdover := 0 } } := by decide +kernel

/-- R63, R79: once the tape winds again no read counts as a late one. -/
theorem test_late_reads_end :
    (match exec (.wind .system) (asked [2#16, 0#16] timedOut) with
      | .next t => t.transport.state == .wind && !t.decoder.lateReads
      | _ => false) = true := by decide +kernel

theorem witness_SubcodeBlockIsRead :
    (blockOfBytes (subcodeBlockOf 1250).bytes).bind (·.subcode) = some (record 1250) ∧
    (blockOfBytes startBlock.bytes).bind (·.subcode) = some startRecord ∧
    (blockOfBytes spoilt.bytes).bind (·.subcode) = none ∧ (blockOfBytes []).bind (·.subcode) = none ∧ (record 1250).start = false ∧
    ((deck .starting).quiet ∧ (deck .starting).sequencer.state = .idle ∧ (deck .starting).decoder.readMode = .subcode ∧
      (deck .wind).decoder.readMode = .subcode ∧ (deck .play).decoder.readMode ≠ .subcode) ∧
    (timedOut.quiet ∧ timedOut.sequencer.state = .idle ∧ timedOut.decoder.readMode = .off ∧ timedOut.decoder.lateReads = true) ∧
    ((deck .stop).decoder.readMode = .off ∧ (deck .stop).decoder.lateReads = false ∧ (deck .play).decoder.readMode = .full) ∧
    ((locating 1000 7 .forward).quiet ∧ (locating 1000 7 .forward).transport.state = .locate ∧
      (record 1250).time ≠ (locating 1000 7 .forward).transport.locate.aim ∧
      (locating 1000 7 .forward).transport.locate.reversals < 8) ∧
    (Direction.reverse = (locating 1000 8 .reverse).transport.locate.direction) ∧
    ((record 1250).time = (locating 1250 0 .forward).transport.locate.aim ∧
      (locating 1250 0 .forward).transport.locate.origin ≠ .list) := by
  refine ⟨subcodeBlockOf_read, startBlock_read, spoilt_unread, ?_⟩
  unfold State.quiet; and_intros <;> decide +kernel

/-! ### Witnesses: the servo, the timers and the output -/

def releasing : State := { deck .fault with transport := { (deck .fault).transport with faultRelease := true } }
def awaiting : State := { deck .cued with transport := { (deck .cued).transport with holdAwaited := true } }

/-- A deck in STARTING whose pending punch-in would fall beyond the last tape time. -/
def tooLate : State := { pendingRecord with decoder := { pendingRecord.decoder with time := 359996 } }

/-- The ends of a pending punch-in: a switch to another format, a length past the last tape time, a refused copy, or none. -/
def pendingEnds : Prop :=
  let locks (s : State) : Prop := s.banks.pendingSwitch.isSome = true ∧ s.banks.stagedBank.rate ≠ s.activeBank.rate
  let last (s : State) : Nat := if s.activeBank.crossfade = 0 then s.decoder.time + 4
    else s.decoder.time + 4 + (s.activeBank.crossfade - 1) / s.activeBank.rate.pairs
  locks (switching (staged32 pendingRecord)) ∧ (¬ locks tooLate ∧ 359999 < last tooLate) ∧
  (¬ locks (refusing pendingRecord) ∧ last (refusing pendingRecord) ≤ 359999 ∧ (refusing pendingRecord).copy.current = .refuse) ∧
  ∀ s ∈ [pendingRecord, switching pendingRecord], ¬ locks s ∧ last s ≤ 359999 ∧ s.copy.current ≠ .refuse

theorem witness_ServoMotionReports :
    ((deck .play).quiet ∧ (deck .play).transport.state ≠ .fault ∧ (deck .play).transport.state ≠ .cued) ∧
    (releasing.quiet ∧ releasing.transport.state = .fault ∧ releasing.transport.faultRelease = true) ∧
    (awaiting.quiet ∧ awaiting.transport.state = .cued ∧ awaiting.transport.holdAwaited = true) ∧
    ((deck .starting).quiet ∧ (deck .starting).sequencer.state = .idle ∧ (deck .starting).transport.state = .starting ∧
      (deck .starting).transport.recordPending = false) ∧
    (∀ s ∈ [pendingRecord, switching pendingRecord, switching (staged32 pendingRecord), tooLate, refusing pendingRecord],
      s.quiet ∧ s.sequencer.state = .idle ∧ s.transport.state = .starting ∧ s.transport.recordPending = true ∧
      s.mixer.gateOpen = false ∧ s.mixer.punchIn = none) ∧ pendingEnds := by
  unfold State.quiet pendingEnds; and_intros <;> decide +kernel

/-- R140 and R106: a punch-in refused at AT-SPEED is logged under INTERNAL, and the deck plays. -/
theorem test_refused_at_speed :
    ([switching (staged32 pendingRecord), tooLate, refusing pendingRecord].map fun s => match exec .atSpeed s with
      | .next t => (t.transport.state.code, t.reports.log.map fun e => (e.kind, e.origin, e.argument))
      | _ => (0, [])) =
      [(3, [(.punchCancelled, .internal, 4)]), (3, [(.punchCancelled, .internal, 14)]), (3, [(.copyRefused, .internal, 0)])] := by
  decide +kernel

theorem witness_TapeAndFaultReports :
    (∀ s ∈ [deck .empty, deck .stop, deck .starting, deck .cued, deck .wind, deck .fault, deck .locate, deck .play,
        scheduled 1010, taking], s.quiet ∧ s.sequencer.state = .idle ∧ s.gateAgrees ∧ s.sized) ∧
    (deck .locate).transport.state = .locate ∧ taking.transport.state = .record ∧
    (Instr.tapeEndFwd, 0) ∈ [(Instr.tapeEndFwd, 0), (Instr.tapeEndRev, 1)] ∧
    (∀ st ∈ [TransportState.stop, .starting, .locate, .play, .wind], let s := listing 2 0 5 0 (deck st)
      s.quiet ∧ s.sequencer.state ≠ .idle ∧ s.gateAgrees ∧ s.sized ∧ (s.entry s.sequencer.current).kind = 2) := by
  unfold State.quiet State.gateAgrees State.sized; and_intros <;> decide +kernel

theorem witness_LocateFailures :
    (blockOfBytes (subcodeBlockOf 1250).bytes).bind (·.subcode) = some (record 1250) ∧
    ((locating 1000 8 .forward).quiet ∧ (locating 1000 8 .forward).sequencer.state = .idle ∧
      (locating 1000 8 .forward).transport.state = .locate ∧ (locating 1000 8 .forward).transport.locate.origin ≠ .list ∧
      (locating 1000 8 .forward).transport.locate.elapsedRunning = true ∧
      (locating 1000 8 .forward).transport.locate.noTimeRunning = true ∧
      (locating 1000 8 .forward).transport.locate.reversals = 8 ∧
      (locating 1000 8 .forward).decoder.readMode = .subcode ∧ (record 1250).time ≠ 1000 ∧ (record 1250).time > 1000) ∧
    (deck .stop).transport.state ≠ .locate := by
  refine ⟨subcodeBlockOf_read, ?_⟩
  unfold State.quiet; and_intros <;> decide +kernel

theorem witness_TimeLostAndWaitExpiry :
    ((deck .stop).quiet ∧ State.reset.decoder.status = .unknown) ∧
    ((holding (deck .play)).quiet ∧ (holding (deck .play)).sequencer.state = .idle ∧
      (holding (deck .play)).decoder.status = .holdover ∧
      (holding (deck .play)).decoder.holdover = (holding (deck .play)).activeBank.holdover ∧
      (holding (deck .play)).mixer.punchIn = none ∧ (holding (deck .play)).mixer.punchOut = none) ∧
    ((holding (scheduled 1010)).mixer.punchIn = some ⟨1010, 256, true, .link⟩ ∧ (holding (scheduled 1010)).mixer.taken = false) ∧
    (let s := listed .halting 5 { ListEntry.blank with kind := 2, count := 3 } (deck .stop)
     let t : State := { s with sequencer := { s.sequencer with waitRemainder := 1 } }
     t.quiet ∧ t.sequencer.state = .halting ∧ (t.entry t.sequencer.current).kind = 2 ∧ t.sequencer.waitRemainder = 1) := by
  unfold State.quiet; and_intros <;> decide +kernel

/-- A list whose entry 63 waits, with frames left. -/
def waitingFor (kind time left : Nat) (s : State) : State :=
  let t := listed .waiting 63 { ListEntry.blank with kind := kind, time := time, count := 3 } s
  { t with sequencer := { t.sequencer with waitRemainder := left } }

/-- The entries of TimeLostAndWaitExpiry that wait, in a list that goes on and in one that halts. -/
theorem witness_TimeLostAndWaitExpiry_waits :
    (∀ s ∈ [waitingFor 2 0 1 (deck .play), waitingFor 2 0 2 (deck .play), waitingFor 2 0 1 (deck .stop),
        waitingFor 1 1001 0 (deck .play), waitingFor 1 1002 0 (deck .play), waitingFor 1 360000 0 (deck .play),
        waitingFor 1 1250 0 (deck .wind), waitingFor 1 1251 0 (deck .wind), waitingFor 1 1002 0 (losing (deck .play)),
        waitingFor 1 1002 0 (holding (deck .play)), listing 2 0 3 0 taking],
      s.quiet ∧ s.sequencer.state ≠ .idle ∧ s.gateAgrees ∧ s.readingAgrees ∧ 0 < (s.entry s.sequencer.current).kind) ∧
    ((pulseWork (waitingFor 1 1001 0 (deck .play))).decoder.time = 1001 ∧
      (pulseWork (waitingFor 1 1002 0 (deck .play))).decoder.time < 1002 ∧
      (pulseWork (waitingFor 1 1002 0 (losing (deck .play)))).decoder.status = .lost) ∧
    (blockOfBytes (subcodeBlockOf 1250).bytes).bind (·.subcode) = some (record 1250) := by
  refine ⟨?_, ?_, subcodeBlockOf_read⟩
  · unfold State.quiet State.gateAgrees State.readingAgrees; decide +kernel
  · and_intros <;> decide +kernel

/-- R164: the last frame of a WAIT-FRAMES passes on to a WAIT-TIME of the same pulse, which waits. -/
theorem test_wait_passes_on :
    (match exec .framePulse (let s := waitingFor 2 0 1 (deck .play)
      { s with sequencer := { s.sequencer with
          current := 62, entries := (s.sequencer.entries.set 62 { ListEntry.blank with kind := 2, count := 3 }).set 63
            { ListEntry.blank with kind := 1, time := 1002 } } }) with
      | .next t => (t.sequencer.state, t.sequencer.current, (t.entry 62).outcome, (t.entry 62).completion, (t.entry 63).outcome)
      | _ => (.idle, 0, .notRun, none, .notRun)) = (.waiting, 63, .done, some 1001, .notRun) := by decide +kernel

/-- The locate in progress is the list's. -/
def byList (s : State) : State :=
  { s with transport := { s.transport with locate := { s.transport.locate with origin := .list } } }

/-- A take of the list: its punch-in scheduled at t, or its punch-out set at u. -/
def listTake (t : Nat) : State := { deck .play with mixer := { State.reset.mixer with punchIn := some ⟨t, 256, true, .list⟩ } }
def listEnding (u : Nat) : State := { taking with mixer := { taking.mixer with punchOut := some ⟨u, 0, true, .list⟩ } }

theorem witness_EntryEndsByHandOff :
    (∀ s ∈ [listing 3 0 0 0 (byList (locating 1250 0 .forward)), listing 3 0 0 0 (byList (locating 1000 8 .forward)),
        listing 4 0 0 0 (deck .starting), listing 4 0 0 0 pendingRecord, listing 5 0 0 0 (listTake 1001),
        listing 5 0 0 0 (holding (listTake 1010)), listing 6 0 0 0 (listTake 1010), listing 6 0 0 0 (listEnding 1001),
        listing 6 0 0 0 (holding (listEnding 1003)), listed .halting 63 { ListEntry.blank with kind := 5 } (listTake 1001)],
      s.quiet ∧ s.sequencer.state ≠ .idle ∧ s.gateAgrees ∧ s.readingAgrees ∧ s.sized ∧ s.banks.pendingSwitch = none ∧
      s.decoder.holdover ≤ s.activeBank.holdover ∧ s.decoder.current = none) ∧
    (∀ s ∈ [switching pendingRecord, switching (staged32 pendingRecord), tooLate, refusing pendingRecord],
      (listing 4 0 0 0 s).quiet ∧ (listing 4 0 0 0 s).gateAgrees ∧ (listing 4 0 0 0 s).readingAgrees ∧
      (listing 4 0 0 0 s).sized ∧ (listing 4 0 0 0 s).transport.state = .starting ∧
      (listing 4 0 0 0 s).transport.recordPending = true ∧ (listing 4 0 0 0 s).mixer.punchIn = none) ∧
    (let s := byList (locating 1000 8 .forward)
     s.transport.locate.origin = .list ∧ s.transport.locate.elapsedRunning = true ∧ s.transport.locate.noTimeRunning = true ∧
     s.transport.locate.reversals = 8 ∧ (record 1250).time > s.transport.locate.aim ∧ (record 1250).start = false) ∧
    (record 1250).time = (byList (locating 1250 0 .forward)).transport.locate.aim ∧
    (blockOfBytes (subcodeBlockOf 1250).bytes).bind (·.subcode) = some (record 1250) ∧
    ((listTake 1001).mixer.punchIn = some ⟨1001, 256, true, .list⟩ ∧ min 359999 ((listTake 1001).decoder.time + 1) = 1001) ∧
    (let s := { listTake 1010 with decoder := { (listTake 1010).decoder with current := some (gathered 1) } }
     s.decoder.current.bind GatherFrame.subcodeTime = some 1 ∧ s.banks.pendingSwitch = none) ∧
    (let s := digital (listTake 1010)
     s.input.selected = .digital ∧ s.input.lost = none ∧ s.copy.current ≠ .refuse ∧ (0x0D#8).getLsbD 0 = true ∧
     (0x0D#8).getLsbD 1 = false ∧ Rate.ofCode ((0x0D#8).toNat / 4 % 4) = some s.activeBank.rate) ∧
    ((listEnding 1001).mixer.punchOut = some ⟨1001, 0, true, .list⟩ ∧
      min 359999 ((listEnding 1001).decoder.time + 1) =
        Punch.lastOut ⟨1001, 0, true, .list⟩ (listEnding 1001).framePairs + 1) ∧
    ((holding (listEnding 1003)).mixer.committed = false ∧ (holding (listEnding 1003)).decoder.time + 2 < 1003) := by
  refine ⟨?_, ?_, ?_, ?_, subcodeBlockOf_read, ?_⟩
  · unfold State.quiet State.gateAgrees State.readingAgrees State.sized; decide +kernel
  · unfold State.quiet State.gateAgrees State.readingAgrees State.sized; decide +kernel
  all_goals and_intros <;> decide +kernel

/-- R167: the entry whose gate opens is DONE with the punch-in frame, and the list ends after entry 63. -/
theorem test_punch_entry_done :
    (match exec .framePulse (listing 5 0 0 0 (listTake 1001)) with
      | .next t => (t.sequencer.state, (t.entry 63).outcome, (t.entry 63).completion, t.sequencer.lastEnd)
      | _ => (.idle, .notRun, none, .none)) = (.idle, .done, some 1001, .endReached) := by decide +kernel

/-- A deck whose record gate was closed at once on the slot being output. -/
def cutOff : State := { deck .stop with output := { (deck .stop).output with source := .record, cut := true } }

/-- A deck in PLAY with source TAPE and slot 0 CORRECTED on the gather list. -/
def correcting : State :=
  withSlot { Slot.freed with
      state := .corrected, role := some .play, frameTime := some 1003, pairCount := 2, pairs := [⟨8, 8⟩, ⟨9, 9⟩]
      good := [true, false], closeLmax := 8, closeRamp := 128 }
    (monitoring { deck .play with store := { (deck .play).store with gatherList := [0] } } .tape)

theorem witness_OutputBoundary :
    (cutOff.quiet ∧ cutOff.sequencer.state = .idle ∧ cutOff.output.frame = [] ∧ cutOff.output.playing = none ∧
      cutOff.output.cut = true) ∧ (deck .stop).output.cut = false ∧ (deck .play).output.cut = false ∧
    ((deck .stop).quiet ∧ (deck .stop).sequencer.state = .idle ∧ (deck .stop).output.frame = [] ∧
      (deck .stop).output.playing = none ∧ (deck .stop).unplayed = [] ∧ (deck .stop).transport.state.monitor = .input ∧
      (deck .stop).output.source = .input ∧ (deck .stop).input.selected = .analog) ∧
    ((digital (deck .stop)).unplayed = [] ∧ (digital (deck .stop)).input.selected = .digital) ∧
    ((monitoring (deck .play) .tape).unplayed = [] ∧ (monitoring (deck .play) .tape).output.priming = false ∧
      (monitoring (deck .play) .tape).store.outputQueue = [] ∧ (monitoring (deck .play) .tape).store.gatherList = []) ∧
    (correcting.quiet ∧ correcting.unplayed = [] ∧ correcting.output.priming = false ∧ correcting.store.outputQueue = [] ∧
      correcting.store.gatherList = [0] ∧ (correcting.slot 0).state = .corrected ∧ (correcting.slot 0).role = some .play) := by
  unfold State.quiet; and_intros <;> decide +kernel

/-- Slot 1, fully supplied, waits for the monitor behind slot 0, which is in supply. -/
def behind : State :=
  let s := supplying 100
  { s with store := { s.store with slots := s.store.slots.set 1 { Slot.freed with
      state := .writing, role := some .input, frameTime := some 997, pairCount := 1920, supplyDone := true } } }

theorem monitored_sound :
    (monitoring (deck .play) .tape).storeSound ∧ (queueing 3 1001 .normal true).storeSound ∧ (queueing 3 1001 .normal false).storeSound ∧
    (monitoring behind .record).storeSound ∧ (monitoring behind .tape).storeSound ∧ (monitoring taking .record).storeSound ∧
    (monitoring (deck .stop) .tape).storeSound ∧ (monitoring (deck .stop) .record).storeSound ∧ (deck .play).storeSound := by
  unfold State.storeSound State.collectionsSound State.holdersSound
  and_intros <;> decide +kernel

/-- Slot 0 is being output, one item being left of its frame. -/
def sounding (item : OutputItem) (s : State) : State := { s with output := { s.output with frame := [item], playing := some 0 } }

def playing : State :=
  sounding (.up ⟨5, -6⟩) (withSlot { Slot.freed with
    state := .playing, role := some .play, frameTime := some 1001, pairCount := 1920 } (monitoring (deck .play) .tape))

def writingOut (n : Nat) : State :=
  sounding (.plain ⟨5, -6⟩) (monitoring (withSlot { (supplying n).slot 0 with supplyDone := decide (n = 152) } (supplying n)) .record)

/-- The last pair of a slot, in StepRunsFrontCommand, and the boundary before it, in MonitorFrames. -/
theorem witness_StepRunsFrontCommand_slots :
    (playing.storeSound ∧ (writingOut 100).storeSound ∧ (writingOut 152).storeSound) ∧
    (playing.pending = [] ∧ playing.output.playing = some 0 ∧ (playing.slot 0).state = .playing) ∧
    ((writingOut 100).pending = [] ∧ ((writingOut 100).slot 0).state = .writing ∧ ((writingOut 100).slot 0).supplyDone = false) ∧
    (((writingOut 152).slot 0).state = .writing ∧ ((writingOut 152).slot 0).supplyDone = true) ∧
    playing.output.frame ≠ [] ∧ step playing = .next (outputTick playing) := by
  unfold State.storeSound State.collectionsSound State.holdersSound
  and_intros <;> first | decide +kernel | rfl

/-- R92 with the values of section 5.9: the fade pair under f = 1016. -/
theorem test_tick_fades :
    (let s := sounding .down (deck .stop)
     let t := outputTick { s with output := { s.output with fadePair := ⟨10000, -10000⟩, fadeStep := 8 } }
     (t.output.fadeGain, t.output.heldPair, t.output.frame)) = (1016, ⟨9922, -9922⟩, []) := by decide +kernel

theorem witness_MonitorFrames :
    (∀ s ∈ [queueing 3 1001 .fast true, queueing 3 1001 .normal false, monitoring behind .record, monitoring behind .tape, monitoring taking .record,
        monitoring (deck .stop) .tape, monitoring (deck .stop) .record, deck .play, monitoring (deck .play) .tape],
      s.sequencer.handoffs = [] ∧ s.input.pendingSelect = none ∧ s.sequencer.state = .idle ∧ s.output.frame = [] ∧
      s.output.playing = none ∧ s.output.cut = false) ∧
    (let s : State := { monitoring (deck .play) .tape with
        output := { (monitoring (deck .play) .tape).output with priming := true } }
     s.transport.state.monitor = .tape ∧ s.output.source = .tape ∧ s.output.priming = true ∧ s.depthQ < 3) ∧
    ((queueing 3 1001 .fast true).transport.state.monitor = .tape ∧ 3 ≤ (queueing 3 1001 .fast true).depthQ ∧
      (queueing 3 1001 .fast true).store.outputQueue = [] ++ 0 :: [1, 2] ∧ ((queueing 3 1001 .fast true).slot 0).role = some .play) ∧
    (behind.transport.state.monitor = .record ∧ (behind.slot 0).state = .writing ∧ (behind.slot 0).monitor = .notBegun ∧
      (behind.slot 1).state = .writing ∧ (behind.slot 1).frameTime.getD 0 < (behind.slot 0).frameTime.getD 0 ∧
      ∀ k < 16, k ≠ 0 → k ≠ 1 → (behind.slot k).state ≠ .writing) ∧
    (taking.transport.state.monitor = .record ∧ ∀ k < 16, (taking.slot k).state ≠ .writing) ∧
    ((deck .stop).transport.state.monitor = .input ∧ (monitoring (deck .stop) .tape).output.source ≠ .input) ∧
    ((deck .play).transport.state.monitor = .tape ∧ (deck .play).output.source ≠ .tape) := by
  and_intros <;> decide +kernel

/-- R38 at a boundary: priming ends on Q of 3 with FAST and of 6 with NORMAL, and goes on with Q of 2; with priming over the slot
played leaves Q at 5, 3 and 1. -/
theorem test_boundary_trim :
    ([queueing 3 1001 .fast true, queueing 6 1001 .normal true, queueing 2 1001 .normal true, queueing 6 1001 .normal false,
        queueing 4 1001 .slow false, queueing 2 1001 .normal false].map (trimAfter .outputFrameBoundary)) =
      [some (.normal, .playSpeed .normal), some (.slow, .playSpeed .slow), some (.normal, .playSpeed .normal),
        some (.slow, .playSpeed .slow), some (.normal, .playSpeed .normal), some (.fast, .playSpeed .fast)] := by
  decide +kernel

/-! ### Witnesses: the tape format, and what every step keeps -/

theorem witness_WordLengthRoundTrip :
    ((-32768 : Int) ≤ 32767) ∧ ((8388479 : Int) ≤ 8388479) ∧ ((8388480 : Int) ≤ 8388607) := by decide

theorem witness_GainsStayBetween : 1 ≤ 16 ∧ (0 : Int) ≤ 1024 ∧ 1024 ≤ 1024 := by decide

/-- The CORRECTED slot with a slot of a later frame on the output queue. -/
def overtaken : State :=
  { correcting with store := { correcting.store with
      outputQueue := [1]
      slots := correcting.store.slots.set 1 { Slot.freed with
        state := .concealed, role := some .play, frameTime := some 1003, pairCount := 1920 } } }

/-- The CORRECTED slot behind n PLAY slots of frames from 1,000 on, under a trim demand. -/
def correctingBehind (n : Nat) (trim : Trim) : State :=
  let q := queueing n 1000 trim false
  { correcting with
    transport := q.transport
    store := { correcting.store with
      trim := trim, outputQueue := (List.range n).map (· + 1)
      slots := correcting.store.slots.mapIdx fun i v => if 1 ≤ i ∧ i < 1 + n then q.slot (i - 1) else v } }

theorem correctingBehind_sound :
    (correctingBehind 4 .normal).storeSound ∧ (correctingBehind 2 .fast).storeSound ∧ (correctingBehind 0 .slow).storeSound ∧
    (correctingBehind 6 .normal).storeSound := by
  unfold State.storeSound State.collectionsSound State.holdersSound
  and_intros <;> decide +kernel

/-- R38 at a take of frame 1,003: Q becomes 3 and 1; and with frames 1,003 and up on the queue it falls to 3 and rises to 4. -/
theorem test_take_trim :
    ([correctingBehind 2 .fast, correctingBehind 0 .slow, correctingBehind 4 .normal, correctingBehind 6 .slow].map fun s =>
      let t := takeFrame 0 0 .nothing s
      (t.depthQ, t.store.trim, t.transport.demand)) =
      [(3, .normal, .playSpeed .normal), (1, .fast, .playSpeed .fast), (4, .normal, .playSpeed .normal),
        (4, .normal, .playSpeed .normal)] := by decide +kernel

theorem overtaken_sound : overtaken.storeSound ∧ correcting.storeSound := by
  unfold State.storeSound State.collectionsSound State.holdersSound
  and_intros <;> decide +kernel

theorem witness_FramesAreConcealed :
    (∀ p ∈ List.replicate 3 ((⟨0, 0⟩ : Pair), false), p.2 = false) ∧
    ((none : Option Run).getD (classifyRun 4 true ⟨400, 0⟩ (.successor [(⟨0, 0⟩, false), (⟨800, 0⟩, true)])
        [(⟨0, 0⟩, false), (⟨0, 0⟩, false)]) = .short ⟨400, 0⟩ ⟨800, 0⟩ 3 1 ∧ 1 + 2 ≤ 3 + 1) ∧
    (some Run.long).getD (classifyRun 4 true ⟨400, 0⟩ .nothing [(⟨0, 0⟩, false)]) = .long ∧
    (∀ s ∈ [overtaken, correcting, correctingBehind 2 .fast, correctingBehind 6 .slow, queueing 6 1001 .normal false],
      s.transport.state = .play ∧ s.output.source = .tape ∧ s.output.priming = false) ∧
    ((deck .play).output.source ≠ .tape) ∧
    (∀ s ∈ [overtaken, correcting, correctingBehind 2 .fast, correctingBehind 6 .slow], (s.slot 0).state = .corrected ∧ (s.slot 0).role = some .play ∧
      (s.slot 0).frameTime = some 1003 ∧ s.store.captureList = []) ∧
    (1 ∈ overtaken.store.outputQueue ∧ 1003 ≤ (overtaken.slot 1).frameTime.getD 0) := by
  and_intros <;> decide +kernel

/-- R82 to R87 and R25: the bad pair at the end, without a successor, is muted; the slot of the same frame time is dropped. -/
theorem test_take_frame :
    (let t := takeFrame 0 0 .nothing overtaken
     (t.slot 0).pairs == [⟨0, 0⟩, ⟨0, 0⟩] && (t.slot 0).gaps == 1 && (t.slot 0).interpolated == 0 && t.slot 1 == Slot.freed &&
     t.store.outputQueue == [0] && t.reports.system.counters.framesDropped == 1 &&
     t.reports.link.counters.framesMuted == 1) = true := by decide +kernel

theorem witness_BlocksReadBack :
    75 ≤ 75 ∧ zeroPayload.length = 96 ∧ 255 < 256 ∧ 8 ≤ 8 ∧ 7 ≤ 7 ∧ (151 < 152 ∧ 72 ≤ 151 % 76) ∧
    ((record 359999).time ≤ 359999 ∧ (record 359999).program ≤ 99 ∧ ((record 359999).start = true → 1 ≤ (record 359999).program)) := by
  decide

theorem witness_ParityRebuilds : 0 < 8 ∧ 7 < 8 := by decide

theorem witness_FrameReadsBack :
    (List.replicate 1280 (⟨-8388608, 8388607⟩ : Pair)).length = (⟨.r32, .w16⟩ : Format).rate.pairs ∧
    (record 359999).time ≤ 359999 ∧ (record 359999).program ≤ 99 ∧
    (∀ p ∈ List.replicate 1280 (⟨-8388608, 8388607⟩ : Pair),
      -8388608 ≤ p.left ∧ p.left ≤ 8388607 ∧ -8388608 ≤ p.right ∧ p.right ≤ 8388607) := by
  refine ⟨List.length_replicate, by decide, by decide, ?_⟩
  intro p h
  rw [List.eq_of_mem_replicate h]
  decide

/-- A deck in PLAY with a command waiting: every bound and relation holds, and the step answers a next state. -/
def waiting : State := { deck .play with pending := [.winding] }

theorem witness_StepKeepsTablesAndSizes :
    waiting.reports.within ∧ ({ full with pending := [.winding] } : State).cues.ordered ∧ waiting.sized ∧ waiting.queuesWithin := by
  unfold Reports.within Counters.within CueTable.ordered State.sized State.queuesWithin; and_intros <;> decide +kernel
theorem witness_StepKeepsAgreement :
    (waiting.gateAgrees ∧ waiting.readingAgrees) ∧ (taking.gateAgrees ∧ taking.readingAgrees) ∧
    (trimmed .slow taking).gateAgrees ∧ (trimmed .slow taking).demandAgrees ∧ (trimmed .normal waiting).demandAgrees ∧
    (queueing 4 1001 .slow false).gateAgrees ∧ (queueing 4 1001 .slow false).demandAgrees ∧ (deck .stop).demandAgrees := by
  unfold State.gateAgrees State.readingAgrees State.demandAgrees; and_intros <;> decide +kernel
theorem witness_StepKeepsRanges : waiting.decoder.ranged ∧ waiting.gainsWithin ∧ waiting.settingsWithin := by
  unfold Decoder.ranged State.gainsWithin State.settingsWithin Bank.ranged; decide +kernel
theorem witness_StepKeepsTakeFormat : (waiting.handoffsTaken ∧ waiting.formatKept) ∧ (switching taking).formatKept := by
  unfold State.handoffsTaken State.formatKept; decide +kernel
theorem witness_StepKeepsStore : (windowed.readingAgrees ∧ windowed.storeSound) ∧ unfinished.readingAgrees ∧ unfinished.storeSound :=
  ⟨⟨windowed_opens.2.2.2.1, windowed_opens.2.2.2.2.1⟩, unfinished_opens.2.2.2.1, unfinished_opens.2.2.2.2.1⟩
theorem witness_StepKeepsRecordPath :
    windowed.readingAgrees ∧ windowed.storeSound ∧ windowed.gateAgrees ∧ windowed.decoder.ranged ∧ windowed.formatKept ∧
    windowed.handoffsTaken ∧ windowed.recordSound := by
  refine ⟨windowed_opens.2.2.2.1, windowed_opens.2.2.2.2.1, windowed_opens.2.2.1, ?_, ?_, ?_, windowed_opens.2.2.2.2.2.1⟩
  · unfold Decoder.ranged; decide +kernel
  · unfold State.formatKept; decide +kernel
  · unfold State.handoffsTaken; decide +kernel
theorem test_step_answers_next :
    step waiting = .next { waiting with
      pending := [], transport := { waiting.transport with lastReport := some .winding } } := rfl

end Sys2Proof.Tests
end

section
/-! Word length reduction and the bytes of a sample (R11, R12, R19, R20): a sample's bytes join to the sample again, and
expansion undoes reduction up to the rounding of R19. -/

namespace Sys2Proof.Machine

/-! ### The bytes of a sample (R11, R12) -/

@[simp] theorem toNat_byteOf (n : Nat) : (byteOf n).toNat = n % 256 := BitVec.toNat_ofNat n 8

theorem bytes16_join {n : Nat} (h : n < 65536) : (byteOf (n / 256)).toNat * 256 + (byteOf n).toNat = n := by
  simp only [toNat_byteOf]
  omega

theorem bytes24_join {n : Nat} (h : n < 16777216) :
    (byteOf (n / 65536)).toNat * 65536 + (byteOf (n / 256)).toNat * 256 + (byteOf n).toNat = n := by
  simp only [toNat_byteOf]
  omega

theorem sampleOfBytes_three (a b c : Byte) :
    sampleOfBytes .w24 [a, b, c] = (BitVec.ofNat 24 (a.toNat * 65536 + b.toNat * 256 + c.toNat)).toInt := rfl

theorem sampleOfBytes_two (a b : Byte) :
    sampleOfBytes .w16 [a, b] = expand16 (BitVec.ofNat 16 (a.toNat * 256 + b.toNat)).toInt := rfl

/-- A 24-bit sample is read back from its bytes (R20). -/
theorem sampleOfBytes_sampleBytes_w24 {v : Int} (hmin : -8388608 ≤ v) (hmax : v ≤ 8388607) :
    sampleOfBytes .w24 (sampleBytes .w24 v) = v := by
  have joined := bytes24_join (BitVec.ofInt 24 v).isLt
  calc sampleOfBytes .w24 (sampleBytes .w24 v)
      = (BitVec.ofInt 24 v).toInt := by
        simp only [sampleBytes, sampleOfBytes_three, joined, BitVec.ofNat_toNat, BitVec.setWidth_eq]
    _ = v := BitVec.toInt_ofInt_eq_self (by decide) hmin (Int.lt_add_one_of_le hmax)

/-! ### Reduction and expansion (R19, R20) -/

theorem expand16_ranged {w : Int} (hmin : -32768 ≤ w) (hmax : w ≤ 32767) :
    -8388608 ≤ expand16 w ∧ expand16 w ≤ 8388352 := by
  simp only [expand16, Sample]
  omega

theorem reduce16_ranged {v : Int} (hmin : -8388608 ≤ v) : -32768 ≤ reduce16 v ∧ reduce16 v ≤ 32767 := by
  unfold reduce16
  omega

theorem reduce16_expand16 {w : Int} (hmax : w ≤ 32767) : reduce16 (expand16 w) = w := by
  unfold reduce16 expand16
  omega

/-- Below the limit of R19 reduction rounds to the nearest multiple of 256. -/
theorem reduce16_rounds {v : Int} (h : v ≤ 8388479) : -128 ≤ v - 256 * reduce16 v ∧ v - 256 * reduce16 v ≤ 127 := by
  unfold reduce16
  omega

/-- From 8,388,480 on rounding would pass the greatest 16-bit sample, and the limit holds it there. -/
theorem reduce16_limited {v : Int} (h : 8388480 ≤ v) : reduce16 v = 32767 := by
  unfold reduce16
  omega

/-- A sample written in 16 bits is read back as its reduction expanded (R19, R20). -/
theorem sampleOfBytes_sampleBytes_w16 {v : Int} (hmin : -8388608 ≤ v) :
    sampleOfBytes .w16 (sampleBytes .w16 v) = expand16 (reduce16 v) := by
  have joined := bytes16_join (BitVec.ofInt 16 (reduce16 v)).isLt
  obtain ⟨least, greatest⟩ := reduce16_ranged hmin
  calc sampleOfBytes .w16 (sampleBytes .w16 v)
      = expand16 (BitVec.ofInt 16 (reduce16 v)).toInt := by
        simp only [sampleBytes, sampleOfBytes_two, joined, BitVec.ofNat_toNat, BitVec.setWidth_eq]
    _ = expand16 (reduce16 v) := by rw [BitVec.toInt_ofInt_eq_self (by decide) least (Int.lt_add_one_of_le greatest)]

end Sys2Proof.Machine

namespace Sys2Proof.Proofs

open Sys2Proof.Machine

/-- Settles O49: the 16-bit part by reduction undoing expansion, the 24-bit part by the bytes joining to the sample. -/
theorem wordLengthRoundTrip : Obligations.WordLengthRoundTrip := by
  refine ⟨fun w hmin hmax => ?_, fun v hmin hmax =>
    ⟨reduce16_rounds, fun above => ?_, sampleOfBytes_sampleBytes_w24 hmin hmax⟩⟩
  · obtain ⟨least, greatest⟩ := expand16_ranged hmin hmax
    have reduced := reduce16_expand16 hmax
    have readBack : sampleOfBytes .w16 (sampleBytes .w16 (expand16 w)) = expand16 w := by
      rw [sampleOfBytes_sampleBytes_w16 least, reduced]
    exact ⟨rfl, least, greatest, by omega, reduced, readBack⟩
  · have limited : expand16 (reduce16 v) = 8388352 := by rw [reduce16_limited above]; rfl
    exact ⟨limited, by omega, by omega⟩

end Sys2Proof.Proofs
end

section
/-! The Cue Table (R126 to R132): where an entry stands in time order, the owner's judgements of its requests, and the START
marker. Lemmas for O18, O19 and O21. -/

namespace Sys2Proof.Machine

/-! ### Entries in time order (R127) -/

theorem cueIndex_eq_none {t : Nat} {l : List CueEntry} : cueIndex t l = none ↔ ∀ e ∈ l, e.time ≠ t := by
  simp [cueIndex, List.findIdx?_eq_none_iff]

theorem cueIndex_isSome {t : Nat} {l : List CueEntry} : (cueIndex t l).isSome = true ↔ ∃ e ∈ l, e.time = t := by
  simp [cueIndex, List.findIdx?_isSome]

theorem cueIndex_append_cons {before : List CueEntry} {e : CueEntry} (after : List CueEntry)
    (h : ∀ x ∈ before, x.time < e.time) : cueIndex e.time (before ++ e :: after) = some before.length := by
  have absent : cueIndex e.time before = none := cueIndex_eq_none.2 fun x hx => (h x hx).ne
  unfold cueIndex at absent ⊢
  simp [List.findIdx?_append, absent, List.findIdx?_cons]

/-- No two entries of an ordered table share a time, so an entry's time names its index. -/
theorem CueTable.ordered.cueIndex_getElem {c : CueTable} (h : c.ordered) {i : Nat} {e : CueEntry}
    (he : c.entries[i]? = some e) : cueIndex e.time c.entries = some i := by
  obtain ⟨-, rising, -⟩ := h
  obtain ⟨inside, rfl⟩ := List.getElem?_eq_some_iff.1 he
  refine List.findIdx?_eq_some_iff_getElem.2 ⟨inside, beq_self_eq_true _, fun j earlier => ?_⟩
  have := List.pairwise_iff_getElem.1 rising j i (earlier.trans inside) inside earlier
  simpa using this.ne

theorem insertCue_append {e : CueEntry} {before after : List CueEntry} (hb : ∀ x ∈ before, x.time < e.time)
    (ha : ∀ x ∈ after, e.time < x.time) : insertCue e (before ++ after) = before ++ e :: after := by
  induction before with
  | nil =>
    cases after with
    | nil => rfl
    | cons x xs => simp [insertCue, ha x List.mem_cons_self]
  | cons x xs ih =>
    have later : ¬ e.time < x.time := (hb x List.mem_cons_self).not_gt
    simp [insertCue, later, ih fun y hy => hb y (List.mem_cons_of_mem x hy)]

theorem time_ne_of_between {t : Nat} {before after : List CueEntry} (hb : ∀ x ∈ before, x.time < t)
    (ha : ∀ x ∈ after, t < x.time) : ∀ x ∈ before ++ after, x.time ≠ t := by
  intro x hx
  rcases List.mem_append.1 hx with earlier | later
  · exact (hb x earlier).ne
  · exact (ha x later).ne'

/-! ### CUE-ADD (R128) -/

/-- Tests 3 and 4 of R128, and the entry that passes them. -/
def enterCue (e : CueEntry) (s : State) : Judgement :=
  if (cueIndex e.time s.cues.entries).isSome then (s, .duplicate, [])
  else if Config.cueLimit ≤ s.cues.entries.length then (s, .full, [])
  else
    let entries := insertCue e s.cues.entries
    ({ s with cues := { s.cues with entries := entries } }, .done, [wordOf ((cueIndex e.time entries).getD 0)])

theorem enterCue_duplicate {e : CueEntry} {s : State} (h : ∃ x ∈ s.cues.entries, x.time = e.time) :
    enterCue e s = (s, .duplicate, []) := if_pos (cueIndex_isSome.2 h)

theorem enterCue_full {e : CueEntry} {s : State} (h : ∀ x ∈ s.cues.entries, x.time ≠ e.time)
    (hfull : s.cues.entries.length = 99) : enterCue e s = (s, .full, []) := by
  simp [enterCue, cueIndex_eq_none.2 h, hfull]

theorem enterCue_between {e : CueEntry} {s : State} {before after : List CueEntry} (h : s.cues.entries = before ++ after)
    (hb : ∀ x ∈ before, x.time < e.time) (ha : ∀ x ∈ after, e.time < x.time) (hroom : s.cues.entries.length < 99) :
    enterCue e s = ({ s with cues := { s.cues with entries := before ++ e :: after } }, .done, [wordOf before.length]) := by
  have absent : cueIndex e.time s.cues.entries = none := cueIndex_eq_none.2 (h ▸ time_ne_of_between hb ha)
  have placed : insertCue e s.cues.entries = before ++ e :: after := h ▸ insertCue_append hb ha
  simp [enterCue, absent, hroom.not_ge, placed, cueIndex_append_cons after hb]

theorem cueKindOf_eq_none {w : Word} (h : 1 < w.high ∨ w.high = 0 ∧ (w.low = 0 ∨ 99 < w.low)) : cueKindOf w = none := by
  unfold cueKindOf
  split
  · exact if_neg (by omega)
  · omega
  · rfl

theorem cueKindOf_eq_some {w : Word} {kind : CueKind}
    (h : kind = .cuePoint ∧ w.high = 1 ∨ ∃ n, kind = .programStart n ∧ w.high = 0 ∧ w.low = n ∧ 1 ≤ n ∧ n ≤ 99) :
    cueKindOf w = some kind := by
  rcases h with ⟨rfl, high⟩ | ⟨n, rfl, high, low, least, greatest⟩
  · simp [cueKindOf, high]
  · simp [cueKindOf, high, low, least, greatest]

section
variable {ticket : Ticket} {body : List Word} {s : State}

theorem judgeCueAdd_overlong (h : 8 < (argWord body 4).toNat) : judgeCueAdd ticket body s = (s, .badRequest, []) := if_pos h

theorem judgeCueAdd_badValue (hlen : (argWord body 4).toNat ≤ 8)
    (h : cueKindOf (argWord body 3) = none ∨ 359999 < argLong body 1 ∨ labelOk (argLabel body 4).2 = false) :
    judgeCueAdd ticket body s = (s, .badValue, []) := by
  have short : ¬ 8 < (argLabel body 4).1 := hlen.not_gt
  cases hkind : cueKindOf (argWord body 3) with
  | none => simp [judgeCueAdd, short, hkind]
  | some kind =>
    have outside : Config.lastTime < argLong body 1 ∨ labelOk (argLabel body 4).2 = false := by simpa [hkind] using h
    simp [judgeCueAdd, short, hkind, outside]

/-- A request that passes tests 1 and 2 is judged by the table. -/
theorem judgeCueAdd_eq_enterCue {kind : CueKind} (hlen : (argWord body 4).toNat ≤ 8) (htime : argLong body 1 ≤ 359999)
    (hlabel : labelOk (argLabel body 4).2 = true) (hkind : cueKindOf (argWord body 3) = some kind) :
    judgeCueAdd ticket body s = enterCue ⟨argLong body 1, kind, .request, (argLabel body 4).2⟩ s := by
  have short : ¬ 8 < (argLabel body 4).1 := hlen.not_gt
  simp [judgeCueAdd, enterCue, short, hkind, htime.not_gt, hlabel]

/-! ### CUE-REMOVE (R129) -/

theorem judgeCueRemove_time (h : (argWord body 1).toNat = 0) {i : Nat}
    (hi : cueIndex (argLong body 2) s.cues.entries = some i) :
    judgeCueRemove ticket body s =
      ({ s with cues := { s.cues with entries := s.cues.entries.eraseIdx i } }, .done, []) := by
  simp [judgeCueRemove, h, hi]

theorem judgeCueRemove_time_absent (h : (argWord body 1).toNat = 0)
    (ht : ∀ e ∈ s.cues.entries, e.time ≠ argLong body 2) : judgeCueRemove ticket body s = (s, .notFound, []) := by
  simp [judgeCueRemove, h, cueIndex_eq_none.2 ht]

theorem judgeCueRemove_index (h : (argWord body 1).toNat = 1) (hi : argLong body 2 < s.cues.entries.length) :
    judgeCueRemove ticket body s =
      ({ s with cues := { s.cues with entries := s.cues.entries.eraseIdx (argLong body 2) } }, .done, []) := by
  simp [judgeCueRemove, h, hi]

theorem judgeCueRemove_index_absent (h : (argWord body 1).toNat = 1) (hi : s.cues.entries.length ≤ argLong body 2) :
    judgeCueRemove ticket body s = (s, .notFound, []) := by
  simp [judgeCueRemove, h, hi.not_gt]

theorem judgeCueRemove_badSelector (h : 1 < (argWord body 1).toNat) :
    judgeCueRemove ticket body s = (s, .badValue, []) := by
  unfold judgeCueRemove
  dsimp only
  split
  · omega
  · omega
  · rfl

/-! ### CUE-CLEAR (R130) -/

theorem judgeCueClear_done :
    judgeCueClear ticket body s = ({ s with cues := { s.cues with entries := [] } }, .done, []) := rfl

/-! ### CUE-READ (R131, R196) -/

theorem judgeCueRead_badValue (h : 98 < (argWord body 1).toNat) : judgeCueRead ticket body s = (s, .badValue, []) := if_pos h

theorem judgeCueRead_done (h : (argWord body 1).toNat ≤ 98) :
    judgeCueRead ticket body s = (s, .done, wordOf s.cues.entries.length ::
      (((s.cues.entries.drop (argWord body 1).toNat).take 4).mapIdx fun k e => cueWords ((argWord body 1).toNat + k) e).flatten) :=
  if_neg h.not_gt

end

theorem cueWords_length (index : Nat) (e : CueEntry) : (cueWords index e).length = 9 := rfl

section
variable {α β : Type} {m : Nat} {f : Nat → α → List β}

/-- Blocks of one length, laid end to end. -/
theorem length_flatten_mapIdx (hf : ∀ i a, (f i a).length = m) (l : List α) :
    (l.mapIdx f).flatten.length = m * l.length := by
  induction l generalizing f with
  | nil => rfl
  | cons a l ih => simp [List.mapIdx_cons, hf, ih fun i => hf (i + 1), Nat.mul_succ, Nat.add_comm]

/-- Among blocks of one length the k-th starts at k times that length. -/
theorem take_drop_flatten_mapIdx (hf : ∀ i a, (f i a).length = m) {l : List α} {k : Nat} {a : α} (h : l[k]? = some a) :
    ((l.mapIdx f).flatten.drop (m * k)).take m = f k a := by
  induction l generalizing f k with
  | nil => simp at h
  | cons x l ih =>
    cases k with
    | zero =>
      obtain rfl : x = a := by simpa using h
      simp [List.mapIdx_cons, List.take_left' (hf 0 x)]
    | succ k =>
      have rest : m * (k + 1) = (f 0 x).length + m * k := by rw [hf, Nat.mul_succ, Nat.add_comm]
      rw [List.mapIdx_cons, List.flatten_cons, rest, List.drop_length_add_append]
      exact ih (fun i => hf (i + 1)) (by simpa using h)

end

/-! ### The START marker (R132) -/

section
variable {time number : Nat} {s : State}

theorem takeMarker_converts (h : ∃ e ∈ s.cues.entries, e.time = time) :
    takeMarker time number s = { s with cues := { s.cues with entries := s.cues.entries.map fun e =>
      if e.time = time then { e with kind := .programStart number, origin := .tape } else e } } :=
  if_pos (cueIndex_isSome.2 h)

theorem takeMarker_near (h : ∀ e ∈ s.cues.entries, e.time ≠ time)
    (hnear : ∃ e ∈ s.cues.entries, e.kind.isStart = true ∧ e.time < time ∧ time ≤ e.time + 9) :
    takeMarker time number s = s := by
  have start : (s.cues.entries.any fun e => e.kind.isStart && e.time < time && time ≤ e.time + 9) = true := by
    simpa [and_assoc] using hnear
  simp [takeMarker, cueIndex_eq_none.2 h, start]

/-- With no entry at its time and no program start within nine frames before it, a marker needs room in the table. -/
theorem takeMarker_far (h : ∀ e ∈ s.cues.entries, e.time ≠ time)
    (hfar : ∀ e ∈ s.cues.entries, e.kind.isStart = true → e.time < time → e.time + 9 < time) :
    takeMarker time number s =
      if Config.cueLimit ≤ s.cues.entries.length then logEntry .cueTableFull (some time) .internal number s
      else { s with cues := { s.cues with
        entries := insertCue ⟨time, .programStart number, .tape, []⟩ s.cues.entries } } := by
  have clear : (s.cues.entries.any fun e => e.kind.isStart && e.time < time && time ≤ e.time + 9) = false := by
    simpa [and_assoc] using hfar
  simp [takeMarker, cueIndex_eq_none.2 h, clear]

end

/-! ### Taking a request of the Cue Table (R171) -/

/-- A command that takes a request answers as its owner judges, and does nothing more while the judgement leaves the state
quiet. -/
theorem exec_judged {c : Instr} {port : Port} {kind : RequestKind} {judge : Ticket → List Word → State → Judgement}
    {s t : State} {ticket : Ticket} {body : List Word} {status : Status} {data : List Word}
    (hc : exec c s = .next (serve port kind judge s)) (hs : s.stands port kind ticket body)
    (hj : judge ticket body (popRequest port s) = (t, status, data)) (ht : t.quiet) :
    exec c s = .next (answered ticket body status data t) := by
  rw [hc, serve_taken hs (by rwa [hj]), hj]

end Sys2Proof.Machine

namespace Sys2Proof.Proofs

open Sys2Proof.Machine

/-- Settles O18, one judgement lemma per outcome; the words of CUE-READ as nine-word blocks laid end to end. -/
theorem cueRemoveClearAndReadRequests : Obligations.CueRemoveClearAndReadRequests := by
  refine ⟨fun port ticket body s hq hs ho => ?_, fun port ticket body s hq hs => ?_, fun port ticket body s hq hs => ?_⟩
  all_goals have quiet : (popRequest port s).quiet := (popRequest_quiet port s).2 hq
  · rw [← popRequest_cues port s] at ho ⊢
    exact ⟨
      fun i e h he htime => exec_judged rfl hs (judgeCueRemove_time h (htime ▸ ho.cueIndex_getElem he)) quiet,
      fun h habsent => exec_judged rfl hs (judgeCueRemove_time_absent h habsent) quiet,
      fun h hi => exec_judged rfl hs (judgeCueRemove_index h hi) quiet,
      fun h hi => exec_judged rfl hs (judgeCueRemove_index_absent h hi) quiet,
      fun h => exec_judged rfl hs (judgeCueRemove_badSelector h) quiet⟩
  · rw [← popRequest_cues port s]
    exact exec_judged rfl hs judgeCueClear_done quiet
  · refine ⟨fun h => exec_judged rfl hs (judgeCueRead_badValue h) quiet, fun h => ?_⟩
    rw [← popRequest_cues port s]
    refine ⟨_, exec_judged rfl hs (judgeCueRead_done h) quiet, ?_, fun k hk e he => ?_⟩
    · rw [length_flatten_mapIdx fun _ _ => cueWords_length _ _, List.length_take, List.length_drop]
    · exact take_drop_flatten_mapIdx (fun _ _ => cueWords_length _ _) (by simpa [List.getElem?_take, hk] using he)

/-- Settles O19: tests 1 and 2 by the words of the body, tests 3 and 4 and the addition by `enterCue`. -/
theorem cueAddRequest : Obligations.CueAddRequest := by
  intro port ticket body s hq hs ho time high low length label
  have quiet : (popRequest port s).quiet := (popRequest_quiet port s).2 hq
  rw [← popRequest_cues port s]
  refine ⟨fun h => exec_judged rfl hs (judgeCueAdd_overlong h) quiet,
    fun hlen h => exec_judged rfl hs (judgeCueAdd_badValue hlen ?_) quiet, fun kind hlen htime hlabel hkind => ?_⟩
  · rcases h with late | badLabel | badKind
    · exact .inr (.inl late)
    · exact .inr (.inr badLabel)
    · exact .inl (cueKindOf_eq_none badKind)
  · have judged : judgeCueAdd ticket body (popRequest port s) = enterCue ⟨time, kind, .request, label⟩ (popRequest port s) :=
      judgeCueAdd_eq_enterCue hlen htime hlabel (cueKindOf_eq_some hkind)
    exact ⟨
      fun before after hsplit hb ha hroom =>
        exec_judged rfl hs (judged.trans (enterCue_between hsplit hb ha hroom)) quiet,
      fun hdup => exec_judged rfl hs (judged.trans (enterCue_duplicate hdup)) quiet,
      fun habsent hfull => exec_judged rfl hs (judged.trans (enterCue_full habsent hfull)) quiet⟩

/-- Settles O21, by the tests of R132 in order. -/
theorem startMarker : Obligations.StartMarker := by
  intro time number s _
  refine ⟨takeMarker_converts, fun habsent => ⟨takeMarker_near habsent, fun hfar => ⟨fun hfull => ?_, ?_⟩⟩⟩
  · rw [takeMarker_far habsent hfar, if_pos hfull.ge]
  · intro before after hsplit hb ha hroom
    rw [takeMarker_far habsent hfar, if_neg hroom.not_ge, hsplit, insertCue_append hb ha]

end Sys2Proof.Proofs
end

section
/-! The edit list's memory (R152, R153, R169, R170): what LIST-WRITE leaves at each index, and the owner's judgements of
LIST-WRITE and LIST-READ. Lemmas for O23. -/

namespace Sys2Proof.Machine

/-! ### Entries at consecutive indices (R169) -/

@[simp] theorem writeEntries_length (start : Nat) (new old : List ListEntry) :
    (writeEntries start new old).length = old.length := by
  induction new generalizing start old with
  | nil => rfl
  | cons e es ih => rw [writeEntries, ih, List.length_set]

/-- Entries that fit stand from the start index on, and every other index keeps its entry. -/
theorem getElem?_writeEntries {start : Nat} {new old : List ListEntry} (hfit : start + new.length ≤ old.length) (i : Nat) :
    (writeEntries start new old)[i]? = if start ≤ i ∧ i < start + new.length then new[i - start]? else old[i]? := by
  induction new generalizing start old with
  | nil => rw [if_neg (by simp)]; rfl
  | cons e es ih =>
    rw [List.length_cons] at hfit ⊢
    rw [writeEntries, ih (by rw [List.length_set]; omega)]
    rcases Nat.lt_trichotomy i start with before | rfl | beyond
    · rw [if_neg (by omega), if_neg (by omega), List.getElem?_set_ne before.ne']
    · rw [if_neg (by omega), if_pos (by omega), List.getElem?_set_self (by omega), Nat.sub_self, List.getElem?_cons_zero]
    · have next : i - start = i - (start + 1) + 1 := by omega
      rw [List.getElem?_set_ne beyond.ne, next, List.getElem?_cons_succ]
      exact if_congr (by omega) rfl rfl

/-- The entries a LIST-WRITE body carries, each with an initial result. -/
def listEntriesOf (body : List Word) (n : Nat) : List ListEntry := (List.range n).map fun k => listEntryAt body (2 + 5 * k)

@[simp] theorem length_listEntriesOf (body : List Word) (n : Nat) : (listEntriesOf body n).length = n := by
  simp [listEntriesOf]

theorem getElem?_listEntriesOf {k n : Nat} (body : List Word) (h : k < n) :
    (listEntriesOf body n)[k]? = some (listEntryAt body (2 + 5 * k)) := by
  simp [listEntriesOf, h]

section
variable {ticket : Ticket} {body : List Word} {s : State} {start n : Nat}

/-! ### LIST-WRITE (R169) -/

section
variable (hstart : (argWord body 1).toNat = start) (hn : (body.length - 2) / 5 = n)
include hn

theorem judgeListWrite_badRequest (h : n = 0 ∨ 4 < n) : judgeListWrite ticket body s = (s, .badRequest, []) :=
  if_pos (hn ▸ h)

include hstart

/-- A number of entries that LIST-WRITE takes leaves the judgement to the list: the indices, then the entry in progress. -/
theorem judgeListWrite_of_number (least : 1 ≤ n) (most : n ≤ 4) :
    judgeListWrite ticket body s =
      if 64 < start + n then (s, .badValue, [])
      else if s.sequencer.state ≠ .idle ∧ start ≤ s.sequencer.current ∧ s.sequencer.current < start + n then
        (s, .listActive, [])
      else ({ s with sequencer := { s.sequencer with
        entries := writeEntries start (listEntriesOf body n) s.sequencer.entries } }, .done, []) := by
  subst hstart hn
  exact if_neg (by omega)

theorem judgeListWrite_badValue (least : 1 ≤ n) (most : n ≤ 4) (hout : 64 < start + n) :
    judgeListWrite ticket body s = (s, .badValue, []) := by
  rw [judgeListWrite_of_number hstart hn least most, if_pos hout]

theorem judgeListWrite_listActive (least : 1 ≤ n) (most : n ≤ 4) (hfit : start + n ≤ 64)
    (hactive : s.sequencer.state ≠ .idle) (hfrom : start ≤ s.sequencer.current) (hto : s.sequencer.current < start + n) :
    judgeListWrite ticket body s = (s, .listActive, []) := by
  rw [judgeListWrite_of_number hstart hn least most, if_neg hfit.not_gt, if_pos ⟨hactive, hfrom, hto⟩]

theorem judgeListWrite_done (least : 1 ≤ n) (most : n ≤ 4) (hfit : start + n ≤ 64)
    (hfree : s.sequencer.state = .idle ∨ s.sequencer.current < start ∨ start + n ≤ s.sequencer.current) :
    judgeListWrite ticket body s = ({ s with sequencer := { s.sequencer with
      entries := writeEntries start (listEntriesOf body n) s.sequencer.entries } }, .done, []) := by
  rw [judgeListWrite_of_number hstart hn least most, if_neg hfit.not_gt, if_neg]
  rintro ⟨hactive, hfrom, hto⟩
  rcases hfree with idle | before | beyond
  · exact hactive idle
  · exact before.not_ge hfrom
  · exact beyond.not_gt hto

end

/-! ### LIST-READ (R170, R196) -/

theorem judgeListRead_badValue (h : 63 < (argWord body 1).toNat ∨ (argWord body 2).toNat = 0 ∨ 4 < (argWord body 2).toNat) :
    judgeListRead ticket body s = (s, .badValue, []) := if_pos h

theorem judgeListRead_done (hstart : (argWord body 1).toNat ≤ 63) (least : 1 ≤ (argWord body 2).toNat)
    (most : (argWord body 2).toNat ≤ 4) :
    judgeListRead ticket body s = (s, .done, (((s.sequencer.entries.drop (argWord body 1).toNat).take
      (argWord body 2).toNat).mapIdx fun k e => listEntryWords ((argWord body 1).toNat + k) e).flatten) :=
  if_neg (by omega)

end

theorem listEntryWords_length (index : Nat) (e : ListEntry) : (listEntryWords index e).length = 10 := by
  unfold listEntryWords
  cases e.completion <;> rfl

end Sys2Proof.Machine

namespace Sys2Proof.Proofs

open Sys2Proof.Machine

/-- Settles O23: LIST-WRITE by one judgement lemma per outcome and `getElem?_writeEntries` for each index of the list, the
words of LIST-READ as ten-word blocks laid end to end. -/
theorem listWriteAndReadRequests : Obligations.ListWriteAndReadRequests := by
  refine ⟨fun port ticket body s hq hsized hs => ?_, fun port ticket body s hq hsized hs => ?_⟩
  all_goals
    have quiet : (popRequest port s).quiet := (popRequest_quiet port s).2 hq
    have whole : (popRequest port s).sequencer.entries.length = 64 := by rw [popRequest_sequencer, hsized.2]
    intro start n
    rw [← popRequest_sequencer port s]
  · refine ⟨fun h => exec_judged rfl hs (judgeListWrite_badRequest rfl h) quiet,
      fun least most hout => exec_judged rfl hs (judgeListWrite_badValue rfl rfl least most hout) quiet,
      fun least most hfit hactive hfrom hto =>
        exec_judged rfl hs (judgeListWrite_listActive rfl rfl least most hfit hactive hfrom hto) quiet,
      fun least most hfit hfree => ⟨_, exec_judged rfl hs (judgeListWrite_done rfl rfl least most hfit hfree) quiet,
        by rw [writeEntries_length, whole], fun i _ => ?_⟩⟩
    rw [getElem?_writeEntries (by rw [length_listEntriesOf, whole]; exact hfit), length_listEntriesOf]
    refine ite_congr rfl (fun inside => ?_) fun _ => rfl
    rw [getElem?_listEntriesOf body (show i - start < n by omega)]
    simp only [listEntryAt, ListEntry.blank, Nat.add_right_comm 2 (5 * _), Nat.reduceAdd]
  · refine ⟨fun h => exec_judged rfl hs (judgeListRead_badValue h) quiet, fun hstart least most =>
      ⟨_, exec_judged rfl hs (judgeListRead_done hstart least most) quiet, ?_, fun k hk e he => ?_⟩⟩
    · rw [length_flatten_mapIdx fun _ _ => listEntryWords_length _ _, List.length_take, List.length_drop, whole]
    · exact take_drop_flatten_mapIdx (fun _ _ => listEntryWords_length _ _)
        (by rwa [List.getElem?_take_of_lt hk, List.getElem?_drop])

end Sys2Proof.Proofs
end

section
/-! What a command can do, said once: every shared operation is a chain of the strokes of `Calm` and `Act`, each of which leaves
the blocks in agreement. What every step keeps (O55 to O60) is proved stroke by stroke. -/

namespace Sys2Proof.Machine

/-! ### Strokes that leave the frames being gathered alone -/

/-- A stroke of work that leaves the transport state, the output and the two frames being gathered as they are. The premises are
what the code has tested where it makes the stroke. -/
inductive Calm : State → State → Prop
  | count (c : Counter) (n : Nat) (s : State) : Calm s (count c n s)
  | raise (f : Flag) (s : State) : Calm s (raiseFlag f s)
  | log (kind : LogKind) (time : Option Nat) (origin : Origin) (argument : Nat) (s : State) :
      Calm s (logEntry kind time origin argument s)
  | sequencer (q : Sequencer) (s : State) (size : q.entries.length = s.sequencer.entries.length) :
      Calm s { s with sequencer := q }
  | cues (c : CueTable) (s : State) (order : s.cues.ordered → c.ordered) : Calm s { s with cues := c }
  | input (i : InputPort) (s : State) : Calm s { s with input := i }
  | copy (k : CopyControl) (s : State) (fields : k.inputFields.map (·.1) = s.copy.inputFields.map (·.1))
      (latch : k.latched = true → s.copy.latched = true ∨ s.mixer.gateOpen = true) : Calm s { s with copy := k }
  | status (status : TimeStatus) (holdover : Nat) (s : State) (limit : holdover ≤ s.activeBank.holdover) :
      Calm s (setStatus status holdover s)
  | marks (mismatch : Option Rate) (startRun : Option Nat) (closedLast : Bool) (s : State) :
      Calm s { s with decoder := { s.decoder with mismatch := mismatch, startRun := startRun, closedLast := closedLast } }
  | cancel (s : State) (scheduled : s.mixer.taken = false) : Calm s (spanChanged (clearPunches s))
  | punchOut (o : Option Punch) (s : State) :
      Calm s (spanChanged { s with mixer := { s.mixer with punchOut := o, committed := false } })
  | schedule (p : Punch) (o : Option Punch) (s : State) (tests : s.punchInTests p o = none) :
      Calm s (spanChanged { s with mixer := { s.mixer with punchIn := some p, taken := false, punchOut := o, committed := false } })
  | commit (s : State) : Calm s { s with mixer := { s.mixer with committed := true } }
  | jump (v c : Nat) (s : State) (state : s.transport.state ≠ .record) (time : v ≤ 359999) : Calm s (jumpTo v c s)
  | mix (s : State) : Calm s (mixerJudge s)
  | free (l : List Nat) (s : State) (settled : ∀ i ∈ l, (s.slot i).state ≠ .gathering ∨ i ∈ s.store.outputQueue) :
      Calm s (freeSlots l s)

/-- A chain of calm strokes. -/
abbrev Calms : State → State → Prop := Relation.ReflTransGen Calm

section
variable {s t : State}

theorem Calm.chain (h : Calm s t) : Calms s t := .single h
theorem Calms.count (h : Calms s t) (c : Counter) (n : Nat) : Calms s (count c n t) := h.tail (.count ..)
theorem Calms.raise (h : Calms s t) (f : Flag) : Calms s (raiseFlag f t) := h.tail (.raise ..)
theorem Calms.log (h : Calms s t) (kind : LogKind) (time : Option Nat) (origin : Origin) (argument : Nat) :
    Calms s (logEntry kind time origin argument t) := h.tail (.log ..)
theorem Calms.sequencer (h : Calms s t) (q : Sequencer) (size : q.entries.length = t.sequencer.entries.length) :
    Calms s { t with sequencer := q } := h.tail (.sequencer _ _ size)
theorem Calms.condition (h : Calms s t) (c : Condition) : Calms s (setCondition c t) := h.sequencer _ (by rfl)
theorem Calms.handOff (h : Calms s t) (x : Handoff) : Calms s (handOff x t) := h.sequencer _ (by rfl)
theorem Calms.handOffIf (h : Calms s t) (c : Bool) (x : Handoff) : Calms s (handOffIf c x t) := by
  cases c
  · exact h
  · exact h.handOff x

end

theorem calms_cancelPunch (reason : CancelReason) (s : State) : Calms s (cancelPunch reason s) := by
  unfold cancelPunch
  split
  · split
    · exact .refl
    · next scheduled =>
      exact ((Calm.cancel s (by simpa using scheduled)).chain.log ..).handOffIf ..
  · exact .refl

theorem calms_withdrawPunchOut (s : State) : Calms s (withdrawPunchOut s) := by
  unfold withdrawPunchOut
  split
  · split
    · exact ((Calm.punchOut none s).chain.log ..).handOffIf ..
    · exact .refl
  · exact .refl

/-- What follows the change of status as the time is lost. -/
theorem calms_afterLost (s : State) : Calms (setStatus .lost s.activeBank.holdover s) (enterLost s) := by
  unfold enterLost
  refine .trans ?_ (calms_withdrawPunchOut _)
  have logged : Calms (setStatus .lost s.activeBank.holdover s) _ :=
    ((Calms.condition .refl .timeLost).raise .timeLost).log .timeLost
      (raiseFlag .timeLost (setCondition .timeLost (setStatus .lost s.activeBank.holdover s))).timeNow .internal
      s.activeBank.holdover
  dsimp only
  split
  · split
    · exact logged.trans (calms_cancelPunch ..)
    · exact logged
  · exact logged

theorem calms_enterLost (s : State) : Calms s (enterLost s) :=
  .head (.status _ _ s le_rfl) (calms_afterLost s)

theorem calms_judgeInvalid (s : State) : Calms s (judgeInvalid s) := by
  unfold judgeInvalid
  split
  · split
    · exact .single (.status _ _ s ‹_›)
    · exact calms_enterLost s
  · split
    · exact .single (.status _ _ s ‹_›)
    · exact calms_enterLost s
  · exact .refl
  · exact .refl

theorem calms_judgeHoldover (s : State) : Calms s (judgeHoldover s) := by
  unfold judgeHoldover
  split
  · split
    · exact calms_enterLost s
    · exact calms_enterLost s
    · exact .single (.status _ _ s le_rfl)
    · exact .single (.status _ _ s le_rfl)
  · exact .refl

/-- The time of a valid subcode record is a tape time (R16). -/
theorem subcodeOf_time {tag : Nat} {payload : List Byte} {r : Subcode} (h : subcodeOf tag payload = some r) :
    r.time ≤ 359999 := by
  unfold subcodeOf at h
  dsimp only at h
  split at h
  · split at h
    · next inside => obtain rfl := Option.some.inj h; exact inside.1
    · cases h
  · cases h

theorem selectSubcode_time {tag : Nat} {held : List HeldBlock} {r : Subcode} (h : selectSubcode tag held = some r) :
    r.time ≤ 359999 := by
  obtain ⟨⟨track, p⟩, -, found⟩ := List.exists_of_findSome?_eq_some h
  obtain ⟨payload, -, valid⟩ := Option.bind_eq_some_iff.1 found
  exact subcodeOf_time valid

theorem subcodeTime_le {g : GatherFrame} {v : Nat} (h : g.subcodeTime = some v) : v ≤ 359999 := by
  unfold GatherFrame.subcodeTime at h
  split at h
  · obtain ⟨r, valid, rfl⟩ := Option.map_eq_some_iff.1 h
    exact selectSubcode_time valid
  · cases h

theorem calms_judgeFrame (g : GatherFrame) (s : State) : Calms s (judgeFrame g.subcodeTime s) := by
  unfold judgeFrame
  dsimp only
  split
  · exact calms_judgeInvalid s
  · next v hv =>
    split
    · exact .single (.status _ _ s (Nat.zero_le _))
    · split
      · exact calms_judgeInvalid s
      · next notRecord => exact .single (.jump _ _ s notRecord (subcodeTime_le hv))

theorem mem_insertCue {e x : CueEntry} {l : List CueEntry} : x ∈ insertCue e l ↔ x = e ∨ x ∈ l := by
  induction l with
  | nil => simp [insertCue]
  | cons y l ih =>
    unfold insertCue
    split
    · simp
    · simp only [List.mem_cons, ih]; tauto

@[simp] theorem length_insertCue (e : CueEntry) (l : List CueEntry) : (insertCue e l).length = l.length + 1 := by
  induction l with
  | nil => rfl
  | cons y l ih => unfold insertCue; split <;> simp [ih]

/-- An entry of a time not in the table takes its place in rising order. -/
theorem pairwise_insertCue {e : CueEntry} {l : List CueEntry} (rising : l.Pairwise fun a b => a.time < b.time)
    (absent : ∀ x ∈ l, x.time ≠ e.time) : (insertCue e l).Pairwise fun a b => a.time < b.time := by
  induction l with
  | nil => simp [insertCue]
  | cons y l ih =>
    obtain ⟨first, rest⟩ := List.pairwise_cons.1 rising
    unfold insertCue
    split
    · next before =>
      refine List.pairwise_cons.2 ⟨fun x hx => ?_, rising⟩
      rcases List.mem_cons.1 hx with rfl | later
      · exact before
      · exact before.trans (first x later)
    · next notBefore =>
      refine List.pairwise_cons.2 ⟨fun x hx => ?_, ih rest fun x hx => absent x (List.mem_cons_of_mem y hx)⟩
      rcases mem_insertCue.1 hx with rfl | old
      · have := absent y List.mem_cons_self; omega
      · exact first x old

/-- The table with one more entry, of a tape time that no entry has, is ordered while there is room for it. -/
theorem ordered_insert {c : CueTable} (h : c.ordered) {e : CueEntry} (m : MarkRecord) (room : c.entries.length < 99)
    (absent : ∀ x ∈ c.entries, x.time ≠ e.time) (time : e.time ≤ 359999) :
    CueTable.ordered ⟨insertCue e c.entries, m⟩ := by
  obtain ⟨-, rising, inRange⟩ := h
  refine ⟨?_, pairwise_insertCue rising absent, fun x hx => ?_⟩
  · show (insertCue e c.entries).length ≤ 99
    rw [length_insertCue]; omega
  · rcases mem_insertCue.1 hx with rfl | old
    · exact time
    · exact inRange x old

/-- Entries that are rewritten without a change of their times stay ordered. -/
theorem ordered_map {c : CueTable} (h : c.ordered) {f : CueEntry → CueEntry} (hf : ∀ e, (f e).time = e.time)
    (m : MarkRecord) : CueTable.ordered ⟨c.entries.map f, m⟩ := by
  obtain ⟨small, rising, inRange⟩ := h
  refine ⟨by simpa using small, ?_, ?_⟩
  · simpa [List.pairwise_map, hf] using rising
  · intro e he
    obtain ⟨x, hx, rfl⟩ := List.mem_map.1 he
    rw [hf]; exact inRange x hx

theorem calms_takeMarker {time : Nat} (number : Nat) (s : State) (h : time ≤ 359999) :
    Calms s (takeMarker time number s) := by
  unfold takeMarker
  dsimp only
  split
  · refine .single (.cues _ s fun ordered => ?_)
    exact ordered_map ordered (fun e => by split <;> rfl) _
  · next absent =>
    split
    · exact .refl
    · split
      · exact .single (.log ..)
      · next room =>
        refine .single (.cues _ s fun ordered => ?_)
        refine ordered_insert ordered _ (Nat.lt_of_not_le room) ?_ h
        exact cueIndex_eq_none.1 (by simpa using absent)

theorem calms_offerMarker (allowed : Bool) {r : Subcode} (s : State) (h : r.time ≤ 359999) :
    Calms s (offerMarker allowed r s) := by
  unfold offerMarker
  dsimp only
  split
  · exact (calms_takeMarker _ s h).tail (.marks _ _ _ _)
  · exact .single (.marks _ _ _ s)

theorem calms_judgeMismatch (r : Subcode) (s : State) : Calms s (judgeMismatch r s) := by
  unfold judgeMismatch
  split
  · exact .single (.marks _ _ _ s)
  · split
    · exact .refl
    · exact (Calm.marks _ _ _ s).chain.log ..

theorem calms_handOnSubcode {r : Subcode} (s : State) (h : r.time ≤ 359999) : Calms s (handOnSubcode r s) := by
  unfold handOnSubcode
  refine .trans ?_ (calms_offerMarker _ _ h)
  exact (Calm.copy _ s (by rfl) (by exact .inl)).chain


theorem calms_recordRefusal (origin : Origin) (s : State) : Calms s (recordRefusal origin s) := by
  unfold recordRefusal
  exact (((Calm.count .copyRefusals 1 s).chain.condition .copy).raise .copyRefused).log ..

theorem calms_refusalEvent (s : State) : Calms s (refusalEvent s) := by
  unfold refusalEvent
  split
  · next gate =>
    split
    · exact .refl
    · refine .trans ?_ (calms_recordRefusal ..)
      exact (Calm.copy _ s (by rfl) fun _ => .inr gate).chain
  · split
    · exact (calms_cancelPunch ..).trans (calms_recordRefusal ..)
    · exact .refl

/-- The input field list names the same slots after a field is combined into an entry. -/
theorem combineEntry_copy (i : Nat) (s : State) : ∃ k : CopyControl, combineEntry i s = { s with copy := k } ∧
    k.inputFields.map (·.1) = s.copy.inputFields.map (·.1) ∧ k.latched = s.copy.latched := by
  unfold combineEntry
  split
  · refine ⟨_, rfl, ?_, rfl⟩
    simp only [List.map_map]
    refine List.map_congr_left fun e _ => ?_
    simp only [Function.comp_apply]
    split <;> rfl
  · exact ⟨s.copy, rfl, rfl, rfl⟩

theorem calms_combineEntry (i : Nat) (s : State) : Calms s (combineEntry i s) := by
  obtain ⟨k, e, fields, latched⟩ := combineEntry_copy i s
  rw [e]
  exact (Calm.copy k s fields fun h => .inl (latched ▸ h)).chain

theorem calms_deriveField (s : State) : Calms s (deriveField s) := by
  unfold deriveField
  dsimp only
  split
  · exact .refl
  · have held : Calms s { s with copy := { s.copy with current := s.sourceField } } :=
      (Calm.copy _ s (by rfl) (by exact .inl)).chain
    split
    · refine .trans ?_ (calms_refusalEvent _)
      split
      · exact held.trans (calms_combineEntry ..)
      · exact held
    · split
      · exact held.trans (calms_combineEntry ..)
      · exact held

theorem calms_judgeLost (s : State) : Calms s (judgeLost s) := by
  unfold judgeLost
  have judged : Calms s { s with input := { s.input with lost := s.lostCause } } := (Calm.input _ s).chain
  refine .trans ?_ (calms_deriveField _)
  split
  · exact (judged.condition .sourceLost).log ..
  · exact (judged.sequencer _ (by rfl)).log ..
  · exact judged

theorem calms_applySelection (src : Source) (s : State) : Calms s (applySelection src s) :=
  (Calm.input _ s).chain.trans (calms_judgeLost _)

theorem calms_takeSelection (s : State) : Calms s (takeSelection s) := by
  unfold takeSelection
  split
  · split
    · exact calms_applySelection ..
    · exact .refl
  · exact .refl

theorem calms_judgeCopy (origin : Origin) (s : State) : Calms s (judgeCopy origin s).1 := by
  unfold judgeCopy
  split
  · exact calms_recordRefusal ..
  · exact .refl

/-- A refusal by Copy Control comes with the record of it, and else nothing changes. -/
theorem judgeCopy_true {origin : Origin} {s t : State} (h : judgeCopy origin s = (t, true)) : t = s := by
  unfold judgeCopy at h
  split at h <;> simp_all

theorem calms_schedulePunchIn (copyOrigin : Origin) (p : Punch) (o : Option Punch) (s : State) :
    Calms s (schedulePunchIn copyOrigin p o s).1 := by
  unfold schedulePunchIn
  split
  · exact .refl
  · next tests =>
    split
    · next t judged =>
      rw [judgeCopy_true judged]
      dsimp only
      exact .single (.schedule p o s tests)
    · next t judged =>
      have := calms_judgeCopy copyOrigin s
      rwa [judged] at this

theorem calms_setPunchOutNow (p : Punch) (origin : Origin) (s : State) : Calms s (setPunchOutNow p origin s).1 := by
  unfold setPunchOutNow
  dsimp only
  split
  · exact .refl
  · dsimp only
    exact .single (.punchOut (some _) s)

theorem calms_schedulePunchOut (u : Nat) (cross : Option Nat) (s : State) : Calms s (schedulePunchOut u cross s).1 := by
  unfold schedulePunchOut
  dsimp only
  split
  · exact .refl
  · split
    · exact .refl
    · split
      · exact .refl
      · split_ifs
        · exact .refl
        · exact .refl
        · exact .refl
        · exact .refl
        · exact .refl
        · dsimp only
          exact .single (.punchOut (some _) s)

theorem calms_markAt {t : Nat} (label : List Nat) (origin : Origin) (s : State) (h : t ≤ 359999) :
    Calms s (markAt t label origin s).1 := by
  unfold markAt
  dsimp only
  split
  · split
    · exact .refl
    · refine Calms.log (Calm.chain (.cues _ s fun ordered => ?_)) ..
      exact ordered_map ordered (fun e => by split <;> rfl) _
  · next absent =>
    split
    · exact .refl
    · next room =>
      refine Calms.log (Calm.chain (.cues _ s fun ordered => ?_)) ..
      exact ordered_insert ordered _ (Nat.lt_of_not_le room) (by simpa using absent) h

/-! ### Strokes of every kind -/

/-- The servo demand that the table of R110 has for a transport state off play speed. -/
def DemandFits (state : TransportState) (r : LocateRecord) (demand : Demand) : Prop :=
  match state with
  | .empty | .stop | .fault => demand = .stop
  | .starting => demand = .playSpeed .normal
  | .wind => ∃ direction speed, demand = .wind direction speed
  | .locate => demand = .wind r.direction r.phase.speed
  | .cued => demand = .hold
  | .play | .record => False

/-- A stroke of work on a command's way, but for the gathering of a frame, the opening of a capture slot and the bank switch,
which a frame pulse alone makes. The premises are what the code has tested where it makes the stroke. -/
inductive Act : State → State → Prop
  | calm {s t : State} (h : Calm s t) : Act s t
  | move (q : Sequencer) (r : LocateRecord) (new : TransportState) (demand : Demand) (s : State)
      (state : s.transport.state ≠ .record) (fits : DemandFits new r demand)
      (size : q.entries.length = s.sequencer.entries.length) :
      Act s (enterState new demand { s with sequencer := q, transport := { s.transport with locate := r } })
  | closing (event : ClosingEvent) (origin : Origin) (new : TransportState) (s : State)
      (state : s.transport.state = .record) (fits : DemandFits new s.transport.locate .stop) :
      Act s (enterState new .stop (closeAtOnce event origin s))
  | closeIdle (event : ClosingEvent) (origin : Origin) (s : State) (state : s.transport.state ≠ .record) :
      Act s (closeAtOnce event origin s)
  | lateReads (s : State) (state : s.transport.state = .stop ∨ s.transport.state = .cued) : Act s (setLateReads s)
  | transport (x : Transport) (s : State) (state : x.state = s.transport.state) (demand : x.demand = s.transport.demand)
      (locate : x.locate = s.transport.locate) : Act s { s with transport := x }
  | steer (r : LocateRecord) (demand : Demand) (s : State) (state : s.transport.state = .locate)
      (fits : demand = .wind r.direction r.phase.speed) :
      Act s { s with transport := { s.transport with locate := r, demand := demand } }
  | spinUp (s : State) (state : s.transport.state = .starting) : Act s (enterState .play (.playSpeed .normal) s)
  | openGate (s : State) (punch : s.mixer.punchIn.isSome = true) (gate : s.mixer.gateOpen = false)
      (state : s.transport.state = .play) :
      Act s (spanChanged (enterState .record (.playSpeed .normal)
        { s with mixer := { s.mixer with taken := true, gateOpen := true } }))
  | closePulse (s : State) (gate : s.mixer.gateOpen = true) :
      Act s (enterState .play (.playSpeed .normal) (spanChanged (clearPunches s)))
  | readTime (time : Nat) (s : State) (range : time ≤ 359999) (mode : s.decoder.readMode ≠ .full) : Act s (readTime time s)
  | clearTape (s : State) (state : s.transport.state = .empty) : Act s (clearTape s)
  | take (last i : Nat) (ahead : LookAhead) (s : State) (corrected : s.correctedSlots.head? = some i) :
      Act s (takeFrame last i ahead s)
  | capture (i : Nat) (p : Pair × Bool) (s : State) (capturing : s.capturingSlot = some i) : Act s (capturePair i p s)
  | output (o : Output) (s : State) (playing : o.playing = s.output.playing) (source : o.source = s.output.source)
      (priming : o.priming = true → s.output.priming = true)
      (gains : 0 ≤ s.output.fadeGain ∧ s.output.fadeGain ≤ 1024 ∧ 0 ≤ s.output.fadeStep →
        0 ≤ o.fadeGain ∧ o.fadeGain ≤ 1024 ∧ 0 ≤ o.fadeStep) : Act s { s with output := o }
  | endSlot (s : State) : Act s (endOutputSlot s)
  | source (s : State) (change : s.transport.state.monitor ≠ s.output.source) :
      Act s (changeSource s.transport.state.monitor s)
  | finished (i : Nat) (s : State) (writing : (s.slot i).state = .writing) : Act s (monitorFinished i s)
  | play (i : Nat) (s : State) (silent : s.output.playing = none) (queued : s.playSlots.head? = some i) :
      Act s (beginPlaying i s).1
  | monitor (i : Nat) (s : State) (silent : s.output.playing = none) (writing : (s.slot i).state = .writing) :
      Act s { setSlot i { s.slot i with monitor := .begun } s with output := { s.output with playing := some i } }
  | conceal (u : Conceal) (s : State) (gain : 0 ≤ s.conceal.gain ∧ s.conceal.gain ≤ 1024 → 0 ≤ u.gain ∧ u.gain ≤ 1024) :
      Act s { s with conceal := u }
  | depth (s : State) : Act s (judgeQ s)
  | cut (w : WriteFrame) (s : State) (current : s.coder.current = some w) :
      Act s (supplyFinished w.slot { s with coder := { s.coder with current := none } })
  | windowTrim (s : State) (gate : s.mixer.gateOpen = true) : Act s (windowTrim s)
  | window (i : Nat) (s : State) (gate : s.mixer.gateOpen = true) (queued : s.windowSlot s.decoder.time = some i)
      (mixed : (s.slot i).state = .mixed) : Act s (takeWindow i s)
  | coder (c : Coder) (s : State) (current : c.current = none ∨ c.current = s.coder.current)
      (verify : s.coder.verifySound → c.verifySound) : Act s { s with coder := c }
  | supplied (w : WriteFrame) (s : State) (current : s.coder.current = some w) : Act s (supplyFinished w.slot s)
  | gather (b : TapeBlock) (g : GatherFrame) (s : State) (current : s.decoder.current = some g)
      (gathering : s.decoder.gathering = true) : Act s (takeBlock b g s)

/-- A chain of strokes. -/
abbrev Acts : State → State → Prop := Relation.ReflTransGen Act

end Sys2Proof.Machine
end

section
/-! Every shared operation and every judgement of a request is a chain of strokes. -/

namespace Sys2Proof.Machine

/-! ### Transport and locate (R110 to R124) -/

section
variable {s t : State}

theorem Act.chain (h : Act s t) : Acts s t := .single h
theorem Calms.acts (h : Calms s t) : Acts s t := Relation.ReflTransGen.mono (r := Calm) (fun _ _ => Act.calm) _ _ h
theorem Calm.acts (h : Calm s t) : Acts s t := h.chain.acts
theorem Acts.calms {u : State} (h : Acts s t) (k : Calms t u) : Acts s u := h.trans k.acts
theorem Acts.count (h : Acts s t) (c : Counter) (n : Nat) : Acts s (count c n t) := h.tail (.calm (.count ..))
theorem Acts.raise (h : Acts s t) (f : Flag) : Acts s (raiseFlag f t) := h.tail (.calm (.raise ..))
theorem Acts.log (h : Acts s t) (kind : LogKind) (time : Option Nat) (origin : Origin) (argument : Nat) :
    Acts s (logEntry kind time origin argument t) := h.tail (.calm (.log ..))
theorem Acts.sequencer (h : Acts s t) (q : Sequencer) (size : q.entries.length = t.sequencer.entries.length) :
    Acts s { t with sequencer := q } := h.tail (.calm (.sequencer _ _ size))
theorem Acts.condition (h : Acts s t) (c : Condition) : Acts s (setCondition c t) := h.sequencer _ (by rfl)
theorem Acts.handOff (h : Acts s t) (x : Handoff) : Acts s (handOff x t) := h.sequencer _ (by rfl)
theorem Acts.handOffIf (h : Acts s t) (c : Bool) (x : Handoff) : Acts s (handOffIf c x t) := by
  cases c
  · exact h
  · exact h.handOff x
theorem Acts.transport (h : Acts s t) (x : Transport) (state : x.state = t.transport.state)
    (demand : x.demand = t.transport.demand) (locate : x.locate = t.transport.locate) :
    Acts s { t with transport := x } := h.tail (.transport x t state demand locate)
theorem Acts.output (h : Acts s t) (o : Output) (playing : o.playing = t.output.playing)
    (source : o.source = t.output.source) (priming : o.priming = true → t.output.priming = true)
    (gains : 0 ≤ t.output.fadeGain ∧ t.output.fadeGain ≤ 1024 ∧ 0 ≤ t.output.fadeStep →
      0 ≤ o.fadeGain ∧ o.fadeGain ≤ 1024 ∧ 0 ≤ o.fadeStep) : Acts s { t with output := o } :=
  h.tail (.output o t playing source priming gains)

end

/-- The end of a locate writes the locate record and the hand-offs alone. -/
theorem endLocate_writes (outcome : LocateOutcome) (s : State) : ∃ (q : Sequencer) (r : LocateRecord),
    endLocate outcome s = { s with sequencer := q, transport := { s.transport with locate := r } } ∧
    q.entries.length = s.sequencer.entries.length := by
  unfold endLocate
  split
  · cases s.transport.locate.origin == .list
    · exact ⟨_, _, rfl, rfl⟩
    · exact ⟨_, _, rfl, rfl⟩
  · exact ⟨_, _, rfl, rfl⟩

@[simp] theorem endLocate_state (outcome : LocateOutcome) (s : State) :
    (endLocate outcome s).transport.state = s.transport.state := by
  obtain ⟨q, r, e, -⟩ := endLocate_writes outcome s
  rw [e]

theorem enterState_state (new : TransportState) (demand : Demand) (s : State) :
    (enterState new demand s).transport.state = new := by
  have left (u : State) : (leaveRolling u).transport.state = u.transport.state := by
    have freed (l : List Nat) : (freeSlots l u).transport.state = u.transport.state := (slotWork_freeSlots l u).state
    have cancelled (v : State) : (cancelPunch .motion v).transport.state = v.transport.state := by
      unfold cancelPunch
      split
      · split
        · rfl
        · simp only [handOffIf_transport, logEntry_transport, (slotWork_spanChanged _).1.state, clearPunches_transport]
      · rfl
    exact (cancelled _).trans (freed _)
  have started (u : State) : (startRolling u).transport.state = u.transport.state := rfl
  unfold enterState
  dsimp only
  split
  · rw [started]; split
    · rw [left]
    · rfl
  · split
    · rw [left]
    · rfl

/-- A change of transport state off play speed that ends a locate. -/
theorem acts_enterState {new : TransportState} {demand : Demand} {s : State} (outcome : LocateOutcome)
    (state : s.transport.state ≠ .record) (fits : ∀ r, DemandFits new r demand) :
    Acts s (enterState new demand (endLocate outcome s)) := by
  obtain ⟨q, r, e, size⟩ := endLocate_writes outcome s
  rw [e]
  exact .single (.move q r new demand s state (fits r) size)

theorem acts_enterState_steady {new : TransportState} {demand : Demand} {s : State}
    (state : s.transport.state ≠ .record) (fits : ∀ r, DemandFits new r demand) : Acts s (enterState new demand s) :=
  .single (.move s.sequencer s.transport.locate new demand s state (fits _) rfl)

theorem acts_arrive {s : State} (state : s.transport.state ≠ .record) : Acts s (arrive s) := by
  have held : Acts s (enterState .cued .hold (endLocate .arrived s)) := acts_enterState .arrived state fun _ => by rfl
  exact Acts.raise (held.tail (.lateReads _ (.inr (enterState_state ..)))) .motionDone

theorem acts_failLocate {s : State} (outcome : LocateOutcome) (state : s.transport.state ≠ .record) :
    Acts s (failLocate outcome s) := by
  have stopped : Acts s (enterState .stop .stop (endLocate outcome s)) := acts_enterState outcome state fun _ => by rfl
  have late : Acts s (setLateReads (enterState .stop .stop (endLocate outcome s))) :=
    stopped.tail (.lateReads _ (.inl (enterState_state ..)))
  exact ((late.condition .locateFail).raise .locateFailed).log ..

theorem acts_steer (time : Nat) (s : State) : Acts s (steer time s) := by
  unfold steer
  split
  · next locating =>
    have locate : s.transport.state = .locate := by simpa [State.locating] using locating
    have notRecord : s.transport.state ≠ .record := by rw [locate]; decide
    dsimp only
    split
    · exact acts_arrive notRecord
    · split
      · exact acts_failLocate .hunting notRecord
      · exact .single (.steer _ _ s locate (by rfl))
  · exact .refl

theorem speed_choosePhase (r : LocateRecord) : DemandFits .locate r (.wind r.direction r.phase.speed) := rfl

theorem acts_startLocate {s : State} (origin : Origin) (kind : TargetKind) (target preroll : Nat)
    (state : s.transport.state ≠ .record) : Acts s (startLocate origin kind target preroll s) := by
  obtain ⟨q, r, e, size⟩ := endLocate_writes .superseded s
  unfold startLocate
  rw [e]
  dsimp only
  split
  · refine Acts.raise (Relation.ReflTransGen.tail ?_ (.lateReads _ (.inr (enterState_state ..)))) .motionDone
    have moved := Act.move q (({ r with
        origin := origin, kind := kind, target := target, preroll := preroll, aim := target - preroll
        limit := s.activeBank.locateLimit, phase := choosePhase s.decoder.time (target - preroll)
        direction := chooseDirection s.decoder.time (target - preroll), reversals := 0
        elapsedRunning := true, noTimeRunning := true } : LocateRecord).ended .arrived) .cued .hold
      { s with transport := { s.transport with holdAwaited := false } } state rfl size
    exact .head (.transport { s.transport with holdAwaited := false } s rfl rfl rfl) (.single moved)
  · exact .single (.move q _ .locate _ s state rfl size)

theorem acts_playMotion (s : State) : Acts s (playMotion s).1 := by
  unfold playMotion
  split
  any_goals exact .refl
  all_goals
    next h => exact acts_enterState .superseded (by rw [h]; decide) fun _ => by rfl

theorem not_record_of_not_barred {x : TransportState} (h : ¬ x.barred = true) : x ≠ .record := by
  rintro rfl; exact h rfl

theorem acts_windMotion (direction : Direction) (speed : Speed) (s : State) : Acts s (windMotion direction speed s).1 := by
  unfold windMotion
  split
  · exact .refl
  · next free => exact acts_enterState .superseded (not_record_of_not_barred free) fun _ => ⟨direction, speed, rfl⟩

theorem acts_cueHoldMotion (s : State) : Acts s (cueHoldMotion s).1 := by
  unfold cueHoldMotion
  split
  any_goals exact .refl
  all_goals
    next h =>
    exact (acts_enterState .superseded (by rw [h]; decide) fun _ => by rfl).transport _ (by rfl) (by rfl) (by rfl)

theorem acts_locateMotion (origin : Origin) (kindCode arg preroll : Nat) (s : State) :
    Acts s (locateMotion origin kindCode arg preroll s).1 := by
  unfold locateMotion
  split
  · exact .refl
  · split
    · exact .refl
    · split
      · exact .refl
      · next free =>
        split
        · exact .refl
        · exact acts_startLocate _ _ _ _ (not_record_of_not_barred free)

theorem acts_judgeCopy {origin : Origin} {s t : State} {passed : Bool} (h : judgeCopy origin s = (t, passed)) : Acts s t := by
  have := (calms_judgeCopy origin s).acts
  rwa [h] at this

theorem acts_recordMotion (origin : Origin) (s : State) : Acts s (recordMotion origin s).1 := by
  have spinUp {t : State} (h : judgeCopy origin s = (t, true)) (state : s.transport.state ≠ .record) :
      Acts s { enterState .starting (.playSpeed .normal) t with transport := {
        (enterState .starting (.playSpeed .normal) t).transport with recordPending := true, recordOrigin := origin } } := by
    rw [judgeCopy_true h]
    exact (acts_enterState_steady state fun _ => by rfl).transport _ (by rfl) (by rfl) (by rfl)
  unfold recordMotion
  split
  · next h =>
    split
    · next judged => exact spinUp judged (by rw [h]; decide)
    · next judged => exact acts_judgeCopy judged
  · next h =>
    split
    · next judged => exact spinUp judged (by rw [h]; decide)
    · next judged => exact acts_judgeCopy judged
  · split
    · exact .refl
    · split
      · next judged =>
        rw [judgeCopy_true judged]
        exact .single (.transport _ s (by rfl) (by rfl) (by rfl))
      · next judged => exact acts_judgeCopy judged
  · exact (calms_schedulePunchIn ..).acts
  all_goals exact .refl

theorem closeAtOnce_state (event : ClosingEvent) (origin : Origin) (s : State) :
    (closeAtOnce event origin s).transport.state = s.transport.state := by
  unfold closeAtOnce
  split
  · simp only [handOffIf_transport, logEntry_transport, raiseFlag_transport]
    unfold closeGate
    simp only [(slotWork_spanChanged _).1.state, clearPunches_transport, (slotWork_freeSlots _ _).state]
  · rfl

/-- An event that closes an open gate at once and takes the transport to a state under the demand STOP. -/
theorem acts_closing (event : ClosingEvent) (origin : Origin) (outcome : LocateOutcome) (new : TransportState) (s : State)
    (fits : ∀ r, DemandFits new r .stop) :
    Acts s (enterState new .stop (endLocate outcome (closeAtOnce event origin s))) := by
  by_cases record : s.transport.state = .record
  · rw [endLocate_none (by rw [closeAtOnce_state, record]; decide)]
    exact .single (.closing event origin new s record (fits _))
  · refine .head (.closeIdle event origin s record) (acts_enterState outcome ?_ fits)
    rwa [closeAtOnce_state]

theorem acts_stopMotion (origin : Origin) (s : State) : Acts s (stopMotion origin s) := by
  unfold stopMotion
  dsimp only
  split
  any_goals exact acts_closing .stop origin .stopped .stop s fun _ => by rfl
  all_goals
    next h =>
    rw [closeAtOnce_state] at h
    exact .single (.closeIdle .stop origin s (by rw [h]; decide))

theorem acts_leaveFault {s : State} (state : s.transport.state = .fault) : Acts s (leaveFault s) := by
  unfold leaveFault
  refine acts_enterState_steady (by rw [state]; decide) fun r => ?_
  split
  · rfl
  · rfl

theorem acts_enterFault (argument : Nat) (s : State) : Acts s (enterFault argument s) :=
  ((acts_closing .fault .internal .fault .fault s fun _ => by rfl).raise .fault).log ..

theorem acts_tapeEnd (argument : Nat) (s : State) : Acts s (tapeEnd argument s) := by
  have records {t : State} (h : Acts s t) :
      Acts s (logEntry .tapeEnd (raiseFlag .tape (setCondition .tapeEnd t)).timeNow .internal argument
        (raiseFlag .tape (setCondition .tapeEnd t))) := ((h.condition .tapeEnd).raise .tape).log ..
  have closed (h : s.transport.state ≠ .locate) :
      Acts s (enterState .stop .stop (closeAtOnce .tapeEnd .internal s)) := by
    have := acts_closing .tapeEnd .internal .tapeEnd .stop s fun _ => by rfl
    rwa [endLocate_none (by rwa [closeAtOnce_state])] at this
  unfold tapeEnd
  dsimp only
  split
  · next h => exact records (closed (by rw [h]; decide))
  · next h => exact records (closed (by rw [h]; decide))
  · next h => exact (records (acts_enterState_steady (by rw [h]; decide) fun _ => by rfl)).handOff .spinUpTapeEnd
  · next h => exact records (acts_enterState_steady (by rw [h]; decide) fun _ => by rfl)
  · next h => exact records (acts_failLocate .tapeEnd (by rw [h]; decide))
  all_goals exact .refl


/-! ### The edit list (R153 to R168) -/

section
variable {s t : State}

theorem Acts.setEntry (h : Acts s t) (i : Nat) (e : ListEntry) : Acts s (setEntry i e t) :=
  h.sequencer _ (by simp)

theorem Acts.writeResult (h : Acts s t) (i : Nat) (outcome : EntryOutcome) (seen : BitVec 7) (completion : Option Nat) :
    Acts s (writeResult i outcome seen completion t) := h.setEntry ..

theorem Acts.writeNow (h : Acts s t) (i : Nat) (outcome : EntryOutcome) : Acts s (writeNow i outcome t) := h.setEntry ..

theorem Acts.writeFailed (h : Acts s t) (i reason : Nat) : Acts s (writeFailed i reason t) := (h.writeNow ..).log ..

theorem Acts.endList (h : Acts s t) (reason : EndReason) (origin : Origin) (extra : Nat) :
    Acts s (endList reason origin extra t) :=
  Acts.log (Acts.raise (h.sequencer _ (by rfl)) .listEnd) ..

theorem Acts.endBad (h : Acts s t) (cause : BadCause) (outcome : EntryOutcome) (i : Nat) :
    Acts s (endBad cause outcome i t) := (h.writeNow ..).endList ..

theorem Acts.haltList (h : Acts s t) (reason : EndReason) (origin : Origin) : Acts s (haltList reason origin t) := by
  unfold Machine.haltList
  split
  · exact h
  · exact (h.writeNow ..).endList ..

theorem Acts.clearConditions (h : Acts s t) (mask : BitVec 7) : Acts s (clearConditions mask t) := h.sequencer _ (by rfl)

theorem Acts.completes (h : Acts s t) (i : Nat) (outcome : EntryOutcome) : Acts s (completes i outcome t).1 := h.writeNow ..

theorem Acts.fails (h : Acts s t) (i reason : Nat) : Acts s (fails i reason t).1 := h.writeFailed ..

end

theorem acts_runMark (i : Nat) (e : ListEntry) (s : State) : Acts s (runMark i e s).1 := by
  unfold runMark
  split
  · exact Acts.fails .refl ..
  · next time =>
    have marked := (calms_markAt [] .list s (Nat.le_of_not_lt time)).acts
    split
    · next h => rw [h] at marked; exact marked.completes ..
    · next h => rw [h] at marked; exact marked.fails ..

theorem acts_runJumpIf (i : Nat) (e : ListEntry) (s : State) : Acts s (runJumpIf i e s).1 := by
  unfold runJumpIf
  split
  · exact (Acts.writeNow .refl ..).clearConditions ..
  · exact (Acts.writeNow .refl ..).clearConditions ..

theorem acts_runRepeatIf (i : Nat) (e : ListEntry) (s : State) : Acts s (runRepeatIf i e s).1 := by
  unfold runRepeatIf
  dsimp only
  split
  · exact ((Acts.writeNow .refl ..).setEntry ..).clearConditions ..
  · exact ((Acts.writeNow .refl ..).setEntry ..).clearConditions ..

theorem acts_runCall (i : Nat) (e : ListEntry) (s : State) : Acts s (runCall i e s).1 := by
  unfold runCall
  split
  · exact Acts.endBad .refl ..
  · exact (Acts.writeNow .refl ..).sequencer _ (by rfl)

theorem acts_runReturn (i : Nat) (s : State) : Acts s (runReturn i s).1 := by
  unfold runReturn
  split
  · exact Acts.endBad .refl ..
  · exact (Acts.writeNow .refl ..).sequencer _ (by rfl)

theorem acts_runWaitTime (i : Nat) (e : ListEntry) (s : State) : Acts s (runWaitTime i e s).1 := by
  unfold runWaitTime
  split
  · exact Acts.fails .refl ..
  · exact Acts.completes .refl ..
  · exact .refl

theorem acts_runWaitFrames (i : Nat) (e : ListEntry) (s : State) : Acts s (runWaitFrames i e s).1 := by
  unfold runWaitFrames
  split
  · exact Acts.completes .refl ..
  · exact Acts.sequencer .refl _ (by rfl)

theorem acts_runLocate (i : Nat) (e : ListEntry) (s : State) : Acts s (runLocate i e s).1 := by
  have moved := acts_locateMotion .list e.choice e.time (min 250 e.count) s
  unfold runLocate
  split
  · next h => rw [h] at moved; exact moved.completes ..
  · next h => rw [h] at moved; exact moved
  · next h => rw [h] at moved; exact moved.fails ..

theorem acts_runRoll (i : Nat) (s : State) : Acts s (runRoll i s).1 := by
  unfold runRoll
  split
  · exact acts_playMotion s
  · exact .refl
  · exact Acts.completes .refl ..
  all_goals exact Acts.fails .refl ..

theorem acts_runPunchIn (i : Nat) (e : ListEntry) (s : State) : Acts s (runPunchIn i e s).1 := by
  unfold runPunchIn
  split
  · exact Acts.fails .refl ..
  · next cross _ =>
    split
    · exact Acts.fails .refl ..
    · have scheduled := (calms_schedulePunchIn .list ⟨e.time, cross, true, .list⟩ none s).acts
      split
      · next h => rw [h] at scheduled; exact scheduled
      · next h => rw [h] at scheduled; exact scheduled.fails ..

theorem acts_runPunchOut (i : Nat) (e : ListEntry) (s : State) : Acts s (runPunchOut i e s).1 := by
  have scheduled := (calms_schedulePunchOut e.time (crossfadeOfChoice s.activeBank.crossfade e.choice) s).acts
  unfold runPunchOut
  split
  · next h => rw [h] at scheduled; exact scheduled
  · next h => rw [h] at scheduled; exact scheduled.fails ..

theorem acts_runEntry (i : Nat) (s : State) : Acts s (runEntry i s).1 := by
  unfold runEntry
  dsimp only
  split
  · exact Acts.endBad .refl ..
  · split
    · exact Acts.endBad .refl ..
    · split
      · exact (Acts.writeNow .refl ..).endList ..
      · exact acts_runWaitTime ..
      · exact acts_runWaitFrames ..
      · exact acts_runLocate ..
      · exact acts_runRoll ..
      · exact acts_runPunchIn ..
      · exact acts_runPunchOut ..
      · exact acts_runMark ..
      · exact Acts.writeNow .refl ..
      · exact acts_runJumpIf ..
      · exact acts_runCall ..
      · exact acts_runReturn ..
      · exact acts_runRepeatIf ..
      · exact (Acts.log .refl ..).completes ..
      · exact (acts_stopMotion .list s).completes ..

theorem acts_chainFrom (fuel i : Nat) (s : State) : Acts s (chainFrom fuel i s) := by
  induction fuel generalizing i s with
  | zero => exact (Acts.sequencer .refl _ (by rfl)).endBad ..
  | succ fuel ih =>
    have counted : Acts s { s with sequencer := { s.sequencer with
        current := i, chainCount := s.sequencer.chainCount + 1 } } := Acts.sequencer .refl _ (by rfl)
    have ran : Acts s _ := counted.trans (acts_runEntry i _)
    unfold chainFrom
    dsimp only
    split
    · next h => rw [h] at ran; exact ran
    · next h => rw [h] at ran; exact ran.sequencer _ (by rfl)
    · next h =>
      rw [h] at ran
      split
      · exact ran.trans (ih ..)
      · exact ran.endList ..

theorem acts_beginChain (i : Nat) (s : State) : Acts s (beginChain i s) := by
  unfold beginChain
  dsimp only
  refine Acts.sequencer (.trans (Acts.sequencer .refl { s.sequencer with state := .running, chainCount := 0 } (by rfl)) ?_) _
    (by rfl)
  split
  · exact acts_chainFrom ..
  · exact Acts.endList .refl ..

theorem acts_endEntry (ending : Ending) (s : State) : Acts s (endEntry ending s) := by
  have written : Acts s (match ending with
      | .done none => writeNow s.sequencer.current .done s
      | .done (some time) => writeResult s.sequencer.current .done s.sequencer.conditions (some time) s
      | .failed reason => writeFailed s.sequencer.current reason s) := by
    split
    · exact Acts.writeNow .refl ..
    · exact Acts.writeResult .refl ..
    · exact Acts.writeFailed .refl ..
  unfold endEntry
  dsimp only
  split
  · exact (written.endList ..).sequencer _ (by rfl)
  · exact written.trans (acts_beginChain ..)

theorem acts_takeHandoffs (s : State) : Acts s (takeHandoffs s) := by
  have emptied : Acts s { s with sequencer := { s.sequencer with handoffs := [] } } := Acts.sequencer .refl _ (by rfl)
  unfold takeHandoffs
  dsimp only
  split
  · exact emptied
  · split
    · exact emptied.trans (acts_endEntry ..)
    · exact emptied

theorem acts_settle (s : State) : Acts s (settle s) := (calms_takeSelection s).acts.trans (acts_takeHandoffs _)

theorem acts_judgeWaitTime (s : State) : Acts s (judgeWaitTime s) := by
  unfold judgeWaitTime
  split
  · split
    · exact acts_endEntry ..
    · exact acts_endEntry ..
    · exact .refl
  · exact .refl

theorem acts_stepWaitFrames (s : State) : Acts s (stepWaitFrames s) := by
  unfold stepWaitFrames
  dsimp only
  split
  · have fallen : Acts s { s with sequencer := { s.sequencer with waitRemainder := s.sequencer.waitRemainder - 1 } } :=
      Acts.sequencer .refl _ (by rfl)
    split
    · exact fallen.trans (acts_endEntry ..)
    · exact fallen
  · exact .refl

end Sys2Proof.Machine
end

section
/-! The judgements of the requests, the takes of the Concealment Unit, the output and the frame pulse as chains of strokes. -/

namespace Sys2Proof.Machine

/-! ### Judgements of requests (R117 to R175) -/

theorem acts_motion (port : Port) (s : State) {rest : State → State × Status} (h : Acts s (rest s).1) :
    Acts s (motion port s rest).1 := by
  unfold motion
  split
  · exact .refl
  · exact h

theorem acts_judgePlay (ticket : Ticket) (body : List Word) (s : State) : Acts s (judgePlay ticket body s).1 :=
  acts_motion _ _ (acts_playMotion s)

theorem acts_judgeWind (ticket : Ticket) (body : List Word) (s : State) : Acts s (judgeWind ticket body s).1 := by
  refine acts_motion _ _ ?_
  dsimp only
  split
  · exact acts_windMotion ..
  · exact acts_windMotion ..
  · exact acts_windMotion ..
  · exact acts_windMotion ..
  · exact .refl

theorem acts_judgeCueHold (ticket : Ticket) (body : List Word) (s : State) : Acts s (judgeCueHold ticket body s).1 :=
  acts_motion _ _ (acts_cueHoldMotion s)

theorem acts_judgeLocate (ticket : Ticket) (body : List Word) (s : State) : Acts s (judgeLocate ticket body s).1 :=
  acts_motion _ _ (acts_locateMotion ..)

theorem acts_judgeRecord (ticket : Ticket) (body : List Word) (s : State) : Acts s (judgeRecord ticket body s).1 :=
  acts_motion _ _ (acts_recordMotion ..)

theorem acts_judgeSchedulePunch (ticket : Ticket) (body : List Word) (s : State) :
    Acts s (judgeSchedulePunch ticket body s).1 := by
  refine acts_motion _ _ ?_
  dsimp only
  split
  · exact .refl
  · split
    · exact .refl
    · split
      · exact .refl
      · split
        · split
          · exact .refl
          · split
            · exact .refl
            · exact (calms_schedulePunchIn ..).acts
        · exact (calms_schedulePunchIn ..).acts

theorem acts_punchOutNow (origin : Origin) (s : State) : Acts s (punchOutNow origin s).1 := by
  unfold punchOutNow
  split
  · split
    · exact .refl
    · split
      · exact (calms_setPunchOutNow ..).acts
      · exact (calms_cancelPunch ..).acts
  · split
    · exact (Acts.transport .refl _ (by rfl) (by rfl) (by rfl)).log ..
    · exact .refl

theorem acts_judgePunchOut (ticket : Ticket) (body : List Word) (s : State) : Acts s (judgePunchOut ticket body s).1 := by
  refine acts_motion _ _ ?_
  split
  · exact .refl
  · exact acts_punchOutNow ..

theorem acts_judgeStop (ticket : Ticket) (body : List Word) (s : State) : Acts s (judgeStop ticket body s).1 := by
  unfold judgeStop
  dsimp only
  refine .trans (Acts.haltList .refl .byStop ticket.port.origin) ?_
  split
  · next state =>
    split
    · exact acts_leaveFault state
    · exact Acts.transport .refl _ (by rfl) (by rfl) (by rfl)
  · exact acts_stopMotion ..

theorem acts_judgeSetControl (ticket : Ticket) (body : List Word) (s : State) :
    Acts s (judgeSetControl ticket body s).1 := by
  unfold judgeSetControl
  split
  · exact .refl
  · split
    · exact .refl
    · split
      · exact .refl
      · exact (Acts.transport .refl _ (by rfl) (by rfl) (by rfl)).log ..

theorem acts_judgeSelectSource (ticket : Ticket) (body : List Word) (s : State) :
    Acts s (judgeSelectSource ticket body s).1 := by
  unfold judgeSelectSource
  split
  · exact .refl
  · split
    · exact .refl
    · split
      · exact (Calm.input _ s).acts
      · split
        · exact (Calm.input _ s).acts
        · exact (calms_applySelection ..).acts

theorem acts_judgeCueAdd (ticket : Ticket) (body : List Word) (s : State) : Acts s (judgeCueAdd ticket body s).1 := by
  unfold judgeCueAdd
  dsimp only
  split
  · exact .refl
  · split
    · exact .refl
    · split
      · exact .refl
      · next ranged =>
        split
        · exact .refl
        · next absent =>
          split
          · exact .refl
          · next room =>
            refine Calm.acts (.cues _ s fun ordered => ?_)
            refine ordered_insert ordered _ (Nat.lt_of_not_le room) ?_ (Nat.le_of_not_lt fun late => ranged (.inl late))
            exact cueIndex_eq_none.1 (by simpa using absent)

/-- A table without one of its entries, or without any, is ordered. -/
theorem ordered_sublist {c : CueTable} (h : c.ordered) {l : List CueEntry} (sub : l.Sublist c.entries) (m : MarkRecord) :
    CueTable.ordered ⟨l, m⟩ := by
  obtain ⟨small, rising, inRange⟩ := h
  exact ⟨sub.length_le.trans small, rising.sublist sub, fun e he => inRange e (sub.subset he)⟩

theorem acts_judgeCueRemove (ticket : Ticket) (body : List Word) (s : State) : Acts s (judgeCueRemove ticket body s).1 := by
  have erased (i : Nat) : Acts s { s with cues := { s.cues with entries := s.cues.entries.eraseIdx i } } :=
    Calm.acts (.cues _ s fun ordered => ordered_sublist ordered (List.eraseIdx_sublist ..) _)
  unfold judgeCueRemove
  dsimp only
  split
  · split
    · exact .refl
    · exact erased _
  · split
    · exact .refl
    · exact erased _
  · exact .refl

theorem acts_judgeCueClear (ticket : Ticket) (body : List Word) (s : State) : Acts s (judgeCueClear ticket body s).1 :=
  Calm.acts (.cues _ s fun ordered => ordered_sublist ordered (List.nil_sublist _) _)

theorem acts_judgeCueRead (ticket : Ticket) (body : List Word) (s : State) : Acts s (judgeCueRead ticket body s).1 := by
  unfold judgeCueRead
  dsimp only
  split
  · exact .refl
  · exact .refl

theorem acts_judgeMark (ticket : Ticket) (body : List Word) (s : State) : Acts s (judgeMark ticket body s).1 := by
  unfold judgeMark
  dsimp only
  generalize (if argLong body 1 = markNow then s.nowTime else argLong body 1) = t
  split
  · exact .refl
  · split
    · exact .refl
    · next ranged => exact (calms_markAt _ _ s (Nat.le_of_not_lt fun late => ranged (.inl late))).acts

theorem acts_startList (index : Nat) (origin : Origin) (s : State) : Acts s (startList index origin s) := by
  unfold startList
  dsimp only
  refine .trans (Acts.log (Acts.sequencer .refl _ (by simp)) ..) (acts_beginChain ..)

theorem acts_judgeListRun (ticket : Ticket) (body : List Word) (s : State) : Acts s (judgeListRun ticket body s).1 := by
  unfold judgeListRun
  dsimp only
  split
  · exact .refl
  · split
    · exact .refl
    · exact acts_startList ..

theorem acts_judgeListHalt (ticket : Ticket) (body : List Word) (s : State) : Acts s (judgeListHalt ticket body s).1 := by
  unfold judgeListHalt
  split
  · exact .refl
  · exact Acts.sequencer .refl _ (by rfl)
  · exact Acts.sequencer .refl _ (by rfl)
  · exact Acts.haltList .refl ..

theorem acts_judgeListWrite (ticket : Ticket) (body : List Word) (s : State) : Acts s (judgeListWrite ticket body s).1 := by
  unfold judgeListWrite
  dsimp only
  split
  · exact .refl
  · split
    · exact .refl
    · split
      · exact .refl
      · exact Acts.sequencer .refl _ (by simp)

theorem acts_judgeListRead (ticket : Ticket) (body : List Word) (s : State) : Acts s (judgeListRead ticket body s).1 := by
  unfold judgeListRead
  dsimp only
  split
  · exact .refl
  · exact .refl

theorem acts_judgeReadSetting (ticket : Ticket) (body : List Word) (s : State) :
    Acts s (judgeReadSetting ticket body s).1 := by
  unfold judgeReadSetting
  dsimp only
  split
  · exact .refl
  · exact .refl

/-! ### Subcode reads (R77) -/

theorem acts_readSubcode {r : Subcode} {s : State} (range : r.time ≤ 359999) (mode : s.decoder.readMode ≠ .full) :
    Acts s (readSubcode r s) := by
  unfold readSubcode
  dsimp only
  refine .trans (.trans ?_ (.trans (acts_steer ..) (acts_judgeWaitTime _))) (acts_settle _)
  refine .trans (.single (.readTime r.time s range mode)) ?_
  split
  · exact (calms_offerMarker _ _ range).acts
  · exact Calm.acts (.marks _ _ _ _)

theorem acts_readLate {time : Nat} {s : State} (range : time ≤ 359999) (mode : s.decoder.readMode ≠ .full) :
    Acts s (readLate time s) :=
  .trans (.trans (.single (.readTime time s range mode)) (acts_judgeWaitTime _)) (acts_settle _)

/-! ### Takes of the Concealment Unit (R32, R36) -/

theorem acts_takeReady (last fuel : Nat) (s : State) : Acts s (takeReady last fuel s) := by
  induction fuel generalizing s with
  | zero => exact .refl
  | succ fuel ih =>
    unfold takeReady
    split
    · next h =>
      split
      · exact .head (.take _ _ _ s (by rw [h]; rfl)) (ih _)
      · exact .refl
    · exact .refl

theorem acts_takePressured (s : State) : Acts s (takePressured s) := by
  unfold takePressured
  split
  · next h => exact .head (.take _ _ _ s (by rw [h]; rfl)) (acts_takeReady ..)
  · exact .refl

/-! ### The input pair (R45, R47) -/

/-- Items that leave keep the gains in range and the rest of the output's hold. -/
theorem acts_leave (item : OutputItem) (s : State) : Acts s (leave item s) := by
  have up : 0 ≤ s.output.fadeGain ∧ s.output.fadeGain ≤ 1024 ∧ 0 ≤ s.output.fadeStep →
      0 ≤ gainUp s.output.fadeGain s.output.fadeStep ∧ gainUp s.output.fadeGain s.output.fadeStep ≤ 1024 ∧
      0 ≤ s.output.fadeStep := by
    unfold gainUp Config.unity; omega
  have down : 0 ≤ s.output.fadeGain ∧ s.output.fadeGain ≤ 1024 ∧ 0 ≤ s.output.fadeStep →
      0 ≤ gainDown s.output.fadeGain s.output.fadeStep ∧ gainDown s.output.fadeGain s.output.fadeStep ≤ 1024 ∧
      0 ≤ s.output.fadeStep := by
    unfold gainDown; omega
  cases item with
  | down => exact Acts.output .refl _ (by rfl) (by rfl) (by exact id) down
  | up p => exact Acts.output .refl _ (by rfl) (by rfl) (by exact id) up
  | plain p => exact Acts.output .refl _ (by rfl) (by rfl) (by exact id) (by exact id)

theorem acts_monitorPair (p : Pair) (s : State) : Acts s (monitorPair p s) := by
  unfold monitorPair
  split
  · split
    · exact acts_leave ..
    · exact .trans (Acts.output .refl _ (by rfl) (by rfl) (by exact id) (by exact id)) (acts_leave ..)
  · exact .refl

/-! ### The output boundary (R33, R91 to R96) -/

theorem acts_finishFrame (s : State) : Acts s (finishFrame s) := by
  have emptied : Acts s { s with output := { s.output with frame := [] } } :=
    Acts.output .refl _ (by rfl) (by rfl) (by exact id) (by exact id)
  have left (l : List OutputItem) (u : State) : Acts u (l.foldl (fun t item => leave item t) u) := by
    induction l generalizing u with
    | nil => exact .refl
    | cons item l ih => exact .trans (acts_leave item u) (ih _)
  unfold finishFrame
  dsimp only
  refine Relation.ReflTransGen.tail ?_ (.endSlot _)
  refine .trans (emptied.trans (left s.output.frame _)) ?_
  split
  · refine Acts.output .refl _ (by rfl) (by rfl) (by exact id) fun h => ?_
    exact ⟨show (0 : Int) ≤ 1024 by decide, show (1024 : Int) ≤ 1024 by decide, h.2.2⟩
  · exact .refl

theorem acts_outputTick (s : State) : Acts s (outputTick s) := by
  unfold outputTick
  split
  · exact .refl
  · dsimp only
    have left (item : OutputItem) (rest : List OutputItem) :
        Acts s (leave item { s with output := { s.output with frame := rest } }) :=
      .trans (Acts.output .refl _ (by rfl) (by rfl) (by exact id) (by exact id)) (acts_leave ..)
    split
    · exact (left ..).tail (.endSlot _)
    · exact left ..


theorem freeSlots_silent {s : State} (l : List Nat) (h : s.output.playing = none) : (freeSlots l s).output.playing = none := by
  rw [(freeSlots_frees l s).playing, h]; rfl

theorem monitorFinished_silent {s : State} (i : Nat) (h : s.output.playing = none) :
    (monitorFinished i s).output.playing = none := by
  unfold monitorFinished
  dsimp only
  split
  · exact freeSlots_silent _ h
  · exact h

/-- After the slot being output has ended none is output. -/
theorem endOutputSlot_silent (s : State) : (endOutputSlot s).output.playing = none := by
  unfold endOutputSlot
  split
  · assumption
  · dsimp only
    split
    · exact freeSlots_silent _ rfl
    · split
      · exact monitorFinished_silent _ rfl
      · rfl

/-- A slot that the record monitor has not finished with is passed over: no other slot changes. -/
theorem monitorFinished_slot {s : State} {i k : Nat} (h : k ≠ i) : (monitorFinished i s).slot k = s.slot k := by
  have updated (f : Slot → Slot) : (updateSlot i f s).slot k = s.slot k := by
    rw [updateSlot, slot_setSlot, if_neg fun e => h e.1]
  unfold monitorFinished
  dsimp only
  split
  · rw [(freeSlots_frees _ _).slot, if_neg (by simpa using h), updated]
  · exact updated _

/-- Passing over WRITING slots is a chain of strokes that leaves every other slot as it is, and none being output. -/
theorem acts_passOver {l : List Nat} {s : State} (nodup : l.Nodup) (writing : ∀ i ∈ l, (s.slot i).state = .writing) :
    Acts s (passOver l s) ∧ (∀ k ∉ l, (passOver l s).slot k = s.slot k) ∧
    (s.output.playing = none → (passOver l s).output.playing = none) := by
  induction l generalizing s with
  | nil => exact ⟨.refl, fun _ _ => rfl, id⟩
  | cons i l ih =>
    obtain ⟨notMem, rest⟩ := List.nodup_cons.1 nodup
    have kept (k : Nat) (hk : k ∈ l) : (monitorFinished i s).slot k = s.slot k :=
      monitorFinished_slot fun e => notMem (e ▸ hk)
    obtain ⟨acts, slots, silent⟩ := ih (s := monitorFinished i s) rest fun k hk => by
      rw [kept k hk]; exact writing k (List.mem_cons_of_mem i hk)
    refine ⟨.head (.finished i s (writing i List.mem_cons_self)) acts, fun k hk => ?_, fun h => ?_⟩
    · obtain ⟨other, out⟩ := not_or.1 (mt List.mem_cons.2 hk)
      exact (slots k out).trans (monitorFinished_slot other)
    · exact silent (monitorFinished_silent i h)

theorem unplayed_nodup (s : State) : s.unplayed.Nodup := List.Nodup.filter _ List.nodup_range

theorem mem_unplayed {s : State} {i : Nat} (h : i ∈ s.unplayed) : (s.slot i).state = .writing := by
  have := (List.mem_filter.1 h).2
  simp only [Bool.and_eq_true, beq_iff_eq] at this
  exact this.1

theorem newest_mem {s : State} {l : List Nat} {i : Nat} (h : s.newest l = some i) : i ∈ l := by
  have folded (l : List Nat) (k : Nat) : l.foldl s.newer k = k ∨ l.foldl s.newer k ∈ l := by
    induction l generalizing k with
    | nil => exact .inl rfl
    | cons x l ih =>
      rcases ih (s.newer k x) with e | e
      · have : s.newer k x = k ∨ s.newer k x = x := by unfold State.newer; split <;> simp
        rcases this with e' | e'
        · exact .inl (e.trans e')
        · exact .inr (by rw [List.foldl_cons, e, e']; exact List.mem_cons_self)
      · exact .inr (List.mem_cons_of_mem x e)
  cases l with
  | nil => cases h
  | cons x l =>
    obtain rfl := Option.some.inj h
    rcases folded l x with e | e
    · rw [e]; exact List.mem_cons_self
    · exact List.mem_cons_of_mem x e

theorem rampStep_nonneg (ramp : Nat) : 0 ≤ rampStep ramp := Int.ediv_nonneg (by decide) (Int.natCast_nonneg ramp)

theorem acts_startFade (s : State) : Acts s (startFade s) :=
  Acts.output .refl _ (by rfl) (by rfl) (by exact id) fun h => ⟨h.1, h.2.1, rampStep_nonneg _⟩

theorem acts_setFrame (items : List OutputItem) (s : State) : Acts s (setFrame items s) :=
  Acts.output .refl _ (by rfl) (by rfl) (by exact id) (by exact id)

theorem acts_beginGap (s : State) : Acts s (beginGap s).1 := (acts_startFade s).trans (acts_setFrame ..)

theorem acts_beginInput (changing : Bool) (s : State) : Acts s (beginInput changing s).1 :=
  Acts.output .refl _ (by rfl) (by rfl) (by exact id) (by exact id)

/-- MUTED pairs keep the shared gain in range. -/
theorem underrunPairs_gain (step : Int) (hstep : 0 ≤ step) (n : Nat) (u : Conceal) (h : 0 ≤ u.gain ∧ u.gain ≤ 1024) :
    0 ≤ (underrunPairs step n u).1.gain ∧ (underrunPairs step n u).1.gain ≤ 1024 := by
  induction n generalizing u with
  | zero => exact h
  | succ n ih =>
    refine ih _ ?_
    simp only [gainDown]
    omega

theorem acts_beginUnderrun (s : State) : Acts s (beginUnderrun s).1 := by
  unfold beginUnderrun
  dsimp only
  refine .trans ?_ (acts_takePressured _)
  refine .trans ?_ (acts_setFrame ..)
  refine .tail ((Acts.count .refl .underruns 1).condition .conceal) (.conceal _ _ ?_)
  exact underrunPairs_gain _ (rampStep_nonneg _) _ _

theorem acts_beginTapeFrame {s : State} (silent : s.output.playing = none) : Acts s (beginTapeFrame s).1 := by
  unfold beginTapeFrame
  split
  · next h => exact .single (.play _ s silent (by rw [h]; rfl))
  · exact acts_beginUnderrun s

theorem judgeQ_output (s : State) : (judgeQ s).output = s.output := by
  unfold judgeQ
  split
  · rfl
  · rfl

theorem acts_beginTape {s : State} (changing : Bool) (silent : s.output.playing = none) :
    Acts s (beginTape changing s).1 := by
  unfold beginTape
  split
  · exact acts_setFrame ..
  · split
    · split
      · refine .trans ?_ (acts_beginTapeFrame (by rw [endPriming, judgeQ_output]; exact silent))
        exact .tail (Acts.output .refl _ (by rfl) (by rfl) (fun h => by cases h) (by exact id)) (.depth _)
      · exact acts_setFrame ..
    · exact acts_beginTapeFrame silent

theorem acts_beginRecord {s : State} (changing : Bool) (silent : s.output.playing = none) :
    Acts s (beginRecord changing s).1 := by
  unfold beginRecord
  split
  · exact acts_beginGap s
  · next i newest =>
    have mem := newest_mem newest
    obtain ⟨acts, slots, passed⟩ := acts_passOver (l := s.unplayed.filter (· != i)) (s := s) ((unplayed_nodup s).filter _)
      fun k hk => mem_unplayed (List.mem_of_mem_filter hk)
    have same : (passOver (s.unplayed.filter (· != i)) s).slot i = s.slot i := slots i (by simp)
    dsimp only
    rw [← same]
    refine acts.trans (.trans (.single (.monitor i _ (passed silent) ?_)) ?_)
    · rw [same]; exact mem_unplayed mem
    · exact Acts.output .refl _ (by rfl) (by rfl) (by exact id) (by exact id)

theorem acts_beginFrame {s : State} (changing : Bool) (silent : s.output.playing = none) :
    Acts s (beginFrame changing s).1 := by
  unfold beginFrame
  split
  · exact acts_beginInput ..
  · exact acts_beginTape changing silent
  · exact acts_beginRecord changing silent

theorem acts_boundaryFrame {s : State} (silent : s.output.playing = none) : Acts s (boundaryFrame s).1 := by
  have changed : Acts s (if decide (s.transport.state.monitor ≠ s.output.source) = true
        then changeSource s.transport.state.monitor s else s) ∧
      (if decide (s.transport.state.monitor ≠ s.output.source) = true
        then changeSource s.transport.state.monitor s else s).output.playing = none := by
    split
    · next change =>
      refine ⟨.single (.source s (by simpa using change)), ?_⟩
      unfold changeSource
      dsimp only
      split
      · exact freeSlots_silent _ silent
      · exact silent
    · exact ⟨.refl, silent⟩
  have passed (u : State) (h : u.output.playing = none) :
      Acts u (if u.output.source = .record then u else passOver u.unplayed u) ∧
      (if u.output.source = .record then u else passOver u.unplayed u).output.playing = none := by
    obtain ⟨acts, -, quiet⟩ := acts_passOver (unplayed_nodup u) fun k hk => mem_unplayed hk
    split
    · exact ⟨.refl, h⟩
    · exact ⟨acts, quiet h⟩
  unfold boundaryFrame
  dsimp only
  exact changed.1.trans ((passed _ changed.2).1.trans (acts_beginFrame _ (passed _ changed.2).2))

theorem acts_sendStatus (r : OutputStatus) (s : State) : Acts s (sendStatus r s) := by
  unfold sendStatus
  split
  · exact .refl
  · exact Acts.output .refl _ (by rfl) (by rfl) (by exact id) (by exact id)

/-- The state of the machine that begins the frame of a boundary: the frame before it has ended, and the word length is taken. -/
def boundaryStart (s : State) : State :=
  { finishFrame s with output := { (finishFrame s).output with wordLength := (finishFrame s).activeBank.outputWordLength } }

theorem boundaryStart_silent (s : State) : (boundaryStart s).output.playing = none := endOutputSlot_silent _

theorem acts_boundaryStart (s : State) : Acts s (boundaryStart s) :=
  (acts_finishFrame s).output _ (by rfl) (by rfl) (by exact id) (by exact id)

theorem acts_outputFrameBoundary {s t : State} (h : execOutputFrameBoundary s = .next t) : Acts s t := by
  have began : Acts (boundaryStart s) (if (boundaryStart s).output.cut then cutBoundary (boundaryStart s)
      else boundaryFrame (boundaryStart s)).1 := by
    split
    · exact .trans (Acts.output .refl _ (by rfl) (by rfl) (by exact id) (by exact id)) (acts_beginGap _)
    · exact acts_boundaryFrame (boundaryStart_silent s)
  obtain rfl := Host.Outcome.next.inj h
  exact (acts_boundaryStart s).trans (began.trans ((acts_sendStatus ..).trans (acts_settle _)))

end Sys2Proof.Machine
end

section
/-! The frame pulse, the blocks of the Head Channel and the reports of the Servo Line as chains of strokes. -/

namespace Sys2Proof.Machine

/-! ### The verify list (R58 to R60) -/

/-- A verify list without some of its entries is sound. -/
theorem verifySound_sublist {c : Coder} (h : c.verifySound) {l : List VerifyEntry} (sub : l.Sublist c.verify) :
    Coder.verifySound { c with verify := l } := by
  obtain ⟨short, nodup, sequence, entries⟩ := h
  exact ⟨sub.length_le.trans short, nodup.sublist (sub.map _), sequence, fun e he => entries e (sub.subset he)⟩

/-- The entry of the write frame counts the block supplied of it. -/
theorem verifySound_supplied {c : Coder} (h : c.verifySound) {w : WriteFrame} (current : c.current = some w)
    (more : c.sequence < 152) (bytes : List Byte) :
    Coder.verifySound { c with supplied := bytes, sequence := c.sequence + 1, verify := countSupplied w.time c.verify } := by
  obtain ⟨short, nodup, sequence, entries⟩ := h
  have times : (countSupplied w.time c.verify).map (·.frameTime) = c.verify.map (·.frameTime) := by
    rw [countSupplied, List.map_map]
    refine List.map_congr_left fun e _ => ?_
    simp only [Function.comp_apply]
    split <;> rfl
  refine ⟨by simpa [countSupplied] using short, by rw [times]; exact nodup, more, fun e he => ?_⟩
  obtain ⟨x, hx, rfl⟩ := List.mem_map.1 he
  obtain ⟨supplied, passed, places, below, counted⟩ := entries x hx
  split
  · next same =>
    have now := counted w current same.symm
    refine ⟨by simp only; omega, passed, places, fun p hp => ⟨(below p hp).1, ?_⟩, fun _ _ _ => by simp only; omega⟩
    have := (below p hp).2
    simp only
    omega
  · next other =>
    refine ⟨supplied, passed, places, below, fun v hv e => ?_⟩
    obtain rfl : w = v := Option.some.inj (current.symm.trans hv)
    exact absurd e.symm other

/-- A confidence block is counted at a place of its own, of a block already supplied. -/
theorem verifySound_check {c : Coder} (h : c.verifySound) (b : TapeBlock) (time : Nat) :
    Coder.verifySound { c with verify := c.verify.map fun e => if e.frameTime + 2 = time then e.check b else e } := by
  obtain ⟨short, nodup, sequence, entries⟩ := h
  have checkedTime (e : VerifyEntry) : (e.check b).frameTime = e.frameTime := by
    unfold VerifyEntry.check; dsimp only; split <;> rfl
  have times : (c.verify.map fun e => if e.frameTime + 2 = time then e.check b else e).map (·.frameTime) =
      c.verify.map (·.frameTime) := by
    rw [List.map_map]
    refine List.map_congr_left fun e _ => ?_
    simp only [Function.comp_apply]
    split
    · exact checkedTime e
    · rfl
  refine ⟨by simpa using short, by rw [times]; exact nodup, sequence, fun e he => ?_⟩
  obtain ⟨x, hx, rfl⟩ := List.mem_map.1 he
  have sound := entries x hx
  split
  · obtain ⟨supplied, passed, places, below, counted⟩ := sound
    unfold VerifyEntry.check
    dsimp only
    split
    · next passes =>
      obtain ⟨good, -, before, fresh⟩ := passes
      have position : b.position.toNat ≤ 75 := by
        simp only [TapeBlock.good, Bool.and_eq_true, decide_eq_true_eq] at good
        exact good.1.2
      refine ⟨supplied, by simp [passed], ?_, fun p hp => ?_, counted⟩
      · exact List.nodup_append.2 ⟨places, List.nodup_singleton _, fun p hp q hq => by
          obtain rfl := List.mem_singleton.1 hq
          rintro rfl; exact fresh hp⟩
      · rcases List.mem_append.1 hp with old | new
        · exact below p old
        · obtain rfl := List.mem_singleton.1 new
          exact ⟨position, before⟩
    · exact ⟨supplied, passed, places, below, counted⟩
  · exact sound

section
variable {s t : State}

theorem Acts.coder (h : Acts s t) (c : Coder) (current : c.current = none ∨ c.current = t.coder.current)
    (verify : t.coder.verifySound → c.verifySound) : Acts s { t with coder := c } := h.tail (.coder c t current verify)

end

/-! ### The frame pulse (R64) -/

/-- The bank switch itself (R177). -/
def switchBanks (s : State) : State :=
  { s with banks := { s.banks with active := s.banks.active.other, pendingSwitch := none } }

/-- A pulse makes a pending switch, and the neighbours follow it. -/
theorem pulseBanks_spec (s : State) : pulseBanks s = s ∨
    s.banks.pendingSwitch.isSome = true ∧ Calms (switchBanks s) (pulseBanks s) := by
  unfold pulseBanks
  split
  · exact .inl rfl
  · next port h =>
    refine .inr ⟨by rw [h]; rfl, ?_⟩
    dsimp only
    refine .trans ?_ (calms_deriveField _)
    have logged : Calms (switchBanks s) (logEntry .bankSwitch (switchBanks s).timeNow port.origin
      (switchBanks s).banks.active.code (switchBanks s)) := Calms.log .refl ..
    split
    · exact logged
    · exact logged.trans (calms_judgeLost _)

theorem acts_pulseCommit (s : State) : Acts s (pulseCommit s) := by
  unfold pulseCommit
  split
  · split
    · exact Calm.acts (.commit s)
    · exact .refl
  · exact .refl

theorem acts_pulseGate (s : State) : Acts s (pulseGate s) := by
  unfold pulseGate
  split
  · next gate =>
    split
    · dsimp only
      split
      · exact ((Acts.raise (.single (.closePulse s gate)) .punchOut).log ..).handOffIf ..
      · exact .refl
    · exact .refl
  · next gate =>
    split
    · next p punch =>
      split
      · next due =>
        have opened := Act.openGate s (by rw [punch]; rfl) (by simpa using gate) due.1
        exact ((Acts.raise opened.chain .punchIn).log ..).handOffIf ..
      · exact .refl
    · exact .refl

theorem acts_pulseCut (s : State) : Acts s (pulseCut s) := by
  unfold pulseCut
  split
  · next w current =>
    split
    · exact Acts.log (.single (.cut w s current)) ..
    · exact .refl
  · exact .refl

theorem acts_closeVerify (e : VerifyEntry) (s : State) : Acts s (closeVerify e s) := by
  unfold closeVerify
  dsimp only
  split
  · exact (((Acts.count .refl ..).condition .verify).raise .verify).log ..
  · exact Acts.count .refl ..

theorem acts_pulseVerify (q : Nat) (s : State) : Acts s (pulseVerify q s) := by
  have closed (l : List VerifyEntry) (u : State) : Acts u (l.foldl (fun s e => closeVerify e s) u) := by
    induction l generalizing u with
    | nil => exact .refl
    | cons e l ih => exact .trans (acts_closeVerify e u) (ih _)
  refine .trans (Acts.coder .refl _ (.inr (by rfl)) fun sound => ?_) (closed ..)
  exact verifySound_sublist sound List.filter_sublist

theorem acts_lateWindow (s : State) : Acts s (lateWindow s) := by
  unfold lateWindow
  dsimp only
  refine Acts.log (Acts.coder ?_ _ (.inl (by rfl)) fun sound => ?_) ..
  · refine Calm.acts (.free _ s fun i hi => .inl fun e => ?_)
    have := (List.mem_filter.1 hi).2
    simp [e] at this
  · obtain ⟨short, nodup, sequence, entries⟩ := sound
    refine ⟨short, nodup, sequence, fun e he => ?_⟩
    obtain ⟨supplied, passed, places, below, -⟩ := entries e he
    exact ⟨supplied, passed, places, below, fun _ h => by cases h⟩

theorem windowTrim_mixer (s : State) : (windowTrim s).mixer = s.mixer := by
  unfold windowTrim
  split
  · rfl
  · exact (slotWork_judgeW s).mixer

theorem windowTrim_decoder (s : State) : (windowTrim s).decoder = s.decoder := by
  unfold windowTrim
  split
  · rfl
  · exact (slotWork_judgeW s).decoder

theorem acts_pulseWindow (s : State) : Acts s (pulseWindow s) := by
  unfold pulseWindow
  split
  · next gate =>
    dsimp only
    have gate' : (windowTrim s).mixer.gateOpen = true := by rw [windowTrim_mixer]; exact gate
    refine .trans (.head (.windowTrim s gate) ?_) (Calm.acts (.free _ _ fun i hi => .inr (List.mem_of_mem_filter hi)))
    split
    · next i queued =>
      split
      · next mixed => exact .single (.window i _ gate' queued mixed)
      · exact acts_lateWindow _
    · exact acts_lateWindow _
  · exact Acts.coder .refl _ (.inr (by rfl)) (by exact id)

theorem acts_pulseConditions (s : State) : Acts s (pulseConditions s) := by
  unfold pulseConditions
  dsimp only
  split
  · split
    · exact (Acts.condition .refl .sourceLost).condition .copy
    · exact Acts.condition .refl .sourceLost
  · split
    · exact Acts.condition .refl .copy
    · exact .refl

/-- A check of the mark record leaves the entries as they are. -/
theorem acts_markCheck (m : MarkRecord) (s : State) : Acts s { s with cues := { s.cues with mark := m } } :=
  Calm.acts (.cues _ s (by exact id))

/-- The frame pulse after a bank switch: the decoder's work. -/
def pulseGather (s : State) : State := if s.decoder.gathering then gatherPulse s else judgeHoldover s

/-- What lies between the gathering and the capture slot: the takes, the record gate, the write window and the mark record. -/
def pulseHeads (q : Nat) (gathering : Bool) (s : State) : State :=
  let s := pulseGate (pulseCommit (takeFrames q s))
  let s := pulseWindow (pulseVerify q (pulseCut s))
  if gathering then { s with cues := { s.cues with mark := s.cues.mark.check s.decoder.time } } else s

theorem pulseWork_eq (s : State) : pulseWork s = mixerJudge (pulseConditions (pulseCapture
    (pulseHeads s.decoder.time (pulseBanks s).decoder.gathering (pulseGather (pulseBanks s))))) := rfl

theorem acts_pulseHeads (q : Nat) (gathering : Bool) (s : State) : Acts s (pulseHeads q gathering s) := by
  unfold pulseHeads
  dsimp only
  have worked : Acts s (pulseWindow (pulseVerify q (pulseCut (pulseGate (pulseCommit (takeFrames q s)))))) :=
    (acts_takeReady ..).trans <| (acts_pulseCommit _).trans <| (acts_pulseGate _).trans <| (acts_pulseCut _).trans <|
      (acts_pulseVerify _ _).trans (acts_pulseWindow _)
  split
  · exact worked.trans (acts_markCheck ..)
  · exact worked

/-- The work of a pulse, in four parts: the bank switch, the gathering, what lies between it and the capture slot, and what follows
the capture slot. -/
theorem execFramePulse_parts {s t : State} (h : execFramePulse s = .next t) :
    ∃ u, Acts (pulseGather (pulseBanks s)) u ∧ Acts (pulseCapture u) t := by
  obtain rfl := Host.Outcome.next.inj h
  refine ⟨pulseHeads s.decoder.time (pulseBanks s).decoder.gathering (pulseGather (pulseBanks s)), acts_pulseHeads .., ?_⟩
  rw [pulseWork_eq]
  refine .trans (.trans (.trans ((acts_pulseConditions _).trans (Calm.acts (.mix _))) ?_) (acts_judgeWaitTime _))
    (acts_settle _)
  split
  · exact acts_stepWaitFrames _
  · exact .refl

/-! ### Blocks (R54, R59, R66, R77) -/

theorem acts_blockRequest {s t : State} (h : execBlockRequest s = .next t) : Acts s t := by
  obtain rfl := Host.Outcome.next.inj h
  split
  · exact .refl
  · next w current =>
    split
    · next more =>
      have supplied (bytes : List Byte) : Acts s { s with coder := { s.coder with
          supplied := bytes, sequence := s.coder.sequence + 1, verify := countSupplied w.time s.coder.verify } } :=
        Acts.coder .refl _ (.inr (by rfl)) fun sound => verifySound_supplied sound current more bytes
      dsimp only
      split
      · exact (supplied _).tail (.supplied w _ current)
      · exact supplied _
    · exact .refl

/-- A command that brings a block does the work on it, or nothing. -/
theorem acts_onBlock {bytes : List Byte} {work : TapeBlock → State → State} {s : State}
    (h : ∀ b, Acts s (work b s)) : Acts s (onBlock bytes work s) := by
  unfold onBlock
  split
  · exact h _
  · exact .refl

theorem acts_advanceBlock {bytes : List Byte} {s t : State} (h : execAdvanceBlock bytes s = .next t) : Acts s t := by
  obtain rfl := Host.Outcome.next.inj h
  refine acts_onBlock fun b => ?_
  split
  · exact .refl
  · next g current =>
    split
    · next read => exact .single (.gather b g s current read.2.1)
    · exact .refl

theorem subcode_time {b : TapeBlock} {r : Subcode} (h : b.subcode = some r) : r.time ≤ 359999 := by
  unfold TapeBlock.subcode at h
  split at h
  · exact subcodeOf_time h
  · cases h

theorem subcodeRead_spec {s : State} {b : TapeBlock} {r : Subcode} (h : s.subcodeRead b = some r) :
    s.decoder.readMode = .subcode ∧ r.time ≤ 359999 := by
  unfold State.subcodeRead at h
  split at h
  · exact ⟨‹_›, subcode_time h⟩
  · cases h

theorem lateRead_spec {s : State} {b : TapeBlock} {r : Subcode} (h : s.lateRead b = some r) :
    s.decoder.readMode = .off ∧ r.time ≤ 359999 := by
  unfold State.lateRead at h
  split at h
  · next late => exact ⟨late.1, subcode_time h⟩
  · cases h

theorem acts_subcodeBlock {bytes : List Byte} {s t : State} (h : execSubcodeBlock bytes s = .next t) : Acts s t := by
  obtain rfl := Host.Outcome.next.inj h
  refine acts_onBlock fun b => ?_
  split
  · next h => exact acts_readSubcode (subcodeRead_spec h).2 (by rw [(subcodeRead_spec h).1]; decide)
  · next h => exact acts_readLate (lateRead_spec h).2 (by rw [(lateRead_spec h).1]; decide)
  · exact .refl

theorem acts_hunting {bytes : List Byte} {s t : State} (h : execHunting bytes s = .next t) : Acts s t := by
  obtain rfl := Host.Outcome.next.inj h
  refine acts_onBlock fun b => ?_
  split
  · next h =>
    split
    · exact acts_readSubcode (subcodeRead_spec h).2 (by rw [(subcodeRead_spec h).1]; decide)
    · exact .refl
  · exact .refl

theorem acts_confidenceBlock {bytes : List Byte} {s t : State} (h : execConfidenceBlock bytes s = .next t) : Acts s t := by
  obtain rfl := Host.Outcome.next.inj h
  exact acts_onBlock fun b => Acts.coder .refl _ (.inr (by rfl)) fun sound => verifySound_check sound b _

theorem acts_timeLost {s t : State} (h : execTimeLost s = .next t) : Acts s t := by
  obtain rfl := Host.Outcome.next.inj h
  split
  · exact .trans (.trans (calms_enterLost s).acts (acts_judgeWaitTime _)) (acts_settle _)
  · exact .refl

theorem acts_waitFramesExpiry {s t : State} (h : execWaitFramesExpiry s = .next t) : Acts s t := by
  obtain rfl := Host.Outcome.next.inj h
  split
  · exact (acts_stepWaitFrames s).trans (acts_settle _)
  · exact .refl

/-! ### The input (R43, R45) -/

theorem acts_sourceStatusRecord {status : Byte} {s t : State} (h : execSourceStatusRecord status s = .next t) :
    Acts s t := by
  obtain rfl := Host.Outcome.next.inj h
  exact .trans (.trans (Calm.input _ s).acts (calms_judgeLost _).acts) (acts_settle _)

theorem acts_inputPair {left right : BitVec 24} {s t : State} (h : execInputPair left right s = .next t) : Acts s t := by
  obtain rfl := Host.Outcome.next.inj h
  refine .trans (.trans (.trans (calms_takeSelection s).acts ?_) (acts_monitorPair _ _)) (acts_settle _)
  split
  · next i capturing => exact .single (.capture i _ _ capturing)
  · exact .refl

/-! ### The Servo Line and the timers (R111 to R115, R124) -/

theorem acts_setReport (r : Option MotionReport) (s : State) : Acts s (setReport r s) :=
  Acts.transport .refl _ (by rfl) (by rfl) (by rfl)

theorem acts_stopped {s t : State} (h : execStopped s = .next t) : Acts s t := by
  obtain rfl := Host.Outcome.next.inj h
  refine .trans ((acts_setReport (some .stopped) s).trans ?_) (acts_settle _)
  split
  · next release => exact acts_leaveFault release.1
  · exact .refl

theorem acts_punchAtSpeed (s : State) : Acts s (punchAtSpeed s) := by
  have scheduled := (calms_schedulePunchIn .internal (s.punchNow s.transport.recordOrigin) none s).acts
  unfold punchAtSpeed
  split
  · next h => rw [h] at scheduled; exact scheduled
  · next h => rw [h] at scheduled; exact scheduled
  · next h => rw [h] at scheduled; exact Acts.log scheduled ..

theorem acts_atSpeed {s t : State} (h : execAtSpeed s = .next t) : Acts s t := by
  obtain rfl := Host.Outcome.next.inj h
  refine (acts_setReport (some .atSpeed) s).trans ?_
  split
  · next starting =>
    have rolling := (Acts.raise (.single (.spinUp _ starting)) .motionDone).handOff .spunUp
    refine .trans ?_ (acts_settle _)
    split
    · exact rolling.trans (acts_punchAtSpeed _)
    · exact rolling
  · exact .refl

theorem acts_holding {s t : State} (h : execHolding s = .next t) : Acts s t := by
  obtain rfl := Host.Outcome.next.inj h
  refine (acts_setReport (some .holding) s).trans ?_
  split
  · exact Acts.raise (Acts.transport .refl _ (by rfl) (by rfl) (by rfl)) .motionDone
  · exact .refl

theorem acts_tapeIn {s t : State} (h : execTapeIn s = .next t) : Acts s t := by
  obtain rfl := Host.Outcome.next.inj h
  have present : Acts s { s with transport := { s.transport with tapePresent := true } } :=
    Acts.transport .refl _ (by rfl) (by rfl) (by rfl)
  dsimp only
  split
  · next empty =>
    have stopped := acts_enterState_steady (new := .stop) (demand := .stop)
      (s := { s with transport := { s.transport with tapePresent := true } }) (by simp [empty]) fun _ => by rfl
    exact Acts.log (Acts.raise (present.trans stopped) .tape) ..
  · exact present

theorem acts_tapeOut {s t : State} (h : execTapeOut s = .next t) : Acts s t := by
  obtain rfl := Host.Outcome.next.inj h
  split
  · exact .refl
  · have emptied := (Acts.haltList .refl .byTapeOut .internal (t := s)).trans
      (acts_closing .tapeOut .internal .tapeOut .empty _ fun _ => by rfl)
    have cleared := emptied.tail (.clearTape _ (enterState_state ..))
    exact .trans (Acts.log (Acts.raise cleared .tape) ..) (acts_settle _)

theorem acts_servo_timers {s t : State} :
    (execWinding s = .next t → Acts s t) ∧ (execTapeEndFwd s = .next t → Acts s t) ∧
    (execTapeEndRev s = .next t → Acts s t) ∧ (execMechFault s = .next t → Acts s t) ∧
    (execSpinUpTimerExpiry s = .next t → Acts s t) ∧ (execLocateTimeout s = .next t → Acts s t) ∧
    (execNoTimeExpiry s = .next t → Acts s t) := by
  have fault (argument : Nat) : Acts s (settle (enterFault argument (haltList .byFault .internal s))) :=
    .trans (.trans (Acts.haltList .refl ..) (acts_enterFault ..)) (acts_settle _)
  have failed (outcome : LocateOutcome) (h : s.locating = true) : Acts s (settle (failLocate outcome s)) := by
    refine .trans (acts_failLocate outcome fun e => ?_) (acts_settle _)
    simp [State.locating, e] at h
  refine ⟨fun h => ?_, fun h => ?_, fun h => ?_, fun h => ?_, fun h => ?_, fun h => ?_, fun h => ?_⟩ <;>
    obtain rfl := Host.Outcome.next.inj h
  · exact acts_setReport _ s
  · exact (acts_tapeEnd ..).trans (acts_settle _)
  · exact (acts_tapeEnd ..).trans (acts_settle _)
  · exact fault 0
  · split
    · exact fault 1
    · exact .refl
  · split
    · next h => exact failed _ h.1
    · exact .refl
  · split
    · next h => exact failed _ h.1
    · exact .refl

/-! ### Commands (R171 to R191) -/

/-- A setting may be written to the staged bank: its value is in range, and a take in hand keeps its format (R174, R176). -/
structure Staged (s : State) (b : Bank) : Prop where
  ranged : s.banks.stagedBank.ranged → s.banks.activeBank.ranged → b.ranged
  format : s.takeInHand = true → s.banks.pendingSwitch.isSome = true → s.switchChangesFormat = false →
    b.rate = s.banks.activeBank.rate ∧ b.tapeWordLength = s.banks.activeBank.tapeWordLength

/-- What a command does outside the strokes: the ports' queues and lines, the report of one port, the staged bank, and the resets. -/
inductive Deed : State → State → Prop
  | act {s t : State} (h : Act s t) : Deed s t
  | ports (system : SystemPort) (link : Link) (pending : List Instr) (s : State) :
      Deed s { s with system := system, link := link, pending := pending }
  | ready (s : State) : Deed s (raiseReplyReady s)
  | clear (port : Port) (s : State) : Deed s (clearReport port s)
  | mask (port : Port) (mask : BitVec 11) (s : State) :
      Deed s { s with reports := s.reports.setPort port { s.reports.port port with mask := mask } }
  | stage (b : Bank) (s : State) (staged : Staged s b) : Deed s { s with banks := s.banks.setStaged b }
  | askSwitch (port : Port) (s : State) (format : s.takeInHand = true → s.switchChangesFormat = false) :
      Deed s { s with banks := { s.banks with pendingSwitch := some port } }
  | softReset (origin : Origin) (scope : Nat) (s : State) : Deed s (softReset origin scope s)
  | powerOn (s : State) : Deed s { State.reset with pending := s.pending }

/-- A chain of deeds. -/
abbrev Deeds : State → State → Prop := Relation.ReflTransGen Deed

section
variable {s t : State}

theorem Deed.chain (h : Deed s t) : Deeds s t := .single h
theorem Acts.deeds (h : Acts s t) : Deeds s t := Relation.ReflTransGen.mono (r := Act) (fun _ _ => Deed.act) _ _ h
theorem Deeds.ports (h : Deeds s t) (system : SystemPort) (link : Link) :
    Deeds s { t with system := system, link := link } := h.tail (.ports system link t.pending t)
theorem deeds_system (x : SystemPort) (s : State) : Deeds s { s with system := x } :=
  Deed.chain (.ports x s.link s.pending s)
theorem deeds_link (x : Link) (s : State) : Deeds s { s with link := x } :=
  Deed.chain (.ports s.system x s.pending s)

end

theorem deeds_popRequest (port : Port) (s : State) : Deeds s (popRequest port s) := by
  cases port
  · exact deeds_system _ s
  · exact deeds_link _ s

theorem deeds_placeUpstream (bytes : List Byte) (s : State) : Deeds s (placeUpstream bytes s) := by
  unfold placeUpstream
  split
  · exact deeds_link _ s
  · exact .refl

theorem deeds_placeReply (ticket : Ticket) (body : List Word) (s : State) : Deeds s (placeReply ticket body s) := by
  unfold placeReply
  split
  · dsimp only
    split
    · exact deeds_system _ s
    · exact (deeds_system _ s).tail (.ready _)
  · exact deeds_placeUpstream ..

theorem deeds_setLine (l : Line) (v : LineStatus) (s : State) : Deeds s (setLine l v s) := by
  cases l
  · exact deeds_link _ s
  · exact deeds_link _ s

theorem deeds_serve {port : Port} {kind : RequestKind} {judge : Ticket → List Word → State → Judgement} {s : State}
    (h : ∀ ticket body u, Deeds u (judge ticket body u).1) : Deeds s (serve port kind judge s) := by
  unfold serve
  split
  · split
    · exact .trans (.trans ((deeds_popRequest ..).trans (h ..)) (deeds_placeReply ..)) (acts_settle _).deeds
    · exact .refl
  · exact .refl

theorem deeds_serveUnknown (port : Port) (s : State) : Deeds s (serveUnknown port s) := by
  unfold serveUnknown
  split
  · split
    · exact (deeds_popRequest ..).trans (deeds_placeReply ..)
    · exact .refl
  · exact .refl

/-- A rate in hertz names no other rate. -/
theorem hertz_injective : Function.Injective Rate.hertz := by
  intro a b h
  cases a <;> cases b <;> first | rfl | exact absurd h (by decide)

theorem bits_injective : Function.Injective WordLength.bits := by
  intro a b h
  cases a <;> cases b <;> first | rfl | exact absurd h (by decide)

theorem clamp_between {low high n : Nat} (h : low ≤ high) : low ≤ clamp low high n ∧ clamp low high n ≤ high := by
  unfold clamp; omega

/-- A setting written into a bank in range leaves it in range (R174). -/
theorem Bank.write_ranged {b c : Bank} {name : Setting} {v : Nat} (h : b.write name v = some c) (ranged : b.ranged) :
    c.ranged := by
  obtain ⟨cross, l1, l2, ramp, h1, h2, verify, copy, preroll, p1, p2⟩ := ranged
  cases name <;> simp only [Bank.write] at h
  case rate =>
    obtain ⟨r, -, rfl⟩ := Option.map_eq_some_iff.1 h
    exact ⟨cross, l1, l2, ramp, h1, h2, verify, copy, preroll, p1, p2⟩
  case tapeWordLength =>
    obtain ⟨r, -, rfl⟩ := Option.map_eq_some_iff.1 h
    exact ⟨cross, l1, l2, ramp, h1, h2, verify, copy, preroll, p1, p2⟩
  case outputWordLength =>
    obtain ⟨r, -, rfl⟩ := Option.map_eq_some_iff.1 h
    exact ⟨cross, l1, l2, ramp, h1, h2, verify, copy, preroll, p1, p2⟩
  case crossfade =>
    split at h
    · obtain rfl := Option.some.inj h
      exact ⟨‹_›, l1, l2, ramp, h1, h2, verify, copy, preroll, p1, p2⟩
    · cases h
  case lmax =>
    obtain rfl := Option.some.inj h
    have := clamp_between (n := v) (show 1 ≤ 16 by decide)
    exact ⟨cross, this.1, this.2, ramp, h1, h2, verify, copy, preroll, p1, p2⟩
  case ramp =>
    obtain ⟨r, found, rfl⟩ := Option.map_eq_some_iff.1 h
    have member : r ∈ [64, 128, 256] := List.mem_of_getElem? found
    exact ⟨cross, l1, l2, by simpa using member, h1, h2, verify, copy, preroll, p1, p2⟩
  case holdover =>
    obtain rfl := Option.some.inj h
    have := clamp_between (n := v) (show 1 ≤ 50 by decide)
    exact ⟨cross, l1, l2, ramp, this.1, this.2, verify, copy, preroll, p1, p2⟩
  case verifyThreshold =>
    obtain rfl := Option.some.inj h
    exact ⟨cross, l1, l2, ramp, h1, h2, (clamp_between (Nat.zero_le 40)).2, copy, preroll, p1, p2⟩
  case analogCopy =>
    split at h
    · obtain rfl := Option.some.inj h
      exact ⟨cross, l1, l2, ramp, h1, h2, verify, show CopyField.free ≠ .none by decide, preroll, p1, p2⟩
    · split at h
      · obtain rfl := Option.some.inj h
        exact ⟨cross, l1, l2, ramp, h1, h2, verify, show CopyField.once ≠ .none by decide, preroll, p1, p2⟩
      · cases h
  case preroll =>
    obtain rfl := Option.some.inj h
    exact ⟨cross, l1, l2, ramp, h1, h2, verify, copy, (clamp_between (Nat.zero_le 250)).2, p1, p2⟩
  case locateLimit =>
    obtain rfl := Option.some.inj h
    have := clamp_between (n := v) (show 10 ≤ 600 by decide)
    exact ⟨cross, l1, l2, ramp, h1, h2, verify, copy, preroll, this.1, this.2⟩

/-- A setting other than the rate and the tape word length leaves the format of the bank. -/
theorem Bank.write_format {b c : Bank} {name : Setting} {v : Nat} (h : b.write name v = some c) :
    (name ≠ .rate → c.rate = b.rate) ∧ (name ≠ .tapeWordLength → c.tapeWordLength = b.tapeWordLength) := by
  cases name <;> simp only [Bank.write] at h
  case rate | tapeWordLength | outputWordLength | ramp =>
    obtain ⟨r, -, rfl⟩ := Option.map_eq_some_iff.1 h
    simp
  case lmax | holdover | verifyThreshold | preroll | locateLimit =>
    obtain rfl := Option.some.inj h
    simp
  case crossfade =>
    split at h
    · obtain rfl := Option.some.inj h; simp
    · cases h
  case analogCopy =>
    split at h
    · obtain rfl := Option.some.inj h; simp
    · split at h
      · obtain rfl := Option.some.inj h; simp
      · cases h

theorem switchChangesFormat_eq_false {s : State} : s.switchChangesFormat = false ↔
    s.banks.stagedBank.rate = s.banks.activeBank.rate ∧
    s.banks.stagedBank.tapeWordLength = s.banks.activeBank.tapeWordLength := by
  simp [State.switchChangesFormat]

theorem deeds_judgeSetSetting (ticket : Ticket) (body : List Word) (s : State) :
    Deeds s (judgeSetSetting ticket body s).1 := by
  unfold judgeSetSetting
  dsimp only
  split
  · exact .refl
  · next name _ =>
    split
    · exact .refl
    · next b written =>
      split
      · exact .refl
      · next free =>
        refine Deed.chain (.stage b s ⟨fun staged _ => Bank.write_ranged written staged, fun hand pending same => ?_⟩)
        obtain ⟨rate, length⟩ := switchChangesFormat_eq_false.1 same
        obtain ⟨rateKept, lengthKept⟩ := Bank.write_format written
        have value (h : name = .rate ∨ name = .tapeWordLength) : b.value name = s.activeBank.value name := by
          by_contra differs
          exact free ⟨⟨h, differs⟩, pending, hand⟩
        refine ⟨?_, ?_⟩
        · by_cases e : name = .rate
          · subst e; exact hertz_injective (value (.inl rfl))
          · exact (rateKept e).trans rate
        · by_cases e : name = .tapeWordLength
          · subst e; exact bits_injective (value (.inr rfl))
          · exact (lengthKept e).trans length

theorem deeds_judgeSwitchBank (ticket : Ticket) (body : List Word) (s : State) :
    Deeds s (judgeSwitchBank ticket body s).1 := by
  unfold judgeSwitchBank
  split
  · exact .refl
  · split
    · exact .refl
    · next free =>
      refine Deed.chain (.askSwitch ticket.port s fun hand => ?_)
      simpa using fun changes => free ⟨hand, changes⟩

theorem deeds_judgeCopyBank (ticket : Ticket) (body : List Word) (s : State) : Deeds s (judgeCopyBank ticket body s).1 :=
  Deed.chain (.stage _ s ⟨fun _ active => active, fun _ _ _ => ⟨rfl, rfl⟩⟩)

theorem deeds_judgeSetMask (ticket : Ticket) (body : List Word) (s : State) : Deeds s (judgeSetMask ticket body s).1 := by
  unfold judgeSetMask
  dsimp only
  split
  · exact .refl
  · exact Deed.chain (.mask ..)

theorem deeds_resetAndReply (ticket : Ticket) (scope : Nat) (s : State) : Deeds s (resetAndReply ticket scope s) :=
  .head (.softReset ..) (deeds_placeReply ..)

theorem deeds_serveReset (port : Port) (s : State) : Deeds s (serveReset port s) := by
  unfold serveReset
  split
  · split
    · refine (deeds_popRequest port s).trans ?_
      dsimp only
      split
      · exact deeds_resetAndReply ..
      · split
        · exact deeds_link ..
        · exact deeds_resetAndReply ..
      · exact deeds_placeReply ..
    · exact .refl
  · exact .refl

/-- With the reply placed on a line that is UP, the error flags of both lines are cleared (R188). -/
def reportLines (s : State) : State :=
  if s.link.upstream.up then
    { s with link := { s.link with upstream := s.link.upstream.reported, downstream := s.link.downstream.reported } }
  else s

theorem deeds_reportLines (s : State) : Deeds s (reportLines s) := by
  unfold reportLines
  split
  · exact deeds_link ..
  · exact .refl

/-- A position in range is taken and answered with the status of both lines, whose error flags are then cleared. -/
theorem setConfigured_eq (ticket : Ticket) (value : Nat) (s : State) : setConfigured ticket value s =
    if 1 ≤ value ∧ value ≤ 8 then
      reportLines (placeReply ticket (replyBody setPositionCode .done
        [wordOfBytes s.link.upstream.byte s.link.downstream.byte]) { s with link := { s.link with position := some value } })
    else placeReply ticket (replyBody setPositionCode .badValue []) s := rfl

theorem deeds_setConfigured (ticket : Ticket) (value : Nat) (s : State) : Deeds s (setConfigured ticket value s) := by
  rw [setConfigured_eq]
  split
  · exact ((deeds_link _ s).trans (deeds_placeReply ..)).trans (deeds_reportLines _)
  · exact deeds_placeReply ..

theorem deeds_servePosition (port : Port) (s : State) : Deeds s (servePosition port s) := by
  unfold servePosition
  split
  · split
    · dsimp only
      split
      · exact (deeds_popRequest .link s).trans (deeds_link ..)
      · exact deeds_popRequest .link s
    · exact .refl
  · split
    · split
      · dsimp only
        split
        · exact (deeds_popRequest .system s).trans (deeds_placeReply ..)
        · exact (deeds_popRequest .link s).trans (deeds_setConfigured ..)
      · exact .refl
    · exact .refl

theorem deeds_serveAny (port : Port) (kind : RequestKind) (s : State) : Deeds s (serveAny port kind s) := by
  cases kind <;> simp only [serveAny]
  case play => exact deeds_serve fun _ _ _ => (acts_judgePlay ..).deeds
  case wind => exact deeds_serve fun _ _ _ => (acts_judgeWind ..).deeds
  case cueHold => exact deeds_serve fun _ _ _ => (acts_judgeCueHold ..).deeds
  case locate => exact deeds_serve fun _ _ _ => (acts_judgeLocate ..).deeds
  case record => exact deeds_serve fun _ _ _ => (acts_judgeRecord ..).deeds
  case schedulePunch => exact deeds_serve fun _ _ _ => (acts_judgeSchedulePunch ..).deeds
  case punchOut => exact deeds_serve fun _ _ _ => (acts_judgePunchOut ..).deeds
  case stop => exact deeds_serve fun _ _ _ => (acts_judgeStop ..).deeds
  case setControl => exact deeds_serve fun _ _ _ => (acts_judgeSetControl ..).deeds
  case selectSource => exact deeds_serve fun _ _ _ => (acts_judgeSelectSource ..).deeds
  case cueAdd => exact deeds_serve fun _ _ _ => (acts_judgeCueAdd ..).deeds
  case cueRemove => exact deeds_serve fun _ _ _ => (acts_judgeCueRemove ..).deeds
  case cueClear => exact deeds_serve fun _ _ _ => (acts_judgeCueClear ..).deeds
  case cueRead => exact deeds_serve fun _ _ _ => (acts_judgeCueRead ..).deeds
  case mark => exact deeds_serve fun _ _ _ => (acts_judgeMark ..).deeds
  case listRun => exact deeds_serve fun _ _ _ => (acts_judgeListRun ..).deeds
  case listHalt => exact deeds_serve fun _ _ _ => (acts_judgeListHalt ..).deeds
  case listWrite => exact deeds_serve fun _ _ _ => (acts_judgeListWrite ..).deeds
  case listRead => exact deeds_serve fun _ _ _ => (acts_judgeListRead ..).deeds
  case setSetting => exact deeds_serve deeds_judgeSetSetting
  case readSetting => exact deeds_serve fun _ _ _ => (acts_judgeReadSetting ..).deeds
  case switchBank => exact deeds_serve deeds_judgeSwitchBank
  case copyBank => exact deeds_serve deeds_judgeCopyBank
  case readReport => exact deeds_serve fun ticket _ u => Deed.chain (.clear ticket.port u)
  case setMask => exact deeds_serve deeds_judgeSetMask
  case logRead => exact deeds_serve fun _ _ _ => .refl
  case readIdent => exact deeds_serve fun _ _ _ => .refl
  case resetPart => exact deeds_serveReset ..
  case setPosition => exact deeds_servePosition ..

/-! ### The Studio Link (R186 to R191) -/

theorem deeds_discardPacket (l : Line) (e : PacketErrors) (s : State) : Deeds s (discardPacket l e s) :=
  .tail (deeds_setLine ..) (.act (.calm (.count ..)))

theorem deeds_receivePacket {l : Line} {e : PacketErrors} {room : Bool} {place : State → State} {s : State}
    (h : ∀ u, Deeds u (place u)) : Deeds s (receivePacket l e room place s) := by
  have idle (v : LineStatus) : Deeds s (setLine l v s) := deeds_setLine ..
  unfold receivePacket
  dsimp only
  split
  · exact .refl
  · split
    · exact idle _
    · split
      · exact (idle _).trans (deeds_discardPacket ..)
      · exact (idle _).trans (h _)
    · split
      · exact (idle _).trans (deeds_discardPacket ..)
      · split
        · exact (idle _).trans (h _)
        · exact idle _

theorem deeds_lineDown {l : Line} {s t : State} (h : execLineDown l s = .next t) : Deeds s t := by
  obtain rfl := Host.Outcome.next.inj h
  dsimp only
  have passed (u : State) : Deeds u (passChainReset l u) := by
    unfold passChainReset
    split
    · exact deeds_resetAndReply ..
    · exact .refl
  have down (v : LineStatus) : Deeds s (if (s.line l).reception = .placed then
      discardPacket l ⟨true, false⟩ (setLine l v s) else setLine l v s) := by
    split
    · exact (deeds_setLine ..).trans (deeds_discardPacket ..)
    · exact deeds_setLine ..
  split
  · exact .refl
  · refine .trans ?_ (passed _)
    cases l
    · exact (down _).trans (deeds_link ..)
    · exact down _

theorem deeds_linkRoute {ready : Bool} {s t : State} (h : execLinkRoute ready s = .next t) : Deeds s t := by
  obtain rfl := Host.Outcome.next.inj h
  split
  · exact .refl
  · dsimp only
    split
    · split
      · exact deeds_servePosition ..
      · exact deeds_link ..
    · split
      · split
        · exact deeds_serveAny ..
        · exact deeds_serveUnknown ..
      · split
        · split
          · exact deeds_link ..
          · exact .refl
        · split
          · exact (deeds_link ..).trans (deeds_placeUpstream ..)
          · exact .refl

theorem deeds_upstreamTransmit {ready : Bool} {s t : State} (h : execUpstreamTransmit ready s = .next t) : Deeds s t := by
  obtain rfl := Host.Outcome.next.inj h
  split
  · exact .refl
  · split
    · exact deeds_link ..
    · exact .refl

theorem deeds_chainResetForward {ready : Bool} {s t : State} (h : execChainResetForward ready s = .next t) : Deeds s t := by
  obtain rfl := Host.Outcome.next.inj h
  split
  · exact .refl
  · split
    · exact (deeds_link ..).trans (deeds_resetAndReply ..)
    · exact .refl

theorem deeds_linkPacketBegin {l : Line} {s t : State} (h : execLinkPacketBegin l s = .next t) : Deeds s t := by
  obtain rfl := Host.Outcome.next.inj h
  split
  · exact deeds_setLine ..
  · exact .refl

/-! ### The System Port (R185) -/

theorem deeds_answerWith (bytes : List Byte) (s : State) : Deeds s (answerWith bytes s) := deeds_system ..

theorem deeds_onTransaction {kind : TransactionKind} {bytes : List Byte} {effect : State → State} {s : State}
    (h : Deeds s (effect s)) : Deeds s (onTransaction kind bytes effect s) := by
  unfold onTransaction
  split
  · exact h
  · exact .refl

theorem deeds_send {kind : Byte} {bytes : List Byte} {s t : State} (h : execSend kind bytes s = .next t) : Deeds s t := by
  obtain rfl := Host.Outcome.next.inj h
  refine deeds_onTransaction ?_
  split
  · exact deeds_answerWith ..
  · exact deeds_answerWith ..
  · split
    · exact (deeds_system ..).trans (deeds_answerWith ..)
    · exact deeds_answerWith ..

theorem deeds_fetch {s t : State} (h : execFetch s = .next t) : Deeds s t := by
  obtain rfl := Host.Outcome.next.inj h
  refine deeds_onTransaction ?_
  split
  · exact deeds_answerWith ..
  · exact (deeds_system ..).trans (deeds_answerWith ..)

end Sys2Proof.Machine
end

section
/-! What every stroke keeps of the Report Unit, the cue table, the sizes, the tape time, the gains, the settings and the format of a
take. Lemmas for O55, O57 and O58. -/

namespace Sys2Proof.Machine

-- One theorem after another: each one elaborated at the same time would hold a stack of its own.
set_option Elab.async false

/-- The bounds that hold block by block go from `s` on to `t`, and the banks and the ports are as they were. -/
structure Kept (s t : State) : Prop where
  reports : s.reports.within → t.reports.within := by exact id
  cues : s.cues.ordered → t.cues.ordered := by exact id
  slots : t.store.slots.length = s.store.slots.length := by rfl
  entries : t.sequencer.entries.length = s.sequencer.entries.length := by rfl
  ranged : s.decoder.ranged → t.decoder.ranged := by exact id
  gains : s.gainsWithin → t.gainsWithin := by exact id
  banks : t.banks = s.banks := by rfl
  holdover : s.decoder.holdover ≤ s.activeBank.holdover → t.decoder.holdover ≤ s.activeBank.holdover := by exact id
  format : s.formatKept → t.formatKept := by exact id
  system : t.system = s.system := by rfl
  link : t.link = s.link := by rfl
  pending : t.pending = s.pending := by rfl

section
variable {s t u : State}

theorem Kept.refl (s : State) : Kept s s where

theorem Kept.activeBank (h : Kept s t) : t.activeBank = s.activeBank := by simp only [State.activeBank, h.banks]

theorem Kept.trans (h : Kept s t) (k : Kept t u) : Kept s u where
  reports := k.reports ∘ h.reports
  cues := k.cues ∘ h.cues
  slots := k.slots.trans h.slots
  entries := k.entries.trans h.entries
  ranged := k.ranged ∘ h.ranged
  gains := k.gains ∘ h.gains
  banks := k.banks.trans h.banks
  holdover := fun within => by
    have := k.holdover
    rw [h.activeBank] at this
    exact this (h.holdover within)
  format := k.format ∘ h.format
  system := k.system.trans h.system
  link := k.link.trans h.link
  pending := k.pending.trans h.pending

theorem SlotWork.kept (h : SlotWork s t) : Kept s t where
  reports := fun within => by rw [h.reports]; exact within
  cues := fun ordered => by rw [h.cues]; exact ordered
  slots := h.slots
  entries := by rw [h.sequencer]
  ranged := fun ranged => by rw [h.decoder]; exact ranged
  gains := fun gains => by
    unfold State.gainsWithin
    rw [h.conceal, h.output]
    exact gains
  banks := h.banks
  holdover := fun within => by rw [h.decoder]; exact within
  format := fun kept => by
    unfold State.formatKept State.takeInHand State.switchChangesFormat
    rw [h.mixer, h.banks]
    exact kept
  system := h.system
  link := h.link
  pending := h.pending

theorem Kept.slotWork (h : Kept s t) (k : SlotWork t u) : Kept s u := h.trans k.kept

theorem Kept.count (h : Kept s t) (c : Counter) (n : Nat) : Kept s (count c n t) :=
  h.trans { reports := fun within => within_count within c n }

theorem Kept.raise (h : Kept s t) (f : Flag) : Kept s (raiseFlag f t) :=
  h.trans { reports := fun within => within_raiseFlag within f }

theorem Kept.log (h : Kept s t) (kind : LogKind) (time : Option Nat) (origin : Origin) (argument : Nat) :
    Kept s (logEntry kind time origin argument t) :=
  h.trans { reports := fun within => within_logEntry within kind time origin argument }

theorem Kept.handOffIf (h : Kept s t) (c : Bool) (x : Handoff) : Kept s (handOffIf c x t) := by
  cases c
  · exact h
  · exact h.trans {}

/-- A change of the punch records that puts no take in hand keeps the format of a take. -/
theorem kept_mixer (m : Mixer) (s : State) (hand : (m.punchIn.isSome || m.gateOpen) = true → s.takeInHand = true) :
    Kept s { s with mixer := m } where
  format := fun kept h => kept (hand h)

theorem kept_clearPunches (s : State) : Kept s (clearPunches s) := kept_mixer _ s fun h => by cases h

theorem kept_cancelPunch (reason : CancelReason) (s : State) : Kept s (cancelPunch reason s) := by
  unfold cancelPunch
  split
  · split
    · exact .refl s
    · exact (((kept_clearPunches s).slotWork (slotWork_spanChanged _).1).log ..).handOffIf ..
  · exact .refl s

theorem ranged_setFrom {d : Decoder} {v : Nat} (h : v ≤ 359999) : (d.setFrom v).ranged := by
  unfold Decoder.setFrom
  split
  · exact ⟨by simp only; omega, Nat.zero_le 2, fun h => by cases h⟩
  · exact ⟨Nat.zero_le _, by simp only; omega, fun _ => rfl⟩

theorem kept_jumpTo {v : Nat} (c : Nat) (s : State) (time : v ≤ 359999) : Kept s (jumpTo v c s) := by
  have located : Kept s (setStatus .locked 0 { s with decoder := s.decoder.setFrom v }) :=
    { ranged := fun _ => ranged_setFrom time, holdover := fun _ => Nat.zero_le _ }
  exact ((located.count ..).log ..).trans (kept_cancelPunch ..)

/-- Every calm stroke keeps the bounds. -/
theorem Calm.kept (h : Calm s t) : Kept s t := by
  cases h with
  | count => exact (Kept.refl s).count ..
  | raise => exact (Kept.refl s).raise ..
  | log => exact (Kept.refl s).log ..
  | sequencer _ _ size => exact { entries := size }
  | cues _ _ order => exact { cues := order }
  | input => exact {}
  | copy => exact {}
  | status _ _ _ limit => exact { holdover := fun _ => limit }
  | marks => exact {}
  | cancel => exact (kept_clearPunches s).slotWork (slotWork_spanChanged _).1
  | punchOut o =>
    exact (kept_mixer { s.mixer with punchOut := o, committed := false } s (by exact id)).slotWork (slotWork_spanChanged _).1
  | schedule p o _ tests =>
    refine Kept.slotWork ?_ (slotWork_spanChanged _).1
    refine { format := fun _ _ pending => ?_ }
    unfold State.punchInTests at tests
    split_ifs at tests with _ _ _ locked
    show s.switchChangesFormat = false
    simpa using fun changes => locked ⟨pending, changes⟩
  | commit => exact kept_mixer { s.mixer with committed := true } s (by exact id)
  | jump _ _ _ _ time => exact kept_jumpTo _ s time
  | mix => exact (slotWork_mixerJudge s).kept
  | free l => exact (slotWork_freeSlots l s).kept

theorem Calms.kept (h : Calms s t) : Kept s t := by
  induction h with
  | refl => exact .refl s
  | tail _ stroke ih => exact ih.trans stroke.kept

/-! ### Changes of transport state -/

theorem kept_cut (o : Output) (c : Coder) (s : State) (gain : o.fadeGain = s.output.fadeGain)
    (step : o.fadeStep = s.output.fadeStep) : Kept s { s with output := o, coder := c } where
  gains := fun h => by
    unfold State.gainsWithin
    simp only [gain, step]
    exact h

theorem kept_closeGate (s : State) : Kept s (closeGate s) := by
  unfold closeGate
  dsimp only
  generalize hu : freeSlots (s.slotsWhere fun v => v.state == .writing || v.oldConcealed) s = u
  have freed : Kept s u := hu ▸ (slotWork_freeSlots _ s).kept
  have closed := freed.trans (kept_cut { u.output with cut := u.output.cut || s.monitored }
    { u.coder with writeOn := false, current := none } u rfl rfl)
  exact (closed.trans (kept_clearPunches _)).slotWork (slotWork_spanChanged _).1

theorem kept_closeAtOnce (event : ClosingEvent) (origin : Origin) (s : State) : Kept s (closeAtOnce event origin s) := by
  unfold closeAtOnce
  split
  · exact (((kept_closeGate s).raise _).log ..).handOffIf ..
  · exact .refl s

theorem kept_leaveRolling (s : State) : Kept s (leaveRolling s) := by
  unfold leaveRolling
  dsimp only
  generalize hu : freeSlots (s.slotsWhere fun v =>
    v.state == .gathering || v.state == .corrected || v.state == .capturing || v.state == .captured ||
    v.state == .mixed || v.state == .writing || v.oldConcealed) s = u
  have freed : Kept s u := hu ▸ (slotWork_freeSlots _ s).kept
  generalize hw : cancelPunch .motion u = w
  have cancelled : Kept s w := freed.trans (hw ▸ kept_cancelPunch .motion u)
  exact cancelled.trans {}

theorem kept_enterState (new : TransportState) (demand : Demand) (s : State) : Kept s (enterState new demand s) := by
  have changed : Kept s (entered new demand s) := {}
  have started (u : State) : Kept u (startRolling u) := { gains := fun h => ⟨le_rfl, show (0 : Int) ≤ 1024 by decide, h.2.2⟩ }
  by_cases old : s.transport.state.rolling = true
  · by_cases rolling : new.rolling = true
    · rw [enterState_steady (old.trans rolling.symm)]; exact changed
    · rw [enterState_leave old (by simpa using rolling)]; exact changed.trans (kept_leaveRolling _)
  · by_cases rolling : new.rolling = true
    · rw [enterState_start (by simpa using old) rolling]; exact changed.trans (started _)
    · rw [enterState_steady (by simp_all)]; exact changed

/-! ### The slots and the output -/

/-- A slot's record is written, and the collections with it. -/
theorem slotWork_store (i : Nat) (v : Slot) (s : State) (x : FrameStore) (h : x.slots = s.store.slots.set i v) :
    SlotWork s { s with store := x } := by
  constructor <;> first | rfl | exact id | simp only [h, List.length_set]

theorem slotWork_updateSlot (i : Nat) (f : Slot → Slot) (s : State) : SlotWork s (updateSlot i f s) := slotWork_setSlot ..

theorem slotWork_joinOutput (last i : Nat) (s : State) : ∃ n, SlotWork (count .framesDropped n s) (joinOutput last i s) := by
  unfold joinOutput
  dsimp only
  generalize (s.outOfOrder ((s.slot i).frameTime.getD 0)).length = n
  refine ⟨n, .trans ?_ (slotWork_mixerJudge _)⟩
  generalize s.outOfOrder ((s.slot i).frameTime.getD 0) = l
  have freed : SlotWork (count .framesDropped n s) (count .framesDropped n (freeSlots l s)) := by
    have h := slotWork_freeSlots l s
    exact ⟨h.transport, h.slots, h.coder, h.decoder, h.conceal, h.output, h.mixer, h.sequencer, h.cues, h.current,
      h.latched, h.heldTape, h.input, h.banks, by simp only [count, h.reports], h.system, h.link, h.pending⟩
  have moved (u : State) : SlotWork u (withDepths (fun t => { t with store := { t.store with
      gatherList := t.store.gatherList.filter (· != i), outputQueue := t.store.outputQueue ++ [i] } }) u) :=
    slotWork_withDepths (by constructor <;> first | rfl | exact id)
  split
  · exact freed.trans ((moved _).trans (slotWork_freeSlots _ _))
  · exact freed.trans (moved _)

theorem soundPair_gain (step : Int) (v : Pair) (u : Conceal) : (soundPair step v u).1.gain = min 1024 (u.gain + step) := rfl

theorem mutedPair_gain (step : Int) (u : Conceal) : (mutedPair step u).1.gain = max 0 (u.gain - step) := rfl

/-- Work through a frame keeps the shared gain in range. -/
theorem concealPairs_gain (lmax : Nat) {step : Int} (hstep : 0 ≤ step) (ahead : LookAhead) (l : List (Pair × Bool))
    (u : Conceal) (h : 0 ≤ u.gain ∧ u.gain ≤ 1024) :
    0 ≤ (concealPairs lmax step ahead l u).unit.gain ∧ (concealPairs lmax step ahead l u).unit.gain ≤ 1024 := by
  induction l generalizing u with
  | nil => exact h
  | cons x l ih =>
    obtain ⟨p, good⟩ := x
    cases good with
    | true =>
      refine ih _ ?_
      show 0 ≤ min 1024 (u.gain + step) ∧ min 1024 (u.gain + step) ≤ 1024
      omega
    | false =>
      unfold concealPairs
      dsimp only
      split
      · refine ih _ ?_
        simp only [soundPair_gain]
        omega
      · refine ih _ ?_
        simp only [mutedPair_gain]
        omega

theorem kept_takeFrame (last i : Nat) (ahead : LookAhead) (s : State) : Kept s (takeFrame last i ahead s) := by
  unfold takeFrame
  dsimp only
  generalize hr : concealPairs (s.slot i).closeLmax (rampStep (s.slot i).closeRamp) ahead (s.slot i).stream s.conceal = r
  have gain := concealPairs_gain (s.slot i).closeLmax (rampStep_nonneg (s.slot i).closeRamp) ahead (s.slot i).stream s.conceal
  rw [hr] at gain
  have gained : Kept s { s with conceal := r.unit } :=
    { gains := fun h => ⟨(gain ⟨h.1, h.2.1⟩).1, (gain ⟨h.1, h.2.1⟩).2, h.2.2⟩ }
  have joined (u : State) : Kept u (joinOutput last i u) := by
    obtain ⟨n, work⟩ := slotWork_joinOutput last i u
    exact ((Kept.refl u).count .framesDropped n).slotWork work
  have written := gained.slotWork (slotWork_setSlot i { s.slot i with
    state := .concealed, pairs := r.pairs, interpolated := r.interpolated, gaps := r.gaps } { s with conceal := r.unit })
  refine .trans (.trans written ?_) (joined _)
  split
  · exact .refl _
  · exact ((Kept.refl _).count ..).trans {}

theorem slotWork_completeCapture (i : Nat) (s : State) : SlotWork s (completeCapture i s) := by
  unfold completeCapture
  exact .trans (slotWork_withDepths (slotWork_store i { s.slot i with state := .captured } s _ (by rfl))) (slotWork_mixerJudge _)

theorem kept_capturePair (i : Nat) (p : Pair × Bool) (s : State) : Kept s (capturePair i p s) := by
  unfold capturePair
  dsimp only
  generalize hu : updateSlot i _ s = u
  have filled : Kept s u := hu ▸ (slotWork_updateSlot i _ s).kept
  generalize hw : (if (s.slot i).pairs.isEmpty = true then combineEntry i u else u) = w
  have combined : Kept s w := by
    subst hw
    split
    · exact filled.trans (calms_combineEntry i u).kept
    · exact filled
  split
  · exact combined.slotWork (slotWork_completeCapture i w)
  · exact combined

theorem slotWork_monitorFinished (i : Nat) (s : State) : SlotWork s (monitorFinished i s) := by
  unfold monitorFinished
  dsimp only
  split
  · exact (slotWork_updateSlot ..).trans (slotWork_freeSlots ..)
  · exact slotWork_updateSlot ..

theorem slotWork_endOutputSlot (s : State) : SlotWork s (endOutputSlot s) := by
  unfold endOutputSlot
  split
  · exact .refl s
  · have silent : SlotWork s { s with output := { s.output with playing := none } } := by
      constructor <;> first | rfl | exact id
    dsimp only
    split
    · exact silent.trans (slotWork_freeSlots ..)
    · split
      · exact silent.trans (slotWork_monitorFinished ..)
      · exact silent

theorem slotWork_supplyFinished (i : Nat) (s : State) : SlotWork s (supplyFinished i s) := by
  unfold supplyFinished
  dsimp only
  split
  · exact (slotWork_updateSlot ..).trans (slotWork_freeSlots ..)
  · exact slotWork_updateSlot ..

theorem slotWork_windowTrim (s : State) : SlotWork s (windowTrim s) := by
  unfold windowTrim
  split
  · exact slotWork_setTrim ..
  · exact slotWork_judgeW s

theorem kept_changeSource (new : MonitorSource) (s : State) : Kept s (changeSource new s) := by
  unfold changeSource
  dsimp only
  have freed : Kept s (if s.output.source = .tape then freeSlots s.playSlots s else s) := by
    split
    · exact (slotWork_freeSlots ..).kept
    · exact .refl s
  exact freed.trans { gains := fun h => ⟨h.1, h.2.1, h.2.2.1, h.2.2.2.1, rampStep_nonneg _⟩ }

theorem kept_beginPlaying (i : Nat) (s : State) : Kept s (beginPlaying i s).1 := by
  unfold beginPlaying
  dsimp only
  generalize hu : withDepths _ s = u
  have moved : Kept s u := hu ▸ (slotWork_withDepths (slotWork_store i { s.slot i with state := .playing } s _ (by rfl))).kept
  exact moved.trans {}

theorem kept_takeWindow (i : Nat) (s : State) : Kept s (takeWindow i s) := by
  unfold takeWindow
  dsimp only
  generalize hu : withDepths _ s = u
  have moved : Kept s u := hu ▸ (slotWork_withDepths (slotWork_store i
    { s.slot i with state := .writing, start := (s.cues.mark.window s.decoder.time).1.isSome } s _ (by rfl))).kept
  exact moved.trans {}

theorem kept_findGatherSlot (s : State) : Kept s (findGatherSlot s).1 := by
  unfold findGatherSlot
  split
  · exact .refl s
  · split
    · exact .refl s
    · exact (slotWork_freeSlots _ s).kept.count ..

theorem kept_openGather (g : GatherFrame) (s : State) : Kept s (openGather g s).1 := by
  have found := kept_findGatherSlot s
  unfold openGather
  split
  · next h =>
    rw [h] at found
    exact (found.slotWork (slotWork_setSlot ..)).trans {}
  · next h =>
    rw [h] at found
    exact found

theorem kept_placeBlock (b : TapeBlock) (g : GatherFrame) (s : State) : Kept s (placeBlock b g s).1 := by
  unfold placeBlock
  split
  · exact .refl s
  · dsimp only
    split
    · split
      · exact .refl s
      · exact .refl s
    · split
      · exact kept_openGather g s
      · exact kept_openGather g s

theorem kept_takeBlock (b : TapeBlock) (g : GatherFrame) (s : State) : Kept s (takeBlock b g s) := by
  have current (h : GatherFrame) (u : State) : Kept u (placeCurrent b h u) := (kept_placeBlock b h u).trans {}
  have next (h : GatherFrame) (u : State) : Kept u (placeNext b h u) := (kept_placeBlock b h u).trans {}
  have acquired (c : Bool) (h : GatherFrame) (n : Option GatherFrame) :
      Kept s (if c = true then placeCurrent b h { s with decoder := { s.decoder with next := n } } else s) := by
    split
    · exact .trans {} (current ..)
    · exact .refl s
  unfold takeBlock
  dsimp only
  split
  · exact current ..
  · split
    · split
      · exact next ..
      · exact acquired ..
    · split
      · exact .refl s
      · exact acquired ..

/-- Every stroke keeps the bounds. -/
theorem Act.kept (h : Act s t) : Kept s t := by
  cases h with
  | calm h => exact h.kept
  | move q r new demand _ _ _ size => exact .trans { entries := size } (kept_enterState ..)
  | closing => exact (kept_closeAtOnce ..).trans (kept_enterState ..)
  | closeIdle => exact kept_closeAtOnce ..
  | lateReads => exact {}
  | transport => exact {}
  | steer => exact {}
  | spinUp => exact kept_enterState ..
  | openGate _ punch =>
    refine Kept.slotWork (.trans (kept_mixer _ s fun _ => ?_) (kept_enterState ..)) (slotWork_spanChanged _).1
    simp [State.takeInHand, punch]
  | closePulse => exact ((kept_clearPunches s).slotWork (slotWork_spanChanged _).1).trans (kept_enterState ..)
  | readTime time _ range =>
    exact { ranged := fun _ => ⟨range, Nat.zero_le 2, fun h => by cases h⟩, holdover := fun _ => Nat.zero_le _ }
  | clearTape =>
    exact {
      cues := fun _ => ⟨Nat.zero_le _, List.Pairwise.nil, fun _ h => by cases h⟩
      ranged := fun _ => ⟨Nat.zero_le _, Nat.zero_le _, fun _ => rfl⟩
      holdover := fun _ => Nat.zero_le _ }
  | take => exact kept_takeFrame ..
  | capture => exact kept_capturePair ..
  | output o _ _ _ _ gains => exact { gains := fun h => ⟨h.1, h.2.1, gains h.2.2⟩ }
  | endSlot => exact (slotWork_endOutputSlot s).kept
  | source => exact kept_changeSource ..
  | finished => exact (slotWork_monitorFinished ..).kept
  | play => exact kept_beginPlaying ..
  | monitor => exact (slotWork_setSlot _ _ s).kept.trans {}
  | conceal u _ gain => exact { gains := fun h => ⟨(gain ⟨h.1, h.2.1⟩).1, (gain ⟨h.1, h.2.1⟩).2, h.2.2⟩ }
  | depth => exact (slotWork_judgeQ s).kept
  | cut => exact .trans {} (slotWork_supplyFinished ..).kept
  | windowTrim => exact (slotWork_windowTrim s).kept
  | window => exact kept_takeWindow ..
  | coder => exact {}
  | supplied => exact (slotWork_supplyFinished ..).kept
  | gather => exact kept_takeBlock ..

theorem Acts.kept (h : Acts s t) : Kept s t := by
  induction h with
  | refl => exact .refl s
  | tail _ stroke ih => exact ih.trans stroke.kept

end

end Sys2Proof.Machine
end

section
/-! The commands, sorted by what they do: a request served, work on the ports, the frame pulse, and a chain of strokes. -/

namespace Sys2Proof.Machine

/-- The commands of the System Port and of the lines, and the power-on reset. -/
def portWork : Instr → Bool
  | .powerOnReset | .send .. | .fetch | .otherTransaction .. | .sendAbandoned | .fetchAbandoned | .unknownRequestKind ..
  | .linkRequestPacket .. | .linkReplyPacket .. | .lineUp .. | .lineDown .. | .linkRoute .. | .upstreamTransmit ..
  | .chainResetForward .. | .linkPacketBegin .. => true
  | _ => false

theorem handoffsTaken_takeHandoffs (s : State) : (takeHandoffs s).handoffsTaken := by
  unfold State.handoffsTaken takeHandoffs
  dsimp only
  split
  · rfl
  · split
    · unfold endEntry
      dsimp only
      split <;> rfl
    · rfl

/-- Work that settles leaves no hand-off. -/
theorem handoffsTaken_settle (s : State) : (settle s).handoffsTaken := handoffsTaken_takeHandoffs _

theorem sequencer_findGatherSlot (s : State) : (findGatherSlot s).1.sequencer = s.sequencer := by
  unfold findGatherSlot
  split
  · rfl
  · split
    · rfl
    · exact (slotWork_freeSlots _ s).sequencer

theorem sequencer_openGather (g : GatherFrame) (s : State) : (openGather g s).1.sequencer = s.sequencer := by
  have found := sequencer_findGatherSlot s
  unfold openGather
  split <;> next h => rw [h] at found; exact found

theorem sequencer_placeBlock (b : TapeBlock) (g : GatherFrame) (s : State) : (placeBlock b g s).1.sequencer = s.sequencer := by
  unfold placeBlock
  split
  · rfl
  · dsimp only
    split
    · split <;> rfl
    · split <;> exact sequencer_openGather g s

theorem sequencer_takeBlock (b : TapeBlock) (g : GatherFrame) (s : State) : (takeBlock b g s).sequencer = s.sequencer := by
  have acquired (c : Bool) (h : GatherFrame) (n : Option GatherFrame) :
      (if c = true then placeCurrent b h { s with decoder := { s.decoder with next := n } } else s).sequencer = s.sequencer := by
    split
    · exact sequencer_placeBlock ..
    · rfl
  unfold takeBlock
  dsimp only
  split
  · exact sequencer_placeBlock ..
  · split
    · split
      · exact sequencer_placeBlock ..
      · exact acquired ..
    · split
      · rfl
      · exact acquired ..

theorem sequencer_leave (item : OutputItem) (s : State) : (leave item s).sequencer = s.sequencer := by cases item <;> rfl

theorem sequencer_outputTick (s : State) : (outputTick s).sequencer = s.sequencer := by
  unfold outputTick
  split
  · rfl
  · dsimp only
    split
    · exact (slotWork_endOutputSlot _).sequencer.trans (sequencer_leave ..)
    · exact sequencer_leave ..

section
variable {s t : State}

theorem handoffsTaken_onBlock {bytes : List Byte} {work : TapeBlock → State → State} (taken : s.handoffsTaken)
    (h : ∀ b, (work b s).handoffsTaken) : (onBlock bytes work s).handoffsTaken := by
  unfold onBlock
  split
  · exact h _
  · exact taken

/-- Any other command but a frame pulse serves a request, or is a chain of strokes that leaves no hand-off. -/
theorem exec_cases {c : Instr} (h : exec c s = .next t) (pulse : c ≠ .framePulse) (work : portWork c = false) :
    (∃ port kind, t = serveAny port kind s) ∨ Acts s t ∧ (s.handoffsTaken → t.handoffsTaken) := by
  have served (port : Port) (kind : RequestKind) (e : exec c s = .next (serveAny port kind s)) :
      (∃ port kind, t = serveAny port kind s) ∨ Acts s t ∧ (s.handoffsTaken → t.handoffsTaken) :=
    .inl ⟨port, kind, Host.Outcome.next.inj (h.symm.trans e)⟩
  cases c
  all_goals try exact absurd work Bool.false_ne_true.symm
  case framePulse => exact absurd rfl pulse
  case play port => exact served port .play rfl
  case wind port => exact served port .wind rfl
  case cueHold port => exact served port .cueHold rfl
  case locate port => exact served port .locate rfl
  case record port => exact served port .record rfl
  case schedulePunch port => exact served port .schedulePunch rfl
  case punchOut port => exact served port .punchOut rfl
  case stop port => exact served port .stop rfl
  case setControl port => exact served port .setControl rfl
  case selectSource port => exact served port .selectSource rfl
  case cueAdd port => exact served port .cueAdd rfl
  case cueRemove port => exact served port .cueRemove rfl
  case cueClear port => exact served port .cueClear rfl
  case cueRead port => exact served port .cueRead rfl
  case mark port => exact served port .mark rfl
  case listRun port => exact served port .listRun rfl
  case listHalt port => exact served port .listHalt rfl
  case listWrite port => exact served port .listWrite rfl
  case listRead port => exact served port .listRead rfl
  case setSetting port => exact served port .setSetting rfl
  case readSetting port => exact served port .readSetting rfl
  case switchBank port => exact served port .switchBank rfl
  case copyBank port => exact served port .copyBank rfl
  case readReport port => exact served port .readReport rfl
  case setMask port => exact served port .setMask rfl
  case logRead port => exact served port .logRead rfl
  case readIdent port => exact served port .readIdent rfl
  case resetPart port => exact served port .resetPart rfl
  case setPosition port => exact served port .setPosition rfl
  all_goals refine .inr ⟨?_, fun taken => ?_⟩
  case blockRequest.refine_1 => exact acts_blockRequest h
  case blockRequest.refine_2 =>
    obtain rfl := Host.Outcome.next.inj h
    split
    · exact taken
    · split
      · dsimp only
        split
        · exact (congrArg Sequencer.handoffs (slotWork_supplyFinished ..).sequencer).trans taken
        · exact taken
      · exact taken
  case advanceBlock.refine_1 => exact acts_advanceBlock h
  case advanceBlock.refine_2 =>
    obtain rfl := Host.Outcome.next.inj h
    refine handoffsTaken_onBlock taken fun b => ?_
    split
    · exact taken
    · split
      · exact (congrArg Sequencer.handoffs (sequencer_takeBlock ..)).trans taken
      · exact taken
  case subcodeBlock.refine_1 => exact acts_subcodeBlock h
  case subcodeBlock.refine_2 =>
    obtain rfl := Host.Outcome.next.inj h
    refine handoffsTaken_onBlock taken fun b => ?_
    split
    · exact handoffsTaken_settle _
    · exact handoffsTaken_settle _
    · exact taken
  case confidenceBlock.refine_1 => exact acts_confidenceBlock h
  case confidenceBlock.refine_2 =>
    obtain rfl := Host.Outcome.next.inj h
    exact handoffsTaken_onBlock taken fun b => taken
  case hunting.refine_1 => exact acts_hunting h
  case hunting.refine_2 =>
    obtain rfl := Host.Outcome.next.inj h
    refine handoffsTaken_onBlock taken fun b => ?_
    split
    · split
      · exact handoffsTaken_settle _
      · exact taken
    · exact taken
  case stopped.refine_1 => exact acts_stopped h
  case stopped.refine_2 => obtain rfl := Host.Outcome.next.inj h; exact handoffsTaken_settle _
  case atSpeed.refine_1 => exact acts_atSpeed h
  case atSpeed.refine_2 =>
    obtain rfl := Host.Outcome.next.inj h
    dsimp only
    split
    · exact handoffsTaken_settle _
    · exact taken
  case winding.refine_1 => exact acts_servo_timers.1 h
  case winding.refine_2 => obtain rfl := Host.Outcome.next.inj h; exact taken
  case holding.refine_1 => exact acts_holding h
  case holding.refine_2 =>
    obtain rfl := Host.Outcome.next.inj h
    dsimp only
    split <;> exact taken
  case tapeIn.refine_1 => exact acts_tapeIn h
  case tapeIn.refine_2 =>
    obtain rfl := Host.Outcome.next.inj h
    dsimp only
    split
    · next empty =>
      rw [enterState_steady (by rw [empty]; rfl)]
      exact taken
    · exact taken
  case tapeOut.refine_1 => exact acts_tapeOut h
  case tapeOut.refine_2 =>
    obtain rfl := Host.Outcome.next.inj h
    split
    · exact taken
    · exact handoffsTaken_settle _
  case tapeEndFwd.refine_1 => exact acts_servo_timers.2.1 h
  case tapeEndFwd.refine_2 => obtain rfl := Host.Outcome.next.inj h; exact handoffsTaken_settle _
  case tapeEndRev.refine_1 => exact acts_servo_timers.2.2.1 h
  case tapeEndRev.refine_2 => obtain rfl := Host.Outcome.next.inj h; exact handoffsTaken_settle _
  case mechFault.refine_1 => exact acts_servo_timers.2.2.2.1 h
  case mechFault.refine_2 => obtain rfl := Host.Outcome.next.inj h; exact handoffsTaken_settle _
  case spinUpTimerExpiry.refine_1 => exact acts_servo_timers.2.2.2.2.1 h
  case spinUpTimerExpiry.refine_2 =>
    obtain rfl := Host.Outcome.next.inj h
    split
    · exact handoffsTaken_settle _
    · exact taken
  case locateTimeout.refine_1 => exact acts_servo_timers.2.2.2.2.2.1 h
  case locateTimeout.refine_2 =>
    obtain rfl := Host.Outcome.next.inj h
    split
    · exact handoffsTaken_settle _
    · exact taken
  case noTimeExpiry.refine_1 => exact acts_servo_timers.2.2.2.2.2.2 h
  case noTimeExpiry.refine_2 =>
    obtain rfl := Host.Outcome.next.inj h
    split
    · exact handoffsTaken_settle _
    · exact taken
  case sourceStatusRecord.refine_1 => exact acts_sourceStatusRecord h
  case sourceStatusRecord.refine_2 => obtain rfl := Host.Outcome.next.inj h; exact handoffsTaken_settle _
  case inputPair.refine_1 => exact acts_inputPair h
  case inputPair.refine_2 => obtain rfl := Host.Outcome.next.inj h; exact handoffsTaken_settle _
  case timeLost.refine_1 => exact acts_timeLost h
  case timeLost.refine_2 =>
    obtain rfl := Host.Outcome.next.inj h
    split
    · exact handoffsTaken_settle _
    · exact taken
  case waitFramesExpiry.refine_1 => exact acts_waitFramesExpiry h
  case waitFramesExpiry.refine_2 =>
    obtain rfl := Host.Outcome.next.inj h
    split
    · exact handoffsTaken_settle _
    · exact taken
  case outputFrameBoundary.refine_1 => exact acts_outputFrameBoundary h
  case outputFrameBoundary.refine_2 => obtain rfl := Host.Outcome.next.inj h; exact handoffsTaken_settle _

/-- What a command other than a frame pulse does is a chain of deeds. -/
theorem exec_deeds {c : Instr} (h : exec c s = .next t) (pulse : c ≠ .framePulse) : Deeds s t := by
  cases work : portWork c with
  | false =>
    rcases exec_cases h pulse work with ⟨port, kind, rfl⟩ | ⟨acts, -⟩
    · exact deeds_serveAny port kind s
    · exact acts.deeds
  | true =>
    cases c
    all_goals try exact absurd work Bool.false_ne_true
    case powerOnReset => obtain rfl := Host.Outcome.next.inj h; exact Deed.chain (.powerOn s)
    case send => exact deeds_send h
    case fetch => exact deeds_fetch h
    case otherTransaction =>
      obtain rfl := Host.Outcome.next.inj h
      exact deeds_onTransaction (deeds_answerWith ..)
    case sendAbandoned => obtain rfl := Host.Outcome.next.inj h; exact deeds_answerWith ..
    case fetchAbandoned => obtain rfl := Host.Outcome.next.inj h; exact deeds_answerWith ..
    case unknownRequestKind => obtain rfl := Host.Outcome.next.inj h; exact deeds_serveUnknown ..
    case linkRequestPacket => obtain rfl := Host.Outcome.next.inj h; exact deeds_receivePacket fun _ => deeds_link ..
    case linkReplyPacket => obtain rfl := Host.Outcome.next.inj h; exact deeds_receivePacket fun _ => deeds_placeUpstream ..
    case lineUp => obtain rfl := Host.Outcome.next.inj h; exact deeds_setLine ..
    case lineDown => exact deeds_lineDown h
    case linkRoute => exact deeds_linkRoute h
    case upstreamTransmit => exact deeds_upstreamTransmit h
    case chainResetForward => exact deeds_chainResetForward h
    case linkPacketBegin => exact deeds_linkPacketBegin h

end

/-- A step is a chain of deeds, but for a frame pulse, which is one with a bank switch and a gathering before its strokes and the
opening of a capture slot among them. -/
theorem step_cases {s t : State} (h : step s = .next t) : Deeds s t ∨
    ∃ u v, Deeds s u ∧ Acts (pulseGather (pulseBanks u)) v ∧ Acts (pulseCapture v) t := by
  unfold step at h
  split at h
  · next c rest _ =>
    have queued : Deeds s { s with pending := rest } := Deed.chain (.ports s.system s.link rest s)
    by_cases pulse : c = .framePulse
    · subst pulse
      obtain ⟨v, before, after⟩ := execFramePulse_parts h
      exact .inr ⟨_, v, queued, before, after⟩
    · exact .inl (queued.trans (exec_deeds h pulse))
  · obtain rfl := Host.Outcome.next.inj h
    exact .inl (acts_outputTick s).deeds

end Sys2Proof.Machine
end

section
/-! What every step keeps of the Report Unit, the cue table, the sizes, the queues, the ranges and the format of a take. Settles
O55, O57 and O58. -/

namespace Sys2Proof.Machine

-- One theorem after another: each one elaborated at the same time would hold a stack of its own.
set_option Elab.async false

/-- The bounds that hold block by block go from `s` on to `t`, whatever becomes of the ports. -/
structure Bounds (s t : State) : Prop where
  reports : s.reports.within → t.reports.within := by exact id
  cues : s.cues.ordered → t.cues.ordered := by exact id
  sized : s.sized → t.sized := by exact id
  ranged : s.decoder.ranged → t.decoder.ranged := by exact id
  gains : s.gainsWithin → t.gainsWithin := by exact id
  banks : s.banks.bankA.ranged ∧ s.banks.bankB.ranged → t.banks.bankA.ranged ∧ t.banks.bankB.ranged := by exact id
  format : s.formatKept → t.formatKept := by exact id

/-- The holdover count is within the limit of the active bank. -/
def State.holdoverWithin (s : State) : Prop := s.decoder.holdover ≤ s.activeBank.holdover

section
variable {s t u : State}

theorem Bounds.refl (s : State) : Bounds s s where

theorem Bounds.trans (h : Bounds s t) (k : Bounds t u) : Bounds s u where
  reports := k.reports ∘ h.reports
  cues := k.cues ∘ h.cues
  sized := k.sized ∘ h.sized
  ranged := k.ranged ∘ h.ranged
  gains := k.gains ∘ h.gains
  banks := k.banks ∘ h.banks
  format := k.format ∘ h.format

theorem Kept.bounds (h : Kept s t) : Bounds s t where
  reports := h.reports
  cues := h.cues
  sized := fun sized => ⟨h.slots.trans sized.1, h.entries.trans sized.2⟩
  ranged := h.ranged
  gains := h.gains
  banks := fun ranged => by rw [h.banks]; exact ranged
  format := h.format

theorem Kept.holdoverWithin (h : Kept s t) (within : s.holdoverWithin) : t.holdoverWithin := by
  unfold State.holdoverWithin
  rw [h.activeBank]
  exact h.holdover within

/-! ### The resets and the settings -/

theorem reset_reports_within : State.reset.reports.within := by unfold Reports.within Counters.within; decide

theorem reset_gainsWithin : State.reset.gainsWithin := by unfold State.gainsWithin; decide

theorem reset_banks_ranged : State.reset.banks.bankA.ranged ∧ State.reset.banks.bankB.ranged := by unfold Bank.ranged; decide

theorem bounds_reset (l : List Instr) (s : State) : Bounds s { State.reset with pending := l } where
  reports := fun _ => reset_reports_within
  cues := fun _ => ⟨Nat.zero_le _, List.Pairwise.nil, fun _ h => by cases h⟩
  sized := fun _ => ⟨rfl, rfl⟩
  ranged := fun _ => ⟨Nat.zero_le _, Nat.zero_le _, fun _ => rfl⟩
  gains := fun _ => reset_gainsWithin
  banks := fun _ => reset_banks_ranged
  format := fun _ hand => by cases hand

theorem bounds_raiseReplyReady (s : State) : Bounds s (raiseReplyReady s) where
  reports := within_raiseReplyReady

theorem calms_resetSequencer (s : State) : Calms s (resetSequencer s) := by
  unfold resetSequencer
  split
  · exact Calm.chain (.sequencer _ s (by rfl))
  · refine Calm.chain (.sequencer _ s ?_)
    show (s.sequencer.entries.set _ _).length = _
    rw [List.length_set]

theorem bounds_softReset (origin : Origin) (scope : Nat) (s : State) : Bounds s (softReset origin scope s) := by
  unfold softReset
  dsimp only
  generalize hc : cancelPunch .motion s = c
  have cancelled : Bounds s c := hc ▸ (kept_cancelPunch .motion s).bounds
  have halted : Bounds c (resetSequencer c) := (calms_resetSequencer c).kept.bounds
  generalize resetSequencer c = q at halted
  have emptied : Bounds q { q with
      transport := q.transport.softReset
      store := State.reset.store
      coder := { q.coder with current := none, sequence := 0, verify := [], writeOn := false }
      decoder := State.reset.decoder
      conceal := State.reset.conceal
      output := { State.reset.output with wordLength := q.activeBank.outputWordLength }
      mixer := State.reset.mixer
      cues := { q.cues with mark := .none }
      copy := { current := .field q.activeBank.analogCopy, latched := false, heldTape := none, inputFields := [] }
      input := { q.input with selected := .analog, pendingSelect := none, lost := none }
      banks := { q.banks with pendingSwitch := none }
      reports := { q.reports with system := q.reports.system.softReset, link := q.reports.link.softReset }
      system := { q.system with requests := [], replies := [] }
      link := { q.link with
        requests := [], upstreamQueue := [], upstream := q.link.upstream.softReset
        downstream := q.link.downstream.softReset, chainReset := none } } :=
    { reports := fun ⟨_, _, log, next⟩ => ⟨reset_reports_within.1, reset_reports_within.2.1, log, next⟩
      sized := fun sized => ⟨rfl, sized.2⟩
      ranged := fun _ => ⟨Nat.zero_le _, Nat.zero_le _, fun _ => rfl⟩
      gains := fun _ => reset_gainsWithin
      format := fun _ hand => by cases hand }
  have logged := ((cancelled.trans halted).trans emptied).trans ((Kept.refl _).log .reset none origin scope).bounds
  split
  · exact logged.trans ((Kept.refl _).raise .tape).bounds
  · exact logged

theorem bounds_clearReport (port : Port) (s : State) : Bounds s (clearReport port s) where
  reports := fun ⟨system, link, rest⟩ => by
    cases port
    · exact ⟨reset_reports_within.1, link, rest⟩
    · exact ⟨system, reset_reports_within.2.1, rest⟩

theorem bounds_setMask (port : Port) (mask : BitVec 11) (s : State) :
    Bounds s { s with reports := s.reports.setPort port { s.reports.port port with mask := mask } } where
  reports := fun ⟨system, link, rest⟩ => by cases port <;> exact ⟨system, link, rest⟩

@[simp] theorem setStaged_pendingSwitch (b : Bank) (k : Banks) : (k.setStaged b).pendingSwitch = k.pendingSwitch := by
  unfold Banks.setStaged; split <;> rfl

@[simp] theorem setStaged_stagedBank (b : Bank) (k : Banks) : (k.setStaged b).stagedBank = b := by
  unfold Banks.setStaged Banks.stagedBank; split <;> next active => rw [active]; rfl

@[simp] theorem setStaged_activeBank (b : Bank) (k : Banks) : (k.setStaged b).activeBank = k.activeBank := by
  unfold Banks.setStaged Banks.activeBank; split <;> next active => rw [active]; rfl

/-- Both banks are in range exactly when the active and the staged one are. -/
theorem banks_ranged_iff (k : Banks) :
    k.bankA.ranged ∧ k.bankB.ranged ↔ k.activeBank.ranged ∧ k.stagedBank.ranged := by
  unfold Banks.activeBank Banks.stagedBank
  cases k.active
  · exact Iff.rfl
  · exact and_comm

theorem Staged.bounds {b : Bank} (h : Staged s b) : Bounds s { s with banks := s.banks.setStaged b } where
  banks := by
    simp only [banks_ranged_iff, setStaged_activeBank, setStaged_stagedBank]
    exact fun ⟨active, staged⟩ => ⟨active, h.ranged staged active⟩
  format := fun kept hand pending => by
    rw [setStaged_pendingSwitch] at pending
    rw [switchChangesFormat_eq_false]
    simpa using h.format hand pending (kept hand pending)

/-- Every deed keeps the bounds. -/
theorem Deed.bounds (h : Deed s t) : Bounds s t := by
  cases h with
  | act h => exact h.kept.bounds
  | ports => exact {}
  | ready => exact bounds_raiseReplyReady s
  | clear => exact bounds_clearReport ..
  | mask => exact bounds_setMask ..
  | stage _ _ staged => exact staged.bounds
  | askSwitch _ _ format => exact { format := fun _ hand _ => format hand }
  | softReset => exact bounds_softReset ..
  | powerOn => exact bounds_reset ..

theorem Deeds.bounds (h : Deeds s t) : Bounds s t := by
  induction h with
  | refl => exact .refl s
  | tail _ deed ih => exact ih.trans deed.bounds

/-! ### The frame pulse -/

theorem bounds_switchBanks (s : State) : Bounds s (switchBanks s) where
  format := fun _ _ pending => by cases pending

theorem bounds_pulseBanks (s : State) : Bounds s (pulseBanks s) := by
  rcases pulseBanks_spec s with same | ⟨-, rest⟩
  · rw [same]; exact .refl s
  · exact (bounds_switchBanks s).trans rest.kept.bounds

theorem bounds_stepTime (s : State) : Bounds s { s with decoder := s.decoder.stepTime } where
  ranged := fun ⟨time, lead, zero⟩ => by
    unfold Decoder.stepTime
    split
    · exact ⟨Nat.zero_le _, by simp only; omega, fun _ => rfl⟩
    · next noLead => exact ⟨Nat.min_le_left .., lead, fun h => absurd h noLead⟩

theorem slotWork_markSuccessor (s : State) : SlotWork s (markSuccessor s) := by
  unfold markSuccessor
  split
  · split
    · exact slotWork_updateSlot ..
    · exact .refl s
  · exact .refl s

theorem kept_closeFrame (g : GatherFrame) (s : State) : Kept s (closeFrame g s) := by
  unfold closeFrame
  split
  · next i _ =>
    unfold closeSlot
    dsimp only
    generalize hm : markSuccessor s = m
    have marked : Kept s m := hm ▸ (slotWork_markSuccessor s).kept
    generalize m.closedSlot g (m.slot i) = v
    have closed : Kept s { setSlot i v m with decoder := { (setSlot i v m).decoder with closedLast := true } } :=
      (marked.slotWork (slotWork_setSlot i v m)).trans {}
    generalize ({ setSlot i v m with decoder := { (setSlot i v m).decoder with closedLast := true } } : State) = c at closed
    have counted : Kept s (if v.tally.rebuilt = 0 then c else count .blocksRebuilt v.tally.rebuilt c) := by
      split
      · exact closed
      · exact closed.count ..
    split
    · exact counted
    · next r valid =>
      exact counted.trans ((calms_judgeMismatch r _).kept.trans (calms_handOnSubcode _ (selectSubcode_time valid)).kept)
  · exact {}

theorem kept_aim (s : State) : Kept s (aim s) := by
  unfold aim
  dsimp only
  have freed (o : Option Nat) : Kept s (match o with
      | some i => freeSlots [i] s
      | none => s) := by
    cases o
    · exact .refl s
    · exact (slotWork_freeSlots _ s).kept
  have timed (o : Option Nat) (u : State) : Kept u (match o with
      | some i => updateSlot i (fun v => { v with frameTime := some s.decoder.expected }) u
      | none => u) := by
    cases o
    · exact .refl u
    · exact (slotWork_updateSlot ..).kept
  exact ((freed _).trans (timed _ _)).trans {}

/-- Whatever the limit has become, the holdover count is within it after it is judged (log entry 26). -/
theorem holdoverWithin_judgeHoldover (s : State) : (judgeHoldover s).holdoverWithin := by
  have lost : (enterLost s).holdoverWithin := by
    have start : (setStatus .lost s.activeBank.holdover s).holdoverWithin := le_refl s.activeBank.holdover
    exact (calms_afterLost s).kept.holdoverWithin start
  unfold judgeHoldover
  split
  · split
    · exact lost
    · exact lost
    · exact le_refl s.activeBank.holdover
    · exact le_refl s.activeBank.holdover
  · next within => exact Nat.le_of_not_lt within

/-- The frame that was current is closed and judged at a pulse. -/
def closeCurrent (s : State) : State :=
  match s.decoder.current with
  | none => s
  | some g => judgeFrame g.subcodeTime (closeFrame g s)

/-- The status LOST sets TIME-LOST at each pulse that gathers. -/
def lostSeen (s : State) : State := if s.decoder.status = .lost then setCondition .timeLost s else s

/-- The gathering of a pulse: the step of the tape time, the frame closed, the holdover judged, the next two frames aimed at. -/
theorem gatherPulse_eq (s : State) : gatherPulse s =
    aim (lostSeen (judgeHoldover (closeCurrent { s with decoder := s.decoder.stepTime }))) := rfl

theorem kept_closeCurrent (s : State) : Kept s (closeCurrent s) := by
  unfold closeCurrent
  split
  · exact .refl s
  · exact (kept_closeFrame ..).trans (calms_judgeFrame ..).kept

theorem kept_lostSeen (s : State) : Kept s (lostSeen s) := by
  unfold lostSeen
  split
  · exact {}
  · exact .refl s

theorem pulseGather_bounds (s : State) : Bounds s (pulseGather s) ∧ (pulseGather s).holdoverWithin := by
  unfold pulseGather
  split
  · rw [gatherPulse_eq]
    have closed := (bounds_stepTime s).trans (kept_closeCurrent _).bounds
    generalize closeCurrent _ = a at closed ⊢
    have rest := (kept_lostSeen (judgeHoldover a)).trans (kept_aim _)
    exact ⟨(closed.trans (calms_judgeHoldover a).kept.bounds).trans rest.bounds,
      rest.holdoverWithin (holdoverWithin_judgeHoldover a)⟩
  · exact ⟨(calms_judgeHoldover s).kept.bounds, holdoverWithin_judgeHoldover s⟩

theorem kept_pulseCapture (s : State) : Kept s (pulseCapture s) := by
  unfold pulseCapture
  dsimp only
  split
  · split
    · exact (slotWork_setSlot ..).kept.trans {}
    · exact .refl s
  · exact .refl s

theorem Deed.holdoverWithin (h : Deed s t) (within : s.holdoverWithin) : t.holdoverWithin := by
  cases h with
  | act h => exact h.kept.holdoverWithin within
  | ports => exact within
  | ready => exact within
  | clear => exact within
  | mask => exact within
  | stage =>
    unfold State.holdoverWithin State.activeBank at *
    rw [setStaged_activeBank]
    exact within
  | askSwitch => exact within
  | softReset origin scope =>
    unfold State.holdoverWithin Machine.softReset
    dsimp only
    split <;> exact Nat.zero_le _
  | powerOn => exact Nat.zero_le _

theorem Deeds.holdoverWithin (h : Deeds s t) (within : s.holdoverWithin) : t.holdoverWithin := by
  induction h with
  | refl => exact within
  | tail _ deed ih => exact deed.holdoverWithin ih

/-- Every step keeps the bounds, and the holdover count within the limit of the active bank. -/
theorem step_bounds (h : step s = .next t) : Bounds s t ∧ (s.holdoverWithin → t.holdoverWithin) := by
  rcases step_cases h with deeds | ⟨u, v, queued, before, after⟩
  · exact ⟨deeds.bounds, deeds.holdoverWithin⟩
  · obtain ⟨gathered, within⟩ := pulseGather_bounds (pulseBanks u)
    have rest := before.kept.trans ((kept_pulseCapture v).trans after.kept)
    exact ⟨((queued.bounds.trans (bounds_pulseBanks u)).trans gathered).trans rest.bounds,
      fun _ => rest.holdoverWithin within⟩

end
end Sys2Proof.Machine

namespace Sys2Proof.Proofs
open Sys2Proof.Machine

/-- Settles O57: every deed keeps the bounds, and a pulse judges the holdover count against the limit of the bank then active. -/
theorem stepKeepsRanges : Obligations.StepKeepsRanges := by
  intro s t h
  obtain ⟨bounds, holdover⟩ := step_bounds h
  refine ⟨bounds.ranged, bounds.gains, fun ⟨a, b, within⟩ => ?_⟩
  obtain ⟨a, b⟩ := bounds.banks ⟨a, b⟩
  exact ⟨a, b, holdover within⟩

end Sys2Proof.Proofs
end

section
/-! The queues of the ports and the hand-offs, command by command. Settles O55 and O58. -/

namespace Sys2Proof.Machine

-- One theorem after another: each one elaborated at the same time would hold a stack of its own.
set_option Elab.async false

section
variable {s t u : State}

/-- The work on a request leaves the ports' queues and lines as they are. -/
structure PortsKept (s t : State) : Prop where
  system : t.system = s.system := by rfl
  link : t.link = s.link := by rfl

theorem Kept.ports (h : Kept s t) : PortsKept s t := ⟨h.system, h.link⟩

theorem PortsKept.refl (s : State) : PortsKept s s where

theorem PortsKept.trans (h : PortsKept s t) (k : PortsKept t u) : PortsKept s u :=
  ⟨k.system.trans h.system, k.link.trans h.link⟩

/-- A request taken at port `port` leaves the state `t`: it is judged without a change of the ports, answered, and the list goes on. -/
def TakenBy (port : Port) (s t : State) : Prop :=
  ∃ ticket body words u, s.headRequest port = some (ticket, body) ∧ PortsKept (popRequest port s) u ∧
    t = settle (placeReply ticket words u)

theorem serve_cases {port : Port} {kind : RequestKind} {judge : Ticket → List Word → State → Judgement}
    (ports : ∀ ticket body u, PortsKept u (judge ticket body u).1) (s : State) :
    serve port kind judge s = s ∨ TakenBy port s (serve port kind judge s) := by
  unfold serve
  split
  · next ticket body head =>
    split
    · exact .inr ⟨ticket, body, _, _, head, ports .., rfl⟩
    · exact .inl rfl
  · exact .inl rfl

theorem ports_judgeSetSetting (ticket : Ticket) (body : List Word) (s : State) :
    PortsKept s (judgeSetSetting ticket body s).1 := by
  unfold judgeSetSetting
  dsimp only
  split
  · exact .refl s
  · split
    · exact .refl s
    · split
      · exact .refl s
      · exact {}

theorem ports_judgeSwitchBank (ticket : Ticket) (body : List Word) (s : State) :
    PortsKept s (judgeSwitchBank ticket body s).1 := by
  unfold judgeSwitchBank
  split
  · exact .refl s
  · split
    · exact .refl s
    · exact {}

theorem ports_judgeSetMask (ticket : Ticket) (body : List Word) (s : State) :
    PortsKept s (judgeSetMask ticket body s).1 := by
  unfold judgeSetMask
  dsimp only
  split
  · exact .refl s
  · exact {}

/-- Every request but RESET-PART and SET-POSITION is taken, judged without a change of the ports, and answered, or the state stays. -/
theorem serveAny_cases {kind : RequestKind} (port : Port) (s : State) (reset : kind ≠ .resetPart)
    (position : kind ≠ .setPosition) : serveAny port kind s = s ∨ TakenBy port s (serveAny port kind s) := by
  cases kind <;> simp only [serveAny]
  case play => exact serve_cases (fun _ _ _ => (acts_judgePlay ..).kept.ports) s
  case wind => exact serve_cases (fun _ _ _ => (acts_judgeWind ..).kept.ports) s
  case cueHold => exact serve_cases (fun _ _ _ => (acts_judgeCueHold ..).kept.ports) s
  case locate => exact serve_cases (fun _ _ _ => (acts_judgeLocate ..).kept.ports) s
  case record => exact serve_cases (fun _ _ _ => (acts_judgeRecord ..).kept.ports) s
  case schedulePunch => exact serve_cases (fun _ _ _ => (acts_judgeSchedulePunch ..).kept.ports) s
  case punchOut => exact serve_cases (fun _ _ _ => (acts_judgePunchOut ..).kept.ports) s
  case stop => exact serve_cases (fun _ _ _ => (acts_judgeStop ..).kept.ports) s
  case setControl => exact serve_cases (fun _ _ _ => (acts_judgeSetControl ..).kept.ports) s
  case selectSource => exact serve_cases (fun _ _ _ => (acts_judgeSelectSource ..).kept.ports) s
  case cueAdd => exact serve_cases (fun _ _ _ => (acts_judgeCueAdd ..).kept.ports) s
  case cueRemove => exact serve_cases (fun _ _ _ => (acts_judgeCueRemove ..).kept.ports) s
  case cueClear => exact serve_cases (fun _ _ _ => (acts_judgeCueClear ..).kept.ports) s
  case cueRead => exact serve_cases (fun _ _ _ => (acts_judgeCueRead ..).kept.ports) s
  case mark => exact serve_cases (fun _ _ _ => (acts_judgeMark ..).kept.ports) s
  case listRun => exact serve_cases (fun _ _ _ => (acts_judgeListRun ..).kept.ports) s
  case listHalt => exact serve_cases (fun _ _ _ => (acts_judgeListHalt ..).kept.ports) s
  case listWrite => exact serve_cases (fun _ _ _ => (acts_judgeListWrite ..).kept.ports) s
  case listRead => exact serve_cases (fun _ _ _ => (acts_judgeListRead ..).kept.ports) s
  case setSetting => exact serve_cases ports_judgeSetSetting s
  case readSetting => exact serve_cases (fun _ _ _ => (acts_judgeReadSetting ..).kept.ports) s
  case switchBank => exact serve_cases ports_judgeSwitchBank s
  case copyBank => exact serve_cases (fun _ _ _ => {}) s
  case readReport => exact serve_cases (fun _ _ _ => {}) s
  case setMask => exact serve_cases ports_judgeSetMask s
  case logRead => exact serve_cases (fun _ _ u => .refl u) s
  case readIdent => exact serve_cases (fun _ _ u => .refl u) s
  case resetPart => exact absurd rfl reset
  case setPosition => exact absurd rfl position

/-! ### The queues of the ports -/

theorem queuesWithin_of_ports (h : PortsKept s t) (within : s.queuesWithin) : t.queuesWithin := by
  unfold State.queuesWithin
  rw [h.system, h.link]
  exact within

theorem replyRoom_of_ports (h : PortsKept s t) (port : Port) : t.replyRoom port = s.replyRoom port := by
  cases port <;> simp only [State.replyRoom, State.upstreamRoom, h.system, h.link]

/-- A request is taken only while its reply can be placed (R171, R190). -/
theorem headRequest_some {port : Port} {ticket : Ticket} {body : List Word} (h : s.headRequest port = some (ticket, body)) :
    ticket.port = port ∧ s.replyRoom port = true := by
  unfold State.headRequest at h
  split at h
  · cases h
  · next open_ =>
    refine ⟨?_, by simpa using fun full => open_ (.inr full)⟩
    split at h
    · obtain ⟨_, _, e⟩ := Option.map_eq_some_iff.1 h
      cases e; rfl
    · split at h
      · cases h
      · split at h
        · split at h
          · cases h; rfl
          · cases h
        · cases h

theorem queuesWithin_popRequest (port : Port) (within : s.queuesWithin) : (popRequest port s).queuesWithin := by
  obtain ⟨requests, replies, link, up⟩ := within
  cases port
  · exact ⟨(List.length_drop ▸ Nat.sub_le ..).trans requests, replies, link, up⟩
  · refine ⟨requests, replies, ?_, up⟩
    show (s.link.requests.drop 1).length + s.link.upstream.reception.places ≤ 4
    rw [List.length_drop]
    omega

theorem replyRoom_popRequest (port other : Port) : (popRequest port s).replyRoom other = s.replyRoom other := by
  cases port <;> cases other <;> rfl

theorem queuesWithin_placeUpstream (bytes : List Byte) (room : s.upstreamRoom = true) (within : s.queuesWithin) :
    (placeUpstream bytes s).queuesWithin := by
  obtain ⟨requests, replies, link, up⟩ := within
  unfold placeUpstream
  split
  · refine ⟨requests, replies, link, ?_⟩
    have : s.link.upstreamQueue.length + s.link.downstream.reception.places < 8 := by simpa [State.upstreamRoom] using room
    show (s.link.upstreamQueue ++ [bytes]).length + s.link.downstream.reception.places ≤ 8
    rw [List.length_append, List.length_singleton]
    omega
  · exact ⟨requests, replies, link, up⟩

theorem queuesWithin_placeReply {ticket : Ticket} (body : List Word) (room : s.replyRoom ticket.port = true)
    (within : s.queuesWithin) : (placeReply ticket body s).queuesWithin := by
  unfold placeReply
  split
  · next system =>
    obtain ⟨requests, replies, rest⟩ := within
    have : s.system.replies.length < 4 := by simpa [system, State.replyRoom] using room
    have longer : (s.system.replies ++ [body]).length ≤ 4 := by
      rw [List.length_append, List.length_singleton]; omega
    dsimp only
    split
    · exact ⟨requests, longer, rest⟩
    · exact ⟨requests, longer, rest⟩
  · next link => exact queuesWithin_placeUpstream _ (by simpa [link, State.replyRoom] using room) within

theorem TakenBy.queuesWithin {port : Port} (h : TakenBy port s t) (within : s.queuesWithin) : t.queuesWithin := by
  obtain ⟨ticket, body, words, u, head, judged, rfl⟩ := h
  obtain ⟨port_eq, room⟩ := headRequest_some head
  refine queuesWithin_of_ports (acts_settle _).kept.ports (queuesWithin_placeReply _ ?_ ?_)
  · rw [port_eq, replyRoom_of_ports judged, replyRoom_popRequest, room]
  · exact queuesWithin_of_ports judged (queuesWithin_popRequest port within)

/-- A soft reset empties the queues, and no packet in reception holds a place after it (R184). -/
theorem softReset_ports (origin : Origin) (scope : Nat) (s : State) :
    (softReset origin scope s).queuesWithin ∧ ∀ port, (softReset origin scope s).replyRoom port = true := by
  have places (v : LineStatus) : v.softReset.reception.places = 0 := by
    unfold LineStatus.softReset
    dsimp only
    split <;> rfl
  have empty {x : SystemPort} {l : Link} (u : State) (system : u.system = x) (link : u.link = l) (requests : x.requests = [])
      (replies : x.replies = []) (taken : l.requests = []) (up : l.upstreamQueue = [])
      (upPlaces : l.upstream.reception.places = 0) (downPlaces : l.downstream.reception.places = 0) :
      u.queuesWithin ∧ ∀ port, u.replyRoom port = true := by
    subst system link
    unfold State.queuesWithin
    refine ⟨by simp [requests, replies, taken, up, upPlaces, downPlaces], fun port => ?_⟩
    cases port
    · simp [State.replyRoom, replies]
    · simp [State.replyRoom, State.upstreamRoom, up, downPlaces]
  unfold softReset
  dsimp only
  split
  · exact empty _ rfl rfl rfl rfl rfl rfl (places _) (places _)
  · exact empty _ rfl rfl rfl rfl rfl rfl (places _) (places _)

theorem queuesWithin_resetAndReply (ticket : Ticket) (scope : Nat) (s : State) :
    (resetAndReply ticket scope s).queuesWithin := by
  obtain ⟨within, room⟩ := softReset_ports ticket.port.origin scope s
  exact queuesWithin_placeReply _ (room _) within

theorem queuesWithin_serveUnknown (port : Port) (within : s.queuesWithin) : (serveUnknown port s).queuesWithin := by
  unfold serveUnknown
  split
  · next head =>
    obtain ⟨port_eq, room⟩ := headRequest_some head
    split
    · exact queuesWithin_placeReply _ (by rw [port_eq, replyRoom_popRequest, room]) (queuesWithin_popRequest port within)
    · exact within
  · exact within

theorem queuesWithin_serveReset (port : Port) (within : s.queuesWithin) : (serveReset port s).queuesWithin := by
  unfold serveReset
  split
  · next head =>
    obtain ⟨port_eq, room⟩ := headRequest_some head
    split
    · dsimp only
      split
      · exact queuesWithin_resetAndReply ..
      · split
        · exact queuesWithin_popRequest port within
        · exact queuesWithin_resetAndReply ..
      · exact queuesWithin_placeReply _ (by rw [port_eq, replyRoom_popRequest, room]) (queuesWithin_popRequest port within)
    · exact within
  · exact within

theorem queuesWithin_setConfigured {ticket : Ticket} (value : Nat) (room : s.replyRoom ticket.port = true)
    (within : s.queuesWithin) : (setConfigured ticket value s).queuesWithin := by
  rw [setConfigured_eq]
  split
  · have placed : (placeReply ticket (replyBody setPositionCode .done [wordOfBytes s.link.upstream.byte s.link.downstream.byte])
        { s with link := { s.link with position := some value } }).queuesWithin := by
      refine queuesWithin_placeReply _ ?_ within
      rw [← room]
      cases ticket.port <;> rfl
    unfold reportLines
    split
    · exact placed
    · exact placed
  · exact queuesWithin_placeReply _ room within

theorem queuesWithin_servePosition (port : Port) (within : s.queuesWithin) : (servePosition port s).queuesWithin := by
  have popped := queuesWithin_popRequest (s := s) port within
  unfold servePosition
  split
  · split
    · dsimp only
      split
      · exact popped
      · exact popped
    · exact within
  · split
    · next head =>
      obtain ⟨port_eq, room⟩ := headRequest_some head
      rw [← port_eq, ← replyRoom_popRequest _ _] at room
      split
      · dsimp only
        split
        · exact queuesWithin_placeReply _ room popped
        · exact queuesWithin_setConfigured _ room popped
      · exact within
    · exact within

theorem queuesWithin_serveAny (port : Port) (kind : RequestKind) (within : s.queuesWithin) :
    (serveAny port kind s).queuesWithin := by
  by_cases reset : kind = .resetPart
  · subst reset; exact queuesWithin_serveReset port within
  · by_cases position : kind = .setPosition
    · subst position; exact queuesWithin_servePosition port within
    · rcases serveAny_cases port s reset position with same | taken
      · rw [same]; exact within
      · exact taken.queuesWithin within

/-! ### The Studio Link -/

/-- A line may change so long as its reception holds no place that was not held. -/
theorem queuesWithin_setLine {l : Line} {v : LineStatus} (places : v.reception.places ≤ (s.line l).reception.places)
    (within : s.queuesWithin) : (setLine l v s).queuesWithin := by
  obtain ⟨requests, replies, link, up⟩ := within
  cases l
  · exact ⟨requests, replies, (Nat.add_le_add_left places _).trans link, up⟩
  · exact ⟨requests, replies, link, (Nat.add_le_add_left places _).trans up⟩

theorem line_setLine (l : Line) (v : LineStatus) (s : State) : (setLine l v s).line l = v := by cases l <;> rfl

theorem queuesWithin_discardPacket {l : Line} {e : PacketErrors} (within : s.queuesWithin) :
    (discardPacket l e s).queuesWithin :=
  queuesWithin_of_ports {} (queuesWithin_setLine (by exact le_rfl) within)

/-- The line `l` has a place free for a packet. -/
theorem ready_iff (l : Line) (s : State) : s.ready l = true ↔ match l with
    | .upstream => s.link.requests.length + s.link.upstream.reception.places < 4
    | .downstream => s.link.upstreamQueue.length + s.link.downstream.reception.places < 8 := by
  cases l <;> exact decide_eq_true_iff

/-- A packet that ends is placed only where it held a place, or where one is free. -/
theorem queuesWithin_receivePacket {l : Line} {e : PacketErrors} {place : State → State} (within : s.queuesWithin)
    (h : ∀ u : State, u.queuesWithin → u.ready l = true → (place u).queuesWithin) :
    (receivePacket l e (s.ready l) place s).queuesWithin := by
  have idle : (setLine l { s.line l with reception := .idle } s).queuesWithin :=
    queuesWithin_setLine (Nat.zero_le _) within
  unfold receivePacket
  dsimp only
  split
  · exact within
  · split
    · exact idle
    · next placed =>
      split
      · exact queuesWithin_discardPacket idle
      · refine h _ idle ((ready_iff ..).2 ?_)
        obtain ⟨-, -, link, up⟩ := within
        cases l
        · have : s.link.upstream.reception = .placed := placed
          rw [this] at link
          exact Nat.lt_of_succ_le link
        · have : s.link.downstream.reception = .placed := placed
          rw [this] at up
          exact Nat.lt_of_succ_le up
    · split
      · exact queuesWithin_discardPacket idle
      · split
        · next room =>
          refine h _ idle ((ready_iff ..).2 ?_)
          have free := (ready_iff ..).1 room
          cases l
          · exact (Nat.le_add_right ..).trans_lt free
          · exact (Nat.le_add_right ..).trans_lt free
        · exact idle

theorem queuesWithin_lineDown {l : Line} (within : s.queuesWithin) (h : execLineDown l s = .next t) : t.queuesWithin := by
  obtain rfl := Host.Outcome.next.inj h
  dsimp only
  have passed (u : State) (within : u.queuesWithin) : (passChainReset l u).queuesWithin := by
    unfold passChainReset
    split
    · exact queuesWithin_resetAndReply ..
    · exact within
  have down (v : LineStatus) (idle : v.reception = .idle) : (if (s.line l).reception = .placed then
      discardPacket l ⟨true, false⟩ (setLine l v s) else setLine l v s).queuesWithin := by
    have idled : (setLine l v s).queuesWithin := queuesWithin_setLine (by rw [idle]; exact Nat.zero_le _) within
    split
    · exact queuesWithin_discardPacket idled
    · exact idled
  split
  · exact within
  · refine passed _ ?_
    have closed := down { s.line l with up := false, hard := true, reception := .idle } rfl
    cases l
    · obtain ⟨requests, replies, link, up⟩ := closed
      exact ⟨requests, replies, link, (Nat.add_le_add_right (Nat.zero_le _) _).trans up⟩
    · exact closed

theorem queuesWithin_linkRoute {ready : Bool} (within : s.queuesWithin) (h : execLinkRoute ready s = .next t) :
    t.queuesWithin := by
  obtain rfl := Host.Outcome.next.inj h
  split
  · exact within
  · next r rest queue =>
    have dropped : ({ s with link := { s.link with requests := rest } } : State).queuesWithin := by
      obtain ⟨requests, replies, link, up⟩ := within
      refine ⟨requests, replies, ?_, up⟩
      rw [queue, List.length_cons] at link
      show rest.length + s.link.upstream.reception.places ≤ 4
      omega
    dsimp only
    split
    · split
      · exact queuesWithin_servePosition _ within
      · exact dropped
    · split
      · split
        · exact queuesWithin_serveAny _ _ within
        · exact queuesWithin_serveUnknown _ within
      · split
        · split
          · exact dropped
          · exact within
        · split
          · next room => exact queuesWithin_placeUpstream _ room dropped
          · exact within

theorem queuesWithin_upstreamTransmit {ready : Bool} (within : s.queuesWithin)
    (h : execUpstreamTransmit ready s = .next t) : t.queuesWithin := by
  obtain rfl := Host.Outcome.next.inj h
  split
  · exact within
  · next p rest queue =>
    split
    · obtain ⟨requests, replies, link, up⟩ := within
      refine ⟨requests, replies, link, ?_⟩
      rw [queue, List.length_cons] at up
      show rest.length + s.link.downstream.reception.places ≤ 8
      omega
    · exact within

theorem queuesWithin_chainResetForward {ready : Bool} (within : s.queuesWithin)
    (h : execChainResetForward ready s = .next t) : t.queuesWithin := by
  obtain rfl := Host.Outcome.next.inj h
  split
  · exact within
  · split
    · exact queuesWithin_resetAndReply ..
    · exact within

theorem queuesWithin_linkPacketBegin {l : Line} (within : s.queuesWithin) (h : execLinkPacketBegin l s = .next t) :
    t.queuesWithin := by
  obtain rfl := Host.Outcome.next.inj h
  split
  · next free =>
    obtain ⟨-, idle, ready⟩ := free
    have room := (ready_iff ..).1 ready
    obtain ⟨requests, replies, link, up⟩ := within
    cases l
    · have : s.link.upstream.reception = .idle := idle
      rw [this] at room
      exact ⟨requests, replies, room, up⟩
    · have : s.link.downstream.reception = .idle := idle
      rw [this] at room
      exact ⟨requests, replies, link, room⟩
  · exact within

/-! ### The System Port -/

theorem queuesWithin_onTransaction {kind : TransactionKind} {bytes : List Byte} {effect : State → State}
    (within : s.queuesWithin) (h : (effect s).queuesWithin) : (onTransaction kind bytes effect s).queuesWithin := by
  unfold onTransaction
  split
  · exact h
  · exact within

theorem queuesWithin_send {kind : Byte} {bytes : List Byte} (within : s.queuesWithin)
    (h : execSend kind bytes s = .next t) : t.queuesWithin := by
  obtain rfl := Host.Outcome.next.inj h
  refine queuesWithin_onTransaction within ?_
  split
  · exact within
  · exact within
  · next body _ =>
    split
    · next room =>
      obtain ⟨-, rest⟩ := within
      refine ⟨?_, rest⟩
      show (s.system.requests ++ [body]).length ≤ 4
      rw [List.length_append, List.length_singleton]
      exact room
    · exact within

theorem queuesWithin_fetch (within : s.queuesWithin) (h : execFetch s = .next t) : t.queuesWithin := by
  obtain rfl := Host.Outcome.next.inj h
  refine queuesWithin_onTransaction within ?_
  split
  · exact within
  · next r rest queue =>
    obtain ⟨requests, replies, links⟩ := within
    refine ⟨requests, ?_, links⟩
    rw [queue, List.length_cons] at replies
    exact Nat.le_of_succ_le replies

/-! ### Every command -/

theorem ports_pulseBanks (s : State) : PortsKept s (pulseBanks s) := by
  rcases pulseBanks_spec s with same | ⟨-, rest⟩
  · rw [same]; exact .refl s
  · exact PortsKept.trans {} rest.kept.ports

theorem ports_pulseGather (s : State) : PortsKept s (pulseGather s) := by
  unfold pulseGather
  split
  · rw [gatherPulse_eq]
    have closed : PortsKept s (closeCurrent { s with decoder := s.decoder.stepTime }) := PortsKept.trans {} (kept_closeCurrent _).ports
    generalize closeCurrent _ = a at closed ⊢
    exact closed.trans ((calms_judgeHoldover a).kept.trans ((kept_lostSeen _).trans (kept_aim _))).ports
  · exact (calms_judgeHoldover s).kept.ports

theorem reset_queuesWithin : State.reset.queuesWithin := by unfold State.queuesWithin; decide

/-- Every command keeps the queues of the ports within their places. -/
theorem exec_queuesWithin {c : Instr} (h : exec c s = .next t) (within : s.queuesWithin) : t.queuesWithin := by
  by_cases pulse : c = .framePulse
  · subst pulse
    obtain ⟨v, before, after⟩ := execFramePulse_parts h
    refine queuesWithin_of_ports (PortsKept.trans ?_ after.kept.ports) within
    exact (ports_pulseBanks s).trans ((ports_pulseGather _).trans (before.kept.trans (kept_pulseCapture v)).ports)
  · cases work : portWork c with
    | false =>
      rcases exec_cases h pulse work with ⟨port, kind, rfl⟩ | ⟨acts, -⟩
      · exact queuesWithin_serveAny port kind within
      · exact queuesWithin_of_ports acts.kept.ports within
    | true =>
      cases c
      all_goals try exact absurd work Bool.false_ne_true
      case powerOnReset => obtain rfl := Host.Outcome.next.inj h; exact reset_queuesWithin
      case send => exact queuesWithin_send within h
      case fetch => exact queuesWithin_fetch within h
      case otherTransaction =>
        obtain rfl := Host.Outcome.next.inj h
        exact queuesWithin_onTransaction within within
      case sendAbandoned => obtain rfl := Host.Outcome.next.inj h; exact within
      case fetchAbandoned => obtain rfl := Host.Outcome.next.inj h; exact within
      case unknownRequestKind => obtain rfl := Host.Outcome.next.inj h; exact queuesWithin_serveUnknown _ within
      case linkRequestPacket =>
        obtain rfl := Host.Outcome.next.inj h
        refine queuesWithin_receivePacket (l := .upstream) within fun u within room => ?_
        obtain ⟨requests, replies, link, up⟩ := within
        have room := (ready_iff ..).1 room
        refine ⟨requests, replies, ?_, up⟩
        show (u.link.requests ++ [linkRequestOf _]).length + u.link.upstream.reception.places ≤ 4
        rw [List.length_append, List.length_singleton]
        omega
      case linkReplyPacket =>
        obtain rfl := Host.Outcome.next.inj h
        exact queuesWithin_receivePacket (l := .downstream) within fun u within room =>
          queuesWithin_placeUpstream _ room within
      case lineUp l =>
        obtain rfl := Host.Outcome.next.inj h
        exact queuesWithin_setLine (l := l) (by exact le_rfl) within
      case lineDown => exact queuesWithin_lineDown within h
      case linkRoute => exact queuesWithin_linkRoute within h
      case upstreamTransmit => exact queuesWithin_upstreamTransmit within h
      case chainResetForward => exact queuesWithin_chainResetForward within h
      case linkPacketBegin => exact queuesWithin_linkPacketBegin within h

/-! ### Hand-offs (R154; log entry 22) -/

/-- No hand-off stands after a reset of the sequencer. -/
theorem handoffsTaken_softReset (origin : Origin) (scope : Nat) (s : State) : (softReset origin scope s).handoffsTaken := by
  unfold State.handoffsTaken softReset
  dsimp only
  split <;> rfl

theorem handoffs_placeUpstream (bytes : List Byte) (s : State) : (placeUpstream bytes s).sequencer = s.sequencer := by
  unfold placeUpstream
  split <;> rfl

theorem handoffs_placeReply (ticket : Ticket) (body : List Word) (s : State) :
    (placeReply ticket body s).sequencer = s.sequencer := by
  unfold placeReply
  split
  · dsimp only
    split <;> rfl
  · exact handoffs_placeUpstream ..

theorem handoffs_popRequest (port : Port) (s : State) : (popRequest port s).sequencer = s.sequencer := by cases port <;> rfl

theorem handoffs_setLine (l : Line) (v : LineStatus) (s : State) : (setLine l v s).sequencer = s.sequencer := by cases l <;> rfl

theorem handoffsTaken_resetAndReply (ticket : Ticket) (scope : Nat) (s : State) :
    (resetAndReply ticket scope s).handoffsTaken := by
  unfold State.handoffsTaken resetAndReply
  rw [handoffs_placeReply]
  exact handoffsTaken_softReset ..

theorem handoffs_serveUnknown (port : Port) (s : State) : (serveUnknown port s).sequencer = s.sequencer := by
  unfold serveUnknown
  split
  · split
    · rw [handoffs_placeReply, handoffs_popRequest]
    · rfl
  · rfl

theorem handoffsTaken_serveReset (port : Port) (taken : s.handoffsTaken) : (serveReset port s).handoffsTaken := by
  unfold serveReset
  split
  · split
    · dsimp only
      split
      · exact handoffsTaken_resetAndReply ..
      · split
        · exact (congrArg Sequencer.handoffs (handoffs_popRequest port s)).trans taken
        · exact handoffsTaken_resetAndReply ..
      · unfold State.handoffsTaken
        rw [handoffs_placeReply, handoffs_popRequest]
        exact taken
    · exact taken
  · exact taken

theorem handoffs_setConfigured (ticket : Ticket) (value : Nat) (s : State) :
    (setConfigured ticket value s).sequencer = s.sequencer := by
  rw [setConfigured_eq]
  split
  · unfold reportLines
    split <;> exact handoffs_placeReply ..
  · exact handoffs_placeReply ..

theorem handoffs_servePosition (port : Port) (s : State) : (servePosition port s).sequencer = s.sequencer := by
  unfold servePosition
  split
  · split
    · dsimp only
      split <;> rfl
    · rfl
  · split
    · split
      · dsimp only
        split
        · exact handoffs_placeReply ..
        · exact handoffs_setConfigured ..
      · rfl
    · rfl

theorem handoffsTaken_serveAny (port : Port) (kind : RequestKind) (taken : s.handoffsTaken) :
    (serveAny port kind s).handoffsTaken := by
  by_cases reset : kind = .resetPart
  · subst reset; exact handoffsTaken_serveReset port taken
  · by_cases position : kind = .setPosition
    · subst position
      exact (congrArg Sequencer.handoffs (handoffs_servePosition port s)).trans taken
    · rcases serveAny_cases port s reset position with same | ⟨_, _, _, _, -, -, served⟩
      · rw [same]; exact taken
      · rw [served]; exact handoffsTaken_settle _

theorem handoffs_receivePacket {l : Line} {e : PacketErrors} {room : Bool} {place : State → State}
    (h : ∀ u : State, (place u).sequencer = u.sequencer) (s : State) :
    (receivePacket l e room place s).sequencer = s.sequencer := by
  have discarded (v : LineStatus) : (discardPacket l e (setLine l v s)).sequencer = s.sequencer :=
    (handoffs_setLine ..).trans (handoffs_setLine ..)
  have placed (v : LineStatus) : (place (setLine l v s)).sequencer = s.sequencer := (h _).trans (handoffs_setLine ..)
  unfold receivePacket
  dsimp only
  split
  · rfl
  · split
    · exact handoffs_setLine ..
    · split
      · exact discarded _
      · exact placed _
    · split
      · exact discarded _
      · split
        · exact placed _
        · exact handoffs_setLine ..

theorem handoffsTaken_lineDown {l : Line} (taken : s.handoffsTaken) (h : execLineDown l s = .next t) : t.handoffsTaken := by
  obtain rfl := Host.Outcome.next.inj h
  dsimp only
  have passed (u : State) (taken : u.handoffsTaken) : (passChainReset l u).handoffsTaken := by
    unfold passChainReset
    split
    · exact handoffsTaken_resetAndReply ..
    · exact taken
  have down (v : LineStatus) : (if (s.line l).reception = .placed then
      discardPacket l ⟨true, false⟩ (setLine l v s) else setLine l v s).handoffsTaken := by
    split
    · exact (congrArg Sequencer.handoffs ((handoffs_setLine ..).trans (handoffs_setLine ..))).trans taken
    · exact (congrArg Sequencer.handoffs (handoffs_setLine ..)).trans taken
  split
  · exact taken
  · refine passed _ ?_
    have closed := down { s.line l with up := false, hard := true, reception := .idle }
    cases l
    · exact closed
    · exact closed

theorem handoffsTaken_linkRoute {ready : Bool} (taken : s.handoffsTaken) (h : execLinkRoute ready s = .next t) :
    t.handoffsTaken := by
  obtain rfl := Host.Outcome.next.inj h
  split
  · exact taken
  · dsimp only
    split
    · split
      · exact (congrArg Sequencer.handoffs (handoffs_servePosition ..)).trans taken
      · exact taken
    · split
      · split
        · exact handoffsTaken_serveAny _ _ taken
        · exact (congrArg Sequencer.handoffs (handoffs_serveUnknown ..)).trans taken
      · split
        · split
          · exact taken
          · exact taken
        · split
          · exact (congrArg Sequencer.handoffs (handoffs_placeUpstream ..)).trans taken
          · exact taken

theorem handoffs_onTransaction {kind : TransactionKind} {bytes : List Byte} {effect : State → State}
    (h : (effect s).sequencer = s.sequencer) : (onTransaction kind bytes effect s).sequencer = s.sequencer := by
  unfold onTransaction
  split
  · exact h
  · rfl

/-- The commands that settle nothing: the System Port's, the lines' and the power-on reset. -/
theorem handoffsTaken_portWork {c : Instr} (work : portWork c = true) (h : exec c s = .next t) (taken : s.handoffsTaken) :
    t.handoffsTaken := by
  have same (u : State) (e : u.sequencer = s.sequencer) : u.handoffsTaken := (congrArg Sequencer.handoffs e).trans taken
  cases c
  all_goals try exact absurd work Bool.false_ne_true
  case powerOnReset => obtain rfl := Host.Outcome.next.inj h; rfl
  case send =>
    obtain rfl := Host.Outcome.next.inj h
    refine same _ (handoffs_onTransaction ?_)
    split
    · rfl
    · rfl
    · split <;> rfl
  case fetch =>
    obtain rfl := Host.Outcome.next.inj h
    refine same _ (handoffs_onTransaction ?_)
    split <;> rfl
  case otherTransaction => obtain rfl := Host.Outcome.next.inj h; exact same _ (handoffs_onTransaction rfl)
  case sendAbandoned => obtain rfl := Host.Outcome.next.inj h; exact taken
  case fetchAbandoned => obtain rfl := Host.Outcome.next.inj h; exact taken
  case unknownRequestKind => obtain rfl := Host.Outcome.next.inj h; exact same _ (handoffs_serveUnknown ..)
  case linkRequestPacket => obtain rfl := Host.Outcome.next.inj h; exact same _ (handoffs_receivePacket (place := fun t => { t with link := { t.link with requests := t.link.requests ++ [linkRequestOf _] } }) (fun _ => rfl) s)
  case linkReplyPacket =>
    obtain rfl := Host.Outcome.next.inj h
    exact same _ (handoffs_receivePacket (handoffs_placeUpstream _) s)
  case lineUp => obtain rfl := Host.Outcome.next.inj h; exact same _ (handoffs_setLine ..)
  case lineDown => exact handoffsTaken_lineDown taken h
  case linkRoute => exact handoffsTaken_linkRoute taken h
  case upstreamTransmit =>
    obtain rfl := Host.Outcome.next.inj h
    split
    · exact taken
    · split <;> exact taken
  case chainResetForward =>
    obtain rfl := Host.Outcome.next.inj h
    split
    · exact taken
    · split
      · exact handoffsTaken_resetAndReply ..
      · exact taken
  case linkPacketBegin =>
    obtain rfl := Host.Outcome.next.inj h
    split
    · exact same _ (handoffs_setLine ..)
    · exact taken

theorem exec_handoffsTaken {c : Instr} (h : exec c s = .next t) (taken : s.handoffsTaken) : t.handoffsTaken := by
  by_cases pulse : c = .framePulse
  · subst pulse
    obtain rfl := Host.Outcome.next.inj h
    exact handoffsTaken_settle _
  · cases work : portWork c with
    | false =>
      rcases exec_cases h pulse work with ⟨port, kind, rfl⟩ | ⟨-, kept⟩
      · exact handoffsTaken_serveAny port kind taken
      · exact kept taken
    | true => exact handoffsTaken_portWork work h taken

end
end Sys2Proof.Machine

namespace Sys2Proof.Proofs
open Sys2Proof.Machine

/-- Settles O55: every deed keeps the bounds, and every command the places of the queues. -/
theorem stepKeepsTablesAndSizes : Obligations.StepKeepsTablesAndSizes := by
  intro s t h
  obtain ⟨bounds, -⟩ := step_bounds h
  refine ⟨bounds.reports, bounds.cues, bounds.sized, fun within => ?_⟩
  unfold step at h
  split at h
  · exact exec_queuesWithin h within
  · obtain rfl := Host.Outcome.next.inj h
    exact queuesWithin_of_ports (acts_outputTick s).kept.ports within

/-- Settles O58: each command either takes the hand-offs last or makes none, and a take keeps its format through every deed. -/
theorem stepKeepsTakeFormat : Obligations.StepKeepsTakeFormat := by
  intro s t h taken
  obtain ⟨bounds, -⟩ := step_bounds h
  refine ⟨?_, bounds.format⟩
  unfold step at h
  split at h
  · exact exec_handoffsTaken h taken
  · obtain rfl := Host.Outcome.next.inj h
    unfold State.handoffsTaken
    rw [sequencer_outputTick]
    exact taken

end Sys2Proof.Proofs
end

section
/-! The record gate, the reading and the servo demand agree with the transport state through every stroke. Settles O56. -/

namespace Sys2Proof.Machine

-- One theorem after another: each one elaborated at the same time would hold a stack of its own.
set_option Elab.async false

section
variable {s t u : State}

/-! ### The demand through work on slots (R38, R39) -/

/-- The trim demand judged by Q or W is free to be other than NORMAL here. -/
def State.trims (s : State) : Prop :=
  s.transport.state = .record ∨ s.transport.state = .play ∧ s.output.source = .tape ∧ s.output.priming = false

/-- The servo demand of `s`, told by whether the state is at play speed. -/
theorem demandAgrees_iff : s.demandAgrees ↔
    (s.transport.state.rolling = false → DemandFits s.transport.state s.transport.locate s.transport.demand) ∧
    (s.transport.state.rolling = true → s.transport.demand = .playSpeed s.store.trim) ∧
    (¬ s.trims → s.store.trim = .normal) := by
  have speed (p : LocatePhase) : p.speed = if p = .fast then .fast else .slow := by cases p <;> rfl
  have wound (d : Demand) : (∃ x ∈ [Direction.forward, .reverse], ∃ v ∈ [Speed.fast, .slow], d = .wind x v) ↔
      ∃ x v, d = .wind x v := by
    constructor
    · rintro ⟨x, -, v, -, h⟩; exact ⟨x, v, h⟩
    · rintro ⟨x, v, h⟩; exact ⟨x, by cases x <;> simp, v, by cases v <;> simp, h⟩
  unfold State.demandAgrees State.trims DemandFits
  simp only [wound, ← speed]
  cases s.transport.state <;> simp [TransportState.rolling]
  intro _
  tauto

/-- A change of what the demand does not depend on. -/
theorem State.demandAgrees.of (h : s.demandAgrees) (state : t.transport.state = s.transport.state := by rfl)
    (locate : t.transport.locate = s.transport.locate := by rfl) (demand : t.transport.demand = s.transport.demand := by rfl)
    (trim : t.store.trim = s.store.trim := by rfl) (source : t.output.source = s.output.source := by rfl)
    (priming : t.output.priming = s.output.priming := by rfl) : t.demandAgrees := by
  unfold State.demandAgrees at *
  rw [state, locate, demand, trim, source, priming]
  exact h

/-- A trim demand judged where it may be judged. -/
theorem demandAgrees_setTrim {x : Trim} (trims : s.trims) (h : s.demandAgrees) : (setTrim x s).demandAgrees := by
  obtain ⟨off, -, -⟩ := demandAgrees_iff.1 h
  have rolling : s.transport.state = .play ∨ s.transport.state = .record := by
    rcases trims with record | ⟨play, -⟩
    · exact .inr record
    · exact .inl play
  refine demandAgrees_iff.2 ⟨fun still => ?_, fun _ => ?_, fun not => absurd trims not⟩
  · have : s.transport.state.rolling = false := still
    rcases rolling with e | e <;> rw [e] at this <;> cases this
  · simp [setTrim, rolling]

theorem demandAgrees_judgeQ (h : s.demandAgrees) : (judgeQ s).demandAgrees := by
  unfold judgeQ
  split
  · next play => exact demandAgrees_setTrim (.inr play) h
  · exact h

theorem demandAgrees_judgeW (h : s.demandAgrees) : (judgeW s).demandAgrees := by
  unfold judgeW
  split
  · next record => exact demandAgrees_setTrim (.inl record) h
  · exact h

theorem demandAgrees_withDepths {f : State → State} (h : (f s).demandAgrees) : (withDepths f s).demandAgrees := by
  unfold withDepths
  simp only
  split
  · split
    · exact h
    · exact demandAgrees_judgeW h
  · split
    · exact demandAgrees_judgeQ h
    · exact demandAgrees_judgeW (demandAgrees_judgeQ h)

theorem demandAgrees_freeSlots (l : List Nat) (h : s.demandAgrees) : (freeSlots l s).demandAgrees := by
  refine demandAgrees_withDepths ?_
  induction l generalizing s with
  | nil => exact h
  | cons i l ih =>
    have source : (freeOne s i).output.source = s.output.source := by simp only [freeOne]; split <;> rfl
    have priming : (freeOne s i).output.priming = s.output.priming := by simp only [freeOne]; split <;> rfl
    exact ih (h.of (source := source) (priming := priming))

theorem demandAgrees_setRoles (h : s.demandAgrees) : (setRoles s).demandAgrees := demandAgrees_withDepths h.of

theorem demandAgrees_mixerRun (n : Nat) (h : s.demandAgrees) : (mixerRun n s).demandAgrees := by
  induction n generalizing s with
  | zero => exact h
  | succ n ih =>
    unfold mixerRun
    split
    · exact h
    · dsimp only
      split
      · exact ih (demandAgrees_freeSlots _ h.of)
      · exact h

theorem demandAgrees_mixerJudge (h : s.demandAgrees) : (mixerJudge s).demandAgrees := demandAgrees_mixerRun _ h

theorem demandAgrees_spanChanged (h : s.demandAgrees) : (spanChanged s).demandAgrees := by
  unfold spanChanged
  dsimp only
  have freed := demandAgrees_freeSlots ((setRoles s).slotsWhere (setRoles s).outsideSpan) (demandAgrees_setRoles h)
  generalize freeSlots ((setRoles s).slotsWhere (setRoles s).outsideSpan) (setRoles s) = v at freed ⊢
  refine demandAgrees_mixerJudge ?_
  split
  · exact freed.of
  · exact freed

/-! ### What a stroke keeps -/

/-- The agreement of the gate, the reading and the demand with the transport state goes from `s` on to `t`. -/
structure Agreed (s t : State) : Prop where
  gate : s.gateAgrees → t.gateAgrees := by exact id
  reading : s.readingAgrees → t.readingAgrees := by exact id
  demand : s.gateAgrees → s.demandAgrees → t.demandAgrees := by exact fun _ h => h.of

theorem Agreed.refl (s : State) : Agreed s s where

theorem Agreed.trans (h : Agreed s t) (k : Agreed t u) : Agreed s u where
  gate := k.gate ∘ h.gate
  reading := k.reading ∘ h.reading
  demand := fun gate demand => k.demand (h.gate gate) (h.demand gate demand)

theorem SlotWork.gateAgrees (h : SlotWork s t) (gate : s.gateAgrees) : t.gateAgrees := by
  unfold State.gateAgrees at *
  rw [h.mixer, h.state]
  obtain ⟨state, taken, punch, latched⟩ := gate
  exact ⟨state, taken, punch, latched ∘ h.latched⟩

theorem SlotWork.readingAgrees (h : SlotWork s t) (reading : s.readingAgrees) : t.readingAgrees := by
  unfold State.readingAgrees at *
  rw [h.decoder, h.state]
  exact reading

theorem SlotWork.agreed (h : SlotWork s t) (demand : s.demandAgrees → t.demandAgrees) : Agreed s t :=
  ⟨h.gateAgrees, h.readingAgrees, fun _ => demand⟩

theorem agreed_freeSlots (l : List Nat) (s : State) : Agreed s (freeSlots l s) :=
  (slotWork_freeSlots l s).agreed (demandAgrees_freeSlots l)

theorem agreed_setSlot (i : Nat) (v : Slot) (s : State) : Agreed s (setSlot i v s) :=
  (slotWork_setSlot i v s).agreed fun h => h.of

theorem agreed_mixerJudge (s : State) : Agreed s (mixerJudge s) :=
  (slotWork_mixerJudge s).agreed demandAgrees_mixerJudge

theorem agreed_spanChanged (s : State) : Agreed s (spanChanged s) :=
  (slotWork_spanChanged s).1.agreed demandAgrees_spanChanged

theorem agreed_judgeQ (s : State) : Agreed s (judgeQ s) := (slotWork_judgeQ s).agreed demandAgrees_judgeQ

/-- A slot's record is written, and the collections with it, with Q and W judged. -/
theorem agreed_withDepths {f : State → State} (h : SlotWork s (f s)) (demand : s.demandAgrees → (f s).demandAgrees) :
    Agreed s (withDepths f s) := (slotWork_withDepths h).agreed (demandAgrees_withDepths ∘ demand)

theorem Agreed.logs (h : Agreed s t) (kind : LogKind) (time : Option Nat) (origin : Origin) (argument : Nat) :
    Agreed s (logEntry kind time origin argument t) := h.trans {}

theorem Agreed.handOffIf (h : Agreed s t) (c : Bool) (x : Handoff) : Agreed s (handOffIf c x t) := by
  cases c
  · exact h
  · exact h.trans {}

/-! ### The punch records -/

/-- Punch records changed outside a take. -/
theorem Agreed.clearPunches (scheduled : s.mixer.taken = false) : Agreed s (spanChanged (clearPunches s)) where
  gate := fun ⟨state, taken, _, latched⟩ => by
    have closed : s.mixer.gateOpen = false := taken ▸ scheduled
    refine (agreed_spanChanged (Machine.clearPunches s)).gate ⟨?_, rfl, (fun h => by cases h), fun h => ?_⟩
    · rw [closed] at state
      exact state
    · rw [closed] at latched
      exact latched h
  reading := (agreed_spanChanged (Machine.clearPunches s)).reading
  demand := fun _ h => demandAgrees_spanChanged h.of

theorem agreed_cancelPunch (reason : CancelReason) (s : State) : Agreed s (cancelPunch reason s) := by
  unfold cancelPunch
  split
  · split
    · exact .refl s
    · next scheduled => exact ((Agreed.clearPunches (by simpa using scheduled)).logs ..).handOffIf ..
  · exact .refl s

theorem agreed_jumpTo (v c : Nat) (s : State) : Agreed s (jumpTo v c s) := by
  refine .trans ?_ (agreed_cancelPunch ..)
  have set : Agreed s { s with decoder := s.decoder.setFrom v } := {
    reading := fun h => by
      unfold State.readingAgrees Decoder.setFrom at *
      split <;> exact h }
  exact (set.trans {}).logs ..

/-- The tests of a punch-in fail with the gate open (R139). -/
theorem gateOpen_of_punchInTests {p : Punch} {o : Option Punch} (h : s.punchInTests p o = none) :
    s.mixer.gateOpen = false := by
  unfold State.punchInTests at h
  split at h
  · cases h
  · next closed => simpa using fun open_ => closed (.inl open_)

theorem agreed_schedule {p : Punch} {o : Option Punch} (h : s.punchInTests p o = none) : Agreed s (spanChanged
    { s with mixer := { s.mixer with punchIn := some p, taken := false, punchOut := o, committed := false } }) := by
  refine .trans ?_ (agreed_spanChanged _)
  exact { gate := fun ⟨state, _, _, latched⟩ => ⟨state, (gateOpen_of_punchInTests h).symm, fun _ => rfl, latched⟩ }

/-- Every calm stroke keeps the agreement. -/
theorem Calm.agreed (h : Calm s t) : Agreed s t := by
  cases h with
  | count => exact {}
  | raise => exact {}
  | log => exact {}
  | sequencer => exact {}
  | cues => exact {}
  | input => exact {}
  | copy k _ _ latch =>
    exact { gate := fun ⟨state, taken, punch, latched⟩ => ⟨state, taken, punch, fun h => (latch h).elim latched id⟩ }
  | status => exact {}
  | marks => exact {}
  | cancel _ scheduled => exact .clearPunches scheduled
  | punchOut => exact .trans {} (agreed_spanChanged _)
  | schedule _ _ _ tests => exact agreed_schedule tests
  | commit => exact {}
  | jump => exact agreed_jumpTo ..
  | mix => exact agreed_mixerJudge s
  | free => exact agreed_freeSlots ..

theorem Calms.agreed (h : Calms s t) : Agreed s t := by
  induction h with
  | refl => exact .refl s
  | tail _ stroke ih => exact ih.trans stroke.agreed

/-! ### Changes of transport state -/

theorem decoder_cancelPunch (reason : CancelReason) (s : State) : (cancelPunch reason s).decoder = s.decoder := by
  unfold cancelPunch
  split
  · split
    · rfl
    · simp only [handOffIf_decoder, logEntry_decoder, (slotWork_spanChanged _).1.decoder]
      rfl
  · rfl

theorem gateAgrees_leaveRolling (gate : s.gateAgrees) : (leaveRolling s).gateAgrees := by
  unfold leaveRolling
  dsimp only
  generalize hu : freeSlots (s.slotsWhere fun v =>
    v.state == .gathering || v.state == .corrected || v.state == .capturing || v.state == .captured ||
    v.state == .mixed || v.state == .writing || v.oldConcealed) s = u
  obtain ⟨state, taken, punch, -⟩ := (agreed_cancelPunch .motion u).gate (hu ▸ (agreed_freeSlots _ s).gate gate)
  generalize cancelPunch .motion u = w at state taken punch
  exact ⟨state, taken, punch, fun h => by cases h⟩

theorem demandAgrees_leaveRolling (gate : s.gateAgrees) (demand : s.demandAgrees) : (leaveRolling s).demandAgrees := by
  unfold leaveRolling
  dsimp only
  generalize hu : freeSlots (s.slotsWhere fun v =>
    v.state == .gathering || v.state == .corrected || v.state == .capturing || v.state == .captured ||
    v.state == .mixed || v.state == .writing || v.oldConcealed) s = u
  have freed : Agreed s u := hu ▸ agreed_freeSlots _ s
  have kept := (freed.trans (agreed_cancelPunch .motion u)).demand gate demand
  generalize cancelPunch .motion u = w at kept
  exact kept.of

theorem decoder_leaveRolling (s : State) : (leaveRolling s).decoder =
    { s.decoder with gathering := false, current := none, next := none, closedLast := false } := by
  unfold leaveRolling
  dsimp only
  rw [decoder_cancelPunch, (slotWork_freeSlots _ s).decoder]

/-- The read mode, the gathering and the late reads of a state just entered. -/
theorem readingAgrees_enterState {new : TransportState} {demand : Demand} (h : s.readingAgrees) :
    (enterState new demand s).readingAgrees := by
  obtain ⟨gathering, -, late⟩ := h
  have lateReads : (s.decoder.lateReads && (new == .stop || new == .cued)) = true → new = .stop ∨ new = .cued := by simp
  have state := enterState_state new demand s
  unfold State.readingAgrees
  rw [state]
  cases old : s.transport.state.rolling <;> cases fresh : new.rolling
  · rw [enterState_steady (old.trans fresh.symm)]
    exact ⟨gathering.trans old, rfl, lateReads⟩
  · rw [enterState_start old fresh]
    exact ⟨rfl, rfl, lateReads⟩
  · rw [enterState_leave old fresh, decoder_leaveRolling]
    exact ⟨rfl, rfl, lateReads⟩
  · rw [enterState_steady (old.trans fresh.symm)]
    exact ⟨gathering.trans old, rfl, lateReads⟩

/-- The gate stays in agreement as a state is entered with the gate as that state has it. -/
theorem gateAgrees_enterState {new : TransportState} {demand : Demand} (changed : (entered new demand s).gateAgrees) :
    (enterState new demand s).gateAgrees := by
  cases old : s.transport.state.rolling <;> cases fresh : new.rolling
  · rw [enterState_steady (old.trans fresh.symm)]; exact changed
  · rw [enterState_start old fresh]; exact changed
  · rw [enterState_leave old fresh]; exact gateAgrees_leaveRolling changed
  · rw [enterState_steady (old.trans fresh.symm)]; exact changed

/-- One state other than RECORD follows another. -/
theorem gateAgrees_entered {new : TransportState} {demand : Demand} (gate : s.gateAgrees)
    (record : s.transport.state = .record ↔ new = .record) : (entered new demand s).gateAgrees :=
  ⟨gate.1.trans record, gate.2⟩

/-- A state entered with the demand that belongs to it. -/
theorem demandAgrees_enterState {new : TransportState} {demand : Demand}
    (gate : (entered new demand s).gateAgrees) (fits : new.rolling = false → DemandFits new s.transport.locate demand)
    (speed : new.rolling = true → demand = .playSpeed .normal) : (enterState new demand s).demandAgrees := by
  have changed : (entered new demand s).demandAgrees := demandAgrees_iff.2 ⟨fits, speed, fun _ => rfl⟩
  cases old : s.transport.state.rolling <;> cases fresh : new.rolling
  · rw [enterState_steady (old.trans fresh.symm)]; exact changed
  · rw [enterState_start old fresh]; exact changed.of
  · rw [enterState_leave old fresh]; exact demandAgrees_leaveRolling gate changed
  · rw [enterState_steady (old.trans fresh.symm)]; exact changed

/-- A gate closed by any event leaves both punch records empty and the copy gate open. -/
theorem closeGate_gate (s : State) : (closeGate s).mixer.gateOpen = false ∧ (closeGate s).mixer.taken = false ∧
    (closeGate s).copy.latched = false := by
  unfold closeGate
  dsimp only
  generalize freeSlots _ s = u
  generalize hw : clearPunches _ = w
  have spans := slotWork_spanChanged w
  have closed : w.mixer.gateOpen = false ∧ w.mixer.taken = false ∧ w.mixer.punchIn = none := by subst hw; exact ⟨rfl, rfl, rfl⟩
  rw [spans.1.mixer]
  exact ⟨closed.1, closed.2.1, spans.2 closed.2.2⟩

theorem closeAtOnce_gate {event : ClosingEvent} {origin : Origin} (h : s.mixer.gateOpen = true) :
    (closeAtOnce event origin s).mixer.gateOpen = false ∧ (closeAtOnce event origin s).mixer.taken = false ∧
    (closeAtOnce event origin s).copy.latched = false := by
  have closed := closeGate_gate s
  unfold closeAtOnce
  rw [if_pos h]
  generalize closeGate s = u at closed
  cases s.listPunch <;> exact closed

/-- The closing of the gate leaves the decoder and the transport as they were, but for the trim in the demand. -/
theorem closeAtOnce_keeps (event : ClosingEvent) (origin : Origin) (s : State) :
    (closeAtOnce event origin s).decoder = s.decoder ∧
    (closeAtOnce event origin s).transport = { s.transport with demand := (closeAtOnce event origin s).transport.demand } := by
  have closed : (closeGate s).decoder = s.decoder ∧
      (closeGate s).transport = { s.transport with demand := (closeGate s).transport.demand } := by
    unfold closeGate
    dsimp only
    generalize hu : freeSlots _ s = u
    have freed : SlotWork s u := hu ▸ slotWork_freeSlots _ s
    generalize hw : clearPunches _ = w
    have cleared : w.decoder = u.decoder ∧ w.transport = u.transport := by subst hw; exact ⟨rfl, rfl⟩
    have spans := (slotWork_spanChanged w).1
    generalize spanChanged w = x at spans
    exact ⟨by rw [spans.decoder, cleared.1, freed.decoder], by rw [spans.transport, cleared.2, freed.transport]⟩
  unfold closeAtOnce
  split
  · generalize closeGate s = u at closed
    cases s.listPunch <;> exact closed
  · exact ⟨rfl, rfl⟩

/-- A state other than RECORD is entered from RECORD, the gate closed at once. -/
theorem agreed_closing {event : ClosingEvent} {origin : Origin} {new : TransportState} (state : s.transport.state = .record)
    (fits : DemandFits new s.transport.locate .stop) :
    Agreed s (enterState new .stop (closeAtOnce event origin s)) := by
  have away : new.rolling = false ∧ new ≠ .record := by cases new <;> first | exact ⟨rfl, by decide⟩ | exact fits.elim
  have changed (gate : s.gateAgrees) : (entered new .stop (closeAtOnce event origin s)).gateAgrees := by
    obtain ⟨closed, taken, opened⟩ := closeAtOnce_gate (event := event) (origin := origin) (gate.1.2 state)
    generalize closeAtOnce event origin s = u at closed taken opened ⊢
    have never : (entered new .stop u).mixer.gateOpen ≠ true := by
      show u.mixer.gateOpen ≠ true
      rw [closed]; decide
    exact ⟨⟨fun h => absurd h never, fun h => absurd h away.2⟩, taken.trans closed.symm, fun h => absurd h never,
      fun h => absurd (opened.symm.trans h) (by decide)⟩
  refine ⟨fun gate => gateAgrees_enterState (changed gate), fun reading => ?_, fun gate _ => ?_⟩
  · refine readingAgrees_enterState ?_
    unfold State.readingAgrees
    rw [(closeAtOnce_keeps ..).1, closeAtOnce_state]
    exact reading
  · refine demandAgrees_enterState (changed gate) (fun _ => ?_) fun rolling => absurd rolling (by rw [away.1]; decide)
    rw [(closeAtOnce_keeps ..).2]
    exact fits

/-- A state is entered from one other than RECORD, off play speed. -/
theorem agreed_move (q : Sequencer) (r : LocateRecord) {new : TransportState} {demand : Demand}
    (state : s.transport.state ≠ .record) (fits : DemandFits new r demand) :
    Agreed s (enterState new demand { s with sequencer := q, transport := { s.transport with locate := r } }) := by
  have away : new.rolling = false ∧ new ≠ .record := by cases new <;> first | exact ⟨rfl, by decide⟩ | exact fits.elim
  have changed (gate : s.gateAgrees) :
      (entered new demand { s with sequencer := q, transport := { s.transport with locate := r } }).gateAgrees :=
    gateAgrees_entered gate ⟨fun h => absurd h state, fun h => absurd h away.2⟩
  exact ⟨fun gate => gateAgrees_enterState (changed gate), fun reading => readingAgrees_enterState reading,
    fun gate _ => demandAgrees_enterState (changed gate) (fun _ => fits) fun rolling => absurd rolling (by rw [away.1]; decide)⟩

/-! ### The slots and the output -/

theorem agreed_store (i : Nat) (v : Slot) (s : State) (x : FrameStore) (h : x.slots = s.store.slots.set i v)
    (trim : x.trim = s.store.trim) : Agreed s { s with store := x } :=
  (slotWork_store i v s x h).agreed fun demand => demand.of (trim := trim)

theorem agreed_takeFrame (last i : Nat) (ahead : LookAhead) (s : State) : Agreed s (takeFrame last i ahead s) := by
  have joined (u : State) : Agreed u (joinOutput last i u) := by
    have moved (v : State) : Agreed v (withDepths (fun t => { t with store := { t.store with
        gatherList := t.store.gatherList.filter (· != i), outputQueue := t.store.outputQueue ++ [i] } }) v) :=
      agreed_withDepths (by constructor <;> first | rfl | exact id) fun h => h.of
    unfold joinOutput
    dsimp only
    refine .trans (.trans (t := count .framesDropped (u.outOfOrder ((u.slot i).frameTime.getD 0)).length
      (freeSlots (u.outOfOrder ((u.slot i).frameTime.getD 0)) u)) ((agreed_freeSlots _ u).trans {}) ?_) (agreed_mixerJudge _)
    split
    · exact (moved _).trans (agreed_freeSlots _ _)
    · exact moved _
  unfold takeFrame
  dsimp only
  generalize concealPairs _ _ ahead _ _ = r
  generalize hv : ({ s.slot i with state := .concealed, pairs := r.pairs, interpolated := r.interpolated, gaps := r.gaps } : Slot)
    = v
  have written : Agreed s (setSlot i v { s with conceal := r.unit }) := .trans {} (agreed_setSlot i v { s with conceal := r.unit })
  refine .trans (.trans written ?_) (joined _)
  split
  · exact .refl _
  · exact {}

theorem agreed_completeCapture (i : Nat) (s : State) : Agreed s (completeCapture i s) := by
  unfold completeCapture
  refine .trans (agreed_withDepths (slotWork_store i { s.slot i with state := .captured } s _ (by rfl)) fun h => ?_)
    (agreed_mixerJudge _)
  exact h.of

theorem agreed_capturePair (i : Nat) (p : Pair × Bool) (s : State) : Agreed s (capturePair i p s) := by
  unfold capturePair
  dsimp only
  generalize hu : updateSlot i _ s = u
  have filled : Agreed s u := hu ▸ agreed_setSlot i _ s
  generalize hw : (if (s.slot i).pairs.isEmpty = true then combineEntry i u else u) = w
  have combined : Agreed s w := by
    subst hw
    split
    · exact filled.trans (calms_combineEntry i u).agreed
    · exact filled
  split
  · exact combined.trans (agreed_completeCapture i w)
  · exact combined

theorem agreed_monitorFinished (i : Nat) (s : State) : Agreed s (monitorFinished i s) := by
  unfold monitorFinished
  dsimp only
  split
  · exact (agreed_setSlot ..).trans (agreed_freeSlots ..)
  · exact agreed_setSlot ..

theorem agreed_endOutputSlot (s : State) : Agreed s (endOutputSlot s) := by
  unfold endOutputSlot
  split
  · exact .refl s
  · have silent : Agreed s { s with output := { s.output with playing := none } } := {}
    dsimp only
    split
    · exact silent.trans (agreed_freeSlots ..)
    · split
      · exact silent.trans (agreed_monitorFinished ..)
      · exact silent

theorem agreed_supplyFinished (i : Nat) (s : State) : Agreed s (supplyFinished i s) := by
  unfold supplyFinished
  dsimp only
  split
  · exact (agreed_setSlot ..).trans (agreed_freeSlots ..)
  · exact agreed_setSlot ..

theorem agreed_windowTrim (gate : s.mixer.gateOpen = true) : Agreed s (windowTrim s) := by
  refine ⟨(slotWork_windowTrim s).gateAgrees, (slotWork_windowTrim s).readingAgrees, fun agrees demand => ?_⟩
  unfold windowTrim
  split
  · exact demandAgrees_setTrim (.inl (agrees.1.1 gate)) demand
  · exact demandAgrees_judgeW demand

/-- A change of the monitor source comes with the trim NORMAL, since the source before was not what the state calls for. -/
theorem agreed_changeSource (change : s.transport.state.monitor ≠ s.output.source) :
    Agreed s (changeSource s.transport.state.monitor s) := by
  unfold changeSource
  dsimp only
  generalize hu : (if s.output.source = .tape then freeSlots s.playSlots s else s) = u
  have freed : SlotWork s u ∧ Agreed s u := by
    subst hu
    split
    · exact ⟨slotWork_freeSlots .., agreed_freeSlots ..⟩
    · exact ⟨.refl s, .refl s⟩
  have source : u.output.source = s.output.source := by rw [freed.1.output]
  refine freed.2.trans { demand := fun _ demand => ?_ }
  obtain ⟨off, rolling, normal⟩ := demandAgrees_iff.1 demand
  refine demandAgrees_iff.2 ⟨off, rolling, fun still => normal fun trims => still ?_⟩
  rcases trims with record | ⟨play, tape, -⟩
  · exact .inl record
  · have state := freed.1.state.symm.trans play
    rw [state] at change
    exact absurd (source.symm.trans tape).symm change

theorem agreed_beginPlaying (i : Nat) (s : State) : Agreed s (beginPlaying i s).1 := by
  unfold beginPlaying
  dsimp only
  generalize hu : withDepths _ s = u
  have moved : Agreed s u := by
    subst hu
    exact agreed_withDepths (slotWork_store i { s.slot i with state := .playing } s _ (by rfl)) fun h => h.of
  exact moved.trans {}

theorem agreed_takeWindow (i : Nat) (s : State) : Agreed s (takeWindow i s) := by
  unfold takeWindow
  dsimp only
  generalize hu : withDepths _ s = u
  have moved : Agreed s u := by
    subst hu
    exact agreed_withDepths (slotWork_store i
      { s.slot i with state := .writing, start := (s.cues.mark.window s.decoder.time).1.isSome } s _ (by rfl)) fun h => h.of
  exact moved.trans {}

theorem agreed_findGatherSlot (s : State) : Agreed s (findGatherSlot s).1 := by
  unfold findGatherSlot
  split
  · exact .refl s
  · split
    · exact .refl s
    · exact (agreed_freeSlots _ s).trans {}

theorem agreed_openGather (g : GatherFrame) (s : State) : Agreed s (openGather g s).1 := by
  have found := agreed_findGatherSlot s
  unfold openGather
  split
  · next t i h =>
    rw [h] at found
    exact found.trans (agreed_store i (Slot.opened .gathering (t.roleFor g.time) g.time t.activeFormat) t _ (by rfl) (by rfl))
  · next h =>
    rw [h] at found
    exact found

theorem agreed_placeBlock (b : TapeBlock) (g : GatherFrame) (s : State) : Agreed s (placeBlock b g s).1 := by
  unfold placeBlock
  split
  · exact .refl s
  · dsimp only
    split
    · split
      · exact .refl s
      · exact .refl s
    · split
      · exact agreed_openGather g s
      · exact agreed_openGather g s

theorem agreed_takeBlock (b : TapeBlock) (g : GatherFrame) (s : State) : Agreed s (takeBlock b g s) := by
  have current (h : GatherFrame) (u : State) : Agreed u (placeCurrent b h u) := (agreed_placeBlock b h u).trans {}
  have next (h : GatherFrame) (u : State) : Agreed u (placeNext b h u) := (agreed_placeBlock b h u).trans {}
  have acquired (c : Bool) (h : GatherFrame) (n : Option GatherFrame) :
      Agreed s (if c = true then placeCurrent b h { s with decoder := { s.decoder with next := n } } else s) := by
    split
    · exact .trans {} (current ..)
    · exact .refl s
  unfold takeBlock
  dsimp only
  split
  · exact current ..
  · split
    · split
      · exact next ..
      · exact acquired ..
    · split
      · exact .refl s
      · exact acquired ..

/-! ### The gate at a pulse -/

theorem agreed_openGate (punch : s.mixer.punchIn.isSome = true) : Agreed s (spanChanged (enterState .record (.playSpeed .normal)
      { s with mixer := { s.mixer with taken := true, gateOpen := true } })) := by
  refine .trans ?_ (agreed_spanChanged _)
  have changed : (entered .record (.playSpeed .normal)
      { s with mixer := { s.mixer with taken := true, gateOpen := true } }).gateAgrees :=
    ⟨⟨fun _ => rfl, fun _ => rfl⟩, rfl, fun _ => punch, fun _ => rfl⟩
  exact ⟨fun _ => gateAgrees_enterState changed, fun reading => readingAgrees_enterState reading,
    fun _ _ => demandAgrees_enterState changed (fun h => by cases h) fun _ => rfl⟩

theorem agreed_closePulse (s : State) : Agreed s (enterState .play (.playSpeed .normal) (spanChanged (clearPunches s))) := by
  have changed : (entered .play (.playSpeed .normal) (spanChanged (clearPunches s))).gateAgrees := by
    obtain ⟨spans, opened⟩ := slotWork_spanChanged (clearPunches s)
    have opened := opened rfl
    have mixer := spans.mixer
    generalize spanChanged (clearPunches s) = u at mixer opened ⊢
    have closed : u.mixer.gateOpen = false ∧ u.mixer.taken = false := by rw [mixer]; exact ⟨rfl, rfl⟩
    have never : (entered .play (.playSpeed .normal) u).mixer.gateOpen ≠ true := by
      show u.mixer.gateOpen ≠ true
      rw [closed.1]; decide
    exact ⟨⟨fun h => absurd h never, fun h => by cases h⟩, closed.2.trans closed.1.symm, fun h => absurd h never,
      fun h => absurd (opened.symm.trans h) (by decide)⟩
  refine ⟨fun _ => gateAgrees_enterState changed, fun reading => readingAgrees_enterState ?_,
    fun _ _ => demandAgrees_enterState changed (fun h => by cases h) fun _ => rfl⟩
  exact (slotWork_spanChanged _).1.readingAgrees reading

/-- Every stroke keeps the agreement. -/
theorem Act.agreed (h : Act s t) : Agreed s t := by
  cases h with
  | calm h => exact h.agreed
  | move q r new demand _ state fits => exact agreed_move q r state fits
  | closing event origin new _ state fits => exact agreed_closing state fits
  | closeIdle event origin _ state =>
    by_cases open_ : s.mixer.gateOpen = true
    · refine ⟨fun gate => absurd (gate.1.1 open_) state, fun reading => ?_, fun gate => absurd (gate.1.1 open_) state⟩
      unfold State.readingAgrees
      rw [(closeAtOnce_keeps ..).1, closeAtOnce_state]
      exact reading
    · rw [closeAtOnce_closed (by simpa using open_)]
      exact .refl s
  | lateReads _ state => exact { reading := fun ⟨gathering, mode, _⟩ => ⟨gathering, mode, fun _ => state⟩ }
  | transport x _ state demand locate =>
    exact {
      gate := fun gate => by unfold State.gateAgrees; rw [state]; exact gate
      reading := fun reading => by unfold State.readingAgrees; rw [state]; exact reading
      demand := fun _ h => h.of (state := state) (locate := locate) (demand := demand) }
  | steer r demand _ state fits =>
    refine { demand := fun _ h => ?_ }
    obtain ⟨-, -, normal⟩ := demandAgrees_iff.1 h
    refine demandAgrees_iff.2 ⟨fun _ => ?_, fun rolling => ?_, normal⟩
    · show DemandFits s.transport.state r demand
      rw [state]; exact fits
    · have : s.transport.state.rolling = true := rolling
      rw [state] at this
      cases this
  | spinUp _ state =>
    have changed (gate : s.gateAgrees) : (entered .play (.playSpeed .normal) s).gateAgrees :=
      gateAgrees_entered gate ⟨(fun h => by rw [state] at h; cases h), fun h => by cases h⟩
    exact ⟨fun gate => gateAgrees_enterState (changed gate), readingAgrees_enterState,
      fun gate _ => demandAgrees_enterState (changed gate) (fun h => by cases h) fun _ => rfl⟩
  | openGate _ punch => exact agreed_openGate punch
  | closePulse => exact agreed_closePulse s
  | readTime => exact {}
  | clearTape => exact {}
  | take => exact agreed_takeFrame ..
  | capture => exact agreed_capturePair ..
  | output o _ _ source priming =>
    refine { demand := fun _ h => ?_ }
    obtain ⟨off, rolling, normal⟩ := demandAgrees_iff.1 h
    refine demandAgrees_iff.2 ⟨off, rolling, fun still => normal fun trims => still ?_⟩
    rcases trims with record | ⟨play, tape, primed⟩
    · exact .inl record
    · exact .inr ⟨play, source.trans tape, Bool.eq_false_iff.2 fun h => absurd (priming h) (by rw [primed]; decide)⟩
  | endSlot => exact agreed_endOutputSlot s
  | source _ change => exact agreed_changeSource change
  | finished => exact agreed_monitorFinished ..
  | play => exact agreed_beginPlaying ..
  | monitor => exact (agreed_setSlot _ _ s).trans {}
  | conceal => exact {}
  | depth => exact agreed_judgeQ s
  | cut => exact .trans {} (agreed_supplyFinished ..)
  | windowTrim _ gate => exact agreed_windowTrim gate
  | window => exact agreed_takeWindow ..
  | coder => exact {}
  | supplied => exact agreed_supplyFinished ..
  | gather => exact agreed_takeBlock ..

theorem Acts.agreed (h : Acts s t) : Agreed s t := by
  induction h with
  | refl => exact .refl s
  | tail _ stroke ih => exact ih.trans stroke.agreed

/-! ### Deeds and the frame pulse -/

theorem agreed_softReset (origin : Origin) (scope : Nat) (s : State) : Agreed s (softReset origin scope s) := by
  have reset (u : State) (off : u.transport.state = .stop ∨ u.transport.state = .empty) (demand : u.transport.demand = .stop)
      (mixer : u.mixer = State.reset.mixer) (latched : u.copy.latched = false) (decoder : u.decoder = State.reset.decoder)
      (trim : u.store.trim = .normal) : u.gateAgrees ∧ u.readingAgrees ∧ u.demandAgrees := by
    have gate : u.mixer.gateOpen = false := by rw [mixer]; rfl
    have never : u.mixer.gateOpen ≠ true := by rw [gate]; decide
    refine ⟨⟨⟨fun h => absurd h never, fun h => ?_⟩, ?_, fun h => absurd h never, fun h => ?_⟩, ?_, ?_⟩
    · rcases off with e | e <;> rw [e] at h <;> cases h
    · rw [gate, mixer]; rfl
    · rw [latched] at h; cases h
    · unfold State.readingAgrees
      rw [decoder]
      rcases off with e | e <;> rw [e] <;> exact ⟨rfl, rfl, fun h => by cases h⟩
    · refine demandAgrees_iff.2 ⟨fun _ => ?_, fun h => ?_, fun _ => trim⟩
      · rcases off with e | e <;> rw [e] <;> exact demand
      · rcases off with e | e <;> rw [e] at h <;> cases h
  have state (x : Transport) : x.softReset.state = .stop ∨ x.softReset.state = .empty := by
    unfold Transport.softReset
    cases x.tapePresent
    · exact .inr rfl
    · exact .inl rfl
  have all : (softReset origin scope s).gateAgrees ∧ (softReset origin scope s).readingAgrees ∧
      (softReset origin scope s).demandAgrees := by
    unfold softReset
    dsimp only
    split
    · exact reset _ (state _) rfl rfl rfl rfl rfl
    · exact reset _ (state _) rfl rfl rfl rfl rfl
  exact ⟨fun _ => all.1, fun _ => all.2.1, fun _ _ => all.2.2⟩

theorem Deed.agreed (h : Deed s t) : Agreed s t := by
  cases h with
  | act h => exact h.agreed
  | ports => exact {}
  | ready => exact {}
  | clear => exact {}
  | mask => exact {}
  | stage => exact {}
  | askSwitch => exact {}
  | softReset => exact agreed_softReset ..
  | powerOn =>
    refine ⟨fun _ => ?_, fun _ => ?_, fun _ _ => ?_⟩
    · exact ⟨⟨(fun h => by cases h), fun h => by cases h⟩, rfl, (fun h => by cases h), fun h => by cases h⟩
    · exact ⟨rfl, rfl, fun h => by cases h⟩
    · exact demandAgrees_iff.2 ⟨fun _ => rfl, (fun h => by cases h), fun _ => rfl⟩

theorem Deeds.agreed (h : Deeds s t) : Agreed s t := by
  induction h with
  | refl => exact .refl s
  | tail _ deed ih => exact ih.trans deed.agreed

theorem agreed_pulseBanks (s : State) : Agreed s (pulseBanks s) := by
  rcases pulseBanks_spec s with same | ⟨-, rest⟩
  · rw [same]; exact .refl s
  · exact .trans {} rest.agreed

theorem agreed_closeFrame (g : GatherFrame) (s : State) : Agreed s (closeFrame g s) := by
  unfold closeFrame
  split
  · next i _ =>
    unfold closeSlot
    dsimp only
    generalize hm : markSuccessor s = m
    have marked : Agreed s m := by
      subst hm
      unfold markSuccessor
      split
      · split
        · exact agreed_setSlot ..
        · exact .refl s
      · exact .refl s
    generalize m.closedSlot g (m.slot i) = v
    have closed : Agreed s { setSlot i v m with decoder := { (setSlot i v m).decoder with closedLast := true } } :=
      (marked.trans (agreed_setSlot i v m)).trans {}
    generalize ({ setSlot i v m with decoder := { (setSlot i v m).decoder with closedLast := true } } : State) = c at closed
    have counted : Agreed s (if v.tally.rebuilt = 0 then c else count .blocksRebuilt v.tally.rebuilt c) := by
      split
      · exact closed
      · exact closed.trans {}
    split
    · exact counted
    · next r valid =>
      exact counted.trans ((calms_judgeMismatch r _).agreed.trans (calms_handOnSubcode _ (selectSubcode_time valid)).agreed)
  · exact {}

theorem agreed_aim (s : State) : Agreed s (aim s) := by
  unfold aim
  dsimp only
  have freed (o : Option Nat) : Agreed s (match o with
      | some i => freeSlots [i] s
      | none => s) := by
    cases o
    · exact .refl s
    · exact agreed_freeSlots _ s
  have timed (o : Option Nat) (u : State) : Agreed u (match o with
      | some i => updateSlot i (fun v => { v with frameTime := some s.decoder.expected }) u
      | none => u) := by
    cases o
    · exact .refl u
    · exact agreed_setSlot ..
  exact ((freed _).trans (timed _ _)).trans {}

theorem agreed_pulseGather (s : State) : Agreed s (pulseGather s) := by
  unfold pulseGather
  split
  · rw [gatherPulse_eq]
    have stepped : Agreed s { s with decoder := s.decoder.stepTime } :=
      { reading := fun h => by unfold State.readingAgrees Decoder.stepTime at *; split <;> exact h }
    have current (u : State) : Agreed u (closeCurrent u) := by
      unfold closeCurrent
      split
      · exact .refl u
      · exact (agreed_closeFrame ..).trans (calms_judgeFrame ..).agreed
    have lost (u : State) : Agreed u (lostSeen u) := by
      unfold lostSeen
      split
      · exact {}
      · exact .refl u
    exact (stepped.trans (current _)).trans (((calms_judgeHoldover _).agreed.trans (lost _)).trans (agreed_aim _))
  · exact (calms_judgeHoldover s).agreed

theorem agreed_pulseCapture (s : State) : Agreed s (pulseCapture s) := by
  unfold pulseCapture
  dsimp only
  split
  · split
    · exact (agreed_setSlot ..).trans {}
    · exact .refl s
  · exact .refl s

end

end Sys2Proof.Machine

namespace Sys2Proof.Proofs
open Sys2Proof.Machine

/-- Settles O56: every deed and each part of a frame pulse keeps the gate, the reading and the demand in agreement. -/
theorem stepKeepsAgreement : Obligations.StepKeepsAgreement := by
  intro s t h
  have agreed : Agreed s t := by
    rcases step_cases h with deeds | ⟨u, v, queued, before, after⟩
    · exact deeds.agreed
    · exact ((queued.agreed.trans (agreed_pulseBanks u)).trans (agreed_pulseGather _)).trans
        (before.agreed.trans ((agreed_pulseCapture v).trans after.agreed))
  exact ⟨agreed.gate, agreed.reading, agreed.demand⟩

end Sys2Proof.Proofs
end

section
/-! The Frame Store stays sound: what each change of a slot does to the collections and to the blocks that hold slots. Lemmas for
O59. -/

namespace Sys2Proof.Machine

-- One theorem after another: each one elaborated at the same time would hold a stack of its own.
set_option Elab.async false

/-- The Frame Store is sound but for whose slots are being gathered: `l` are the GATHERING slots, in their order, and stand behind the
CORRECTED ones on the gather list. Between a close and the next aim they are not those of the decoder's two frames. -/
structure SoundWith (l : List Nat) (s : State) : Prop where
  collections : s.collectionsSound
  gathered : ∃ c, s.store.gatherList = c ++ l ∧ (∀ i ∈ c, (s.slot i).state = .corrected) ∧
    ∀ i ∈ l, (s.slot i).state = .gathering
  fields : s.copy.inputFields.map (·.1) = s.store.captureList
  write : ∀ w ∈ s.coder.current, (s.slot w.slot).state = .writing ∧ (s.slot w.slot).frameTime = some w.time
  playing : ∀ i ∈ s.output.playing, (s.slot i).state = .playing ∨ (s.slot i).state = .writing

/-- The slots of the current and the next frame. -/
def State.gatheringSlots (s : State) : List Nat := (s.decoder.current.bind (·.slot)).toList ++ s.decoder.nextSlot.toList

section
variable {s t u : State} {l : List Nat}

/-! ### Soundness and its parts -/

theorem SoundWith.length (h : SoundWith l s) : s.store.slots.length = 16 := h.collections.1

theorem SoundWith.agrees (h : SoundWith l s) {i : Nat} (hi : i < 16) : s.slotAgrees i := by
  obtain ⟨-, -, -, -, -, -, agrees, -⟩ := h.collections
  exact agrees i hi

/-- A slot number above 15 names no slot. -/
theorem slot_above (length : s.store.slots.length = 16) {i : Nat} (hi : ¬ i < 16) : s.slot i = Slot.freed := by
  unfold State.slot
  rw [List.getD_eq_default]
  omega

theorem lt_of_state (length : s.store.slots.length = 16) {i : Nat} (h : (s.slot i).state ≠ .free) : i < 16 := by
  by_contra above
  exact h (by rw [slot_above length above]; rfl)

theorem SoundWith.lt (h : SoundWith l s) {i : Nat} (state : (s.slot i).state ≠ .free) : i < 16 := lt_of_state h.length state

theorem SoundWith.below (h : SoundWith l s) {i : Nat} (hi : i ∈ s.store.captureList ∨ i ∈ s.store.writeQueue ∨
    i ∈ s.store.gatherList ∨ i ∈ s.store.outputQueue) : i < 16 := by
  obtain ⟨-, -, -, -, -, below, -⟩ := h.collections
  refine below i ?_
  simp only [List.mem_append]
  tauto

theorem SoundWith.mem_captureList (h : SoundWith l s) {i : Nat} :
    i ∈ s.store.captureList ↔ (s.slot i).state = .capturing ∨ (s.slot i).state = .captured := by
  by_cases hi : i < 16
  · obtain ⟨-, -, -, capture, -⟩ := h.agrees hi
    exact capture
  · rw [slot_above h.length hi]
    exact ⟨fun m => absurd (h.below (.inl m)) hi, by rintro (e | e) <;> cases e⟩

theorem SoundWith.mem_writeQueue (h : SoundWith l s) {i : Nat} :
    i ∈ s.store.writeQueue ↔ (s.slot i).state = .captured ∨ (s.slot i).state = .mixed := by
  by_cases hi : i < 16
  · obtain ⟨-, -, -, -, write, -⟩ := h.agrees hi
    exact write
  · rw [slot_above h.length hi]
    exact ⟨fun m => absurd (h.below (.inr (.inl m))) hi, by rintro (e | e) <;> cases e⟩

theorem SoundWith.mem_gatherList (h : SoundWith l s) {i : Nat} :
    i ∈ s.store.gatherList ↔ (s.slot i).state = .gathering ∨ (s.slot i).state = .corrected := by
  by_cases hi : i < 16
  · obtain ⟨-, -, -, -, -, gather, -⟩ := h.agrees hi
    exact gather
  · rw [slot_above h.length hi]
    exact ⟨fun m => absurd (h.below (.inr (.inr (.inl m)))) hi, by rintro (e | e) <;> cases e⟩

theorem SoundWith.mem_outputQueue (h : SoundWith l s) {i : Nat} :
    i ∈ s.store.outputQueue ↔ (s.slot i).state = .concealed := by
  by_cases hi : i < 16
  · obtain ⟨-, -, -, -, -, -, output, -⟩ := h.agrees hi
    exact output
  · rw [slot_above h.length hi]
    exact ⟨fun m => absurd (h.below (.inr (.inr (.inr m)))) hi, fun e => by cases e⟩

theorem SoundWith.mem_gathering (h : SoundWith l s) {i : Nat} : i ∈ l ↔ (s.slot i).state = .gathering := by
  obtain ⟨c, split, corrected, gathering⟩ := h.gathered
  refine ⟨gathering i, fun state => ?_⟩
  have mem := h.mem_gatherList.2 (.inl state)
  rw [split] at mem
  rcases List.mem_append.1 mem with m | m
  · rw [corrected i m] at state; cases state
  · exact m

theorem SoundWith.output_times (h : SoundWith l s) : (s.times s.store.outputQueue).Pairwise (· < ·) := by
  obtain ⟨-, -, -, -, -, -, -, times⟩ := h.collections
  exact times

theorem SoundWith.frameTime (h : SoundWith l s) {i : Nat} (state : (s.slot i).state ≠ .free) : (s.slot i).frameTime ≠ none := by
  obtain ⟨-, time, -⟩ := h.agrees (h.lt state)
  exact time state

theorem SoundWith.role (h : SoundWith l s) (i : Nat) : (s.slot i).roleAgrees = true := by
  by_cases hi : i < 16
  · obtain ⟨-, -, role, -⟩ := h.agrees hi
    exact role
  · rw [slot_above h.length hi]; rfl

theorem SoundWith.of_playing (h : SoundWith l s) {i : Nat} (state : (s.slot i).state = .playing) : s.output.playing = some i := by
  obtain ⟨-, -, -, -, -, -, -, playing⟩ := h.agrees (h.lt (by rw [state]; decide))
  exact playing state

/-- The CORRECTED slots of a sound store are the head of the gather list. -/
theorem SoundWith.split (h : SoundWith l s) : s.store.gatherList = s.correctedSlots ++ l := by
  obtain ⟨c, split, corrected, gathering⟩ := h.gathered
  have head : c.filter (fun i => (s.slot i).state == .corrected) = c :=
    List.filter_eq_self.2 fun i hi => by simpa using corrected i hi
  have tail : l.filter (fun i => (s.slot i).state == .corrected) = [] :=
    List.filter_eq_nil_iff.2 fun i hi => by rw [gathering i hi]; decide
  unfold State.correctedSlots
  rw [split, List.filter_append, head, tail, List.append_nil]

theorem storeSound_iff : s.storeSound ↔ SoundWith s.gatheringSlots s ∧
    (s.transport.state.rolling = false → s.decoder.current = none ∧ s.decoder.next = none) := by
  constructor
  · rintro ⟨collections, split, fields, write, playing, off⟩
    have sound := collections
    obtain ⟨length, -, -, nodup, -, below, agrees, -⟩ := collections
    rw [List.append_assoc] at split
    refine ⟨⟨sound, ⟨s.correctedSlots, split, fun i hi => by simpa using (List.mem_filter.1 hi).2, fun i hi => ?_⟩, fields, write,
      playing⟩, off⟩
    have mem : i ∈ s.store.gatherList := by rw [split]; exact List.mem_append_right _ hi
    have hi16 : i < 16 := below i (by simp only [List.mem_append]; tauto)
    obtain ⟨-, -, -, -, -, gather, -⟩ := agrees i hi16
    refine (gather.1 mem).resolve_right fun corrected => ?_
    rw [split] at nodup
    refine (List.nodup_append.1 nodup).2.2 i (List.mem_filter.2 ⟨mem, by simpa using corrected⟩) i hi rfl
  · rintro ⟨h, off⟩
    refine ⟨h.collections, ?_, h.fields, h.write, h.playing, off⟩
    rw [List.append_assoc]
    exact h.split

/-! ### Changes of what the store's soundness does not depend on -/

/-- Soundness depends on the slots, the collections, the input field list's slots, the write frame and the slot being output. -/
theorem SoundWith.of (h : SoundWith l s) (slots : t.store.slots = s.store.slots := by rfl)
    (capture : t.store.captureList = s.store.captureList := by rfl)
    (gather : t.store.gatherList = s.store.gatherList := by rfl)
    (output : t.store.outputQueue = s.store.outputQueue := by rfl)
    (queue : t.store.writeQueue = s.store.writeQueue := by rfl)
    (fields : t.copy.inputFields.map (·.1) = s.copy.inputFields.map (·.1) := by rfl)
    (current : t.coder.current = none ∨ t.coder.current = s.coder.current := by exact .inr rfl)
    (playing : t.output.playing = s.output.playing := by rfl) : SoundWith l t := by
  have slot (i : Nat) : t.slot i = s.slot i := by simp only [State.slot, slots]
  obtain ⟨collections, gathered, fieldsOf, write, played⟩ := h
  refine ⟨?_, ?_, ?_, ?_, ?_⟩
  · unfold State.collectionsSound State.slotAgrees State.times at *
    simp only [slots, capture, gather, output, queue, slot, playing]
    exact collections
  · simp only [gather, slot]
    exact gathered
  · rw [fields, capture]
    exact fieldsOf
  · simp only [slot]
    rcases current with none | same
    · rw [none]; intro w hw; cases hw
    · rw [same]; exact write
  · simp only [slot, playing]
    exact played

/-! ### Slots freed -/

/-- Slots freed leave a sound store sound, with the GATHERING slots among them gone. -/
theorem SoundWith.frees {fs : List Nat} (h : SoundWith l s) (f : Frees fs s t) : SoundWith (l.filter (· ∉ fs)) t := by
  obtain ⟨collections, ⟨c, split, corrected, gathering⟩, fields, write, playing⟩ := h
  have kept {i : Nat} (hi : i ∉ fs) : t.slot i = s.slot i := by rw [f.slot, if_neg hi]
  have freed {i : Nat} (hi : i ∈ fs) : t.slot i = Slot.freed := by rw [f.slot, if_pos hi]
  obtain ⟨length, capture, queue, gather, output, below, agrees, times⟩ := collections
  refine ⟨⟨f.work.slots.trans length, ?_, ?_, ?_, ?_, ?_, ?_, ?_⟩, ⟨c.filter (· ∉ fs), ?_, ?_, ?_⟩, ?_, ?_, ?_⟩
  · rw [f.captureList]; exact capture.filter _
  · rw [f.writeQueue]; exact queue.filter _
  · rw [f.gatherList]; exact gather.filter _
  · rw [f.outputQueue]; exact output.filter _
  · intro i hi
    rw [f.captureList, f.writeQueue, f.gatherList, f.outputQueue, ← List.filter_append, ← List.filter_append,
      ← List.filter_append] at hi
    exact below i (List.mem_filter.1 hi).1
  · intro i hi
    unfold State.slotAgrees
    rw [f.captureList, f.writeQueue, f.gatherList, f.outputQueue]
    simp only [List.mem_filter, decide_eq_true_eq]
    by_cases hf : i ∈ fs
    · rw [freed hf]
      simp [hf, Slot.freed, Slot.roleAgrees]
    · rw [kept hf]
      obtain ⟨free, time, role, mc, mw, mg, mo, mp⟩ := agrees i hi
      refine ⟨free, time, role, by simp [hf, mc], by simp [hf, mw], by simp [hf, mg], by simp [hf, mo], fun state => ?_⟩
      rw [f.playing, mp state]
      simp [Option.filter, hf]
  · rw [f.outputQueue]
    have same : t.times (s.store.outputQueue.filter (· ∉ fs)) = s.times (s.store.outputQueue.filter (· ∉ fs)) := by
      refine List.map_congr_left fun i hi => ?_
      rw [kept (by simpa using (List.mem_filter.1 hi).2)]
    rw [same]
    exact times.sublist (List.Sublist.map _ List.filter_sublist)
  · rw [f.gatherList, split, List.filter_append]
  · intro i hi
    obtain ⟨hc, hf⟩ := List.mem_filter.1 hi
    rw [kept (by simpa using hf)]
    exact corrected i hc
  · intro i hi
    obtain ⟨hl, hf⟩ := List.mem_filter.1 hi
    rw [kept (by simpa using hf)]
    exact gathering i hl
  · rw [f.captureList, f.inputFields, ← fields, List.filter_map]
    rfl
  · intro w hw
    rw [f.current] at hw
    obtain ⟨old, hf⟩ := Option.filter_eq_some_iff.1 hw
    rw [kept (by simpa using hf)]
    exact write w old
  · intro i hi
    rw [f.playing] at hi
    obtain ⟨old, hf⟩ := Option.filter_eq_some_iff.1 hi
    rw [kept (by simpa using hf)]
    exact playing i old

/-- Freeing slots none of which is GATHERING. -/
theorem SoundWith.freeSlots (h : SoundWith l s) {fs : List Nat} (settled : ∀ i ∈ fs, (s.slot i).state ≠ .gathering) :
    SoundWith l (freeSlots fs s) := by
  have freed := h.frees (freeSlots_frees fs s)
  rwa [List.filter_eq_self.2 fun i hi => ?_] at freed
  simpa using fun hf => settled i hf (h.mem_gathering.1 hi)

theorem SoundWith.trimmed (h : SoundWith l s) (trim : Trim) (demand : Demand) : SoundWith l (s.trimmed trim demand) := h.of

theorem SoundWith.withDepths {f : State → State} (h : SoundWith l (f s)) : SoundWith l (withDepths f s) := by
  obtain ⟨trim, demand, e⟩ := withDepths_trimmed f s
  rw [e]
  exact h.trimmed ..

/-! ### Slot records rewritten without a change of state -/

/-- Slot records rewritten: each keeps its state, its time but for a slot being gathered, and a role that agrees. -/
theorem SoundWith.records (h : SoundWith l s) (length : t.store.slots.length = s.store.slots.length)
    (state : ∀ i, (t.slot i).state = (s.slot i).state)
    (free : ∀ i, (s.slot i).state = .free → t.slot i = s.slot i)
    (time : ∀ i, (t.slot i).frameTime = (s.slot i).frameTime ∨
      (s.slot i).state = .gathering ∧ (t.slot i).frameTime ≠ none)
    (role : ∀ i, (t.slot i).roleAgrees = true)
    (capture : t.store.captureList = s.store.captureList := by rfl)
    (gather : t.store.gatherList = s.store.gatherList := by rfl)
    (output : t.store.outputQueue = s.store.outputQueue := by rfl)
    (queue : t.store.writeQueue = s.store.writeQueue := by rfl)
    (fields : t.copy.inputFields = s.copy.inputFields := by rfl)
    (current : t.coder.current = s.coder.current := by rfl)
    (playing : t.output.playing = s.output.playing := by rfl) : SoundWith l t := by
  have timed {i : Nat} (still : (s.slot i).state ≠ .gathering) : (t.slot i).frameTime = (s.slot i).frameTime :=
    (time i).resolve_right fun h => still h.1
  have mem := @SoundWith.mem_outputQueue _ _ h
  obtain ⟨collections, gathered, fieldsOf, write, played⟩ := h
  obtain ⟨lengthOf, nc, nw, ng, no, below, agrees, times⟩ := collections
  refine ⟨⟨length.trans lengthOf, ?_, ?_, ?_, ?_, ?_, ?_, ?_⟩, ?_, ?_, ?_, ?_⟩
  · rwa [capture]
  · rwa [queue]
  · rwa [gather]
  · rwa [output]
  · rwa [capture, queue, gather, output]
  · intro i hi
    obtain ⟨freed, some_, -, mc, mw, mg, mo, mp⟩ := agrees i hi
    unfold State.slotAgrees
    rw [state, capture, queue, gather, output, playing]
    refine ⟨fun e => (free i e).trans (freed e), fun e => ?_, role i, mc, mw, mg, mo, mp⟩
    rcases time i with same | ⟨-, some_'⟩
    · rw [same]; exact some_ e
    · exact some_'
  · rw [output]
    have same : t.times s.store.outputQueue = s.times s.store.outputQueue := by
      refine List.map_congr_left fun i hi => ?_
      rw [timed (by rw [mem.1 hi]; decide)]
    rwa [same]
  · simp only [gather, state]
    exact gathered
  · rw [fields, capture]
    exact fieldsOf
  · intro w hw
    rw [current] at hw
    obtain ⟨writing, timeOf⟩ := write w hw
    rw [state, timed (by rw [writing]; decide)]
    exact ⟨writing, timeOf⟩
  · simp only [playing, state]
    exact played

/-- One slot's record rewritten likewise. -/
theorem SoundWith.setSlot (h : SoundWith l s) {i : Nat} {v : Slot} (state : v.state = (s.slot i).state)
    (notFree : (s.slot i).state ≠ .free)
    (time : v.frameTime = (s.slot i).frameTime ∨ (s.slot i).state = .gathering ∧ v.frameTime ≠ none)
    (role : v.role = (s.slot i).role) : SoundWith l (setSlot i v s) := by
  have slot (k : Nat) : (Machine.setSlot i v s).slot k = if k = i then v else s.slot k := by
    rw [slot_setSlot]
    have := h.lt notFree
    simp [h.length, this]
  have agreed : v.roleAgrees = true := by
    have := h.role i
    unfold Slot.roleAgrees at *
    rwa [state, role]
  refine h.records (by simp) (fun k => ?_) (fun k free => ?_) (fun k => ?_) (fun k => ?_)
  · rw [slot]; split
    · next e => rw [e]; exact state
    · rfl
  · rw [slot, if_neg]
    rintro rfl
    exact notFree free
  · rw [slot]; split
    · next e => rw [e]; exact time
    · exact .inl rfl
  · rw [slot]; split
    · exact agreed
    · exact h.role k

/-! ### One slot changes its state -/

/-- A collection changed at slot `i` alone. -/
structure OnlyAt (i : Nat) (a b : List Nat) : Prop where
  nodup : a.Nodup → b.Nodup
  mem : ∀ k, k ≠ i → (k ∈ b ↔ k ∈ a)

theorem OnlyAt.refl (i : Nat) (a : List Nat) : OnlyAt i a a := ⟨id, fun _ _ => Iff.rfl⟩

theorem OnlyAt.filter (i : Nat) (a : List Nat) : OnlyAt i a (a.filter (· != i)) :=
  ⟨fun h => h.filter _, fun k hk => by simp [hk]⟩

theorem OnlyAt.append {i : Nat} {a : List Nat} (absent : i ∉ a) : OnlyAt i a (a ++ [i]) :=
  ⟨fun h => List.nodup_append.2 ⟨h, List.nodup_singleton _, fun x hx y hy => by
    obtain rfl := List.mem_singleton.1 hy; rintro rfl; exact absent hx⟩, fun k hk => by simp [hk]⟩

/-- The collections after slot `i` has gone from one state to another. -/
theorem collectionsSound_at {i : Nat} (h : SoundWith l s) (hi : i < 16) (length : t.store.slots.length = 16)
    (other : ∀ k, k ≠ i → t.slot k = s.slot k)
    (capture : OnlyAt i s.store.captureList t.store.captureList) (queue : OnlyAt i s.store.writeQueue t.store.writeQueue)
    (gather : OnlyAt i s.store.gatherList t.store.gatherList) (output : OnlyAt i s.store.outputQueue t.store.outputQueue)
    (agrees : t.slotAgrees i) (playing : ∀ k, k ≠ i → (s.slot k).state = .playing → t.output.playing = some k)
    (times : (t.times t.store.outputQueue).Pairwise (· < ·)) : t.collectionsSound := by
  have below := @SoundWith.below _ _ h
  obtain ⟨⟨-, nc, nw, ng, no, -, others, -⟩, -⟩ := h
  refine ⟨length, capture.nodup nc, queue.nodup nw, gather.nodup ng, output.nodup no, fun k hk => ?_, fun k hk => ?_, times⟩
  · by_cases e : k = i
    · rw [e]; exact hi
    · simp only [List.mem_append, capture.mem k e, queue.mem k e, gather.mem k e, output.mem k e] at hk
      rcases hk with ((m | m) | m) | m
      · exact below (.inl m)
      · exact below (.inr (.inl m))
      · exact below (.inr (.inr (.inl m)))
      · exact below (.inr (.inr (.inr m)))
  · by_cases e : k = i
    · rw [e]; exact agrees
    · obtain ⟨free, time, role, mc, mw, mg, mo, mp⟩ := others k hk
      unfold State.slotAgrees
      rw [other k e, capture.mem k e, queue.mem k e, gather.mem k e, output.mem k e]
      exact ⟨free, time, role, mc, mw, mg, mo, playing k e⟩

/-- The holders after slot `i`, which is neither GATHERING nor CORRECTED nor held by another block, has gone from one state to
another. -/
theorem soundWith_at {i : Nat} (h : SoundWith l s) (collections : t.collectionsSound)
    (other : ∀ k, k ≠ i → t.slot k = s.slot k) (gather : t.store.gatherList = s.store.gatherList)
    (still : (s.slot i).state ≠ .gathering ∧ (s.slot i).state ≠ .corrected)
    (fields : t.copy.inputFields.map (·.1) = t.store.captureList)
    (write : ∀ w ∈ t.coder.current, w.slot ≠ i ∧ w ∈ s.coder.current ∨
      (t.slot w.slot).state = .writing ∧ (t.slot w.slot).frameTime = some w.time)
    (playing : ∀ k ∈ t.output.playing, k ≠ i ∧ k ∈ s.output.playing ∨
      (t.slot k).state = .playing ∨ (t.slot k).state = .writing) : SoundWith l t := by
  obtain ⟨c, split, corrected, gathering⟩ := h.gathered
  refine ⟨collections, ⟨c, gather.trans split, fun k hk => ?_, fun k hk => ?_⟩, fields, fun w hw => ?_, fun k hk => ?_⟩
  · rw [other k fun e => still.2 (e ▸ corrected k hk)]
    exact corrected k hk
  · rw [other k fun e => still.1 (e ▸ gathering k hk)]
    exact gathering k hk
  · rcases write w hw with ⟨ne, old⟩ | new
    · rw [other _ ne]; exact h.write w old
    · exact new
  · rcases playing k hk with ⟨ne, old⟩ | new
    · rw [other _ ne]; exact h.playing k old
    · exact new

/-- The times of a part of a list whose slots are as they were. -/
theorem times_sublist {a b : List Nat} (sub : b.Sublist a) (same : ∀ k ∈ b, (t.slot k).frameTime = (s.slot k).frameTime)
    (h : (s.times a).Pairwise (· < ·)) : (t.times b).Pairwise (· < ·) := by
  have e : t.times b = s.times b := List.map_congr_left fun k hk => by rw [same k hk]
  rw [e]
  exact h.sublist (sub.map _)

theorem slot_setSlot_of (length : s.store.slots.length = 16) {i : Nat} (hi : i < 16) (v : Slot) (k : Nat) :
    (setSlot i v s).slot k = if k = i then v else s.slot k := by
  rw [slot_setSlot]
  simp [length, hi]

/-- A slot that is not FREE agrees with its collections. -/
theorem slotAgrees_of {i : Nat} {v : Slot} (slot : t.slot i = v) (free : v.state ≠ .free) (time : v.frameTime ≠ none)
    (role : v.roleAgrees = true)
    (capture : i ∈ t.store.captureList ↔ v.state = .capturing ∨ v.state = .captured)
    (queue : i ∈ t.store.writeQueue ↔ v.state = .captured ∨ v.state = .mixed)
    (gather : i ∈ t.store.gatherList ↔ v.state = .gathering ∨ v.state = .corrected)
    (output : i ∈ t.store.outputQueue ↔ v.state = .concealed)
    (playing : v.state = .playing → t.output.playing = some i) : t.slotAgrees i := by
  unfold State.slotAgrees
  rw [slot]
  exact ⟨fun e => absurd e free, fun _ => time, role, capture, queue, gather, output, playing⟩

theorem SoundWith.write_ne (h : SoundWith l s) {i : Nat} (state : (s.slot i).state ≠ .writing) :
    ∀ w ∈ s.coder.current, w.slot ≠ i := by
  rintro w hw rfl
  exact state (h.write w hw).1

theorem SoundWith.playing_ne (h : SoundWith l s) {i : Nat} (playing : (s.slot i).state ≠ .playing)
    (writing : (s.slot i).state ≠ .writing) : ∀ k ∈ s.output.playing, k ≠ i := by
  rintro k hk rfl
  exact (h.playing k hk).elim playing writing

theorem SoundWith.fields_filter (h : SoundWith l s) (i : Nat) :
    (s.copy.inputFields.filter (·.1 != i)).map (·.1) = s.store.captureList.filter (· != i) := by
  rw [← h.fields, List.filter_map]
  rfl

/-! ### The Edit Mixer (R28, R146) -/

theorem slot_map {f : Slot → Slot} (free : f Slot.freed = Slot.freed) (slots : t.store.slots = s.store.slots.map f) (k : Nat) :
    t.slot k = f (s.slot k) := by
  simp only [State.slot, slots, List.getD_eq_getElem?_getD, List.getElem?_map]
  cases s.store.slots[k]? with
  | none => exact free.symm
  | some v => rfl

theorem SoundWith.setRoles (h : SoundWith l s) : SoundWith l (setRoles s) := by
  refine SoundWith.withDepths ?_
  have slot := slot_map (s := s) (f := fun v => if v.rolesAgain then { v with role := some (s.roleFor (v.frameTime.getD 0)) } else v)
    (t := { s with store := { s.store with slots := s.store.slots.map fun v =>
      if v.rolesAgain then { v with role := some (s.roleFor (v.frameTime.getD 0)) } else v } }) rfl rfl
  refine h.records (by simp) (fun k => ?_) (fun k free => ?_) (fun k => .inl ?_) (fun k => ?_)
  · rw [slot]; split <;> rfl
  · rw [slot]; simp [Slot.rolesAgain, free]
  · rw [slot]; split <;> rfl
  · rw [slot]
    split
    · next again =>
      have states : (s.slot k).state = .gathering ∨ (s.slot k).state = .corrected ∨ (s.slot k).state = .concealed := by
        simp only [Slot.rolesAgain, Bool.and_eq_true, Bool.or_eq_true, beq_iff_eq] at again
        tauto
      have roles : s.roleFor ((s.slot k).frameTime.getD 0) = .play ∨ s.roleFor ((s.slot k).frameTime.getD 0) = .old := by
        unfold State.roleFor; split <;> simp
      unfold Slot.roleAgrees
      rcases states with e | e | e <;> rcases roles with r | r <;> simp [e, r]
    · exact h.role k

theorem SoundWith.takeSlot (h : SoundWith l s) {i : Nat} (state : (s.slot i).state = .captured) :
    SoundWith l (takeSlot i s) := by
  have hi := h.lt (i := i) (by rw [state]; decide)
  have free : ∀ k ∈ (s.oldSlot ((s.slot i).frameTime.getD 0)).toList, (s.slot k).state = .concealed := by
    intro k hk
    have found := List.find?_some (Option.mem_toList.1 hk)
    simp only [Bool.and_eq_true, beq_iff_eq] at found
    exact found.1.2
  unfold Machine.takeSlot
  dsimp only
  generalize hv : ({ s.slot i with state := .mixed, copyField := _, pairs := _, mixed := _ } : Slot) = v
  have vstate : v.state = .mixed ∧ v.frameTime = (s.slot i).frameTime ∧ v.role = (s.slot i).role := by
    subst hv; exact ⟨rfl, rfl, rfl⟩
  have slot := slot_setSlot_of h.length hi v
  refine SoundWith.freeSlots ?_ fun k hk => ?_
  · have other (k : Nat) (hk : k ≠ i) : (Machine.setSlot i v s).slot k = s.slot k := by rw [slot, if_neg hk]
    have at_i : (Machine.setSlot i v s).slot i = v := by rw [slot, if_pos rfl]
    obtain ⟨-, time, role, capture, queue, gather, output, -⟩ := h.agrees hi
    refine soundWith_at (i := i) h ?_ other rfl (by rw [state]; decide) (h.fields_filter i)
      (fun w hw => .inl ⟨h.write_ne (by rw [state]; decide) w hw, hw⟩)
      fun k hk => .inl ⟨h.playing_ne (by rw [state]; decide) (by rw [state]; decide) k hk, hk⟩
    refine collectionsSound_at h hi (by simp [h.length]) other (.filter ..) (.refl ..) (.refl ..) (.refl ..) ?_
      (fun k _ => h.of_playing) (times_sublist (.refl _) (fun k hk => ?_) h.output_times)
    · obtain ⟨mixed, timeOf, roleOf⟩ := vstate
      refine slotAgrees_of at_i (by simp [mixed]) (by rw [timeOf]; exact time (by simp [state])) ?_ (by simp [mixed])
        (by simp [mixed, queue, state]) (by simp [mixed, gather, state]) (by simp [mixed, output, state]) (by simp [mixed])
      unfold Slot.roleAgrees at role ⊢
      rw [mixed, roleOf]
      rwa [state] at role
    · have ne : k ≠ i := by rintro rfl; simp [output.1 hk] at state
      exact congrArg Slot.frameTime (other k ne)
  · show ((Machine.setSlot i v s).slot k).state ≠ .gathering
    rw [slot]
    split
    · rw [vstate.1]; decide
    · rw [free k hk]; decide

theorem SoundWith.mixerRun (h : SoundWith l s) (n : Nat) : SoundWith l (mixerRun n s) := by
  induction n generalizing s with
  | zero => exact h
  | succ n ih =>
    unfold Machine.mixerRun
    split
    · exact h
    · dsimp only
      split
      · next ready => exact ih (h.takeSlot ready.1)
      · exact h

theorem SoundWith.mixerJudge (h : SoundWith l s) : SoundWith l (mixerJudge s) := h.mixerRun _

theorem SoundWith.spanChanged (h : SoundWith l s) : SoundWith l (spanChanged s) := by
  unfold Machine.spanChanged
  dsimp only
  have roles := h.setRoles
  generalize Machine.setRoles s = r at roles ⊢
  have freed := roles.freeSlots (fs := r.slotsWhere r.outsideSpan) fun i hi e => by
    have outside := (List.mem_filter.1 hi).2
    simp [State.outsideSpan, e] at outside
  generalize Machine.freeSlots (r.slotsWhere r.outsideSpan) r = v at freed ⊢
  refine SoundWith.mixerJudge ?_
  split
  · exact freed.of
  · exact freed

theorem slotsWhere_state {p : Slot → Bool} {i : Nat} (h : i ∈ s.slotsWhere p) : p (s.slot i) = true := (List.mem_filter.1 h).2

/-! ### Strokes that leave the decoder's frames alone -/

/-- Soundness goes from `s` on to `t`, whichever slots are being gathered; the two frames and the transport state are as they were. -/
structure Sane (s t : State) : Prop where
  sound : ∀ l, SoundWith l s → SoundWith l t := by exact fun _ h => h.of
  current : t.decoder.current = s.decoder.current := by rfl
  next : t.decoder.next = s.decoder.next := by rfl
  state : t.transport.state = s.transport.state := by rfl

theorem Sane.refl (s : State) : Sane s s where

theorem Sane.trans (h : Sane s t) (k : Sane t u) : Sane s u :=
  ⟨fun l sound => k.sound l (h.sound l sound), k.current.trans h.current, k.next.trans h.next, k.state.trans h.state⟩

theorem SlotWork.sane (h : SlotWork s t) (sound : ∀ l, SoundWith l s → SoundWith l t) : Sane s t :=
  ⟨sound, by rw [h.decoder], by rw [h.decoder], h.state⟩

theorem Sane.gatheringSlots (h : Sane s t) : t.gatheringSlots = s.gatheringSlots := by
  unfold State.gatheringSlots Decoder.nextSlot
  rw [h.current, h.next]

theorem Sane.storeSound (h : Sane s t) (sound : s.storeSound) : t.storeSound := by
  obtain ⟨sound, off⟩ := storeSound_iff.1 sound
  refine storeSound_iff.2 ⟨?_, ?_⟩
  · rw [h.gatheringSlots]; exact h.sound _ sound
  · rw [h.state, h.current, h.next]; exact off

theorem sane_spanChanged (s : State) : Sane s (spanChanged s) := (slotWork_spanChanged s).1.sane fun _ h => h.spanChanged

theorem sane_mixerJudge (s : State) : Sane s (mixerJudge s) := (slotWork_mixerJudge s).sane fun _ h => h.mixerJudge

/-- Slots freed of which none is GATHERING in a sound store. -/
theorem sane_freeSlots {fs : List Nat} (settled : ∀ l, SoundWith l s → ∀ i ∈ fs, (s.slot i).state ≠ .gathering) :
    Sane s (freeSlots fs s) := (slotWork_freeSlots fs s).sane fun l h => h.freeSlots (settled l h)

theorem Sane.handOffIf (h : Sane s t) (c : Bool) (x : Handoff) : Sane s (handOffIf c x t) := by
  cases c
  · exact h
  · exact h.trans {}

theorem Sane.logs (h : Sane s t) (kind : LogKind) (time : Option Nat) (origin : Origin) (argument : Nat) :
    Sane s (logEntry kind time origin argument t) := h.trans {}

theorem Sane.raises (h : Sane s t) (f : Flag) : Sane s (raiseFlag f t) := h.trans {}

theorem Sane.counts (h : Sane s t) (c : Counter) (n : Nat) : Sane s (count c n t) := h.trans {}

theorem sane_cancelPunch (reason : CancelReason) (s : State) : Sane s (cancelPunch reason s) := by
  unfold cancelPunch
  split
  · split
    · exact .refl s
    · have cleared : Sane s (spanChanged (clearPunches s)) := .trans {} (sane_spanChanged (clearPunches s))
      exact (cleared.logs ..).handOffIf ..
  · exact .refl s

/-- Every calm stroke keeps the Frame Store sound. -/
theorem Calm.sane (h : Calm s t) : Sane s t := by
  cases h with
  | count => exact {}
  | raise => exact {}
  | log => exact {}
  | sequencer => exact {}
  | cues => exact {}
  | input => exact {}
  | copy k _ fields => exact { sound := fun _ h => h.of (fields := fields) }
  | status => exact {}
  | marks => exact {}
  | cancel => exact .trans {} (sane_spanChanged (clearPunches s))
  | punchOut => exact .trans {} (sane_spanChanged _)
  | schedule => exact .trans {} (sane_spanChanged _)
  | commit => exact {}
  | jump v c =>
    have set : Sane s { s with decoder := s.decoder.setFrom v } := by
      unfold Decoder.setFrom
      split
      · exact {}
      · exact {}
    exact (set.trans {}).trans (sane_cancelPunch ..)
  | mix => exact sane_mixerJudge s
  | free fs _ settled =>
    refine sane_freeSlots fun l h i hi e => ?_
    rcases settled i hi with still | queued
    · exact still e
    · rw [h.mem_outputQueue.1 queued] at e
      cases e

theorem Calms.sane (h : Calms s t) : Sane s t := by
  induction h with
  | refl => exact .refl s
  | tail _ stroke ih => exact ih.trans stroke.sane

/-! ### Changes of transport state -/

theorem sane_closeGate (s : State) : Sane s (closeGate s) := by
  unfold closeGate
  dsimp only
  have freed : Sane s (freeSlots (s.slotsWhere fun v => v.state == .writing || v.oldConcealed) s) :=
    sane_freeSlots fun l h i hi e => by
      have test := slotsWhere_state hi
      simp [e, Slot.oldConcealed] at test
  generalize freeSlots (s.slotsWhere fun v => v.state == .writing || v.oldConcealed) s = w at freed ⊢
  refine .trans (.trans freed ?_) (sane_spanChanged _)
  exact { sound := fun _ h => h.of (current := .inl rfl) }

theorem sane_closeAtOnce (event : ClosingEvent) (origin : Origin) (s : State) : Sane s (closeAtOnce event origin s) := by
  unfold closeAtOnce
  split
  · exact (((sane_closeGate s).raises _).logs ..).handOffIf ..
  · exact .refl s

/-- Leaving play speed frees every slot being gathered. -/
theorem soundWith_leaveRolling (h : SoundWith l s) : SoundWith [] (leaveRolling s) := by
  have freed := h.frees (freeSlots_frees (s.slotsWhere fun v =>
    v.state == .gathering || v.state == .corrected || v.state == .capturing || v.state == .captured ||
    v.state == .mixed || v.state == .writing || v.oldConcealed) s)
  rw [List.filter_eq_nil_iff.2 fun i hi => ?_] at freed
  · unfold leaveRolling
    dsimp only
    generalize freeSlots (s.slotsWhere fun v =>
      v.state == .gathering || v.state == .corrected || v.state == .capturing || v.state == .captured ||
      v.state == .mixed || v.state == .writing || v.oldConcealed) s = w at freed ⊢
    have cancelled := (sane_cancelPunch .motion w).sound _ freed
    generalize cancelPunch .motion w = x at cancelled ⊢
    exact cancelled.of (current := .inl rfl)
  · have state := h.mem_gathering.1 hi
    have low : i < 16 := h.lt (by rw [state]; decide)
    simp only [decide_eq_true_eq, not_not]
    exact List.mem_filter.2 ⟨List.mem_range.2 low, by simp [state]⟩

/-- Every change of transport state keeps the Frame Store sound. -/
theorem storeSound_enterState {new : TransportState} {demand : Demand} (h : s.storeSound) :
    (enterState new demand s).storeSound := by
  obtain ⟨sound, off⟩ := storeSound_iff.1 h
  have changed : SoundWith s.gatheringSlots (entered new demand s) := sound.of
  cases old : s.transport.state.rolling <;> cases fresh : new.rolling
  · rw [enterState_steady (old.trans fresh.symm)]
    exact storeSound_iff.2 ⟨changed, fun _ => off old⟩
  · rw [enterState_start old fresh]
    have none : s.gatheringSlots = [] := by
      unfold State.gatheringSlots Decoder.nextSlot
      rw [(off old).1, (off old).2]; rfl
    rw [none] at changed
    exact storeSound_iff.2 ⟨changed.of, fun still => absurd (fresh.symm.trans still) (by decide)⟩
  · rw [enterState_leave old fresh]
    have decoder := decoder_leaveRolling (entered new demand s)
    refine storeSound_iff.2 ⟨?_, fun _ => by rw [decoder]; exact ⟨rfl, rfl⟩⟩
    have none : (leaveRolling (entered new demand s)).gatheringSlots = [] := by
      unfold State.gatheringSlots
      rw [decoder]; rfl
    rw [none]
    exact soundWith_leaveRolling changed
  · rw [enterState_steady (old.trans fresh.symm)]
    exact storeSound_iff.2 ⟨changed, fun still => absurd (fresh.symm.trans still) (by decide)⟩

end
end Sys2Proof.Machine
end

section
/-! The Frame Store stays sound through every stroke and every part of a frame pulse. Settles O59. -/

namespace Sys2Proof.Machine

section
variable {s t u : State} {l : List Nat}

/-! ### The takes (R25, R32, R82) -/

theorem pairwise_times_append {i : Nat} {a : List Nat} (h : (t.times a).Pairwise (· < ·))
    (last : ∀ k ∈ a, (t.slot k).frameTime.getD 0 < (t.slot i).frameTime.getD 0) : (t.times (a ++ [i])).Pairwise (· < ·) := by
  unfold State.times at *
  rw [List.map_append]
  refine List.pairwise_append.2 ⟨h, List.pairwise_singleton .., fun x hx y hy => ?_⟩
  obtain ⟨k, hk, rfl⟩ := List.mem_map.1 hx
  obtain rfl := List.mem_singleton.1 hy
  exact last k hk

/-- A CORRECTED slot becomes CONCEALED and goes from the gather list to the tail of the output queue, behind slots of earlier frames
alone. -/
theorem SoundWith.conceals {i : Nat} (h : SoundWith l u) (state : (u.slot i).state = .corrected)
    (length : t.store.slots.length = u.store.slots.length) (other : ∀ k, k ≠ i → t.slot k = u.slot k)
    (concealed : (t.slot i).state = .concealed) (time : (t.slot i).frameTime = (u.slot i).frameTime)
    (role : (t.slot i).role = (u.slot i).role) (capture : t.store.captureList = u.store.captureList)
    (queue : t.store.writeQueue = u.store.writeQueue) (gather : t.store.gatherList = u.store.gatherList.filter (· != i))
    (output : t.store.outputQueue = u.store.outputQueue ++ [i])
    (late : ∀ k ∈ u.store.outputQueue, (u.slot k).frameTime.getD 0 < (u.slot i).frameTime.getD 0)
    (fields : t.copy.inputFields = u.copy.inputFields) (current : t.coder.current = u.coder.current)
    (playing : t.output.playing = u.output.playing) : SoundWith l t := by
  have hi := h.lt (i := i) (by rw [state]; decide)
  obtain ⟨-, timed, roleOf, mc, mw, -, mo, -⟩ := h.agrees hi
  have absent : i ∉ u.store.outputQueue := by rw [mo, state]; decide
  have ne {k : Nat} (hk : k ∈ u.store.outputQueue) : k ≠ i := by rintro rfl; exact absent hk
  refine ⟨collectionsSound_at h hi (length.trans h.length) other ?_ ?_ ?_ ?_ ?_ (fun k _ e => ?_) ?_, ?_, ?_, ?_, ?_⟩
  · rw [capture]; exact .refl ..
  · rw [queue]; exact .refl ..
  · rw [gather]; exact .filter ..
  · rw [output]; exact .append absent
  · refine slotAgrees_of rfl (by simp [concealed]) (by rw [time]; exact timed (by simp [state])) ?_ ?_ ?_ ?_ ?_
      (by simp [concealed])
    · unfold Slot.roleAgrees at roleOf ⊢
      rw [concealed, role]
      rwa [state] at roleOf
    · rw [capture, mc, state, concealed]; decide
    · rw [queue, mw, state, concealed]; decide
    · rw [gather, concealed]; simp
    · rw [output, concealed]; simp
  · rw [playing]; exact h.of_playing e
  · rw [output]
    refine pairwise_times_append (times_sublist (.refl _) (fun k hk => by rw [other k (ne hk)]) h.output_times) fun k hk => ?_
    rw [other k (ne hk), time]
    exact late k hk
  · obtain ⟨c, split, corrected, gathering⟩ := h.gathered
    have notGathering : i ∉ l := fun hl => by
      rw [gathering i hl] at state; cases state
    refine ⟨c.filter (· != i), ?_, fun k hk => ?_, fun k hk => ?_⟩
    · rw [gather, split, List.filter_append]
      congr 1
      exact List.filter_eq_self.2 fun k hk => by simpa using fun e : k = i => notGathering (e ▸ hk)
    · obtain ⟨hc, ne⟩ := List.mem_filter.1 hk
      rw [other k (by simpa using ne)]
      exact corrected k hc
    · rw [other k fun e => notGathering (e ▸ hk)]
      exact gathering k hk
  · rw [fields, capture]; exact h.fields
  · intro w hw
    rw [current] at hw
    rw [other _ (h.write_ne (by rw [state]; decide) w hw)]
    exact h.write w hw
  · intro k hk
    rw [playing] at hk
    rw [other _ (h.playing_ne (by rw [state]; decide) (by rw [state]; decide) k hk)]
    exact h.playing k hk

/-- A take keeps the store sound: `s` is the state before, and `t` differs from it at the slot taken, which `t` has CONCEALED already. -/
theorem soundWith_joinOutput {i last : Nat} (h : SoundWith l s) (state : (s.slot i).state = .corrected)
    (store : t.store = { s.store with slots := t.store.slots }) (length : t.store.slots.length = s.store.slots.length)
    (other : ∀ k, k ≠ i → t.slot k = s.slot k)
    (concealed : (t.slot i).state = .concealed) (time : (t.slot i).frameTime = (s.slot i).frameTime)
    (role : (t.slot i).role = (s.slot i).role) (fields : t.copy.inputFields = s.copy.inputFields)
    (current : t.coder.current = s.coder.current) (playing : t.output.playing = s.output.playing) :
    SoundWith l (joinOutput last i t) := by
  have output : t.store.outputQueue = s.store.outputQueue := by rw [store]
  have queued {k : Nat} (hk : k ∈ t.outOfOrder ((t.slot i).frameTime.getD 0)) : (s.slot k).state = .concealed := by
    have := (List.mem_filter.1 hk).1
    rw [output] at this
    exact h.mem_outputQueue.1 this
  have notLate : i ∉ t.outOfOrder ((t.slot i).frameTime.getD 0) := fun hk => by
    rw [queued hk] at state; cases state
  have base := h.freeSlots (fs := t.outOfOrder ((t.slot i).frameTime.getD 0)) fun k hk e => by
    rw [queued hk] at e; cases e
  have freed := freeSlots_frees (t.outOfOrder ((t.slot i).frameTime.getD 0)) t
  have freedBase := freeSlots_frees (t.outOfOrder ((t.slot i).frameTime.getD 0)) s
  unfold joinOutput
  dsimp only
  generalize hl : t.outOfOrder ((t.slot i).frameTime.getD 0) = late at base freed freedBase notLate ⊢
  generalize freeSlots late s = v at base freedBase
  generalize freeSlots late t = w at freed ⊢
  have joined : SoundWith l (withDepths (fun t => { t with store := { t.store with
      gatherList := t.store.gatherList.filter (· != i), outputQueue := t.store.outputQueue ++ [i] } })
      (count .framesDropped late.length w)) := by
    refine SoundWith.withDepths (base.conceals (i := i) ?_ ?_ (fun k hk => ?_) ?_ ?_ ?_ ?_ ?_ ?_ ?_ (fun k hk => ?_) ?_ ?_ ?_)
    · rw [freedBase.slot, if_neg notLate]; exact state
    · exact freed.work.slots.trans (length.trans freedBase.work.slots.symm)
    · show w.slot k = v.slot k
      rw [freed.slot, freedBase.slot, other k hk]
    · show (w.slot i).state = _
      rw [freed.slot, if_neg notLate]; exact concealed
    · show (w.slot i).frameTime = _
      rw [freed.slot, freedBase.slot, if_neg notLate, if_neg notLate]; exact time
    · show (w.slot i).role = _
      rw [freed.slot, freedBase.slot, if_neg notLate, if_neg notLate]; exact role
    · show w.store.captureList = _
      rw [freed.captureList, freedBase.captureList, store]
    · show w.store.writeQueue = _
      rw [freed.writeQueue, freedBase.writeQueue, store]
    · show w.store.gatherList.filter _ = _
      rw [freed.gatherList, freedBase.gatherList, store]
    · show w.store.outputQueue ++ [i] = _
      rw [freed.outputQueue, freedBase.outputQueue, store]
    · rw [freedBase.outputQueue] at hk
      obtain ⟨old, notLate'⟩ := List.mem_filter.1 hk
      have out : k ∉ late := by simpa using notLate'
      rw [freedBase.slot, freedBase.slot, if_neg notLate, if_neg out, ← time]
      have ne : k ≠ i := by rintro rfl; rw [h.mem_outputQueue.1 old] at state; cases state
      subst hl
      by_contra notBefore
      refine out (List.mem_filter.2 ⟨by rw [output]; exact old, ?_⟩)
      rw [other k ne]
      simpa using notBefore
    · show w.copy.inputFields = _
      rw [freed.inputFields, freedBase.inputFields, fields]
    · show w.coder.current = _
      rw [freed.current, freedBase.current, current]
    · show w.output.playing = _
      rw [freed.playing, freedBase.playing, playing]
  generalize hx : withDepths _ _ = x at joined ⊢
  refine SoundWith.mixerJudge ?_
  split
  · refine joined.freeSlots fun k hk e => ?_
    obtain rfl := List.mem_singleton.1 hk
    have slot : x.slot k = w.slot k := by
      obtain ⟨trim, demand, e⟩ := withDepths_trimmed (fun t : State => { t with store := { t.store with
        gatherList := t.store.gatherList.filter (· != k), outputQueue := t.store.outputQueue ++ [k] } })
        (count .framesDropped late.length w)
      rw [← hx, e]; rfl
    rw [slot, freed.slot, if_neg notLate, concealed] at e
    cases e
  · exact joined

theorem sane_takeFrame {last i : Nat} {ahead : LookAhead} (corrected : s.correctedSlots.head? = some i) :
    Sane s (takeFrame last i ahead s) := by
  have joined (u : State) : ∃ n, SlotWork (count .framesDropped n u) (joinOutput last i u) := slotWork_joinOutput last i u
  have state : (s.slot i).state = .corrected := by
    have := List.mem_of_mem_head? corrected
    simpa using (List.mem_filter.1 this).2
  unfold takeFrame
  dsimp only
  generalize concealPairs _ _ ahead _ _ = r
  generalize hv : ({ s.slot i with state := .concealed, pairs := r.pairs, interpolated := r.interpolated, gaps := r.gaps } : Slot)
    = v
  have vfacts : v.state = .concealed ∧ v.frameTime = (s.slot i).frameTime ∧ v.role = (s.slot i).role := by
    subst hv; exact ⟨rfl, rfl, rfl⟩
  generalize hw : (if r.gaps = 0 then setSlot i v { s with conceal := r.unit }
    else setCondition .conceal (count .framesMuted 1 (setSlot i v { s with conceal := r.unit }))) = w
  have written : w.store = (setSlot i v s).store ∧ w.copy = s.copy ∧ w.coder = s.coder ∧ w.output = s.output ∧
      w.decoder = s.decoder ∧ w.transport = s.transport := by
    subst hw; split <;> exact ⟨rfl, rfl, rfl, rfl, rfl, rfl⟩
  obtain ⟨store, copy, coder, output, decoder, transport⟩ := written
  obtain ⟨n, work⟩ := joined w
  refine ⟨fun l h => ?_, by rw [work.decoder]; exact congrArg Decoder.current decoder,
    by rw [work.decoder]; exact congrArg Decoder.next decoder, by rw [work.state]; exact congrArg Transport.state transport⟩
  have hi := h.lt (i := i) (by rw [state]; decide)
  have slot (k : Nat) : w.slot k = if k = i then v else s.slot k := by
    rw [← slot_setSlot_of h.length hi v k]
    simp only [State.slot, store]
  refine soundWith_joinOutput h state (by rw [store]; rfl) (by rw [store]; simp) (fun k ne => by rw [slot, if_neg ne]) ?_ ?_ ?_
    (by rw [copy]) (by rw [coder]) (by rw [output])
  · rw [slot, if_pos rfl]; exact vfacts.1
  · rw [slot, if_pos rfl]; exact vfacts.2.1
  · rw [slot, if_pos rfl]; exact vfacts.2.2

/-! ### The capture (R27, R47) -/

theorem capturingSlot_state {i : Nat} (h : s.capturingSlot = some i) : (s.slot i).state = .capturing := by
  simpa using List.find?_some h

/-- Slot `i`, full, at the tail of the write queue (R27). -/
def State.captured (s : State) (i : Nat) : State :=
  let t := updateSlot i (fun v => { v with state := .captured }) s
  { t with store := { t.store with writeQueue := t.store.writeQueue ++ [i] } }

theorem soundWith_captured {i : Nat} (h : SoundWith l s) (state : (s.slot i).state = .capturing) : SoundWith l (s.captured i) := by
  have hi := h.lt (i := i) (by rw [state]; decide)
  obtain ⟨-, time, role, capture, queue, gather, output, -⟩ := h.agrees hi
  have slot := slot_setSlot_of h.length hi { s.slot i with state := .captured }
  have other (k : Nat) (hk : k ≠ i) : (setSlot i { s.slot i with state := .captured } s).slot k = s.slot k := by
    rw [slot, if_neg hk]
  have at_i : (setSlot i { s.slot i with state := .captured } s).slot i = { s.slot i with state := .captured } := by
    rw [slot, if_pos rfl]
  have absent : i ∉ s.store.writeQueue := by rw [queue, state]; decide
  unfold State.captured
  refine soundWith_at (i := i) h ?_ other rfl (by rw [state]; decide) h.fields
    (fun w hw => .inl ⟨h.write_ne (by rw [state]; decide) w hw, hw⟩)
    fun k hk => .inl ⟨h.playing_ne (by rw [state]; decide) (by rw [state]; decide) k hk, hk⟩
  refine collectionsSound_at h hi (by simp [updateSlot, h.length]) other (.refl ..) (.append absent) (.refl ..) (.refl ..) ?_
    (fun k _ => h.of_playing) (times_sublist (.refl _) (fun k hk => ?_) h.output_times)
  · refine slotAgrees_of at_i (by simp) (time (by simp [state])) ?_ (capture.trans (by simp [state])) (by simp)
      (gather.trans (by simp [state])) (output.trans (by simp [state])) (by simp)
    unfold Slot.roleAgrees at role ⊢
    rwa [state] at role
  · have ne : k ≠ i := by rintro rfl; rw [output.1 hk] at state; cases state
    exact congrArg Slot.frameTime (other k ne)

theorem soundWith_completeCapture {i : Nat} (h : SoundWith l s) (state : (s.slot i).state = .capturing) :
    SoundWith l (completeCapture i s) :=
  SoundWith.mixerJudge (SoundWith.withDepths (soundWith_captured h state))

theorem slotWork_kept_capture {i : Nat} {p : Pair × Bool} (s : State) :
    (capturePair i p s).decoder = s.decoder ∧ (capturePair i p s).transport.state = s.transport.state := by
  unfold capturePair
  dsimp only
  generalize hu : updateSlot i _ s = u
  have filled : SlotWork s u := hu ▸ slotWork_updateSlot i _ s
  generalize hw : (if (s.slot i).pairs.isEmpty = true then combineEntry i u else u) = w
  have combined : w.decoder = s.decoder ∧ w.transport.state = s.transport.state := by
    subst hw
    split
    · obtain ⟨k, e, -⟩ := combineEntry_copy i u
      rw [e]
      exact ⟨filled.decoder, filled.state⟩
    · exact ⟨filled.decoder, filled.state⟩
  split
  · have work := slotWork_completeCapture i w
    exact ⟨work.decoder.trans combined.1, work.state.trans combined.2⟩
  · exact combined

theorem sane_capturePair {i : Nat} {p : Pair × Bool} (capturing : s.capturingSlot = some i) : Sane s (capturePair i p s) := by
  have state := capturingSlot_state capturing
  obtain ⟨decoder, transport⟩ := slotWork_kept_capture (i := i) (p := p) s
  refine ⟨fun l h => ?_, by rw [decoder], by rw [decoder], transport⟩
  have hi := h.lt (i := i) (by rw [state]; decide)
  unfold capturePair
  dsimp only
  generalize hu : updateSlot i _ s = u
  have filled : SoundWith l u := by
    subst hu
    exact h.setSlot (by rfl) (by rw [state]; decide) (.inl (by rfl)) (by rfl)
  have ustate : (u.slot i).state = .capturing := by
    subst hu
    unfold updateSlot
    rw [slot_setSlot_of h.length hi, if_pos rfl]
    exact state
  generalize hw : (if (s.slot i).pairs.isEmpty = true then combineEntry i u else u) = w
  have combined : SoundWith l w ∧ (w.slot i).state = .capturing := by
    subst hw
    split
    · obtain ⟨k, e, fields, -⟩ := combineEntry_copy i u
      rw [e]
      exact ⟨filled.of (fields := fields), ustate⟩
    · exact ⟨filled, ustate⟩
  split
  · exact soundWith_completeCapture combined.1 combined.2
  · exact combined.1

/-! ### The output (R29, R33, R94) -/

theorem sane_monitorFinished {i : Nat} (state : (s.slot i).state = .writing) : Sane s (monitorFinished i s) := by
  refine (slotWork_monitorFinished i s).sane fun l h => ?_
  have written : SoundWith l (updateSlot i (fun v => { v with monitor := .finished }) s) :=
    h.setSlot (by rfl) (by rw [state]; decide) (.inl (by rfl)) (by rfl)
  have slot : ((updateSlot i (fun v => { v with monitor := .finished }) s).slot i).state = .writing := by
    unfold updateSlot
    rw [slot_setSlot_of h.length (h.lt (by rw [state]; decide)), if_pos rfl]
    exact state
  unfold monitorFinished
  dsimp only
  split
  · refine written.freeSlots fun k hk e => ?_
    obtain rfl := List.mem_singleton.1 hk
    rw [slot] at e; cases e
  · exact written

theorem sane_supplyFinished {i : Nat} (state : (s.slot i).state = .writing) : Sane s (supplyFinished i s) := by
  refine (slotWork_supplyFinished i s).sane fun l h => ?_
  have written : SoundWith l (updateSlot i (fun v => { v with supplyDone := true }) s) :=
    h.setSlot (by rfl) (by rw [state]; decide) (.inl (by rfl)) (by rfl)
  have slot : ((updateSlot i (fun v => { v with supplyDone := true }) s).slot i).state = .writing := by
    unfold updateSlot
    rw [slot_setSlot_of h.length (h.lt (by rw [state]; decide)), if_pos rfl]
    exact state
  unfold supplyFinished
  dsimp only
  split
  · refine written.freeSlots fun k hk e => ?_
    obtain rfl := List.mem_singleton.1 hk
    rw [slot] at e; cases e
  · exact written

/-- The output holds no slot any more; no slot is PLAYING then, or it is freed with it. -/
theorem SoundWith.silent (h : SoundWith l s) (still : ∀ i, (s.slot i).state ≠ .playing) (o : Output) (none : o.playing = none) :
    SoundWith l { s with output := o } := by
  obtain ⟨⟨length, nc, nw, ng, no, below, agrees, times⟩, gathered, fields, write, -⟩ := h
  refine ⟨⟨length, nc, nw, ng, no, below, fun i hi => ?_, times⟩, gathered, fields, write, fun i hi => ?_⟩
  · obtain ⟨free, time, role, mc, mw, mg, mo, -⟩ := agrees i hi
    exact ⟨free, time, role, mc, mw, mg, mo, fun e => absurd e (still i)⟩
  · have : i ∈ o.playing := hi
    rw [none] at this; cases this

theorem sane_endOutputSlot (s : State) : Sane s (endOutputSlot s) := by
  refine (slotWork_endOutputSlot s).sane fun l h => ?_
  unfold endOutputSlot
  split
  · exact h
  · next i playing =>
    dsimp only
    split
    · next state =>
      refine SoundWith.withDepths ?_
      have freed := h.frees (freeOne_frees s i)
      rw [List.filter_eq_self.2 fun k hk => ?_] at freed
      · refine freed.of (playing := ?_)
        simp [freeOne, setSlot, playing]
      · have gathering := h.mem_gathering.1 hk
        have ne : k ≠ i := by rintro rfl; rw [gathering] at state; cases state
        simp [ne]
    · next notPlaying =>
      have still (k : Nat) : (s.slot k).state ≠ .playing := fun e => by
        obtain rfl := Option.some.inj (playing.symm.trans (h.of_playing e))
        exact notPlaying e
      have silent := h.silent still { s.output with playing := none } rfl
      split
      · next writing => exact (sane_monitorFinished (s := { s with output := { s.output with playing := none } }) writing).sound _ silent
      · exact silent

theorem sane_changeSource (new : MonitorSource) (s : State) : Sane s (changeSource new s) := by
  unfold changeSource
  dsimp only
  generalize hu : (if s.output.source = .tape then freeSlots s.playSlots s else s) = u
  have freed : Sane s u := by
    subst hu
    split
    · refine sane_freeSlots fun l h i hi e => ?_
      have queued := h.mem_outputQueue.1 (List.mem_filter.1 hi).1
      rw [queued] at e; cases e
    · exact .refl s
  exact freed.trans {}

theorem sane_beginPlaying {i : Nat} (silent : s.output.playing = none) (queued : s.playSlots.head? = some i) :
    Sane s (beginPlaying i s).1 := by
  obtain ⟨mem, play⟩ := List.mem_filter.1 (List.mem_of_mem_head? queued)
  have role : (s.slot i).role = some .play := by simpa using play
  have work : SlotWork s (withDepths (fun t => { setSlot i { s.slot i with state := .playing } t with
      store := { (setSlot i { s.slot i with state := .playing } t).store with
        outputQueue := (setSlot i { s.slot i with state := .playing } t).store.outputQueue.filter (· != i) } }) s) :=
    slotWork_withDepths (slotWork_store i { s.slot i with state := .playing } s _ (by rfl))
  unfold beginPlaying
  dsimp only
  obtain ⟨trim, demand, e⟩ := withDepths_trimmed (fun t => { setSlot i { s.slot i with state := .playing } t with
      store := { (setSlot i { s.slot i with state := .playing } t).store with
        outputQueue := (setSlot i { s.slot i with state := .playing } t).store.outputQueue.filter (· != i) } }) s
  refine ⟨fun l h => ?_, congrArg Decoder.current work.decoder, congrArg Decoder.next work.decoder, work.state⟩
  have state := h.mem_outputQueue.1 mem
  have hi := h.lt (i := i) (by rw [state]; decide)
  obtain ⟨-, time, -, capture, queue, gather, output, -⟩ := h.agrees hi
  have slot := slot_setSlot_of h.length hi { s.slot i with state := .playing }
  have other (k : Nat) (hk : k ≠ i) : (setSlot i { s.slot i with state := .playing } s).slot k = s.slot k := by
    rw [slot, if_neg hk]
  have at_i : (setSlot i { s.slot i with state := .playing } s).slot i = { s.slot i with state := .playing } := by
    rw [slot, if_pos rfl]
  have still (k : Nat) (e : (s.slot k).state = .playing) : False := by
    have := h.of_playing e
    rw [silent] at this; cases this
  have moved : SoundWith l { setSlot i { s.slot i with state := .playing } s with
      store := { (setSlot i { s.slot i with state := .playing } s).store with
        outputQueue := s.store.outputQueue.filter (· != i) }
      output := { s.output with playing := some i } } := by
    refine soundWith_at (i := i) h ?_ other rfl (by rw [state]; decide) h.fields
      (fun w hw => .inl ⟨h.write_ne (by rw [state]; decide) w hw, hw⟩) fun k hk => .inr (.inl ?_)
    · refine collectionsSound_at h hi (by simp [h.length]) other (.refl ..) (.refl ..) (.refl ..) (.filter ..) ?_
        (fun k _ e => (still k e).elim) (times_sublist List.filter_sublist (fun k hk => ?_) h.output_times)
      · refine slotAgrees_of at_i (by simp) (time (by simp [state])) (by simp [Slot.roleAgrees, role])
          (capture.trans (by simp [state])) (queue.trans (by simp [state])) (gather.trans (by simp [state])) (by simp) fun _ => rfl
      · have ne : k ≠ i := by simpa using (List.mem_filter.1 hk).2
        exact congrArg Slot.frameTime (other k ne)
    · obtain rfl := Option.some.inj hk
      show ((setSlot i { s.slot i with state := .playing } s).slot i).state = .playing
      rw [at_i]
  rw [e]
  exact moved.of

/-- A WRITING slot is monitored from here on. -/
theorem sane_monitor {i : Nat} (silent : s.output.playing = none) (writing : (s.slot i).state = .writing) :
    Sane s { setSlot i { s.slot i with monitor := .begun } s with output := { s.output with playing := some i } } := by
  refine ⟨fun l h => ?_, rfl, rfl, rfl⟩
  have still (k : Nat) : (s.slot k).state ≠ .playing := fun e => by
    have := h.of_playing e
    rw [silent] at this; cases this
  have begun : SoundWith l (setSlot i { s.slot i with monitor := .begun } s) :=
    h.setSlot (by rfl) (by rw [writing]; decide) (.inl (by rfl)) (by rfl)
  have slot := slot_setSlot_of h.length (h.lt (by rw [writing]; decide)) { s.slot i with monitor := .begun }
  have states (k : Nat) : ((setSlot i { s.slot i with monitor := .begun } s).slot k).state = (s.slot k).state := by
    rw [slot]; split
    · next e => rw [e]
    · rfl
  obtain ⟨⟨length, nc, nw, ng, no, below, agrees, times⟩, gathered, fields, write, -⟩ := begun
  refine ⟨⟨length, nc, nw, ng, no, below, fun k hk => ?_, times⟩, gathered, fields, write, fun k hk => .inr ?_⟩
  · obtain ⟨free, time, role, mc, mw, mg, mo, -⟩ := agrees k hk
    exact ⟨free, time, role, mc, mw, mg, mo, fun e => absurd ((states k).symm.trans e) (still k)⟩
  · obtain rfl := Option.some.inj hk
    exact (states i).trans writing

/-! ### The write window (R29, R54) -/

theorem sane_takeWindow {i : Nat} (queued : s.windowSlot s.decoder.time = some i) (mixed : (s.slot i).state = .mixed) :
    Sane s (takeWindow i s) := by
  have timeOf : (s.slot i).frameTime = some s.decoder.time := by simpa using List.find?_some queued
  unfold takeWindow
  dsimp only
  generalize hv : ({ s.slot i with state := .writing, start := (s.cues.mark.window s.decoder.time).1.isSome } : Slot) = v
  have vfacts : v.state = .writing ∧ v.frameTime = (s.slot i).frameTime ∧ v.role = (s.slot i).role := by
    subst hv; exact ⟨rfl, rfl, rfl⟩
  have work : SlotWork s (withDepths (fun t => { setSlot i v t with store := { (setSlot i v t).store with
      writeQueue := (setSlot i v t).store.writeQueue.filter (· != i) } }) s) :=
    slotWork_withDepths (slotWork_store i v s _ (by rfl))
  obtain ⟨trim, demand, e⟩ := withDepths_trimmed (fun t => { setSlot i v t with store := { (setSlot i v t).store with
      writeQueue := (setSlot i v t).store.writeQueue.filter (· != i) } }) s
  refine ⟨fun l h => ?_, congrArg Decoder.current work.decoder, congrArg Decoder.next work.decoder, work.state⟩
  have hi := h.lt (i := i) (by rw [mixed]; decide)
  obtain ⟨-, time, role, capture, queue, gather, output, -⟩ := h.agrees hi
  have slot := slot_setSlot_of h.length hi v
  have other (k : Nat) (hk : k ≠ i) : (setSlot i v s).slot k = s.slot k := by rw [slot, if_neg hk]
  have at_i : (setSlot i v s).slot i = v := by rw [slot, if_pos rfl]
  have moved : SoundWith l { setSlot i v s with
      store := { (setSlot i v s).store with writeQueue := s.store.writeQueue.filter (· != i) }
      coder := { s.coder with current := some ⟨i, s.decoder.time⟩ } } := by
    refine soundWith_at (i := i) h ?_ other rfl (by rw [mixed]; decide) h.fields (fun w hw => .inr ?_)
      fun k hk => .inl ⟨h.playing_ne (by rw [mixed]; decide) (by rw [mixed]; decide) k hk, hk⟩
    · refine collectionsSound_at h hi (by simp [h.length]) other (.refl ..) (.filter ..) (.refl ..) (.refl ..) ?_
        (fun k _ => h.of_playing) (times_sublist (.refl _) (fun k hk => ?_) h.output_times)
      · refine slotAgrees_of at_i (by simp [vfacts.1]) (by rw [vfacts.2.1]; exact time (by simp [mixed])) ?_
          (capture.trans (by simp [mixed, vfacts.1])) (by simp [vfacts.1]) (gather.trans (by simp [mixed, vfacts.1]))
          (output.trans (by simp [mixed, vfacts.1])) (by simp [vfacts.1])
        unfold Slot.roleAgrees at role ⊢
        rw [vfacts.1, vfacts.2.2]
        rwa [mixed] at role
      · have ne : k ≠ i := by rintro rfl; rw [output.1 hk] at mixed; cases mixed
        exact congrArg Slot.frameTime (other k ne)
    · obtain rfl := Option.some.inj hw
      show ((setSlot i v s).slot i).state = .writing ∧ ((setSlot i v s).slot i).frameTime = some s.decoder.time
      rw [at_i]
      exact ⟨vfacts.1, vfacts.2.1.trans timeOf⟩
  rw [e]
  exact moved.of

/-! ### The gathering (R30, R35, R66) -/

theorem lowestFree_some {i : Nat} (h : s.lowestFree = some i) : i < s.store.slots.length ∧ (s.slot i).state = .free := by
  obtain ⟨hi, free, -⟩ := List.findIdx?_eq_some_iff_getElem.1 h
  refine ⟨hi, ?_⟩
  unfold State.slot
  rw [List.getD_eq_getElem _ _ hi]
  simpa using free

/-- A FREE slot stands on no collection and is held by no block. -/
theorem SoundWith.free (h : SoundWith l s) {i : Nat} (free : (s.slot i).state = .free) :
    i ∉ s.store.captureList ∧ i ∉ s.store.writeQueue ∧ i ∉ s.store.gatherList ∧ i ∉ s.store.outputQueue := by
  rw [h.mem_captureList, h.mem_writeQueue, h.mem_gatherList, h.mem_outputQueue, free]
  decide

theorem findGatherSlot_spec (h : SoundWith l s) {o : Option Nat} (found : findGatherSlot s = (t, o)) :
    SoundWith l t ∧ t.decoder = s.decoder ∧ t.transport.state = s.transport.state ∧
    ∀ i ∈ o, i < 16 ∧ (t.slot i).state = .free := by
  unfold findGatherSlot at found
  split at found
  · next i lowest =>
    obtain ⟨rfl, rfl⟩ := Prod.mk.inj found
    obtain ⟨hi, free⟩ := lowestFree_some lowest
    rw [h.length] at hi
    exact ⟨h, rfl, rfl, fun k hk => by obtain rfl := Option.some.inj hk; exact ⟨hi, free⟩⟩
  · split at found
    · obtain ⟨rfl, rfl⟩ := Prod.mk.inj found
      exact ⟨h, rfl, rfl, fun k hk => by cases hk⟩
    · next i rest queue =>
      obtain ⟨rfl, rfl⟩ := Prod.mk.inj found
      have queued := h.mem_outputQueue.1 (by rw [queue]; exact List.mem_cons_self)
      have freed := h.freeSlots (fs := [i]) fun k hk e => by
        obtain rfl := List.mem_singleton.1 hk
        rw [queued] at e; cases e
      have work := slotWork_freeSlots [i] s
      generalize freeSlots [i] s = w at freed work ⊢
      refine ⟨freed.of, work.decoder, work.state, fun k hk => ?_⟩
      obtain ⟨hi, free⟩ := lowestFree_some hk
      exact ⟨by rw [← freed.length]; exact hi, free⟩

/-- A slot opens behind the frames `a` and before the next frame's. -/
theorem openGather_spec {a : List Nat} {g : GatherFrame} (h : SoundWith (a ++ s.decoder.nextSlot.toList) s)
    (none : g.slot = none) : SoundWith (a ++ (openGather g s).2.slot.toList ++ s.decoder.nextSlot.toList) (openGather g s).1 ∧
    (openGather g s).1.decoder = s.decoder ∧ (openGather g s).1.transport.state = s.transport.state := by
  unfold openGather
  split
  · next t i found =>
    obtain ⟨sound, decoder, state, lowest⟩ := findGatherSlot_spec h found
    obtain ⟨hi, free⟩ := lowest i rfl
    dsimp only
    refine ⟨?_, decoder, state⟩
    generalize hv : Slot.opened .gathering (t.roleFor g.time) g.time t.activeFormat = v
    have vfacts : v.state = .gathering ∧ v.frameTime ≠ Option.none ∧ v.roleAgrees = true := by
      subst hv
      refine ⟨rfl, by simp [Slot.opened], ?_⟩
      unfold State.roleFor
      split <;> rfl
    obtain ⟨nc, nw, ng, no⟩ := sound.free free
    have behind : (setSlot i v t).decoder.nextSlot = s.decoder.nextSlot := congrArg Decoder.nextSlot decoder
    obtain ⟨c, split, corrected, gathering⟩ := sound.gathered
    have nodup : t.store.gatherList.Nodup := by
      obtain ⟨-, -, -, nodup, -⟩ := sound.collections
      exact nodup
    have list : joinGather i (setSlot i v t) = c ++ a ++ i :: s.decoder.nextSlot.toList := by
      unfold joinGather
      dsimp only
      rw [behind, setSlot_gatherList, split, ← List.append_assoc, List.filter_append]
      rw [split, ← List.append_assoc] at nodup
      rw [List.filter_eq_self.2 fun k hk => ?_, List.filter_eq_nil_iff.2 fun k hk => by simpa using hk, List.append_nil]
      simpa using fun hb => (List.nodup_append.1 nodup).2.2 k hk k hb rfl
    have perm : (c ++ a ++ i :: s.decoder.nextSlot.toList).Perm (i :: t.store.gatherList) := by
      rw [split, ← List.append_assoc]
      exact List.perm_middle
    have slot := slot_setSlot_of sound.length hi v
    have other (k : Nat) (hk : k ≠ i) : (setSlot i v t).slot k = t.slot k := by rw [slot, if_neg hk]
    have at_i : (setSlot i v t).slot i = v := by rw [slot, if_pos rfl]
    have out {k : Nat} (e : (t.slot k).state ≠ .free) : k ≠ i := by rintro rfl; exact e free
    have gather : OnlyAt i t.store.gatherList (joinGather i (setSlot i v t)) := by
      rw [list]
      refine ⟨fun h => perm.nodup_iff.2 (List.nodup_cons.2 ⟨ng, h⟩), fun k hk => ?_⟩
      rw [perm.mem_iff, List.mem_cons]
      simp [hk]
    refine ⟨?_, ⟨c, ?_, fun k hk => ?_, fun k hk => ?_⟩, sound.fields, fun w hw => ?_, fun k hk => ?_⟩
    · refine collectionsSound_at sound hi (by simp [sound.length]) other (.refl ..) (.refl ..) gather (.refl ..) ?_
        (fun k _ => sound.of_playing) (times_sublist (.refl _) (fun k hk => ?_) sound.output_times)
      · refine slotAgrees_of at_i (by simp [vfacts.1]) vfacts.2.1 vfacts.2.2 (by simp [nc, vfacts.1]) (by simp [nw, vfacts.1])
          ?_ (by simp [no, vfacts.1]) (by simp [vfacts.1])
        show i ∈ joinGather i (setSlot i v t) ↔ _
        rw [list, perm.mem_iff]
        simp [vfacts.1]
      · exact congrArg Slot.frameTime (other k fun e => no (e ▸ hk))
    · show joinGather i (setSlot i v t) = _
      rw [list]
      simp
    · show ((setSlot i v t).slot k).state = _
      rw [other k (out (by rw [corrected k hk]; decide))]
      exact corrected k hk
    · show ((setSlot i v t).slot k).state = _
      by_cases e : k = i
      · rw [e, at_i]; exact vfacts.1
      · rw [other k e]
        refine gathering k ?_
        simp only [List.mem_append, Option.toList_some, List.mem_singleton] at hk ⊢
        rcases hk with (hk | hk) | hk
        · exact .inl hk
        · exact absurd hk e
        · exact .inr hk
    · show ((setSlot i v t).slot w.slot).state = _ ∧ ((setSlot i v t).slot w.slot).frameTime = _
      rw [other _ (out (by rw [(sound.write w hw).1]; decide))]
      exact sound.write w hw
    · show ((setSlot i v t).slot k).state = _ ∨ ((setSlot i v t).slot k).state = _
      rw [other _ (out (by rcases sound.playing k hk with e | e <;> rw [e] <;> decide))]
      exact sound.playing k hk
  · next t found =>
    obtain ⟨sound, decoder, state, -⟩ := findGatherSlot_spec h found
    refine ⟨?_, decoder, state⟩
    rw [none]
    simpa using sound

theorem placeBlock_spec {a : List Nat} {g : GatherFrame} (b : TapeBlock)
    (h : SoundWith (a ++ g.slot.toList ++ s.decoder.nextSlot.toList) s) :
    SoundWith (a ++ (placeBlock b g s).2.slot.toList ++ s.decoder.nextSlot.toList) (placeBlock b g s).1 ∧
    (placeBlock b g s).1.decoder = s.decoder ∧ (placeBlock b g s).1.transport.state = s.transport.state := by
  unfold placeBlock
  split
  · exact ⟨h, rfl, rfl⟩
  · by_cases slotted : g.slot.isSome = true
    · simp only [slotted, if_true]
      split
      · exact ⟨h, rfl, rfl⟩
      · exact ⟨h, rfl, rfl⟩
    · have none : g.slot = Option.none := by simpa using slotted
      have opened := openGather_spec (a := a) (g := g) (by rw [none] at h; simpa using h) none
      simp only [slotted]
      simp only [Bool.false_eq_true, if_false]
      split
      · exact opened
      · exact opened

theorem storeSound_placeCurrent {b : TapeBlock} {g : GatherFrame}
    (h : SoundWith (g.slot.toList ++ s.decoder.nextSlot.toList) s) (rolling : s.transport.state.rolling = true) :
    (placeCurrent b g s).storeSound := by
  obtain ⟨sound, decoder, state⟩ := placeBlock_spec (a := []) b h
  refine storeSound_iff.2 ⟨?_, fun still => ?_⟩
  · have slots : (placeCurrent b g s).gatheringSlots = (placeBlock b g s).2.slot.toList ++ s.decoder.nextSlot.toList := by
      show (placeBlock b g s).2.slot.toList ++ (placeBlock b g s).1.decoder.nextSlot.toList = _
      rw [decoder]
    rw [slots]
    exact sound.of
  · have same : (placeCurrent b g s).transport.state = s.transport.state := state
    rw [same, rolling] at still; cases still

theorem storeSound_placeNext {b : TapeBlock} {n : GatherFrame} (next : s.decoder.next = some n) (h : s.storeSound)
    (rolling : s.transport.state.rolling = true) : (placeNext b n s).storeSound := by
  obtain ⟨sound, -⟩ := storeSound_iff.1 h
  have nextSlot : s.decoder.nextSlot = n.slot := by unfold Decoder.nextSlot; rw [next]; rfl
  have placed : SoundWith ((s.decoder.current.bind (·.slot)).toList ++ (placeBlock b n s).2.slot.toList) (placeBlock b n s).1 ∧
      (placeBlock b n s).1.decoder = s.decoder ∧ (placeBlock b n s).1.transport.state = s.transport.state := by
    by_cases slotted : n.slot = none
    · have spec := placeBlock_spec (a := (s.decoder.current.bind (·.slot)).toList) (g := n) b (s := s) (by
        unfold State.gatheringSlots at sound
        rw [nextSlot, slotted] at sound ⊢
        simpa using sound)
      rw [nextSlot, slotted] at spec
      simpa using spec
    · obtain ⟨k, slotted⟩ := Option.ne_none_iff_exists'.1 slotted
      have held : (placeBlock b n s).1 = s ∧ (placeBlock b n s).2.slot = n.slot := by
        unfold placeBlock
        split
        · exact ⟨rfl, rfl⟩
        · simp only [slotted, Option.isSome_some, if_true]
          split
          · exact ⟨rfl, slotted⟩
          · exact ⟨rfl, rfl⟩
      rw [held.1, held.2, ← nextSlot]
      exact ⟨sound, rfl, rfl⟩
  obtain ⟨sound, decoder, state⟩ := placed
  refine storeSound_iff.2 ⟨?_, fun still => ?_⟩
  · have slots : (placeNext b n s).gatheringSlots =
        (s.decoder.current.bind (·.slot)).toList ++ (placeBlock b n s).2.slot.toList := by
      show ((placeBlock b n s).1.decoder.current.bind (·.slot)).toList ++ (placeBlock b n s).2.slot.toList = _
      rw [decoder]
    rw [slots]
    exact sound.of
  · have same : (placeNext b n s).transport.state = s.transport.state := state
    rw [same, rolling] at still; cases still

theorem storeSound_takeBlock {b : TapeBlock} {g : GatherFrame} (current : s.decoder.current = some g) (h : s.storeSound)
    (rolling : s.transport.state.rolling = true) : (takeBlock b g s).storeSound := by
  obtain ⟨sound, -⟩ := storeSound_iff.1 h
  have slots : s.gatheringSlots = g.slot.toList ++ s.decoder.nextSlot.toList := by
    unfold State.gatheringSlots
    rw [current]; rfl
  rw [slots] at sound
  have acquired (c : Bool) (tag : Nat) (n : Option GatherFrame) (same : n.bind (·.slot) = s.decoder.nextSlot) :
      (if c = true then placeCurrent b { g with tag := tag } { s with decoder := { s.decoder with next := n } }
        else s).storeSound := by
    split
    · refine storeSound_placeCurrent ?_ rolling
      have next : ({ s with decoder := { s.decoder with next := n } } : State).decoder.nextSlot = s.decoder.nextSlot := same
      rw [next]
      exact sound.of
    · exact h
  unfold takeBlock
  dsimp only
  split
  · exact storeSound_placeCurrent sound rolling
  · split
    · next n next =>
      split
      · exact storeSound_placeNext next h rolling
      · refine acquired _ _ _ ?_
        simp [Decoder.nextSlot, next]
    · next next =>
      split
      · exact h
      · refine acquired _ _ _ ?_
        simp [Decoder.nextSlot, next]

/-! ### Every stroke -/

theorem Sane.keeps (h : Sane s t) (_ : s.readingAgrees) : s.storeSound → t.storeSound := h.storeSound

/-- Every stroke keeps the Frame Store sound. -/
theorem Act.storeSound (h : Act s t) (reading : s.readingAgrees) (sound : s.storeSound) : t.storeSound := by
  cases h with
  | calm h => exact h.sane.storeSound sound
  | move q r =>
    exact storeSound_enterState (Sane.storeSound (s := s) (t := { s with
      sequencer := q, transport := { s.transport with locate := r } }) {} sound)
  | closing => exact storeSound_enterState ((sane_closeAtOnce ..).storeSound sound)
  | closeIdle => exact (sane_closeAtOnce ..).storeSound sound
  | lateReads => exact Sane.storeSound {} sound
  | transport x _ state => exact Sane.storeSound { state := state } sound
  | steer => exact Sane.storeSound {} sound
  | spinUp => exact storeSound_enterState sound
  | openGate =>
    exact (sane_spanChanged _).storeSound (storeSound_enterState (Sane.storeSound (s := s) (t := { s with
      mixer := { s.mixer with taken := true, gateOpen := true } }) {} sound))
  | closePulse =>
    exact storeSound_enterState ((sane_spanChanged _).storeSound (Sane.storeSound (s := s) (t := clearPunches s) {} sound))
  | readTime => exact Sane.storeSound {} sound
  | clearTape => exact Sane.storeSound {} sound
  | take _ _ _ _ corrected => exact (sane_takeFrame corrected).storeSound sound
  | capture _ _ _ capturing => exact (sane_capturePair capturing).storeSound sound
  | output o _ playing => exact Sane.storeSound { sound := fun _ h => h.of (playing := playing) } sound
  | endSlot => exact (sane_endOutputSlot s).storeSound sound
  | source => exact (sane_changeSource ..).storeSound sound
  | finished _ _ writing => exact (sane_monitorFinished writing).storeSound sound
  | play _ _ silent queued => exact (sane_beginPlaying silent queued).storeSound sound
  | monitor _ _ silent writing => exact (sane_monitor silent writing).storeSound sound
  | conceal => exact Sane.storeSound {} sound
  | depth =>
    obtain ⟨trim, demand, e⟩ := judgeQ_trimmed s
    rw [e]
    exact Sane.storeSound {} sound
  | cut w _ current =>
    have writing := (sound.2.2.2.1 w current).1
    refine (sane_supplyFinished (s := { s with coder := { s.coder with current := none } }) writing).storeSound ?_
    exact Sane.storeSound { sound := fun _ h => h.of (current := .inl rfl) } sound
  | windowTrim =>
    have trimmed : ∃ trim demand, Machine.windowTrim s = s.trimmed trim demand := by
      unfold Machine.windowTrim
      split
      · exact ⟨_, _, rfl⟩
      · exact judgeW_trimmed s
    obtain ⟨trim, demand, e⟩ := trimmed
    rw [e]
    exact Sane.storeSound {} sound
  | window _ _ _ queued mixed => exact (sane_takeWindow queued mixed).storeSound sound
  | coder c _ current => exact Sane.storeSound { sound := fun _ h => h.of (current := current) } sound
  | supplied w _ current => exact (sane_supplyFinished (sound.2.2.2.1 w current).1).storeSound sound
  | gather _ _ _ current gathering => exact storeSound_takeBlock current sound (reading.1.symm.trans gathering)

theorem Acts.storeSound (h : Acts s t) (reading : s.readingAgrees) (sound : s.storeSound) : t.storeSound := by
  induction h with
  | refl => exact sound
  | tail before stroke ih => exact stroke.storeSound (Acts.agreed before |>.reading reading) ih

/-! ### Deeds -/

/-- A Frame Store with every slot FREE is sound while no block holds one. -/
theorem storeSound_reset (store : s.store = State.reset.store) (fields : s.copy.inputFields = [])
    (write : s.coder.current = none) (playing : s.output.playing = none) (decoder : s.decoder = State.reset.decoder) :
    s.storeSound := by
  have slot (i : Nat) : s.slot i = Slot.freed := by
    unfold State.slot
    rw [store]
    show (List.replicate 16 Slot.freed).getD i Slot.freed = Slot.freed
    by_cases hi : i < 16
    · rw [List.getD_eq_getElem _ _ (by simpa using hi), List.getElem_replicate]
    · rw [List.getD_eq_default _ _ (by simpa using hi)]
  have none : s.gatheringSlots = [] := by unfold State.gatheringSlots; rw [decoder]; rfl
  refine storeSound_iff.2 ⟨?_, fun _ => by rw [decoder]; exact ⟨rfl, rfl⟩⟩
  rw [none]
  refine ⟨?_, ⟨[], by rw [store]; rfl, (fun i hi => by cases hi), fun i hi => by cases hi⟩, by rw [fields, store]; rfl,
    (fun w hw => by rw [write] at hw; cases hw), fun i hi => by rw [playing] at hi; cases hi⟩
  refine ⟨by rw [store]; rfl, by rw [store]; exact List.nodup_nil, by rw [store]; exact List.nodup_nil,
    by rw [store]; exact List.nodup_nil, by rw [store]; exact List.nodup_nil, (fun i hi => by rw [store] at hi; cases hi),
    fun i _ => ?_, by rw [store]; exact List.Pairwise.nil⟩
  unfold State.slotAgrees
  rw [slot, store]
  refine ⟨fun _ => rfl, fun h => absurd rfl h, rfl, ?_, ?_, ?_, ?_, (fun e => by cases e)⟩
  · exact ⟨(fun h => by cases h), by rintro (e | e) <;> cases e⟩
  · exact ⟨(fun h => by cases h), by rintro (e | e) <;> cases e⟩
  · exact ⟨(fun h => by cases h), by rintro (e | e) <;> cases e⟩
  · exact ⟨(fun h => by cases h), (fun e => by cases e)⟩

theorem Deed.storeSound (h : Deed s t) (reading : s.readingAgrees) (sound : s.storeSound) : t.storeSound := by
  cases h with
  | act h => exact h.storeSound reading sound
  | ports => exact Sane.storeSound {} sound
  | ready => exact Sane.storeSound {} sound
  | clear => exact Sane.storeSound {} sound
  | mask => exact Sane.storeSound {} sound
  | stage => exact Sane.storeSound {} sound
  | askSwitch => exact Sane.storeSound {} sound
  | softReset origin scope =>
    unfold Machine.softReset
    dsimp only
    split
    · exact storeSound_reset rfl rfl rfl rfl rfl
    · exact storeSound_reset rfl rfl rfl rfl rfl
  | powerOn => exact storeSound_reset rfl rfl rfl rfl rfl

theorem Deeds.storeSound (h : Deeds s t) (reading : s.readingAgrees) (sound : s.storeSound) : t.storeSound := by
  induction h with
  | refl => exact sound
  | tail before deed ih => exact deed.storeSound (Deeds.agreed before |>.reading reading) ih

theorem sane_pulseBanks (s : State) : Sane s (pulseBanks s) := by
  rcases pulseBanks_spec s with same | ⟨-, rest⟩
  · rw [same]; exact .refl s
  · exact .trans {} rest.sane

/-! ### The close of a frame (R31, R67 to R70) -/

/-- The record a slot has at its close: CORRECTED, with a frame time and a role of its own. -/
theorem closedSlot_spec (g : GatherFrame) (v : Slot) (role : v.role = some .play ∨ v.role = some .old) :
    (s.closedSlot g v).state = .corrected ∧ (s.closedSlot g v).frameTime ≠ none ∧ (s.closedSlot g v).roleAgrees = true := by
  have roles (f : Nat) : s.roleFor f = .play ∨ s.roleFor f = .old := by unfold State.roleFor; split <;> simp
  have agrees (w : Slot) (state : w.state = .corrected) (h : w.role = some .play ∨ w.role = some .old) :
      w.roleAgrees = true := by
    unfold Slot.roleAgrees
    rcases h with e | e <;> simp [state, e]
  have timed (time : Nat) (w : Slot) (state : w.state = .corrected) (h : w.role = some .play ∨ w.role = some .old) :
      (if w.frameTime = some time then w else { w with frameTime := some time, role := some (s.roleFor time) }).state = .corrected ∧
      (if w.frameTime = some time then w else { w with frameTime := some time, role := some (s.roleFor time) }).frameTime ≠ none ∧
      ((if w.frameTime = some time then w else { w with frameTime := some time, role := some (s.roleFor time) }).role = some .play ∨
        (if w.frameTime = some time then w else { w with frameTime := some time, role := some (s.roleFor time) }).role = some .old) := by
    split
    · next e => exact ⟨state, by rw [e]; simp, h⟩
    · refine ⟨state, by simp, ?_⟩
      rcases roles time with e | e <;> simp [e]
  unfold State.closedSlot
  dsimp only
  split
  · obtain ⟨state, time, roleOf⟩ := timed g.time { v with
      state := .corrected, closeLmax := s.activeBank.lmax, closeRamp := s.activeBank.ramp
      copyField := none, subcodeValid := false, start := false } rfl role
    exact ⟨state, time, agrees _ state roleOf⟩
  · next r _ =>
    obtain ⟨state, time, roleOf⟩ := timed r.time { v with
      state := .corrected, closeLmax := s.activeBank.lmax, closeRamp := s.activeBank.ramp
      copyField := some r.copyField, subcodeValid := true, start := r.start } rfl role
    split
    · exact ⟨state, time, agrees _ state roleOf⟩
    · exact ⟨state, time, agrees _ state roleOf⟩

theorem sane_markSuccessor (s : State) : Sane s (markSuccessor s) := by
  refine (slotWork_markSuccessor s).sane fun l h => ?_
  unfold markSuccessor
  split
  · split
    · next k last =>
      have corrected : (s.slot k).state = .corrected := by
        simpa using (List.mem_filter.1 (List.mem_of_getLast? last)).2
      exact h.setSlot (by rfl) (by rw [corrected]; decide) (.inl (by rfl)) (by rfl)
    · exact h
  · exact h

/-- The slot of the current frame is closed: it joins the CORRECTED ones. -/
theorem soundWith_closed {i : Nat} {v : Slot} (h : SoundWith (i :: l) s) (state : v.state = .corrected)
    (time : v.frameTime ≠ none) (role : v.roleAgrees = true) : SoundWith l (setSlot i v s) := by
  have gathering := h.mem_gathering.1 (List.mem_cons_self (a := i) (l := l))
  have hi := h.lt (i := i) (by rw [gathering]; decide)
  obtain ⟨-, -, -, capture, queue, gather, output, -⟩ := h.agrees hi
  obtain ⟨c, split, corrected, gatheringOf⟩ := h.gathered
  have slot := slot_setSlot_of h.length hi v
  have other (k : Nat) (hk : k ≠ i) : (setSlot i v s).slot k = s.slot k := by rw [slot, if_neg hk]
  have at_i : (setSlot i v s).slot i = v := by rw [slot, if_pos rfl]
  have nodup : (i :: l).Nodup := by
    obtain ⟨-, -, -, nodup, -⟩ := h.collections
    rw [split] at nodup
    exact (List.nodup_append.1 nodup).2.1
  refine ⟨?_, ⟨c ++ [i], by simpa using split, fun k hk => ?_, fun k hk => ?_⟩, h.fields, fun w hw => ?_, fun k hk => ?_⟩
  · refine collectionsSound_at h hi (by simp [h.length]) other (.refl ..) (.refl ..) (.refl ..) (.refl ..) ?_
      (fun k _ => h.of_playing) (times_sublist (.refl _) (fun k hk => ?_) h.output_times)
    · exact slotAgrees_of at_i (by simp [state]) time role (capture.trans (by simp [gathering, state]))
        (queue.trans (by simp [gathering, state])) (gather.trans (by simp [gathering, state]))
        (output.trans (by simp [gathering, state])) (by simp [state])
    · have ne : k ≠ i := by rintro rfl; rw [output.1 hk] at gathering; cases gathering
      exact congrArg Slot.frameTime (other k ne)
  · by_cases e : k = i
    · rw [e, at_i]; exact state
    · rw [other k e]
      exact corrected k ((List.mem_append.1 hk).resolve_right (by simpa using e))
  · have ne : k ≠ i := by rintro rfl; exact (List.nodup_cons.1 nodup).1 hk
    rw [other k ne]
    exact gatheringOf k (List.mem_cons_of_mem _ hk)
  · have hw : w ∈ s.coder.current := hw
    rw [other _ (h.write_ne (by rw [gathering]; decide) w hw)]
    exact h.write w hw
  · have hk : k ∈ s.output.playing := hk
    rw [other _ (h.playing_ne (by rw [gathering]; decide) (by rw [gathering]; decide) k hk)]
    exact h.playing k hk

theorem closeSlot_spec {g : GatherFrame} {i : Nat} (h : SoundWith (i :: l) s) :
    SoundWith l (closeSlot g i s) ∧ (closeSlot g i s).decoder.next = s.decoder.next ∧
    (closeSlot g i s).transport.state = s.transport.state := by
  unfold closeSlot
  dsimp only
  have marked := sane_markSuccessor s
  generalize markSuccessor s = m at marked ⊢
  have sound := marked.sound _ h
  have role : (m.slot i).role = some .play ∨ (m.slot i).role = some .old := by
    have := sound.role i
    unfold Slot.roleAgrees at this
    rw [sound.mem_gathering.1 List.mem_cons_self] at this
    simpa using this
  obtain ⟨state, time, agrees⟩ := closedSlot_spec (s := m) g (m.slot i) role
  generalize m.closedSlot g (m.slot i) = v at state time agrees ⊢
  have closed : SoundWith l { setSlot i v m with decoder := { (setSlot i v m).decoder with closedLast := true } } :=
    (soundWith_closed sound state time agrees).of
  have next : ({ setSlot i v m with decoder := { (setSlot i v m).decoder with closedLast := true } } : State).decoder.next =
      s.decoder.next := marked.next
  have stateOf : ({ setSlot i v m with decoder := { (setSlot i v m).decoder with closedLast := true } } : State).transport.state =
      s.transport.state := marked.state
  generalize ({ setSlot i v m with decoder := { (setSlot i v m).decoder with closedLast := true } } : State) = c
    at closed next stateOf ⊢
  have counted : Sane c (if v.tally.rebuilt = 0 then c else count .blocksRebuilt v.tally.rebuilt c) := by
    split
    · exact .refl c
    · exact {}
  generalize (if v.tally.rebuilt = 0 then c else count .blocksRebuilt v.tally.rebuilt c) = d at counted ⊢
  split
  · exact ⟨counted.sound _ closed, counted.next.trans next, counted.state.trans stateOf⟩
  · next r valid =>
    have rest := counted.trans ((calms_judgeMismatch r d).sane.trans (calms_handOnSubcode _ (selectSubcode_time valid)).sane)
    exact ⟨rest.sound _ closed, rest.next.trans next, rest.state.trans stateOf⟩

/-- After the close the slots being gathered are those of the next frame. -/
theorem closeCurrent_spec (h : SoundWith s.gatheringSlots s) :
    SoundWith s.decoder.nextSlot.toList (closeCurrent s) ∧ (closeCurrent s).decoder.next = s.decoder.next ∧
    (closeCurrent s).transport.state = s.transport.state := by
  unfold closeCurrent
  split
  · next current =>
    unfold State.gatheringSlots at h
    rw [current] at h
    exact ⟨h, rfl, rfl⟩
  · next g current =>
    have judged := (calms_judgeFrame g (closeFrame g s)).sane
    have closed : SoundWith s.decoder.nextSlot.toList (closeFrame g s) ∧ (closeFrame g s).decoder.next = s.decoder.next ∧
        (closeFrame g s).transport.state = s.transport.state := by
      unfold closeFrame
      split
      · next i slot =>
        refine closeSlot_spec ?_
        unfold State.gatheringSlots at h
        rw [current] at h
        simpa [slot] using h
      · next slot =>
        refine ⟨SoundWith.of (s := s) ?_, rfl, rfl⟩
        unfold State.gatheringSlots at h
        rw [current] at h
        simpa [slot] using h
    obtain ⟨sound, next, state⟩ := closed
    exact ⟨judged.sound _ sound, judged.next.trans next, judged.state.trans state⟩

/-! ### The aim (R65) -/

/-- The slot that an aim frees: that of the next frame, where its tag is not the one expected while the status is LOCKED. -/
def State.staleSlot (s : State) : Option Nat :=
  match s.decoder.next with
  | some g => if g.tag ≠ s.decoder.expected % 256 ∧ s.decoder.status = .locked then g.slot else none
  | none => none

/-- The frame that an aim makes the current one. -/
def State.aimedFrame (s : State) : GatherFrame :=
  match s.decoder.next with
  | none => .fresh s.decoder.expected s.decoder.expected
  | some g =>
    if g.tag = s.decoder.expected % 256 then { g with time := s.decoder.expected }
    else if g.slot.isSome = true ∧ s.decoder.status ≠ .locked then { g with time := s.decoder.expected }
    else .fresh s.decoder.expected s.decoder.expected

def freeOption (o : Option Nat) (s : State) : State :=
  match o with
  | some i => freeSlots [i] s
  | none => s

def timeSlot (o : Option Nat) (e : Nat) (s : State) : State :=
  match o with
  | some i => updateSlot i (fun v => { v with frameTime := some e }) s
  | none => s

theorem aim_eq (s : State) : ∃ next : Option GatherFrame, next.bind (·.slot) = none ∧
    aim s = { timeSlot s.aimedFrame.slot s.decoder.expected (freeOption s.staleSlot s) with
      decoder := { (timeSlot s.aimedFrame.slot s.decoder.expected (freeOption s.staleSlot s)).decoder with
        current := some s.aimedFrame, next := next } } := by
  refine ⟨if s.decoder.expected = Config.lastTime then none
    else some (GatherFrame.fresh (s.aimedFrame.tag + 1) (s.decoder.expected + 1)), by split <;> rfl, rfl⟩

/-- The slot of the frame that becomes the current one is the next frame's, or there is none and the next frame's is freed. -/
theorem aimed_slots (s : State) : s.staleSlot = none ∧ s.aimedFrame.slot = s.decoder.nextSlot ∨
    s.staleSlot = s.decoder.nextSlot ∧ s.aimedFrame.slot = none := by
  unfold State.staleSlot State.aimedFrame Decoder.nextSlot
  cases s.decoder.next with
  | none => exact .inl ⟨rfl, rfl⟩
  | some g =>
    by_cases tag : g.tag = s.decoder.expected % 256
    · exact .inl ⟨by simp [tag], by simp [tag]⟩
    · by_cases locked : s.decoder.status = .locked
      · exact .inr ⟨by simp [tag, locked], by simp [tag, locked, GatherFrame.fresh]⟩
      · refine .inl ⟨by simp [locked], ?_⟩
        cases slot : g.slot with
        | none => simp [tag, slot, GatherFrame.fresh]
        | some i => simp [tag, slot, locked]

theorem storeSound_aim (h : SoundWith s.decoder.nextSlot.toList s) (rolling : s.transport.state.rolling = true) :
    (aim s).storeSound := by
  have freed : SoundWith s.aimedFrame.slot.toList (freeOption s.staleSlot s) ∧
      (freeOption s.staleSlot s).transport.state = s.transport.state := by
    rcases aimed_slots s with ⟨stale, aimed⟩ | ⟨stale, aimed⟩
    · rw [stale, aimed]; exact ⟨h, rfl⟩
    · rw [stale, aimed]
      cases slot : s.decoder.nextSlot with
      | none => rw [slot] at h; exact ⟨h, rfl⟩
      | some i =>
        have gone := h.frees (freeSlots_frees [i] s)
        rw [slot] at gone
        exact ⟨by simpa [freeOption] using gone, (slotWork_freeSlots [i] s).state⟩
  obtain ⟨sound, state⟩ := freed
  obtain ⟨next, fresh, e⟩ := aim_eq s
  rw [e]
  generalize freeOption s.staleSlot s = u at sound state ⊢
  have timed : SoundWith s.aimedFrame.slot.toList (timeSlot s.aimedFrame.slot s.decoder.expected u) ∧
      (timeSlot s.aimedFrame.slot s.decoder.expected u).transport.state = s.transport.state := by
    cases slot : s.aimedFrame.slot with
    | none => rw [slot] at sound; exact ⟨sound, state⟩
    | some i =>
      rw [slot] at sound
      have gathering := sound.mem_gathering.1 (by simp : i ∈ (some i).toList)
      exact ⟨sound.setSlot (by rfl) (by rw [gathering]; decide) (.inr ⟨gathering, by simp⟩) (by rfl), state⟩
  generalize timeSlot s.aimedFrame.slot s.decoder.expected u = w at timed ⊢
  refine storeSound_iff.2 ⟨?_, fun still => ?_⟩
  · have slots : ({ w with decoder := { w.decoder with current := some s.aimedFrame, next := next } } : State).gatheringSlots =
        s.aimedFrame.slot.toList := by
      unfold State.gatheringSlots Decoder.nextSlot
      simp [fresh]
    rw [slots]
    exact timed.1.of
  · have still : w.transport.state.rolling = false := still
    rw [timed.2, rolling] at still; cases still

/-! ### The parts of a pulse -/

theorem storeSound_pulseGather (reading : s.readingAgrees) (h : s.storeSound) : (pulseGather s).storeSound := by
  unfold pulseGather
  split
  · next gathering =>
    have rolling : s.transport.state.rolling = true := reading.1.symm.trans gathering
    rw [gatherPulse_eq]
    have stepped : Sane s { s with decoder := s.decoder.stepTime } := by
      unfold Decoder.stepTime
      split
      · exact {}
      · exact {}
    generalize ({ s with decoder := s.decoder.stepTime } : State) = a at stepped ⊢
    obtain ⟨sound, -⟩ := storeSound_iff.1 (stepped.storeSound h)
    obtain ⟨closed, next, state⟩ := closeCurrent_spec sound
    have lost (u : State) : Sane u (lostSeen u) := by
      unfold lostSeen
      split
      · exact {}
      · exact .refl u
    have judged := (calms_judgeHoldover (closeCurrent a)).sane.trans (lost _)
    refine storeSound_aim ?_ (by rw [judged.state, state, stepped.state]; exact rolling)
    unfold Decoder.nextSlot
    rw [judged.next, next]
    exact judged.sound _ closed
  · exact (calms_judgeHoldover s).sane.storeSound h

theorem storeSound_pulseCapture (h : s.storeSound) : (pulseCapture s).storeSound := by
  unfold pulseCapture
  dsimp only
  split
  · split
    · next i lowest =>
      refine Sane.storeSound ⟨fun l h => ?_, by rfl, by rfl, by rfl⟩ h
      obtain ⟨hi, free⟩ := lowestFree_some lowest
      rw [h.length] at hi
      obtain ⟨nc, nw, ng, no⟩ := h.free free
      generalize hv : Slot.opened .capturing .input (s.decoder.time + 2) s.activeFormat = v
      have vfacts : v.state = .capturing ∧ v.frameTime ≠ none ∧ v.roleAgrees = true := by
        subst hv; exact ⟨rfl, by simp [Slot.opened], rfl⟩
      have slot := slot_setSlot_of h.length hi v
      have other (k : Nat) (hk : k ≠ i) : (setSlot i v s).slot k = s.slot k := by rw [slot, if_neg hk]
      have at_i : (setSlot i v s).slot i = v := by rw [slot, if_pos rfl]
      refine soundWith_at (i := i) h ?_ other rfl (by rw [free]; decide) ?_
        (fun w hw => .inl ⟨h.write_ne (by rw [free]; decide) w hw, hw⟩)
        fun k hk => .inl ⟨h.playing_ne (by rw [free]; decide) (by rw [free]; decide) k hk, hk⟩
      · refine collectionsSound_at h hi (by simp [h.length]) other (.append nc) (.refl ..) (.refl ..) (.refl ..) ?_
          (fun k _ => h.of_playing) (times_sublist (.refl _) (fun k hk => ?_) h.output_times)
        · exact slotAgrees_of at_i (by simp [vfacts.1]) vfacts.2.1 vfacts.2.2 (by simp [vfacts.1]) (by simp [nw, vfacts.1])
            (by simp [ng, vfacts.1]) (by simp [no, vfacts.1]) (by simp [vfacts.1])
        · exact congrArg Slot.frameTime (other k fun e => no (e ▸ hk))
      · exact List.map_append.trans (congrArg (· ++ [i]) h.fields)
    · exact h
  · exact h

end
end Sys2Proof.Machine

namespace Sys2Proof.Proofs
open Sys2Proof.Machine

/-- Settles O59: every deed keeps the Frame Store sound, and so does a pulse, whose close and aim hand the slots from one frame being
gathered to the next. -/
theorem stepKeepsStore : Obligations.StepKeepsStore := by
  intro s t h reading sound
  rcases step_cases h with deeds | ⟨u, v, queued, before, after⟩
  · exact deeds.storeSound reading sound
  · have banks := (queued.agreed.trans (agreed_pulseBanks u)).reading reading
    have gathered := storeSound_pulseGather banks ((sane_pulseBanks u).storeSound (queued.storeSound reading sound))
    have gatheredReading := (agreed_pulseGather _).reading banks
    have beforeReading := before.agreed.reading gatheredReading
    exact after.storeSound ((agreed_pulseCapture v).reading beforeReading)
      (storeSound_pulseCapture (before.storeSound gatheredReading gathered))

end Sys2Proof.Proofs
end

section
/-! The record path stays sound: what each stroke does to the slots that wait for their windows, and to the span, the tape time and
the punch-in that say which frames may wait. Settles O60. -/

namespace Sys2Proof.Machine

-- One theorem after another: each one elaborated at the same time would hold a stack of its own.
set_option Elab.async false

/-- The slots of the capture list and the write queue. -/
def State.waiting (s : State) : List Nat := s.store.captureList ++ s.store.writeQueue

/-- The capture list and the write queue rise in frame time; on the capture list the CAPTURED slots come first, and every MIXED slot
is of an earlier frame than all of it. -/
def State.waitingOrdered (s : State) : Prop :=
  (s.times s.store.captureList).Pairwise (· < ·) ∧ (s.times s.store.writeQueue).Pairwise (· < ·) ∧
  s.store.captureList.Pairwise (fun i k => (s.slot k).state = .captured → (s.slot i).state = .captured) ∧
  ∀ i ∈ s.store.writeQueue, (s.slot i).state = .mixed → ∀ f ∈ s.times s.store.captureList, (s.slot i).frameTime.getD 0 < f

/-- The record path is sound but for where a punch-in may stand, with waiting frames up to T + `n`. -/
structure Recorded (n : Nat) (s : State) : Prop where
  order : s.waitingOrdered
  span : ∀ f ∈ s.times s.waiting, s.inSpan f = true ∧ f ≤ s.decoder.time + n
  early : ∀ p ∈ s.mixer.punchIn, 4 ≤ p.time
  verify : s.coder.verifySound

/-- Off play speed there is no punch-in. -/
def State.parked (s : State) : Prop := s.transport.state.rolling = false → s.mixer.punchIn = none

section
variable {s t u : State} {n : Nat} {l : List Nat}

theorem recordSound_iff : s.recordSound ↔ Recorded 2 s ∧ s.parked := by
  constructor
  · rintro ⟨capture, queue, first, mixed, span, parked, early, verify⟩
    exact ⟨⟨⟨capture, queue, first, mixed⟩, span, early, verify⟩, parked⟩
  · rintro ⟨⟨⟨capture, queue, first, mixed⟩, span, early, verify⟩, parked⟩
    exact ⟨capture, queue, first, mixed, span, parked, early, verify⟩

/-! ### Slots that go on waiting -/

/-- The waiting slots of `t` waited in `s`, in the same states and for the same windows. -/
structure Trails (s t : State) : Prop where
  capture : t.store.captureList.Sublist s.store.captureList := by exact .refl _
  queue : t.store.writeQueue.Sublist s.store.writeQueue := by exact .refl _
  same : ∀ i ∈ t.waiting, (t.slot i).state = (s.slot i).state ∧ (t.slot i).frameTime = (s.slot i).frameTime :=
    by exact fun _ _ => ⟨rfl, rfl⟩

theorem Trails.waiting (h : Trails s t) : t.waiting.Sublist s.waiting := h.capture.append h.queue

theorem mem_waiting {i : Nat} : i ∈ s.waiting ↔ i ∈ s.store.captureList ∨ i ∈ s.store.writeQueue := List.mem_append

theorem Trails.trans (h : Trails s t) (k : Trails t u) : Trails s u where
  capture := k.capture.trans h.capture
  queue := k.queue.trans h.queue
  same := fun i hi =>
    have last := k.same i hi
    have first := h.same i (k.waiting.subset hi)
    ⟨last.1.trans first.1, last.2.trans first.2⟩

theorem Trails.times (h : Trails s t) {a : List Nat} (sub : a ⊆ t.waiting) : t.times a = s.times a :=
  List.map_congr_left fun i hi => by rw [(h.same i (sub hi)).2]

theorem Trails.ordered (h : Trails s t) (order : s.waitingOrdered) : t.waitingOrdered := by
  have inCapture : t.store.captureList ⊆ t.waiting := fun _ hi => mem_waiting.2 (.inl hi)
  have inQueue : t.store.writeQueue ⊆ t.waiting := fun _ hi => mem_waiting.2 (.inr hi)
  obtain ⟨capture, queue, first, mixed⟩ := order
  refine ⟨?_, ?_, ?_, fun i hi state f hf => ?_⟩
  · rw [h.times inCapture]; exact capture.sublist (h.capture.map _)
  · rw [h.times inQueue]; exact queue.sublist (h.queue.map _)
  · refine (first.sublist h.capture).imp_of_mem fun hi hk before => ?_
    rw [(h.same _ (inCapture hi)).1, (h.same _ (inCapture hk)).1]
    exact before
  · obtain ⟨stateOf, timeOf⟩ := h.same i (inQueue hi)
    rw [h.times inCapture] at hf
    rw [timeOf]
    exact mixed i (h.queue.subset hi) (stateOf ▸ state) f ((h.capture.map _).subset hf)

theorem Trails.waits (h : Trails s t) : ∀ f ∈ t.times t.waiting, f ∈ s.times s.waiting := by
  intro f hf
  rw [h.times (List.Subset.refl _)] at hf
  exact (h.waiting.map _).subset hf

theorem Frees.trails {fs : List Nat} (h : Frees fs s t) : Trails s t where
  capture := by rw [h.captureList]; exact List.filter_sublist
  queue := by rw [h.writeQueue]; exact List.filter_sublist
  same := fun i hi => by
    have out : i ∉ fs := by
      have := mem_waiting.1 hi
      rw [h.captureList, h.writeQueue] at this
      rcases this with m | m <;> simpa using (List.mem_filter.1 m).2
    rw [h.slot, if_neg out]
    exact ⟨rfl, rfl⟩

/-- A change of a slot that does not wait. -/
theorem Trails.at {i : Nat} (out : i ∉ t.waiting) (other : ∀ k, k ≠ i → t.slot k = s.slot k)
    (capture : t.store.captureList.Sublist s.store.captureList := by exact .refl _)
    (queue : t.store.writeQueue.Sublist s.store.writeQueue := by exact .refl _) : Trails s t :=
  ⟨capture, queue, fun k hk => by rw [other k fun e => out (e ▸ hk)]; exact ⟨rfl, rfl⟩⟩

theorem slot_setSlot_other {i k : Nat} (v : Slot) (hk : k ≠ i) : (setSlot i v s).slot k = s.slot k := by
  rw [slot_setSlot]
  simp [hk]

theorem trails_setSlot {i : Nat} (v : Slot) (out : i ∉ s.waiting) : Trails s (setSlot i v s) :=
  Trails.at out fun _ hk => slot_setSlot_other v hk

theorem trails_rewrite {i : Nat} {v : Slot} (state : v.state = (s.slot i).state) (time : v.frameTime = (s.slot i).frameTime) :
    Trails s (setSlot i v s) where
  same := fun k _ => by
    rw [slot_setSlot]
    split
    · next e => rw [e.1]; exact ⟨state, time⟩
    · exact ⟨rfl, rfl⟩

theorem SoundWith.not_waiting (h : SoundWith l s) {i : Nat} (state : (s.slot i).state ≠ .capturing ∧
    (s.slot i).state ≠ .captured ∧ (s.slot i).state ≠ .mixed) : i ∉ s.waiting := by
  rw [mem_waiting, h.mem_captureList, h.mem_writeQueue]
  tauto

/-! ### Onward -/

/-- The order of the waiting slots goes on from `s` to `t`, no frame waits that did not, and the verify list stays sound. -/
structure Onward (s t : State) : Prop where
  order : s.waitingOrdered → t.waitingOrdered
  waits : ∀ f ∈ t.times t.waiting, f ∈ s.times s.waiting
  current : ∀ w ∈ t.coder.current, w ∈ s.coder.current

theorem Trails.onward (h : Trails s t) (current : ∀ w ∈ t.coder.current, w ∈ s.coder.current := by exact fun _ h => h) :
    Onward s t := ⟨h.ordered, h.waits, current⟩

theorem Onward.refl (s : State) : Onward s s := Trails.onward {}

theorem Onward.trans (h : Onward s t) (k : Onward t u) : Onward s u :=
  ⟨k.order ∘ h.order, fun f hf => h.waits f (k.waits f hf), fun w hw => h.current w (k.current w hw)⟩

theorem Frees.onward {fs : List Nat} (h : Frees fs s t) : Onward s t :=
  h.trails.onward fun w hw => by
    rw [h.current] at hw
    exact (Option.filter_eq_some_iff.1 hw).1

theorem onward_freeSlots (fs : List Nat) (s : State) : Onward s (freeSlots fs s) := (freeSlots_frees fs s).onward

theorem Onward.withDepths {f : State → State} (h : Onward s (f s)) : Onward s (withDepths f s) := by
  obtain ⟨trim, demand, e⟩ := withDepths_trimmed f s
  rw [e]
  exact h.trans (Trails.onward {})

theorem verifySound_current {c : Coder} (h : c.verifySound) {current : Option WriteFrame} (sub : ∀ w ∈ current, w ∈ c.current) :
    Coder.verifySound { c with current := current } := by
  obtain ⟨short, nodup, sequence, entries⟩ := h
  refine ⟨short, nodup, sequence, fun e he => ?_⟩
  obtain ⟨supplied, passed, places, below, counted⟩ := entries e he
  exact ⟨supplied, passed, places, below, fun w hw => counted w (sub w hw)⟩

/-- The oldest slot of the capture list becomes MIXED. -/
theorem onward_takeSlot {i : Nat} {rest : List Nat} (list : s.store.captureList = i :: rest) :
    Onward s (takeSlot i s) := by
  unfold takeSlot
  dsimp only
  generalize hv : ({ s.slot i with state := .mixed, copyField := _, pairs := _, mixed := _ } : Slot) = v
  have vfacts : v.state = .mixed ∧ v.frameTime = (s.slot i).frameTime := by subst hv; exact ⟨rfl, rfl⟩
  refine .trans ?_ (onward_freeSlots ..)
  generalize ht : ({ setSlot i v s with store := _, copy := _ } : State) = t
  have slot (k : Nat) : (t.slot k).frameTime = (s.slot k).frameTime ∧ (k ≠ i → t.slot k = s.slot k) := by
    subst ht
    refine ⟨?_, fun hk => slot_setSlot_other v hk⟩
    show ((setSlot i v s).slot k).frameTime = _
    rw [slot_setSlot]
    split
    · next e => rw [e.1]; exact vfacts.2
    · rfl
  have times (a : List Nat) : t.times a = s.times a := List.map_congr_left fun k _ => by rw [(slot k).1]
  have capture : t.store.captureList = s.store.captureList.filter (· != i) := by subst ht; rfl
  have queue : t.store.writeQueue = s.store.writeQueue := by subst ht; rfl
  have coder : t.coder = s.coder := by subst ht; rfl
  have sub : t.store.captureList.Sublist s.store.captureList := by rw [capture]; exact List.filter_sublist
  have ne {k : Nat} (hk : k ∈ t.store.captureList) : k ≠ i := by
    rw [capture] at hk
    simpa using (List.mem_filter.1 hk).2
  refine ⟨fun ⟨rising, rises, first, mixed⟩ => ⟨?_, ?_, ?_, fun k hk stateOf f hf => ?_⟩, fun f hf => ?_, fun w hw => ?_⟩
  · rw [times]; exact rising.sublist (sub.map _)
  · rw [times, queue]; exact rises
  · refine (first.sublist sub).imp_of_mem fun ha hb before => ?_
    rw [(slot _).2 (ne ha), (slot _).2 (ne hb)]
    exact before
  · rw [(slot k).1]
    rw [times] at hf
    by_cases e : k = i
    · obtain ⟨x, hx, rfl⟩ := List.mem_map.1 hf
      have mem : x ∈ rest := by
        have := sub.subset hx
        rw [list] at this
        exact (List.mem_cons.1 this).resolve_left (ne hx)
      rw [list] at rising
      rw [e]
      exact (List.pairwise_cons.1 rising).1 _ (List.mem_map_of_mem mem)
    · rw [(slot k).2 e] at stateOf
      rw [queue] at hk
      exact mixed k hk stateOf f ((sub.map _).subset hf)
  · rw [times] at hf
    unfold State.waiting at hf ⊢
    rw [queue] at hf
    exact ((sub.append (.refl _)).map _).subset hf
  · rw [coder] at hw; exact hw

theorem onward_mixerRun (n : Nat) (s : State) : Onward s (mixerRun n s) := by
  induction n generalizing s with
  | zero => exact .refl s
  | succ n ih =>
    unfold mixerRun
    split
    · exact .refl s
    · next i rest list =>
      dsimp only
      split
      · exact (onward_takeSlot list).trans (ih _)
      · exact .refl s

theorem onward_mixerJudge (s : State) : Onward s (mixerJudge s) := onward_mixerRun _ s

theorem onward_setRoles (s : State) : Onward s (setRoles s) := by
  refine Onward.withDepths (Trails.onward { same := fun k _ => ?_ })
  rw [slot_map (s := s) (f := fun v =>
    if v.rolesAgain then { v with role := some (s.roleFor (v.frameTime.getD 0)) } else v) rfl rfl]
  split <;> exact ⟨rfl, rfl⟩

/-- A capture that is full goes to the tail of the write queue: every slot there is of an earlier frame. -/
theorem onward_captured {i : Nat} {v : Slot} (h : SoundWith l s) (capturing : s.capturingSlot = some i)
    (vfacts : v.state = .captured ∧ v.frameTime = (s.slot i).frameTime)
    (slot : ∀ k, t.slot k = if k = i then v else s.slot k) (capture : t.store.captureList = s.store.captureList)
    (queue : t.store.writeQueue = s.store.writeQueue ++ [i]) (coder : t.coder = s.coder) : Onward s t := by
  have stateOf := capturingSlot_state capturing
  obtain ⟨-, before, after, list, none⟩ := List.find?_eq_some_iff_append.1 capturing
  have captured {k : Nat} (hk : k ∈ before) : (s.slot k).state = .captured := by
    have mem : k ∈ s.store.captureList := by rw [list]; exact List.mem_append_left _ hk
    exact (h.mem_captureList.1 mem).resolve_left (by simpa using none k hk)
  have time (k : Nat) : (t.slot k).frameTime = (s.slot k).frameTime := by
    rw [slot]; split
    · next e => rw [e]; exact vfacts.2
    · rfl
  have times (a : List Nat) : t.times a = s.times a := List.map_congr_left fun k _ => by rw [time]
  refine ⟨fun ⟨rising, rises, first, mixed⟩ => ⟨?_, ?_, ?_, fun k hk state f hf => ?_⟩, fun f hf => ?_, fun w hw => ?_⟩
  · rw [times, capture]; exact rising
  · rw [queue]
    refine pairwise_times_append (by rw [times]; exact rises) fun k hk => ?_
    rw [time, time]
    have member : (s.slot i).frameTime.getD 0 ∈ s.times s.store.captureList :=
      List.mem_map_of_mem (by rw [list]; simp)
    rcases h.mem_writeQueue.1 hk with state | state
    · have mem := h.mem_captureList.2 (.inr state)
      rw [list] at mem first rising
      rcases List.mem_append.1 mem with early | late
      · unfold State.times at rising
        rw [List.map_append] at rising
        exact (List.pairwise_append.1 rising).2.2 _ (List.mem_map_of_mem early) _ (by simp)
      · rcases List.mem_cons.1 late with e | late
        · rw [e, stateOf] at state; cases state
        · have := (List.pairwise_cons.1 (List.pairwise_append.1 first).2.1).1 k late state
          rw [stateOf] at this; cases this
    · exact mixed k hk state _ member
  · rw [capture, list, List.pairwise_append, List.pairwise_cons]
    rw [list, List.pairwise_append, List.pairwise_cons] at first
    obtain ⟨-, ⟨-, afters⟩, -⟩ := first
    have full {k : Nat} (hk : k ∈ before) : (t.slot k).state = .captured := by
      rw [slot]; split
      · exact vfacts.1
      · exact captured hk
    refine ⟨List.pairwise_of_forall_mem_list fun a ha b _ _ => full ha, ⟨fun b _ _ => by rw [slot, if_pos rfl]; exact vfacts.1, ?_⟩,
      fun a ha b _ _ => full ha⟩
    refine afters.imp_of_mem fun {a b} ha hb pair state => ?_
    by_cases ea : a = i
    · rw [slot, if_pos ea]; exact vfacts.1
    · by_cases eb : b = i
      · subst eb
        have both := h.collections.2.1
        rw [list] at both
        exact absurd hb (List.nodup_cons.1 (List.nodup_append.1 both).2.1).1
      · rw [slot, if_neg eb] at state
        rw [slot, if_neg ea]
        exact pair state
  · rw [queue] at hk
    rw [times, capture] at hf
    rw [time]
    by_cases e : k = i
    · rw [e, slot, if_pos rfl, vfacts.1] at state; cases state
    · rw [slot, if_neg e] at state
      exact mixed k ((List.mem_append.1 hk).resolve_right (by simpa using e)) state f hf
  · rw [times] at hf
    obtain ⟨k, hk, rfl⟩ := List.mem_map.1 hf
    refine List.mem_map_of_mem (mem_waiting.2 ?_)
    rw [mem_waiting, capture, queue] at hk
    rcases hk with hk | hk
    · exact .inl hk
    · rcases List.mem_append.1 hk with hk | hk
      · exact .inr hk
      · obtain rfl := List.mem_singleton.1 hk
        exact .inl (h.mem_captureList.2 (.inl stateOf))
  · rw [coder] at hw; exact hw

theorem onward_completeCapture {i : Nat} (h : SoundWith l s) (capturing : s.capturingSlot = some i) :
    Onward s (completeCapture i s) := by
  have hi := h.lt (i := i) (by rw [capturingSlot_state capturing]; decide)
  unfold completeCapture
  refine .trans (Onward.withDepths ?_) (onward_mixerJudge _)
  exact onward_captured (v := { s.slot i with state := .captured }) h capturing ⟨rfl, rfl⟩
    (slot_setSlot_of h.length hi { s.slot i with state := .captured }) rfl rfl rfl

end
end Sys2Proof.Machine
end

section
/-! The record path through every stroke and through the parts of a frame pulse. Settles O60. -/

namespace Sys2Proof.Machine

-- One theorem after another: each one elaborated at the same time would hold a stack of its own.
set_option Elab.async false

section
variable {s t u : State} {n : Nat} {l : List Nat}

/-! ### Strokes under which the take span and the tape time stand still -/

/-- The waiting slots go on, and what says which frames may wait is as it was. -/
structure Steady (s t : State) : Prop where
  onward : Onward s t := by exact Trails.onward {}
  verify : s.coder.verifySound → t.coder.verifySound := by exact id
  mixer : t.mixer = s.mixer := by rfl
  pairs : t.framePairs = s.framePairs := by rfl
  time : t.decoder.time = s.decoder.time := by rfl
  state : t.transport.state = s.transport.state := by rfl

theorem Steady.refl (s : State) : Steady s s where

theorem Steady.trans (h : Steady s t) (k : Steady t u) : Steady s u :=
  ⟨h.onward.trans k.onward, k.verify ∘ h.verify, k.mixer.trans h.mixer, k.pairs.trans h.pairs, k.time.trans h.time,
    k.state.trans h.state⟩

theorem SlotWork.steady (h : SlotWork s t) (onward : Onward s t) : Steady s t where
  onward := onward
  verify := fun sound => by
    rw [h.coder]
    exact verifySound_current sound onward.current
  mixer := h.mixer
  pairs := by simp only [State.framePairs, State.activeBank, h.banks]
  time := by rw [h.decoder]
  state := h.state

theorem inSpan_congr (mixer : t.mixer = s.mixer) (pairs : t.framePairs = s.framePairs) (f : Nat) : t.inSpan f = s.inSpan f := by
  unfold State.inSpan
  rw [mixer, pairs]

theorem Steady.recorded (h : Steady s t) (sound : Recorded n s) : Recorded n t := by
  obtain ⟨order, span, early, verify⟩ := sound
  refine ⟨h.onward.order order, fun f hf => ?_, by rw [h.mixer]; exact early, h.verify verify⟩
  rw [inSpan_congr h.mixer h.pairs, h.time]
  exact span f (h.onward.waits f hf)

theorem Steady.parked (h : Steady s t) (parked : s.parked) : t.parked := by
  unfold State.parked
  rw [h.state, h.mixer]
  exact parked

/-- Without a punch-in no slot waits. -/
theorem Recorded.idle (h : Recorded n s) (none : s.mixer.punchIn = none) : s.waiting = [] := by
  refine List.eq_nil_iff_forall_not_mem.2 fun i hi => ?_
  have := (h.span _ (List.mem_map_of_mem hi)).1
  simp [State.inSpan, none] at this

/-- While no slot waits the span and the time may change. -/
theorem Recorded.of_idle (h : Recorded n s) (idle : s.waiting = []) {m : Nat} (store : t.store = s.store)
    (coder : t.coder = s.coder) (early : ∀ p ∈ t.mixer.punchIn, 4 ≤ p.time) : Recorded m t := by
  have idle' : t.waiting = [] := by
    unfold State.waiting at idle ⊢
    rw [store]; exact idle
  refine ⟨Trails.ordered ⟨?_, ?_, ?_⟩ h.order, ?_, early, by rw [coder]; exact h.verify⟩
  · rw [store]
  · rw [store]
  · rw [idle']; intro i hi; cases hi
  · rw [idle']; intro f hf; cases hf

/-! ### Changes of the take span (R23, R37) -/

theorem slotWork_spanSlots (s : State) :
    SlotWork s (freeSlots ((setRoles s).slotsWhere (setRoles s).outsideSpan) (setRoles s)) :=
  (slotWork_setRoles s).trans (slotWork_freeSlots ..)

/-- A change of the take span keeps the record path sound: what it leaves waiting lies in the span. -/
theorem recorded_spanChanged (sound : SoundWith l s) (order : s.waitingOrdered) (verify : s.coder.verifySound)
    (late : ∀ f ∈ s.times s.waiting, s.inSpan f = true → f ≤ s.decoder.time + n)
    (early : ∀ p ∈ s.mixer.punchIn, 4 ≤ p.time) : Recorded n (spanChanged s) := by
  have roles := sound.setRoles
  have kept := slotWork_setRoles s
  have on := onward_setRoles s
  unfold spanChanged
  dsimp only
  generalize setRoles s = r at roles kept on ⊢
  have frees := freeSlots_frees (r.slotsWhere r.outsideSpan) r
  generalize freeSlots (r.slotsWhere r.outsideSpan) r = v at frees ⊢
  have work := kept.trans frees.work
  have steady : Steady s v := work.steady (on.trans frees.onward)
  have judged : Recorded n v := by
    have inside : ∀ f ∈ v.times v.waiting, s.inSpan f = true := by
      intro f hf
      obtain ⟨i, hi, rfl⟩ := List.mem_map.1 hf
      have here := frees.trails.waiting.subset hi
      have out : i ∉ r.slotsWhere r.outsideSpan := by
        have := mem_waiting.1 hi
        rw [frees.captureList, frees.writeQueue] at this
        rcases this with m | m <;> simpa using (List.mem_filter.1 m).2
      have states : (r.slot i).state = .capturing ∨ (r.slot i).state = .captured ∨ (r.slot i).state = .mixed := by
        have := mem_waiting.1 here
        rw [roles.mem_captureList, roles.mem_writeQueue] at this
        tauto
      have low : i < 16 := roles.lt (by rcases states with e | e | e <;> rw [e] <;> decide)
      have pairs : r.framePairs = s.framePairs := by simp only [State.framePairs, State.activeBank, kept.banks]
      rw [(frees.trails.same i hi).2, ← inSpan_congr kept.mixer pairs]
      by_contra outside
      refine out (List.mem_filter.2 ⟨List.mem_range.2 low, ?_⟩)
      unfold State.outsideSpan
      rcases states with e | e | e <;> simpa [e] using outside
    refine ⟨steady.onward.order order, fun f hf => ⟨?_, ?_⟩, by rw [steady.mixer]; exact early, steady.verify verify⟩
    · rw [inSpan_congr steady.mixer steady.pairs]
      exact inside f hf
    · rw [steady.time]
      exact late f (steady.onward.waits f hf) (inside f hf)
  refine Steady.recorded (.trans ?_ ((slotWork_mixerJudge _).steady (onward_mixerJudge _))) judged
  split
  · exact {}
  · exact .refl v

theorem spanChanged_mixer (s : State) : (spanChanged s).mixer = s.mixer := (slotWork_spanChanged s).1.mixer

theorem spanChanged_state (s : State) : (spanChanged s).transport.state = s.transport.state := (slotWork_spanChanged s).1.state

/-- A change of the punches keeps the record path sound. -/
theorem Recorded.punches (h : Recorded n s) (sound : SoundWith l s) (x : Mixer) (early : ∀ p ∈ x.punchIn, 4 ≤ p.time) :
    Recorded n (spanChanged { s with mixer := x }) :=
  recorded_spanChanged (s := { s with mixer := x }) (l := l) sound.of h.order h.verify (fun f hf _ => (h.span f hf).2) early

/-- Without punches nothing waits. -/
theorem recorded_clears (sound : SoundWith l s) (order : s.waitingOrdered) (verify : s.coder.verifySound) :
    Recorded n (spanChanged (clearPunches s)) :=
  recorded_spanChanged (s := clearPunches s) (l := l) sound.of order verify
    (fun f _ inside => by simp [State.inSpan, clearPunches] at inside) fun p hp => by cases hp

theorem clears_punchIn (s : State) : (spanChanged (clearPunches s)).mixer.punchIn = none := by
  rw [spanChanged_mixer]; rfl

theorem steady_handOffIf (c : Bool) (x : Handoff) (s : State) : Steady s (handOffIf c x s) := by
  cases c
  · exact .refl s
  · exact {}

/-- A scheduled punch-in that can be cancelled leaves no punch-in, and nothing waiting. -/
theorem cancelPunch_cancels (reason : CancelReason) {p : Punch} (punch : s.mixer.punchIn = some p) (taken : s.mixer.taken = false) :
    Steady (spanChanged (clearPunches s)) (cancelPunch reason s) := by
  unfold cancelPunch
  rw [punch]
  simp only [taken]
  generalize spanChanged (clearPunches s) = w
  exact Steady.trans (t := logEntry .punchCancelled w.timeNow p.origin reason.code w) {} (steady_handOffIf ..)

theorem recorded_cancelPunch (reason : CancelReason) (h : Recorded n s) (sound : SoundWith l s) :
    Recorded n (cancelPunch reason s) ∧ (s.mixer.taken = false → (cancelPunch reason s).mixer.punchIn = none) := by
  cases punch : s.mixer.punchIn with
  | none =>
    have same : cancelPunch reason s = s := by unfold cancelPunch; rw [punch]
    rw [same]
    exact ⟨h, fun _ => punch⟩
  | some p =>
    cases taken : s.mixer.taken with
    | true =>
      have same : cancelPunch reason s = s := by unfold cancelPunch; rw [punch]; simp [taken]
      rw [same]
      exact ⟨h, fun e => by cases e⟩
    | false =>
      have cancelled := cancelPunch_cancels reason punch taken
      exact ⟨cancelled.recorded (recorded_clears sound h.order h.verify), fun _ => by
        rw [cancelled.mixer]; exact clears_punchIn s⟩

/-- Off RECORD every punch-in can still be cancelled. -/
theorem not_taken (gate : s.gateAgrees) (state : s.transport.state ≠ .record) : s.mixer.taken = false := by
  obtain ⟨opens, taken, -⟩ := gate
  rw [taken]
  simpa using fun h => state (opens.1 h)

/-! ### Calm strokes -/

theorem Calm.recorded (h : Calm s t) (gate : s.gateAgrees) (sound : SoundWith l s) (recorded : Recorded n s) (parked : s.parked) :
    Recorded n t ∧ t.parked := by
  have steady {t : State} (h : Steady s t) : Recorded n t ∧ t.parked := ⟨h.recorded recorded, h.parked parked⟩
  cases h with
  | count => exact steady {}
  | raise => exact steady {}
  | log => exact steady {}
  | sequencer => exact steady {}
  | cues => exact steady {}
  | input => exact steady {}
  | copy => exact steady {}
  | status => exact steady {}
  | marks => exact steady {}
  | cancel => exact ⟨recorded_clears sound recorded.order recorded.verify, fun _ => clears_punchIn s⟩
  | punchOut o =>
    refine ⟨recorded.punches sound _ recorded.early, fun still => ?_⟩
    rw [spanChanged_state] at still
    rw [spanChanged_mixer]
    exact parked still
  | schedule p o _ tests =>
    obtain ⟨play, later⟩ : s.transport.state = .play ∧ s.decoder.time + 4 ≤ p.time := by
      unfold State.punchInTests at tests
      split_ifs at tests with _ state _ _ time
      exact ⟨by simpa using state, by simpa using time⟩
    refine ⟨recorded.punches sound _ fun q hq => ?_, fun still => ?_⟩
    · obtain rfl := Option.some.inj hq
      omega
    · rw [spanChanged_state] at still
      have : s.transport.state.rolling = false := still
      rw [play] at this; cases this
  | commit =>
    obtain ⟨order, span, early, verify⟩ := recorded
    exact ⟨⟨order, span, early, verify⟩, parked⟩
  | jump v c _ state time =>
    generalize hw : logEntry .timeJump (some v) .internal c
      (Machine.count .timeJumps 1 (setStatus .locked 0 { s with decoder := s.decoder.setFrom v })) = w
    have e : jumpTo v c s = cancelPunch .time w := by subst hw; rfl
    have kept : w.store = s.store ∧ w.coder = s.coder ∧ w.mixer = s.mixer ∧ w.transport.state = s.transport.state ∧
        w.waitingOrdered = s.waitingOrdered ∧ w.copy = s.copy ∧ w.output = s.output := by
      subst hw; exact ⟨rfl, rfl, rfl, rfl, rfl, rfl, rfl⟩
    obtain ⟨store, coder, mixer, stateOf, order, copy, output⟩ := kept
    rw [e]
    have taken : w.mixer.taken = false := by rw [mixer]; exact not_taken gate state
    cases punch : s.mixer.punchIn with
    | none =>
      have punchOf := (congrArg Mixer.punchIn mixer).trans punch
      have same : cancelPunch .time w = w := by unfold cancelPunch; rw [punchOf]
      rw [same]
      refine ⟨recorded.of_idle (recorded.idle punch) store coder ?_, fun _ => punchOf⟩
      rw [punchOf]
      intro p hp; cases hp
    | some p =>
      have cancelled := cancelPunch_cancels .time ((congrArg Mixer.punchIn mixer).trans punch) taken
      have soundOf : SoundWith l w := sound.of (by rw [store]) (by rw [store]) (by rw [store]) (by rw [store]) (by rw [store])
        (by rw [copy]) (.inr (by rw [coder])) (by rw [output])
      refine ⟨cancelled.recorded (recorded_clears soundOf (order ▸ recorded.order) (by rw [coder]; exact recorded.verify)), fun _ => ?_⟩
      rw [cancelled.mixer]
      exact clears_punchIn w
  | mix =>
    exact steady ((slotWork_mixerJudge s).steady (onward_mixerJudge s))
  | free l => exact steady ((slotWork_freeSlots l s).steady (onward_freeSlots l s))

theorem Calms.recorded (h : Calms s t) (gate : s.gateAgrees) (sound : SoundWith l s) (recorded : Recorded n s) (parked : s.parked) :
    Recorded n t ∧ t.parked := by
  induction h with
  | refl => exact ⟨recorded, parked⟩
  | tail before stroke ih =>
    have gate := Calms.agreed before |>.gate gate
    exact stroke.recorded gate (Calms.sane before |>.sound l sound) ih.1 ih.2

/-! ### Changes of transport state -/

theorem recorded_leaveRolling (h : Recorded n s) (sound : SoundWith l s) :
    Recorded n (leaveRolling s) ∧ (s.mixer.taken = false → (leaveRolling s).mixer.punchIn = none) := by
  unfold leaveRolling
  dsimp only
  generalize hf : s.slotsWhere _ = fs
  have frees := freeSlots_frees fs s
  have soundOf := sound.frees frees
  have steady : Steady s (freeSlots fs s) := frees.work.steady frees.onward
  generalize freeSlots fs s = w at soundOf steady ⊢
  obtain ⟨⟨order, span, early, verify⟩, cancels⟩ := recorded_cancelPunch .motion (steady.recorded h) soundOf
  rw [steady.mixer] at cancels
  generalize cancelPunch .motion w = x at order span early verify cancels ⊢
  obtain ⟨-, -, sequence, -⟩ := verify
  exact ⟨⟨order, span, early, by simp, by simp, sequence, by simp⟩, cancels⟩

/-- Every change of transport state keeps the record path sound; from play speed with a punch-in that can be cancelled. -/
theorem recorded_enterState {new : TransportState} {demand : Demand} (h : Recorded n s) (parked : s.parked) (sound : SoundWith l s)
    (cancels : new.rolling = false → s.mixer.taken = false) :
    Recorded n (enterState new demand s) ∧ (enterState new demand s).parked := by
  have changed : Recorded n (entered new demand s) := by
    obtain ⟨order, span, early, verify⟩ := h
    exact ⟨order, span, early, verify⟩
  have soundOf : SoundWith l (entered new demand s) := sound.of
  cases old : s.transport.state.rolling <;> cases fresh : new.rolling
  · rw [enterState_steady (old.trans fresh.symm)]
    exact ⟨changed, fun _ => parked old⟩
  · rw [enterState_start old fresh]
    refine ⟨Steady.recorded {} changed, fun still => ?_⟩
    exact absurd (fresh.symm.trans still) (by decide)
  · rw [enterState_leave old fresh]
    obtain ⟨left, cancelled⟩ := recorded_leaveRolling changed soundOf
    exact ⟨left, fun _ => cancelled (cancels fresh)⟩
  · rw [enterState_steady (old.trans fresh.symm)]
    exact ⟨changed, fun still => absurd (fresh.symm.trans still) (by decide)⟩

theorem recorded_closeAtOnce (event : ClosingEvent) (origin : Origin) (gate : s.mixer.gateOpen = true) (h : Recorded n s)
    (sound : SoundWith l s) : Recorded n (closeAtOnce event origin s) ∧ (closeAtOnce event origin s).mixer.punchIn = none ∧
      (closeAtOnce event origin s).mixer.taken = false := by
  have closed : Recorded n (closeGate s) ∧ (closeGate s).mixer.punchIn = none ∧ (closeGate s).mixer.taken = false := by
    unfold closeGate
    dsimp only
    generalize hf : s.slotsWhere _ = fs
    have frees := freeSlots_frees fs s
    have soundOf := sound.frees frees
    have steady : Steady s (freeSlots fs s) := frees.work.steady frees.onward
    generalize freeSlots fs s = w at soundOf steady ⊢
    obtain ⟨order, -, -, verify⟩ := steady.recorded h
    have verify' := verifySound_current verify (current := none) (by rintro w ⟨⟩)
    refine ⟨recorded_clears (SoundWith.of soundOf (current := .inl rfl)) order verify', clears_punchIn _, ?_⟩
    rw [spanChanged_mixer]; rfl
  obtain ⟨recorded, punch, taken⟩ := closed
  unfold closeAtOnce
  rw [if_pos gate]
  dsimp only
  generalize closeGate s = w at recorded punch taken ⊢
  have steady : Steady w (handOffIf s.listPunch .closedEarly
      (logEntry .punchOut (raiseFlag .punchOut w).timeNow origin event.code (raiseFlag .punchOut w))) :=
    Steady.trans (t := logEntry .punchOut (raiseFlag .punchOut w).timeNow origin event.code (raiseFlag .punchOut w)) {}
      (steady_handOffIf ..)
  exact ⟨steady.recorded recorded, by rw [steady.mixer]; exact punch, by rw [steady.mixer]; exact taken⟩

/-! ### The slots of the record path -/

theorem steady_updateSlot {i : Nat} {f : Slot → Slot} (state : (f (s.slot i)).state = (s.slot i).state)
    (time : (f (s.slot i)).frameTime = (s.slot i).frameTime) : Steady s (updateSlot i f s) :=
  { onward := (trails_rewrite state time).onward }

theorem steady_capturePair {i : Nat} {p : Pair × Bool} (sound : SoundWith l s) (capturing : s.capturingSlot = some i) :
    Steady s (capturePair i p s) := by
  have state := capturingSlot_state capturing
  unfold capturePair
  dsimp only
  generalize hu : updateSlot i _ s = u
  have filled : SoundWith l u ∧ Steady s u ∧ u.capturingSlot = some i := by
    subst hu
    refine ⟨sound.setSlot (by rfl) (by rw [state]; decide) (.inl (by rfl)) (by rfl), steady_updateSlot (by rfl) (by rfl), ?_⟩
    rw [← capturing]
    refine List.find?_congr fun k _ => ?_
    unfold updateSlot
    rw [slot_setSlot]
    split
    · next e => rw [e.1]
    · rfl
  obtain ⟨soundOf, steady, first⟩ := filled
  generalize hw : (if (s.slot i).pairs.isEmpty = true then combineEntry i u else u) = w
  have combined : SoundWith l w ∧ Steady u w ∧ w.capturingSlot = some i := by
    subst hw
    split
    · obtain ⟨k, e, fields, -⟩ := combineEntry_copy i u
      rw [e]
      exact ⟨soundOf.of (fields := fields), {}, first⟩
    · exact ⟨soundOf, .refl u, first⟩
  obtain ⟨soundOf, joined, first⟩ := combined
  refine (steady.trans joined).trans ?_
  split
  · exact (slotWork_completeCapture i w).steady (onward_completeCapture soundOf first)
  · exact .refl w

theorem steady_freeSlots (fs : List Nat) (s : State) : Steady s (freeSlots fs s) :=
  (slotWork_freeSlots fs s).steady (onward_freeSlots fs s)

theorem steady_monitorFinished (i : Nat) (s : State) : Steady s (monitorFinished i s) := by
  have updated : Steady s (updateSlot i (fun v => { v with monitor := .finished }) s) := steady_updateSlot rfl rfl
  unfold monitorFinished
  dsimp only
  split
  · exact updated.trans (steady_freeSlots ..)
  · exact updated

theorem steady_supplyFinished (i : Nat) (s : State) : Steady s (supplyFinished i s) := by
  have updated : Steady s (updateSlot i (fun v => { v with supplyDone := true }) s) := steady_updateSlot rfl rfl
  unfold supplyFinished
  dsimp only
  split
  · exact updated.trans (steady_freeSlots ..)
  · exact updated

theorem steady_endOutputSlot (s : State) : Steady s (endOutputSlot s) := by
  unfold endOutputSlot
  split
  · exact .refl s
  · have silent : Steady s { s with output := { s.output with playing := none } } := {}
    dsimp only
    split
    · exact silent.trans (steady_freeSlots ..)
    · split
      · exact silent.trans (steady_monitorFinished ..)
      · exact silent

theorem steady_changeSource (new : MonitorSource) (s : State) : Steady s (changeSource new s) := by
  unfold changeSource
  dsimp only
  generalize hu : (if s.output.source = .tape then freeSlots s.playSlots s else s) = u
  have freed : Steady s u := by
    subst hu
    split
    · exact steady_freeSlots ..
    · exact .refl s
  exact freed.trans {}

end
end Sys2Proof.Machine
end

section
/-! The record path through every stroke, every deed and the parts of a frame pulse. Settles O60. -/

namespace Sys2Proof.Machine

section
variable {s t u : State} {n : Nat} {l : List Nat}

/-! ### The takes, the output and the write window -/

theorem steady_joinOutput (last i : Nat) (s : State) : Steady s (joinOutput last i s) := by
  obtain ⟨k, work⟩ := slotWork_joinOutput last i s
  refine .trans (t := count .framesDropped k s) {} (work.steady ?_)
  unfold joinOutput
  dsimp only
  generalize hl : s.outOfOrder ((s.slot i).frameTime.getD 0) = late
  have freed := onward_freeSlots late s
  generalize freeSlots late s = w at freed ⊢
  have joined : Onward (count .framesDropped late.length w) (withDepths (fun t => { t with store := { t.store with
      gatherList := t.store.gatherList.filter (· != i), outputQueue := t.store.outputQueue ++ [i] } })
      (count .framesDropped late.length w)) := Onward.withDepths (Trails.onward {})
  generalize withDepths _ _ = x at joined ⊢
  have begun : Onward (count .framesDropped k s) s := Trails.onward {}
  have counted : Onward w (count .framesDropped late.length w) := Trails.onward {}
  refine (((begun.trans freed).trans counted).trans joined).trans (.trans ?_ (onward_mixerJudge _))
  split
  · exact onward_freeSlots ..
  · exact .refl x

theorem steady_takeFrame {last i : Nat} {ahead : LookAhead} (sound : SoundWith l s) (corrected : s.correctedSlots.head? = some i) :
    Steady s (takeFrame last i ahead s) := by
  have state : (s.slot i).state = .corrected := by
    simpa using (List.mem_filter.1 (List.mem_of_mem_head? corrected)).2
  have out : i ∉ s.waiting := sound.not_waiting (by rw [state]; decide)
  unfold takeFrame
  dsimp only
  generalize concealPairs _ _ ahead _ _ = r
  generalize ({ s.slot i with state := .concealed, pairs := r.pairs, interpolated := r.interpolated, gaps := r.gaps } : Slot) = v
  have written : Steady s (setSlot i v { s with conceal := r.unit }) :=
    .trans (t := { s with conceal := r.unit }) {} { onward := (trails_setSlot (s := { s with conceal := r.unit }) v out).onward }
  generalize setSlot i v { s with conceal := r.unit } = w at written ⊢
  refine written.trans (.trans ?_ (steady_joinOutput ..))
  split
  · exact .refl w
  · exact .trans (t := count .framesMuted 1 w) {} {}

theorem steady_beginPlaying {i : Nat} (sound : SoundWith l s) (queued : s.playSlots.head? = some i) :
    Steady s (beginPlaying i s).1 := by
  have state := sound.mem_outputQueue.1 (List.mem_filter.1 (List.mem_of_mem_head? queued)).1
  have out : i ∉ s.waiting := sound.not_waiting (by rw [state]; decide)
  unfold beginPlaying
  dsimp only
  have work : SlotWork s (withDepths (fun t => { setSlot i { s.slot i with state := .playing } t with
      store := { (setSlot i { s.slot i with state := .playing } t).store with
        outputQueue := (setSlot i { s.slot i with state := .playing } t).store.outputQueue.filter (· != i) } }) s) :=
    slotWork_withDepths (slotWork_store i { s.slot i with state := .playing } s _ (by rfl))
  have moved := work.steady (Onward.withDepths
    (((trails_setSlot (s := s) { s.slot i with state := .playing } out).trans {}).onward))
  generalize withDepths _ s = w at moved ⊢
  exact moved.trans {}

theorem steady_monitor {i : Nat} : Steady s { setSlot i { s.slot i with monitor := .begun } s with
    output := { s.output with playing := some i } } :=
  { onward := ((trails_rewrite (i := i) (v := { s.slot i with monitor := .begun }) rfl rfl).trans
      (u := { setSlot i { s.slot i with monitor := .begun } s with output := { s.output with playing := some i } }) {}).onward }

/-- A new verify entry, with nothing supplied, takes the place of one of its frame. -/
theorem verifySound_addVerify {c : Coder} (h : c.verifySound) (i f : Nat) (writeOn : Bool) (r : Subcode) :
    Coder.verifySound { c with
      current := some ⟨i, f⟩, sequence := 0, writeOn := writeOn, verify := addVerify f c.verify, subcode := r } := by
  obtain ⟨-, nodup, -, entries⟩ := h
  obtain ⟨short, -, members⟩ := addVerify_spec f c.verify
  refine ⟨short, ?_, Nat.zero_le _, fun e he => ?_⟩
  · unfold addVerify
    refine List.Nodup.sublist ((List.drop_sublist ..).map _) ?_
    rw [List.map_append]
    refine List.nodup_append.2 ⟨nodup.sublist (List.filter_sublist.map _), List.nodup_singleton _, fun x hx y hy => ?_⟩
    obtain rfl := List.mem_singleton.1 hy
    obtain ⟨e, he, rfl⟩ := List.mem_map.1 hx
    simpa using (List.mem_filter.1 he).2
  · rcases members e he with rfl | ⟨old, other⟩
    · exact ⟨Nat.zero_le _, rfl, List.nodup_nil, (fun p hp => by cases hp), fun _ _ _ => rfl⟩
    · obtain ⟨supplied, passed, places, below, -⟩ := entries e old
      refine ⟨supplied, passed, places, below, fun w hw same => ?_⟩
      obtain rfl := Option.some.inj hw
      exact absurd same.symm other

theorem recorded_takeWindow {i : Nat} (sound : SoundWith l s) (mixed : (s.slot i).state = .mixed) (h : Recorded n s)
    (parked : s.parked) : Recorded n (takeWindow i s) ∧ (takeWindow i s).parked := by
  unfold takeWindow
  dsimp only
  generalize hv : ({ s.slot i with state := .writing, start := (s.cues.mark.window s.decoder.time).1.isSome } : Slot) = v
  have work : SlotWork s (withDepths (fun t => { setSlot i v t with store := { (setSlot i v t).store with
      writeQueue := (setSlot i v t).store.writeQueue.filter (· != i) } }) s) :=
    slotWork_withDepths (slotWork_store i v s _ (by rfl))
  have capture : i ∉ s.store.captureList := by rw [sound.mem_captureList, mixed]; decide
  have moved := work.steady (Onward.withDepths ((Trails.at (i := i) (t := { setSlot i v s with
    store := { (setSlot i v s).store with writeQueue := (setSlot i v s).store.writeQueue.filter (· != i) } })
    (fun hi => (mem_waiting.1 hi).elim capture (by simp)) (fun k hk => slot_setSlot_other v hk) (.refl _)
    List.filter_sublist).onward))
  have recorded := moved.recorded h
  have still := moved.parked parked
  generalize withDepths _ s = w at recorded still ⊢
  obtain ⟨order, span, early, verify⟩ := recorded
  exact ⟨⟨order, span, early, verifySound_addVerify verify ..⟩, still⟩

/-! ### The gathering (R30, R35, R66) -/

theorem steady_findGatherSlot {o : Option Nat} (found : findGatherSlot s = (t, o)) : Steady s t := by
  unfold findGatherSlot at found
  split at found
  · obtain ⟨rfl, -⟩ := Prod.mk.inj found
    exact .refl s
  · split at found
    · obtain ⟨rfl, -⟩ := Prod.mk.inj found
      exact .refl s
    · next i _ _ =>
      obtain ⟨rfl, -⟩ := Prod.mk.inj found
      have freed := steady_freeSlots [i] s
      generalize freeSlots [i] s = w at freed ⊢
      exact freed.trans {}

theorem steady_openGather (g : GatherFrame) (sound : SoundWith l s) : Steady s (openGather g s).1 := by
  unfold openGather
  split
  · next t i found =>
    obtain ⟨soundOf, -, -, lowest⟩ := findGatherSlot_spec sound found
    obtain ⟨-, free⟩ := lowest i rfl
    have out : i ∉ t.waiting := soundOf.not_waiting (by rw [free]; decide)
    dsimp only
    generalize Slot.opened .gathering (t.roleFor g.time) g.time t.activeFormat = v
    exact (steady_findGatherSlot found).trans
      { onward := ((trails_setSlot v out).trans (u := { setSlot i v t with
          store := { (setSlot i v t).store with gatherList := joinGather i (setSlot i v t) } }) {}).onward }
  · next t found => exact steady_findGatherSlot found

theorem steady_placeBlock (b : TapeBlock) (g : GatherFrame) (sound : SoundWith l s) : Steady s (placeBlock b g s).1 := by
  unfold placeBlock
  split
  · exact .refl s
  · dsimp only
    split
    · split <;> exact .refl s
    · split <;> exact steady_openGather g sound

theorem steady_takeBlock (b : TapeBlock) (g : GatherFrame) (sound : SoundWith l s) : Steady s (takeBlock b g s) := by
  have placed (g : GatherFrame) (n : Option GatherFrame) :
      Steady s (placeCurrent b g { s with decoder := { s.decoder with next := n } }) := by
    have soundOf : SoundWith l { s with decoder := { s.decoder with next := n } } := sound.of
    have placed := steady_placeBlock b g soundOf
    unfold placeCurrent
    generalize placeBlock b g { s with decoder := { s.decoder with next := n } } = r at placed ⊢
    exact .trans (t := { s with decoder := { s.decoder with next := n } }) {} (placed.trans {})
  have acquired (c : Bool) (h : GatherFrame) (n : Option GatherFrame) :
      Steady s (if c = true then placeCurrent b h { s with decoder := { s.decoder with next := n } } else s) := by
    split
    · exact placed ..
    · exact .refl s
  unfold takeBlock
  dsimp only
  split
  · exact placed g s.decoder.next
  · split
    · next n _ =>
      split
      · have placed := steady_placeBlock b n sound
        unfold placeNext
        generalize placeBlock b n s = r at placed ⊢
        exact placed.trans {}
      · exact acquired ..
    · split
      · exact .refl s
      · exact acquired ..

/-! ### Every stroke -/

theorem Act.recorded (h : Act s t) (reading : s.readingAgrees) (gate : s.gateAgrees) (store : s.storeSound)
    (recorded : Recorded n s) (parked : s.parked) : Recorded n t ∧ t.parked := by
  obtain ⟨sound, -⟩ := storeSound_iff.1 store
  have steady {t : State} (h : Steady s t) : Recorded n t ∧ t.parked := ⟨h.recorded recorded, h.parked parked⟩
  cases h with
  | calm h => exact h.recorded gate sound recorded parked
  | move q r new demand _ state =>
    have begun : Steady s { s with sequencer := q, transport := { s.transport with locate := r } } := {}
    exact recorded_enterState (l := s.gatheringSlots) (begun.recorded recorded) (begun.parked parked) sound.of
      fun _ => not_taken gate state
  | closing event origin new _ state =>
    obtain ⟨closed, punch, taken⟩ := recorded_closeAtOnce event origin (gate.1.2 state) recorded sound
    exact recorded_enterState closed (fun _ => punch) ((sane_closeAtOnce event origin s).sound _ sound) fun _ => taken
  | closeIdle event origin _ state =>
    rw [closeAtOnce_closed (by simpa using fun h => state (gate.1.1 h))]
    exact ⟨recorded, parked⟩
  | lateReads => exact steady {}
  | transport x _ state => exact steady { state := state }
  | steer => exact steady {}
  | spinUp _ state => exact recorded_enterState recorded parked sound fun h => by cases h
  | openGate _ punch _ state =>
    rw [enterState_steady (by rw [show TransportState.rolling _ = _ from congrArg TransportState.rolling state]; rfl)]
    obtain ⟨order, span, early, verify⟩ := recorded
    refine ⟨recorded_spanChanged (l := s.gatheringSlots) sound.of order verify (fun f hf _ => (span f hf).2) early, fun still => ?_⟩
    rw [spanChanged_state] at still
    cases still
  | closePulse _ gateOpen =>
    have state : (spanChanged (clearPunches s)).transport.state = .record := (spanChanged_state _).trans (gate.1.1 gateOpen)
    have cleared : Recorded n (spanChanged (clearPunches s)) := recorded_clears sound recorded.order recorded.verify
    exact recorded_enterState cleared (fun _ => clears_punchIn s) ((sane_spanChanged (clearPunches s)).sound _ sound.of)
      fun still => by cases still
  | readTime time _ _ mode =>
    have still : s.transport.state.rolling = false := by
      rw [reading.2.1] at mode
      cases state : s.transport.state <;> rw [state] at mode <;> first | rfl | exact absurd rfl mode
    have punch := parked still
    exact ⟨recorded.of_idle (recorded.idle punch) rfl rfl recorded.early, fun _ => punch⟩
  | clearTape _ state =>
    have punch := parked (by rw [state]; rfl)
    exact ⟨recorded.of_idle (recorded.idle punch) rfl rfl recorded.early, fun _ => punch⟩
  | take _ _ _ _ corrected => exact steady (steady_takeFrame sound corrected)
  | capture _ _ _ capturing => exact steady (steady_capturePair sound capturing)
  | output o => exact steady {}
  | endSlot => exact steady (steady_endOutputSlot s)
  | source => exact steady (steady_changeSource ..)
  | finished => exact steady (steady_monitorFinished ..)
  | play _ _ _ queued => exact steady (steady_beginPlaying sound queued)
  | monitor => exact steady steady_monitor
  | conceal => exact steady {}
  | depth =>
    obtain ⟨trim, demand, e⟩ := judgeQ_trimmed s
    rw [e]
    exact steady {}
  | cut w =>
    have begun : Steady s { s with coder := { s.coder with current := none } } :=
      { onward := Trails.onward {} (by rintro w ⟨⟩), verify := fun h => verifySound_current h (by rintro w ⟨⟩) }
    exact steady (begun.trans (steady_supplyFinished ..))
  | windowTrim => exact steady ((slotWork_windowTrim s).steady (by
      unfold Machine.windowTrim
      split
      · exact Trails.onward {}
      · obtain ⟨trim, demand, e⟩ := judgeW_trimmed s
        rw [e]
        exact Trails.onward {}))
  | window _ _ _ _ mixed => exact recorded_takeWindow sound mixed recorded parked
  | coder c _ _ verify =>
    obtain ⟨order, span, early, old⟩ := recorded
    exact ⟨⟨order, span, early, verify old⟩, parked⟩
  | supplied => exact steady (steady_supplyFinished ..)
  | gather => exact steady (steady_takeBlock _ _ sound)

theorem Acts.recorded (h : Acts s t) (reading : s.readingAgrees) (gate : s.gateAgrees) (store : s.storeSound)
    (recorded : Recorded n s) (parked : s.parked) : Recorded n t ∧ t.parked := by
  induction h with
  | refl => exact ⟨recorded, parked⟩
  | tail before stroke ih =>
    have agreed := Acts.agreed before
    exact stroke.recorded (agreed.reading reading) (agreed.gate gate) (Acts.storeSound before reading store) ih.1 ih.2

/-! ### Deeds -/

theorem recorded_reset (store : s.store = State.reset.store) (mixer : s.mixer = State.reset.mixer)
    (coder : s.coder.verify = [] ∧ s.coder.sequence = 0) : Recorded n s ∧ s.parked := by
  have idle : s.waiting = [] := by unfold State.waiting; rw [store]; rfl
  have punch : s.mixer.punchIn = none := by rw [mixer]; rfl
  obtain ⟨verify, sequence⟩ := coder
  refine ⟨⟨?_, (by rw [idle]; intro f hf; cases hf), (by rw [punch]; intro p hp; cases hp), ?_⟩, fun _ => punch⟩
  · unfold State.waitingOrdered
    rw [store]
    exact ⟨.nil, .nil, .nil, fun i hi => by cases hi⟩
  · unfold Coder.verifySound
    rw [verify, sequence]
    simp

theorem Deed.recorded (h : Deed s t) (reading : s.readingAgrees) (gate : s.gateAgrees) (store : s.storeSound)
    (recorded : Recorded n s) (parked : s.parked) : Recorded n t ∧ t.parked := by
  have steady {t : State} (h : Steady s t) : Recorded n t ∧ t.parked := ⟨h.recorded recorded, h.parked parked⟩
  cases h with
  | act h => exact h.recorded reading gate store recorded parked
  | ports => exact steady {}
  | ready => exact steady {}
  | clear => exact steady {}
  | mask => exact steady {}
  | stage b => exact steady { pairs := congrArg (fun k : Bank => k.rate.pairs) (setStaged_activeBank b s.banks) }
  | askSwitch => exact steady {}
  | softReset origin scope =>
    unfold Machine.softReset
    dsimp only
    split
    · exact recorded_reset rfl rfl ⟨rfl, rfl⟩
    · exact recorded_reset rfl rfl ⟨rfl, rfl⟩
  | powerOn => exact recorded_reset rfl rfl ⟨rfl, rfl⟩

theorem Deeds.recorded (h : Deeds s t) (reading : s.readingAgrees) (gate : s.gateAgrees) (store : s.storeSound)
    (recorded : Recorded n s) (parked : s.parked) : Recorded n t ∧ t.parked := by
  induction h with
  | refl => exact ⟨recorded, parked⟩
  | tail before deed ih =>
    have agreed := Deeds.agreed before
    exact deed.recorded (agreed.reading reading) (agreed.gate gate) (Deeds.storeSound before reading store) ih.1 ih.2

/-! ### The parts of a pulse -/

/-- A frame of the take span is a tape time, from the punch-in on. -/
theorem inSpan_bounds {f : Nat} (h : s.inSpan f = true) : ∃ p ∈ s.mixer.punchIn, p.time ≤ f ∧ f ≤ 359999 := by
  unfold State.inSpan at h
  cases punch : s.mixer.punchIn with
  | none => simp [punch] at h
  | some p =>
    simp only [punch, Bool.and_eq_true, decide_eq_true_eq] at h
    exact ⟨p, rfl, h.1.1, h.1.2⟩

/-- A bank switch leaves a take in hand its rate (R143, R176). -/
theorem recorded_switchBanks (format : s.formatKept) (pending : s.banks.pendingSwitch.isSome = true) (recorded : Recorded n s)
    (parked : s.parked) : Recorded n (switchBanks s) ∧ (switchBanks s).parked := by
  cases hand : s.takeInHand with
  | true =>
    have same := format hand pending
    unfold State.switchChangesFormat at same
    have rate : s.banks.stagedBank.rate = s.banks.activeBank.rate := by
      have : (s.banks.stagedBank.rate != s.banks.activeBank.rate) = false := (Bool.or_eq_false_iff.1 same).1
      simpa using this
    have steady : Steady s (switchBanks s) := { pairs := congrArg Rate.pairs rate }
    exact ⟨steady.recorded recorded, steady.parked parked⟩
  | false =>
    have punch : s.mixer.punchIn = none := by
      unfold State.takeInHand at hand
      simpa using (Bool.or_eq_false_iff.1 hand).1
    exact ⟨recorded.of_idle (recorded.idle punch) rfl rfl recorded.early, parked⟩

theorem recorded_pulseBanks (gate : s.gateAgrees) (sound : SoundWith l s) (format : s.formatKept) (recorded : Recorded n s)
    (parked : s.parked) : Recorded n (pulseBanks s) ∧ (pulseBanks s).parked := by
  rcases pulseBanks_spec s with same | ⟨pending, rest⟩
  · rw [same]; exact ⟨recorded, parked⟩
  · obtain ⟨switched, still⟩ := recorded_switchBanks format pending recorded parked
    exact rest.recorded (s := switchBanks s) gate (l := l) sound.of switched still

/-- The step of the tape time leaves no waiting frame above T + 1: in a lead-in none waits, and at the end of the tape time there is
none above it. -/
theorem recorded_stepTime (ranged : s.decoder.ranged) (recorded : Recorded 2 s) :
    Recorded 1 { s with decoder := s.decoder.stepTime } := by
  obtain ⟨order, span, early, verify⟩ := recorded
  refine ⟨order, fun f hf => ?_, early, verify⟩
  obtain ⟨inside, near⟩ := span f hf
  obtain ⟨p, punch, first, last⟩ := inSpan_bounds inside
  have four := early p punch
  obtain ⟨-, -, lead⟩ := ranged
  refine ⟨inside, ?_⟩
  show f ≤ s.decoder.stepTime.time + 1
  unfold Decoder.stepTime
  split
  · next led =>
    have := lead led
    omega
  · show f ≤ min 359999 (s.decoder.time + 1) + 1
    omega

theorem steady_markSuccessor (s : State) : Steady s (markSuccessor s) := by
  unfold markSuccessor
  split
  · split
    · exact steady_updateSlot rfl rfl
    · exact .refl s
  · exact .refl s

theorem steady_handOn (r : Subcode) (s : State) : Steady s (handOnSubcode r (judgeMismatch r s)) := by
  have judged : Steady s (judgeMismatch r s) := by
    unfold judgeMismatch
    split
    · exact {}
    · split
      · exact .refl s
      · exact {}
  have taken (s : State) : Steady s (takeMarker r.time r.program s) := by
    unfold takeMarker
    dsimp only
    split
    · exact {}
    · split
      · exact .refl s
      · split <;> exact {}
  generalize judgeMismatch r s = w at judged ⊢
  unfold handOnSubcode offerMarker
  dsimp only
  have held : Steady w { w with copy := { w.copy with heldTape := some r.copyField } } := {}
  refine (judged.trans held).trans ?_
  split
  · exact (taken _).trans {}
  · exact {}

theorem steady_closeFrame (g : GatherFrame) (current : s.decoder.current = some g) (sound : SoundWith s.gatheringSlots s) :
    Steady s (closeFrame g s) := by
  unfold closeFrame
  split
  · next i slot =>
    have gathering : (s.slot i).state = .gathering := by
      refine sound.mem_gathering.1 ?_
      unfold State.gatheringSlots
      rw [current]
      simp [slot]
    have out : i ∉ s.waiting := sound.not_waiting (by rw [gathering]; decide)
    unfold closeSlot
    dsimp only
    have marked := steady_markSuccessor s
    have still : i ∉ (markSuccessor s).waiting := by
      have lists : (markSuccessor s).waiting = s.waiting := by
        unfold markSuccessor
        split
        · split <;> rfl
        · rfl
      rw [lists]; exact out
    generalize markSuccessor s = m at marked still ⊢
    generalize m.closedSlot g (m.slot i) = v
    have written : Steady m (setSlot i v m) := { onward := (trails_setSlot v still).onward }
    generalize setSlot i v m = w at written ⊢
    have closed : Steady w { w with decoder := { w.decoder with closedLast := true } } := {}
    generalize ({ w with decoder := { w.decoder with closedLast := true } } : State) = c at closed ⊢
    have counted : Steady c (if v.tally.rebuilt = 0 then c else count .blocksRebuilt v.tally.rebuilt c) := by
      split
      · exact .refl c
      · exact {}
    generalize (if v.tally.rebuilt = 0 then c else count .blocksRebuilt v.tally.rebuilt c) = d at counted ⊢
    refine ((marked.trans written).trans (closed.trans counted)).trans ?_
    split
    · exact .refl d
    · exact steady_handOn ..
  · exact {}

/-- The aim hands on, frees and times slots that are being gathered, and none that waits. -/
theorem steady_aim (sound : SoundWith s.decoder.nextSlot.toList s) : Steady s (aim s) := by
  have freed : SoundWith s.aimedFrame.slot.toList (freeOption s.staleSlot s) ∧ Steady s (freeOption s.staleSlot s) := by
    rcases aimed_slots s with ⟨stale, aimed⟩ | ⟨stale, aimed⟩
    · rw [stale, aimed]; exact ⟨sound, .refl s⟩
    · rw [stale, aimed]
      cases slot : s.decoder.nextSlot with
      | none => rw [slot] at sound; exact ⟨sound, .refl s⟩
      | some i =>
        have gone := sound.frees (freeSlots_frees [i] s)
        rw [slot] at gone
        exact ⟨by simpa [freeOption] using gone, steady_freeSlots [i] s⟩
  obtain ⟨sound, freed⟩ := freed
  obtain ⟨next, -, e⟩ := aim_eq s
  rw [e]
  generalize freeOption s.staleSlot s = u at sound freed ⊢
  have timed : Steady u (timeSlot s.aimedFrame.slot s.decoder.expected u) := by
    cases slot : s.aimedFrame.slot with
    | none => exact .refl u
    | some i =>
      rw [slot] at sound
      have gathering := sound.mem_gathering.1 (by simp : i ∈ (some i).toList)
      have out : i ∉ u.waiting := sound.not_waiting (by rw [gathering]; decide)
      exact { onward := (trails_setSlot _ out).onward }
  generalize timeSlot s.aimedFrame.slot s.decoder.expected u = w at timed ⊢
  exact (freed.trans timed).trans {}

theorem soundWith_closeFrame {g : GatherFrame} (current : s.decoder.current = some g) (sound : SoundWith s.gatheringSlots s) :
    SoundWith s.decoder.nextSlot.toList (closeFrame g s) := by
  have slots : s.gatheringSlots = g.slot.toList ++ s.decoder.nextSlot.toList := by
    unfold State.gatheringSlots
    rw [current]; rfl
  rw [slots] at sound
  unfold closeFrame
  split
  · next i slot =>
    rw [slot] at sound
    exact (closeSlot_spec sound).1
  · next slot =>
    rw [slot] at sound
    exact sound.of

theorem recorded_pulseGather (reading : s.readingAgrees) (gate : s.gateAgrees) (store : s.storeSound) (ranged : s.decoder.ranged)
    (recorded : Recorded 2 s) (parked : s.parked) : Recorded 1 (pulseGather s) ∧ (pulseGather s).parked := by
  unfold pulseGather
  split
  · rw [gatherPulse_eq]
    have stepped := recorded_stepTime ranged recorded
    have sane : Sane s { s with decoder := s.decoder.stepTime } := by
      unfold Decoder.stepTime
      split
      · exact {}
      · exact {}
    have gate : ({ s with decoder := s.decoder.stepTime } : State).gateAgrees := gate
    have parked : ({ s with decoder := s.decoder.stepTime } : State).parked := parked
    generalize ({ s with decoder := s.decoder.stepTime } : State) = a at stepped sane gate parked ⊢
    obtain ⟨sound, -⟩ := storeSound_iff.1 (sane.storeSound store)
    obtain ⟨closed, next, -⟩ := closeCurrent_spec sound
    have current : Recorded 1 (closeCurrent a) ∧ (closeCurrent a).parked ∧ (closeCurrent a).gateAgrees := by
      unfold closeCurrent
      split
      · exact ⟨stepped, parked, gate⟩
      · next g current =>
        have steady := steady_closeFrame g current sound
        have gateOf := (agreed_closeFrame g a).gate gate
        obtain ⟨judged, still⟩ := (calms_judgeFrame g (closeFrame g a)).recorded gateOf (soundWith_closeFrame current sound)
          (steady.recorded stepped) (steady.parked parked)
        exact ⟨judged, still, (calms_judgeFrame g (closeFrame g a)).agreed.gate gateOf⟩
    obtain ⟨judged, still, gate⟩ := current
    generalize closeCurrent a = b at closed next judged still gate ⊢
    obtain ⟨held, still⟩ := (calms_judgeHoldover b).recorded gate closed judged still
    have sane := (calms_judgeHoldover b).sane
    have sound := sane.sound _ closed
    have nextOf := sane.next.trans next
    generalize judgeHoldover b = c at held still sound nextOf ⊢
    have lost : Steady c (lostSeen c) ∧ Sane c (lostSeen c) := by
      unfold lostSeen
      split
      · exact ⟨{}, {}⟩
      · exact ⟨.refl c, .refl c⟩
    obtain ⟨steady, sane⟩ := lost
    have aimed : Steady (lostSeen c) (aim (lostSeen c)) := by
      refine steady_aim ?_
      unfold Decoder.nextSlot at sound ⊢
      rw [sane.next, nextOf]
      exact sane.sound _ sound
    have both := steady.trans aimed
    exact ⟨both.recorded held, both.parked still⟩
  · next off =>
    have still : s.transport.state.rolling = false := by
      rw [reading.1] at off
      simpa using off
    have punch := parked still
    obtain ⟨sound, -⟩ := storeSound_iff.1 store
    exact (calms_judgeHoldover s).recorded gate sound (recorded.of_idle (recorded.idle punch) rfl rfl recorded.early) parked

/-- The slot opened is of the frame T + 2, above every one that waits. -/
theorem recorded_pulseCapture (sound : SoundWith l s) (recorded : Recorded 1 s) (parked : s.parked) :
    Recorded 2 (pulseCapture s) ∧ (pulseCapture s).parked := by
  obtain ⟨order, span, early, verify⟩ := recorded
  have later : Recorded 2 s := ⟨order, fun f hf => ⟨(span f hf).1, by have := (span f hf).2; omega⟩, early, verify⟩
  unfold pulseCapture
  dsimp only
  split
  · next opens =>
    split
    · next i lowest =>
      obtain ⟨hi, free⟩ := lowestFree_some lowest
      rw [sound.length] at hi
      generalize hv : Slot.opened .capturing .input (s.decoder.time + 2) s.activeFormat = v
      have vfacts : v.state = .capturing ∧ v.frameTime = some (s.decoder.time + 2) := by subst hv; exact ⟨rfl, rfl⟩
      have out : i ∉ s.waiting := sound.not_waiting (by rw [free]; decide)
      have slot := slot_setSlot_of sound.length hi v
      have other {k : Nat} (hk : k ∈ s.waiting) : (setSlot i v s).slot k = s.slot k := by
        rw [slot, if_neg (fun e : k = i => out (e ▸ hk))]
      have at_i : (setSlot i v s).slot i = v := by rw [slot, if_pos rfl]
      have timesOf {a : List Nat} (ha : a ⊆ s.waiting) : (setSlot i v s).times a = s.times a :=
        List.map_congr_left fun k hk => by rw [other (ha hk)]
      have inCapture : s.store.captureList ⊆ s.waiting := fun _ hi => mem_waiting.2 (.inl hi)
      have inQueue : s.store.writeQueue ⊆ s.waiting := fun _ hi => mem_waiting.2 (.inr hi)
      have timeOf {k : Nat} (hk : k ∈ s.waiting) : (s.slot k).frameTime.getD 0 ≤ s.decoder.time + 1 :=
        (span _ (List.mem_map_of_mem hk)).2
      have newTime : ((setSlot i v s).slot i).frameTime.getD 0 = s.decoder.time + 2 := by rw [at_i, vfacts.2]; rfl
      obtain ⟨rising, rises, first, mixed⟩ := order
      refine ⟨⟨⟨?_, ?_, ?_, fun k hk state f hf => ?_⟩, fun f hf => ?_, early, verify⟩, parked⟩
      · refine pairwise_times_append (t := setSlot i v s) (a := s.store.captureList) (by rw [timesOf inCapture]; exact rising) fun k hk => ?_
        rw [other (inCapture hk), newTime]
        have := timeOf (inCapture hk)
        omega
      · show ((setSlot i v s).times s.store.writeQueue).Pairwise (· < ·)
        rw [timesOf inQueue]; exact rises
      · show (s.store.captureList ++ [i]).Pairwise fun a b =>
          ((setSlot i v s).slot b).state = .captured → ((setSlot i v s).slot a).state = .captured
        refine List.pairwise_append.2 ⟨first.imp_of_mem fun ha hb before => ?_, List.pairwise_singleton .., fun a _ b hb state => ?_⟩
        · rw [other (inCapture ha), other (inCapture hb)]; exact before
        · obtain rfl := List.mem_singleton.1 hb
          rw [at_i, vfacts.1] at state
          cases state
      · have hk : k ∈ s.store.writeQueue := hk
        have state : ((setSlot i v s).slot k).state = .mixed := state
        have hf : f ∈ (setSlot i v s).times (s.store.captureList ++ [i]) := hf
        show ((setSlot i v s).slot k).frameTime.getD 0 < f
        rw [other (inQueue hk)] at state ⊢
        unfold State.times at hf
        rw [List.map_append] at hf
        rcases List.mem_append.1 hf with old | new
        · refine mixed k hk state f ?_
          rw [← timesOf inCapture]; exact old
        · obtain rfl := List.mem_singleton.1 new
          have := timeOf (inQueue hk)
          show (s.slot k).frameTime.getD 0 < ((setSlot i v s).slot i).frameTime.getD 0
          rw [newTime]
          omega
      · have hf : f ∈ (setSlot i v s).times ((s.store.captureList ++ [i]) ++ s.store.writeQueue) := hf
        show s.inSpan f = true ∧ f ≤ s.decoder.time + 2
        obtain ⟨k, hk, rfl⟩ := List.mem_map.1 hf
        by_cases e : k = i
        · rw [e, newTime]
          exact ⟨opens.2.1, le_rfl⟩
        · have old : k ∈ s.waiting := by
            simp only [List.mem_append, List.mem_singleton] at hk
            rw [mem_waiting]
            tauto
          rw [other old]
          exact later.span _ (List.mem_map_of_mem old)
    · exact ⟨later, parked⟩
  · exact ⟨later, parked⟩

end
end Sys2Proof.Machine

namespace Sys2Proof.Proofs
open Sys2Proof.Machine

/-- Settles O60: every stroke keeps the waiting slots in order and in the take span; a pulse steps the tape time first, which leaves
T + 2 free for the slot that it opens. -/
theorem stepKeepsRecordPath : Obligations.StepKeepsRecordPath := by
  intro s t h reading store gate ranged format _ sound
  obtain ⟨recorded, parked⟩ := recordSound_iff.1 sound
  refine recordSound_iff.2 ?_
  rcases step_cases h with deeds | ⟨u, v, queued, before, after⟩
  · exact deeds.recorded reading gate store recorded parked
  · have agreed := queued.agreed
    have readingU := agreed.reading reading
    have gateU := agreed.gate gate
    have storeU := queued.storeSound reading store
    obtain ⟨recordedU, parkedU⟩ := queued.recorded reading gate store recorded parked
    obtain ⟨switched, parkedB⟩ := recorded_pulseBanks gateU (storeSound_iff.1 storeU).1 (queued.bounds.format format) recordedU parkedU
    have banks := agreed_pulseBanks u
    have readingB := banks.reading readingU
    have gateB := banks.gate gateU
    have storeB := (sane_pulseBanks u).storeSound storeU
    have rangedB := (bounds_pulseBanks u).ranged (queued.bounds.ranged ranged)
    obtain ⟨gathered, parkedG⟩ := recorded_pulseGather readingB gateB storeB rangedB switched parkedB
    have gather := agreed_pulseGather (pulseBanks u)
    have readingG := gather.reading readingB
    have gateG := gather.gate gateB
    have storeG := storeSound_pulseGather readingB storeB
    obtain ⟨recordedV, parkedV⟩ := before.recorded readingG gateG storeG gathered parkedG
    have storeV := before.storeSound readingG storeG
    obtain ⟨captured, parkedC⟩ := recorded_pulseCapture (storeSound_iff.1 storeV).1 recordedV parkedV
    have capture := agreed_pulseCapture v
    exact after.recorded (capture.reading (before.agreed.reading readingG)) (capture.gate (before.agreed.gate gateG))
      (storeSound_pulseCapture storeV) captured parkedC

end Sys2Proof.Proofs
end

section
/-! Steps, resets and transactions: the tick of an empty queue, the state after reset, and the System Port byte by byte. Settles O1, O2,
O3 and O5. -/

namespace Sys2Proof.Machine

section
variable {s : State}

/-! ### Slots freed that stand on no collection -/

theorem withDepths_still {f : State → State} (q : (f s).depthQ = s.depthQ) (w : (f s).depthW = s.depthW) : withDepths f s = f s := by
  unfold withDepths
  simp only [q, w, if_true]

/-- Slot `i` stands on no collection. -/
def State.unlisted (s : State) (i : Nat) : Prop :=
  i ∉ s.store.captureList ∧ i ∉ s.store.gatherList ∧ i ∉ s.store.outputQueue ∧ i ∉ s.store.writeQueue ∧
  i ∉ s.copy.inputFields.map (·.1)

theorem filter_ne_of_notMem {i : Nat} {a : List Nat} (h : i ∉ a) : a.filter (· != i) = a :=
  List.filter_eq_self.2 fun k hk => by simpa using fun e : k = i => h (e ▸ hk)

/-- Freeing a slot that stands on no collection is written out in full: its record, and the blocks that hold it. -/
theorem freeSlots_unlisted {i : Nat} (h : s.unlisted i) : freeSlots [i] s = { s with
    store := { s.store with slots := s.store.slots.set i Slot.freed }
    coder := { s.coder with current := s.coder.current.filter (·.slot != i) }
    output := if s.output.playing = some i then { s.output with playing := none, frame := [] } else s.output } := by
  obtain ⟨capture, gather, output, write, fields⟩ := h
  have fieldsOf : s.copy.inputFields.filter (·.1 != i) = s.copy.inputFields :=
    List.filter_eq_self.2 fun e he => by simpa using fun same : e.1 = i => fields (List.mem_map.2 ⟨e, he, same⟩)
  have one : freeOne s i = { s with
      store := { s.store with slots := s.store.slots.set i Slot.freed }
      coder := { s.coder with current := s.coder.current.filter (·.slot != i) }
      output := if s.output.playing = some i then { s.output with playing := none, frame := [] } else s.output } := by
    simp only [freeOne, setSlot, filter_ne_of_notMem capture, filter_ne_of_notMem gather, filter_ne_of_notMem output,
      filter_ne_of_notMem write, fieldsOf]
    rfl
  have freed : [i].foldl freeOne s = freeOne s i := rfl
  unfold freeSlots
  rw [withDepths_still (f := fun t => [i].foldl freeOne t)]
  · exact freed.trans one
  · show (freeOne s i).depthQ = s.depthQ
    have queue : (freeOne s i).store.outputQueue = s.store.outputQueue := by rw [one]
    unfold State.depthQ
    rw [queue]
    congr 1
    refine List.filter_congr fun k hk => ?_
    have ne : k ≠ i := fun e => output (e ▸ hk)
    rw [(freeOne_frees s i).slot, if_neg (by simpa using ne)]
  · show (freeOne s i).depthW = s.depthW
    unfold State.depthW
    rw [one]

theorem SoundWith.unlisted {l : List Nat} (h : SoundWith l s) {i : Nat}
    (state : (s.slot i).state = .playing ∨ (s.slot i).state = .writing) : s.unlisted i := by
  unfold State.unlisted
  rw [h.fields, h.mem_captureList, h.mem_gatherList, h.mem_outputQueue, h.mem_writeQueue]
  rcases state with e | e <;> rw [e] <;> decide

/-! ### The tick (R29, R33, R86, R90 to R95) -/

/-- An item leaves with its pair and the gain that goes with it. -/
theorem leave_eq {item : OutputItem} {f : Int} {o : Pair}
    (h : item = .plain o ∧ f = s.output.fadeGain ∨
      (∃ q, item = .up q ∧ f = min 1024 (s.output.fadeGain + s.output.fadeStep) ∧
        o = ⟨(q.left * f + 512) / 1024, (q.right * f + 512) / 1024⟩) ∨
      item = .down ∧ f = max 0 (s.output.fadeGain - s.output.fadeStep) ∧
        o = ⟨(s.output.fadePair.left * f + 512) / 1024, (s.output.fadePair.right * f + 512) / 1024⟩) :
    leave item s = { s with output := { s.output with
      fadeGain := f, heldPair := o
      delivered := if s.output.wordLength = .w24 then o else ⟨reduce16 o.left, reduce16 o.right⟩ } } := by
  have delivered (p : Pair) : s.output.wordLength.deliver p =
      if s.output.wordLength = .w24 then p else ⟨reduce16 p.left, reduce16 p.right⟩ := by
    cases s.output.wordLength <;> rfl
  rcases h with ⟨rfl, rfl⟩ | ⟨q, rfl, rfl, rfl⟩ | ⟨rfl, rfl, rfl⟩
  · simp only [leave, deliverPair, delivered]
  · simp only [leave, deliverPair, scalePair, scaleSample, gainUp, Config.unity, delivered]
  · simp only [leave, deliverPair, scalePair, scaleSample, gainDown, delivered]

/-- The slot being output ends: a PLAYING one is FREE. -/
theorem endOutputSlot_playing {i : Nat} {l : List Nat} (h : SoundWith l s) (playing : s.output.playing = some i)
    (state : (s.slot i).state = .playing) : endOutputSlot s = { s with
      store := { s.store with slots := s.store.slots.set i Slot.freed }, output := { s.output with playing := none } } := by
  have write : s.coder.current.filter (·.slot != i) = s.coder.current := by
    cases current : s.coder.current with
    | none => rfl
    | some w =>
      have ne : w.slot ≠ i := h.write_ne (by rw [state]; decide) w current
      simp [Option.filter, ne]
  have unlisted : ({ s with output := { s.output with playing := none } } : State).unlisted i := h.unlisted (.inl state)
  unfold endOutputSlot
  simp only [playing, state, if_true]
  rw [freeSlots_unlisted unlisted]
  simp only [write]
  rfl

/-- A WRITING slot whose output has ended is FREE once its supply is done too. -/
theorem monitorFinished_eq {i : Nat} {l : List Nat} (h : SoundWith l s) (state : (s.slot i).state = .writing)
    (silent : s.output.playing = none) : monitorFinished i s = if (s.slot i).supplyDone = true then { s with
      store := { s.store with slots := s.store.slots.set i Slot.freed }
      coder := { s.coder with current := s.coder.current.filter fun w => decide (w.slot ≠ i) } }
    else { s with store := { s.store with slots := s.store.slots.set i { s.slot i with monitor := .finished } } } := by
  have unlisted : (updateSlot i (fun v => { v with monitor := .finished }) s).unlisted i := h.unlisted (.inr state)
  unfold monitorFinished
  dsimp only
  split
  · rw [freeSlots_unlisted unlisted]
    have test : (fun w : WriteFrame => w.slot != i) = fun w => decide (w.slot ≠ i) := by
      funext w
      by_cases e : w.slot = i <;> simp [e]
    simp only [updateSlot, setSlot, silent, List.set_set, reduceCtorEq, if_false, test]
  · rfl

/-- The slot being output ends: with a WRITING one the monitor has finished, which frees it when its supply is done. -/
theorem endOutputSlot_writing {i : Nat} {l : List Nat} (h : SoundWith l s) (playing : s.output.playing = some i)
    (state : (s.slot i).state = .writing) : endOutputSlot s = monitorFinished i { s with output := { s.output with playing := none } } ∧
      SoundWith l { s with output := { s.output with playing := none } } := by
  have still (k : Nat) : (s.slot k).state ≠ .playing := fun e => by
    obtain rfl := Option.some.inj (playing.symm.trans (h.of_playing e))
    rw [state] at e; cases e
  refine ⟨?_, h.silent still { s.output with playing := none } rfl⟩
  unfold endOutputSlot
  simp only [playing, state, reduceCtorEq, if_false, if_true]

theorem endOutputSlot_supplied {i : Nat} {l : List Nat} (h : SoundWith l s) (playing : s.output.playing = some i)
    (state : (s.slot i).state = .writing) (supply : (s.slot i).supplyDone = true) : endOutputSlot s = { s with
      store := { s.store with slots := s.store.slots.set i Slot.freed }
      coder := { s.coder with current := s.coder.current.filter fun w => decide (w.slot ≠ i) }
      output := { s.output with playing := none } } := by
  obtain ⟨ended, silent⟩ := endOutputSlot_writing h playing state
  exact ended.trans ((monitorFinished_eq silent state rfl).trans (if_pos supply))

theorem endOutputSlot_supplying {i : Nat} {l : List Nat} (h : SoundWith l s) (playing : s.output.playing = some i)
    (state : (s.slot i).state = .writing) (supply : (s.slot i).supplyDone = false) : endOutputSlot s = { s with
      store := { s.store with slots := s.store.slots.set i { s.slot i with monitor := .finished } }
      output := { s.output with playing := none } } := by
  obtain ⟨ended, silent⟩ := endOutputSlot_writing h playing state
  exact ended.trans ((monitorFinished_eq silent state rfl).trans (if_neg (Bool.eq_false_iff.1 supply)))

theorem step_tick {item : OutputItem} {rest : List OutputItem} (pending : s.pending = []) (frame : s.output.frame = item :: rest) :
    step s = .next (if rest.isEmpty then endOutputSlot (leave item { s with output := { s.output with frame := rest } })
      else leave item { s with output := { s.output with frame := rest } }) := by
  unfold step outputTick
  rw [pending, frame]

/-! ### Reset (R40) -/

theorem reset_slot (i : Nat) : State.reset.slot i = Slot.freed := by
  show (List.replicate 16 Slot.freed).getD i Slot.freed = Slot.freed
  by_cases hi : i < 16
  · rw [List.getD_eq_getElem _ _ (by simpa using hi), List.getElem_replicate]
  · rw [List.getD_eq_default _ _ (by simpa using hi)]

/-! ### Transactions (R185, R192, R194) -/

theorem bytesOfWords_eq_flatMap (l : List Word) :
    bytesOfWords l = l.flatMap fun w => [BitVec.ofNat 8 (w.toNat / 256), BitVec.ofNat 8 w.toNat] := by
  induction l with
  | nil => rfl
  | cons w l ih =>
    have low : byteOf w.low = BitVec.ofNat 8 w.toNat := by
      apply BitVec.eq_of_toNat_eq
      simp only [byteOf, Word.low, BitVec.toNat_ofNat]
      omega
    rw [List.flatMap_cons, ← ih, bytesOfWords, low]
    rfl

theorem exec_send (bytes : List Byte) : exec (.send 0x01#8 bytes) s = .next (match sendBody bytes with
    | .badLength => answerWith [answerBadFrame] s
    | .cutOff => answerWith [] s
    | .whole body =>
      if s.system.requests.length < Config.requestPlaces then
        answerWith [answerQueued] { s with system := { s.system with requests := s.system.requests ++ [body] } }
      else answerWith [answerNotReady] s) := by
  show Host.Outcome.next (onTransaction .send (0x01#8 :: bytes) _ s) = _
  rw [onTransaction_of (by rfl)] <;> rfl

end
end Sys2Proof.Machine

namespace Sys2Proof.Proofs
open Sys2Proof.Machine

/-- Settles O1: the tick is the leaving of one item and, with the last one, the end of the slot being output. -/
theorem stepRunsFrontCommand : Obligations.StepRunsFrontCommand := by
  refine ⟨fun c rest s h => by unfold step; rw [h], fun s p f => by unfold step outputTick; rw [p, f], ?_⟩
  intro s item rest f o pending frame item'
  have left := leave_eq (s := { s with output := { s.output with frame := rest } }) item'
  have tick := step_tick pending frame
  rw [left] at tick
  refine ⟨fun still => ?_, fun i last playing store => ?_⟩
  · rw [tick]
    rcases still with more | silent
    · rw [if_neg (by simpa using more)]
    · have ended (u : State) (h : u.output.playing = none) : endOutputSlot u = u := by unfold endOutputSlot; rw [h]
      split
      · exact congrArg Host.Outcome.next (ended _ silent)
      · rfl
  · subst last
    obtain ⟨sound, -⟩ := storeSound_iff.1 store
    simp only [List.isEmpty_nil, if_true] at tick
    refine ⟨fun state => ?_, fun state supply => ?_, fun state supply => ?_⟩
    · exact tick.trans (congrArg Host.Outcome.next (endOutputSlot_playing (l := s.gatheringSlots) sound.of playing state))
    · exact tick.trans (congrArg Host.Outcome.next (endOutputSlot_supplying (l := s.gatheringSlots) sound.of playing state supply))
    · exact tick.trans (congrArg Host.Outcome.next (endOutputSlot_supplied (l := s.gatheringSlots) sound.of playing state supply))

/-- Settles O2. -/
theorem powerOnReset : Obligations.PowerOnReset := by
  intro s
  exact ⟨_, rfl, rfl, reset_slot, rfl, rfl, rfl, rfl⟩

/-- Settles O3, each invariant from its own reset values; the Frame Store has every slot FREE. -/
theorem resetIsSound : Obligations.ResetIsSound := by
  have gate : State.reset.gateAgrees := by unfold State.gateAgrees; decide
  have demand : State.reset.demandAgrees := by unfold State.demandAgrees; decide
  obtain ⟨record, parked⟩ := recorded_reset (n := 2) (s := State.reset) rfl rfl ⟨rfl, rfl⟩
  have settings : State.reset.settingsWithin := ⟨reset_banks_ranged.1, reset_banks_ranged.2, Nat.zero_le _⟩
  exact ⟨reset_reports_within, ⟨rfl, rfl⟩, ⟨Nat.zero_le _, .nil, fun e he => by cases he⟩, reset_queuesWithin, gate,
    ⟨rfl, rfl, fun h => by cases h⟩, ⟨Nat.zero_le _, Nat.zero_le _, fun h => absurd h (Nat.lt_irrefl 0)⟩, reset_gainsWithin, rfl,
    (fun h => by cases h), settings, storeSound_reset rfl rfl rfl rfl rfl, recordSound_iff.2 ⟨record, parked⟩, demand⟩

/-- Settles O5, a transaction kind at a time. -/
theorem systemPortTransactions : Obligations.SystemPortTransactions := by
  refine ⟨fun length rest s => ⟨fun bad => ?_, fun least most short => ?_⟩, fun body extra s least most => ?_, fun s => ?_,
    fun kind rest s => ?_⟩
  · rw [exec_send, sendBody]
    simp only [bad, if_true]
    rfl
  · have fits : ¬ (length.toNat = 0 ∨ 64 < length.toNat) := by omega
    rw [exec_send, sendBody]
    simp only [fits, short, if_true, if_false]
    rfl
  · have whole := sendBody_whole extra least most
    rw [bytesOfWords_eq_flatMap] at whole
    refine ⟨fun room => ?_, fun full => ?_⟩
    · rw [exec_send]
      erw [whole]
      simp only [Config.requestPlaces, room, if_true]
      rfl
    · rw [exec_send]
      erw [whole]
      simp only [Config.requestPlaces, Nat.not_lt.2 full, if_false]
      rfl
  · have fetch : exec .fetch s = .next (match s.system.replies with
        | [] => answerWith [answerEmpty] s
        | r :: rest =>
          answerWith (answerReply :: byteOf r.length :: bytesOfWords r) { s with system := { s.system with replies := rest } }) := rfl
    refine ⟨fun none => ?_, fun r more some => ?_, rfl, rfl, rfl, rfl⟩
    · rw [fetch, none]; rfl
    · rw [fetch, some]
      simp only [bytesOfWords_eq_flatMap]
      rfl
  · refine ⟨fun other => ?_, fun notSend notFetch => ?_, fun known => ?_⟩
    · show Host.Outcome.next (onTransaction .send (kind :: rest) _ s) = _
      rw [onTransaction_other]
      simp only [transactionKind, List.head?_cons, Option.map_some, kindSend, other, if_false]
      split <;> simp
    · show Host.Outcome.next (onTransaction .other (kind :: rest) _ s) = _
      rw [onTransaction_of (by simp [transactionKind, kindSend, kindFetch, notSend, notFetch])]
      rfl
    · show Host.Outcome.next (onTransaction .other (kind :: rest) _ s) = _
      rw [onTransaction_other]
      rcases known with rfl | rfl <;> simp [transactionKind, kindSend, kindFetch]

end Sys2Proof.Proofs
end

section
/-! Requests taken: what the end of a command adds to a judgement, the requests that wait, and the judgement for authority. Settles O6,
O7 and O13. -/

namespace Sys2Proof.Machine

section
variable {s t : State} {ticket : Ticket} {body : List Word} {status : Status} {data : List Word}

/-! ### The end of a command that takes a request -/

theorem answered_handoffs (h : List Handoff) : { answered ticket body status data s with
    sequencer := { (answered ticket body status data s).sequencer with handoffs := h } } =
    answered ticket body status data { s with sequencer := { s.sequencer with handoffs := h } } := by
  unfold answered placeReply
  split
  · dsimp only
    split <;> rfl
  · unfold placeUpstream
    dsimp only
    split <;> rfl

/-- With no list running and no selection pending the end of a command discards the hand-offs and adds nothing else. -/
theorem settle_idle (idle : s.sequencer.state = .idle) (selection : s.input.pendingSelect = none) :
    settle s = { s with sequencer := { s.sequencer with handoffs := [] } } := by
  have same : takeSelection s = s := by unfold takeSelection; rw [selection]
  unfold settle
  rw [same]
  exact takeHandoffs_idle idle

/-- A command that takes a request with no list running answers as its owner judges, and discards the hand-offs. -/
theorem exec_judged_idle {c : Instr} {port : Port} {kind : RequestKind} {judge : Ticket → List Word → State → Judgement}
    (hc : exec c s = .next (serve port kind judge s)) (hs : s.stands port kind ticket body)
    (hj : judge ticket body (popRequest port s) = (t, status, data)) (idle : t.sequencer.state = .idle)
    (selection : t.input.pendingSelect = none) :
    exec c s = .next (answered ticket body status data { t with sequencer := { t.sequencer with handoffs := [] } }) := by
  obtain ⟨head, kindOf⟩ := hs
  rw [hc]
  unfold serve
  rw [head]
  simp only [kindOf, if_true, hj]
  have answer : placeReply ticket (replyBody (argWord body 0) status data) t = answered ticket body status data t := rfl
  rw [answer, settle_idle (by simpa [answered] using idle) (by simpa [answered] using selection), answered_handoffs]

theorem State.quiet.handoffs_nil (h : s.quiet) : { s.sequencer with handoffs := [] } = s.sequencer := by
  obtain ⟨none, -⟩ := h
  rw [← none]

end

/-! ### Requests that wait (R171, R190, R191) -/

section
variable {s : State} {port : Port}

theorem headRequest_waits (h : s.replyRoom port = false ∨ s.link.chainReset.isSome = true) : s.headRequest port = none := by
  unfold State.headRequest
  exact if_pos h.symm

theorem serve_waits {kind : RequestKind} {judge : Ticket → List Word → State → Judgement} (h : s.headRequest port = none) :
    serve port kind judge s = s := by
  unfold serve
  rw [h]

theorem servePosition_waits (configured : port = .link → s.link.position.isSome = true) (h : s.headRequest port = none) :
    servePosition port s = s := by
  unfold servePosition
  split
  · next unconfigured _ =>
    have := configured rfl
    rw [unconfigured] at this
    cases this
  · rw [h]

/-- No request command of a port without a head request does anything. -/
theorem serveAny_waits (configured : port = .link → s.link.position.isSome = true) (h : s.headRequest port = none)
    (kind : RequestKind) : serveAny port kind s = s := by
  unfold serveAny
  cases kind
  case resetPart => dsimp only; unfold serveReset; rw [h]
  case setPosition => exact servePosition_waits configured h
  all_goals exact serve_waits h

end

/-! ### Motion requests (R117, R118) -/

section
variable {s : State} {ticket : Ticket} {body : List Word}

/-- Each motion request is judged by `motion`, with a rest of its own. -/
theorem motion_denied {port : Port} {status : Status} (rest : State → State × Status) (h : s.motionAllowed port = some status) :
    motion port s rest = (s, status, []) := by
  unfold motion
  rw [h]

theorem motionAllowed_authority {port : Port} (h : s.transport.control = .localOnly ∧ port = .link ∨
    s.transport.control = .remote ∧ port = .system) : s.motionAllowed port = some .authority := by
  rcases h with ⟨e, rfl⟩ | ⟨e, rfl⟩ <;> simp [State.motionAllowed, e]

theorem motionAllowed_listActive {port : Port} (h : s.transport.control = .both ∨ s.transport.control = .localOnly ∧ port = .system ∨
    s.transport.control = .remote ∧ port = .link) (running : s.sequencer.state ≠ .idle) :
    s.motionAllowed port = some .listActive := by
  rcases h with e | ⟨e, rfl⟩ | ⟨e, rfl⟩ <;> simp [State.motionAllowed, e, running]

@[simp] theorem motionAllowed_popRequest (port port' : Port) : (popRequest port s).motionAllowed port' = s.motionAllowed port' := by
  unfold State.motionAllowed
  rw [popRequest_transport, popRequest_sequencer]

/-- A motion request that is denied is answered so, and nothing else changes. -/
theorem exec_motion_denied {c : Instr} {port : Port} {kind : RequestKind} {judge : Ticket → List Word → State → Judgement}
    {status : Status} (hc : exec c s = .next (serve port kind judge s)) (hs : s.stands port kind ticket body)
    (judged : ∃ rest, judge ticket body (popRequest port s) = motion ticket.port (popRequest port s) rest) (quiet : s.quiet)
    (denied : s.motionAllowed port = some status) :
    exec c s = .next (answered ticket body status [] (popRequest port s)) := by
  obtain ⟨rest, judged⟩ := judged
  refine exec_judged hc hs (judged.trans (motion_denied rest ?_)) ((popRequest_quiet port s).2 quiet)
  rw [headRequest_port hs.1, motionAllowed_popRequest]
  exact denied

/-- A motion request that is allowed is judged by its owner. -/
theorem motion_allowed_popRequest {port : Port} {kind : RequestKind} (hs : s.stands port kind ticket body) (ha : s.allows port)
    (rest : State → State × Status) : motion ticket.port (popRequest port s) rest = plain (rest (popRequest port s)) := by
  rw [headRequest_port hs.1]
  exact motion_allowed ((popRequest_allows port port s).2 ha)

theorem State.allows.idle {port : Port} (h : s.allows port) : s.sequencer.state = .idle := h.2

/-- `s` with a locate in progress ended in its record. -/
def State.locateEnded (outcome : LocateOutcome) (s : State) : State := { s with transport := { s.transport with
  locate := if s.transport.state = .locate then s.transport.locate.ended outcome else s.transport.locate } }

/-- A locate in progress ends in its record, with a hand-off where the list began it. -/
theorem endLocate_eq (outcome : LocateOutcome) (s : State) : ∃ h, endLocate outcome s =
    { s.locateEnded outcome with sequencer := { s.sequencer with handoffs := h } } := by
  unfold State.locateEnded
  by_cases state : s.transport.state = .locate
  · have locating : s.locating = true := by simp [State.locating, state]
    unfold endLocate
    rw [if_pos locating]
    cases s.transport.locate.origin == .list
    · exact ⟨s.sequencer.handoffs, by rw [if_pos state]; rfl⟩
    · exact ⟨_, by rw [if_pos state]; rfl⟩
  · exact ⟨s.sequencer.handoffs, by rw [endLocate_none state, if_neg state]⟩

/-- What a command with no list running leaves of the end of a locate and a change of state off play speed. -/
theorem enterState_endLocate {new : TransportState} (outcome : LocateOutcome) (demand : Demand)
    (none : { s.sequencer with handoffs := [] } = s.sequencer) (steady : s.transport.state.rolling = new.rolling) :
    { enterState new demand (endLocate outcome s) with
      sequencer := { (enterState new demand (endLocate outcome s)).sequencer with handoffs := [] } } =
    entered new demand (s.locateEnded outcome) := by
  obtain ⟨h, ended⟩ := endLocate_eq outcome s
  rw [ended, enterState_steady (s := { s.locateEnded outcome with sequencer := { s.sequencer with handoffs := h } }) steady]
  show { entered new demand (s.locateEnded outcome) with sequencer := { s.sequencer with handoffs := [] } } = _
  rw [none]
  rfl

theorem enterState_endLocate_keeps {new : TransportState} (outcome : LocateOutcome) (demand : Demand)
    (steady : s.transport.state.rolling = new.rolling) :
    (enterState new demand (endLocate outcome s)).sequencer.state = s.sequencer.state ∧
    (enterState new demand (endLocate outcome s)).input = s.input := by
  obtain ⟨h, ended⟩ := endLocate_eq outcome s
  rw [ended, enterState_steady (s := { s.locateEnded outcome with sequencer := { s.sequencer with handoffs := h } }) steady]
  exact ⟨rfl, rfl⟩

/-- A motion request that ends a locate and changes the state off play speed. -/
theorem exec_motion_entered {c : Instr} {port : Port} {kind : RequestKind} {judge : Ticket → List Word → State → Judgement}
    {new : TransportState} {demand : Demand} {status : Status} {outcome : LocateOutcome}
    (hc : exec c s = .next (serve port kind judge s)) (hs : s.stands port kind ticket body)
    (hj : judge ticket body (popRequest port s) = (enterState new demand (endLocate outcome (popRequest port s)), status, []))
    (quiet : s.quiet) (idle : s.sequencer.state = .idle) (steady : s.transport.state.rolling = new.rolling) :
    exec c s = .next (answered ticket body status [] (entered new demand ((popRequest port s).locateEnded outcome))) := by
  have steadyOf : (popRequest port s).transport.state.rolling = new.rolling := by rw [popRequest_transport]; exact steady
  obtain ⟨state, input⟩ := enterState_endLocate_keeps outcome demand steadyOf
  rw [exec_judged_idle hc hs hj (by rw [state, popRequest_sequencer]; exact idle) (by rw [input, popRequest_input]; exact quiet.2),
    enterState_endLocate outcome demand (by rw [popRequest_sequencer]; exact quiet.handoffs_nil) steadyOf]

/-- PLAY begins a spin-up from STOP, CUED, WIND and LOCATE. -/
theorem playMotion_begins (h : s.transport.state = .stop ∨ s.transport.state = .cued ∨ s.transport.state = .wind ∨
    s.transport.state = .locate) :
    playMotion s = (enterState .starting (.playSpeed .normal) (endLocate .superseded s), .accepted) := by
  unfold playMotion
  rcases h with e | e | e | e <;> rw [e]

end
end Sys2Proof.Machine

namespace Sys2Proof.Proofs
open Sys2Proof.Machine

/-- Settles O6: while a port cannot place a reply or a chain reset waits, there is no head request to take. -/
theorem unknownAndWaitingRequests : Obligations.UnknownAndWaitingRequests := by
  refine ⟨fun port ticket body s head unknown => ?_, fun port s configured waits c hc => ?_⟩
  · show Host.Outcome.next (serveUnknown port s) = _
    unfold serveUnknown
    rw [head]
    simp only [unknown, if_true]
    rfl
  · have none := headRequest_waits waits
    have unknown : serveUnknown port s = s := by unfold serveUnknown; rw [none]
    have any (kind : RequestKind) : (Host.Outcome.next (serveAny port kind s) : Host.Outcome State Fault Refusal) = Host.Outcome.next s :=
      congrArg Host.Outcome.next (serveAny_waits configured none kind)
    revert c
    simp only [List.forall_mem_cons]
    exact ⟨congrArg Host.Outcome.next unknown, any .play, any .wind, any .cueHold, any .locate, any .record, any .schedulePunch,
      any .punchOut, any .stop, any .setControl, any .selectSource, any .cueAdd, any .cueRemove, any .cueClear, any .cueRead,
      any .mark, any .listRun, any .listHalt, any .listWrite, any .listRead, any .setSetting, any .readSetting, any .switchBank,
      any .copyBank, any .readReport, any .setMask, any .logRead, any .readIdent, any .resetPart, any .setPosition,
      fun c hc => by cases hc⟩

/-- Settles O13: both denials stand before the request's own judgement. -/
theorem controlSourceAndAuthority : Obligations.ControlSourceAndAuthority := by
  refine ⟨fun port ticket body s quiet stands => ?_, fun port kind c ticket body s listed quiet stands => ?_⟩
  · have quiet := (popRequest_quiet port s).2 quiet
    have asked := headRequest_port stands.1
    refine ⟨?_, ?_, ?_, ?_⟩
    · rintro rfl
      refine exec_judged rfl stands ?_ quiet
      unfold judgeSetControl
      rw [asked]
    · rintro rfl bad
      refine exec_judged rfl stands ?_ quiet
      have none : ControlSource.ofCode (argWord body 1).toNat = none := by
        unfold ControlSource.ofCode
        split <;> first | rfl | omega
      unfold judgeSetControl
      rw [asked, none]
    · rintro c rfl code same
      refine exec_judged rfl stands ?_ quiet
      have found : ControlSource.ofCode (argWord body 1).toNat = some c := by rw [code]; cases c <;> rfl
      unfold judgeSetControl
      simp only [asked, found, popRequest_transport, same, if_true]
    · rintro c rfl code other
      have found : ControlSource.ofCode (argWord body 1).toNat = some c := by rw [code]; cases c <;> rfl
      refine exec_judged rfl stands ?_ (by simpa [State.quiet] using quiet)
      unfold judgeSetControl
      simp only [asked, found, popRequest_transport, other, if_false]
      rfl
  · have judged (status : Status) (denied : s.motionAllowed port = some status) :
        exec c s = .next (answered ticket body status [] (popRequest port s)) := by
      simp only [List.mem_cons, Prod.mk.injEq, List.not_mem_nil, or_false] at listed
      rcases listed with ⟨rfl, rfl⟩ | ⟨rfl, rfl⟩ | ⟨rfl, rfl⟩ | ⟨rfl, rfl⟩ | ⟨rfl, rfl⟩ | ⟨rfl, rfl⟩ | ⟨rfl, rfl⟩
      all_goals exact exec_motion_denied rfl stands ⟨_, rfl⟩ quiet denied
    exact ⟨fun h => judged _ (motionAllowed_authority h), fun h running => judged _ (motionAllowed_listActive h running)⟩

/-- Settles O7. -/
theorem playRequest : Obligations.PlayRequest := by
  intro port ticket body s quiet stands allows
  have judged : judgePlay ticket body (popRequest port s) = plain (playMotion (popRequest port s)) :=
    motion_allowed_popRequest stands allows _
  refine ⟨fun state => ?_, fun state => ?_, fun state => ?_⟩
  · have begins := playMotion_begins (s := popRequest port s) (by rw [popRequest_transport]; exact state)
    have off : s.transport.state.rolling = false := by rcases state with e | e | e | e <;> rw [e] <;> rfl
    have runs : startRunCleared s.transport.state .starting = false := by cases s.transport.state <;> rfl
    rw [exec_motion_entered rfl stands (judged.trans (congrArg plain begins)) quiet allows.idle off]
    refine congrArg (fun u => Host.Outcome.next (answered ticket body .accepted [] u)) ?_
    simp [entered, State.locateEnded, runs, TransportState.rolling, TransportState.readMode]
    rfl
  · refine exec_judged rfl stands (judged.trans ?_) ((popRequest_quiet port s).2 quiet)
    unfold playMotion
    rw [popRequest_transport]
    rcases state with e | e <;> rw [e] <;> rfl
  · refine exec_judged rfl stands (judged.trans ?_) ((popRequest_quiet port s).2 quiet)
    unfold playMotion
    rw [popRequest_transport]
    rcases state with e | e | e <;> rw [e] <;> rfl

end Sys2Proof.Proofs
end

section
/-! MARK (R133, R134). Settles O20. -/

namespace Sys2Proof.Machine

section
variable {t : Nat} {label : List Nat} {origin : Origin} {s : State} {before after : List CueEntry}

/-- The origin a MARK gives its entry: LIST for the edit list, else REQUEST. -/
def markOrigin (origin : Origin) : CueOrigin := if origin = .list then .list else .request

/-- The number of a program start at `t` when the entries `before` stand before it. -/
def numberAfter (before : List CueEntry) : Nat := min 99 (before.foldl (fun n x => max n x.kind.number) 0 + 1)

theorem find_between (hb : ∀ x ∈ before, x.time < t) (ha : ∀ x ∈ after, t < x.time) :
    (before ++ after).find? (fun e => e.time == t) = none :=
  List.find?_eq_none.2 fun x hx => by simpa using time_ne_of_between hb ha x hx

theorem find_at {x : CueEntry} (hb : ∀ x ∈ before, x.time < t) (hx : x.time = t) :
    (before ++ x :: after).find? (fun e => e.time == t) = some x := by
  have none : before.find? (fun e => e.time == t) = none := List.find?_eq_none.2 fun y hy => by simpa using (hb y hy).ne
  rw [List.find?_append, none, Option.none_or, List.find?_cons_of_pos (by simpa using hx)]

theorem markNumber_append {rest : List CueEntry} (hb : ∀ x ∈ before, x.time < t) (hr : ∀ x ∈ rest, t ≤ x.time) :
    markNumber t (before ++ rest) = numberAfter before := by
  have first : before.filter (fun e => e.time < t) = before := List.filter_eq_self.2 fun x hx => by simpa using hb x hx
  have last : rest.filter (fun e => e.time < t) = [] := List.filter_eq_nil_iff.2 fun x hx => by simpa using hr x hx
  unfold markNumber numberAfter
  rw [List.filter_append, first, last, List.append_nil]

theorem markAt_duplicate (h : ∃ x ∈ s.cues.entries, x.time = t ∧ x.kind.isStart = true) (ordered : s.cues.ordered) :
    markAt t label origin s = (s, .duplicate, 0, 0) := by
  obtain ⟨x, hx, time, start⟩ := h
  obtain ⟨-, rising, -⟩ := ordered
  obtain ⟨before, after, split⟩ := List.append_of_mem hx
  have hb : ∀ y ∈ before, y.time < t := fun y hy => by
    rw [split, List.pairwise_append] at rising
    rw [← time]
    exact rising.2.2 y hy x List.mem_cons_self
  unfold markAt
  simp only [split, find_at hb time, start, if_true]

theorem markAt_full (h : ∀ x ∈ s.cues.entries, x.time ≠ t) (full : s.cues.entries.length = 99) :
    markAt t label origin s = (s, .full, 0, 0) := by
  have none : s.cues.entries.find? (fun e => e.time == t) = none := List.find?_eq_none.2 fun x hx => by simpa using h x hx
  unfold markAt
  simp only [none, full, Config.cueLimit, le_refl, if_true]

/-- A MARK in a gap of the table adds a program start. -/
theorem markAt_added (split : s.cues.entries = before ++ after) (hb : ∀ x ∈ before, x.time < t) (ha : ∀ x ∈ after, t < x.time)
    (room : s.cues.entries.length < 99) : markAt t label origin s =
      (logEntry .mark (some t) origin (numberAfter before) { s with cues :=
        ⟨before ++ ⟨t, .programStart (numberAfter before), markOrigin origin, label⟩ :: after, s.markSet t (numberAfter before)⟩ },
        .done, numberAfter before, before.length) := by
  have none := find_between hb ha
  have number := markNumber_append (rest := after) hb fun x hx => (ha x hx).le
  have placed (e : CueEntry) (time : e.time = t) : insertCue e (before ++ after) = before ++ e :: after :=
    insertCue_append (by rw [time]; exact hb) (by rw [time]; exact ha)
  have index (e : CueEntry) (time : e.time = t) : cueIndex t (before ++ e :: after) = some before.length := by
    rw [← time]; exact cueIndex_append_cons after (by rw [time]; exact hb)
  unfold markAt
  rw [split] at room
  simp only [split, none, number, room.not_ge, Config.cueLimit, if_false]
  rw [placed _ rfl, index _ rfl]
  rfl

/-- A MARK at a cue point makes it a program start. -/
theorem markAt_converted {x : CueEntry} (split : s.cues.entries = before ++ x :: after) (hb : ∀ x ∈ before, x.time < t)
    (ha : ∀ x ∈ after, t < x.time) (time : x.time = t) (point : x.kind = .cuePoint) : markAt t label origin s =
      (logEntry .mark (some t) origin (numberAfter before) { s with cues :=
        ⟨before ++ { x with kind := .programStart (numberAfter before), origin := markOrigin origin
                            label := if label = [] then x.label else label } :: after, s.markSet t (numberAfter before)⟩ },
        .done, numberAfter before, before.length) := by
  have found := find_at (after := after) hb time
  have number := markNumber_append (rest := x :: after) hb fun y hy => by
    rcases List.mem_cons.1 hy with rfl | later
    · exact time.ge
    · exact (ha y later).le
  have kept {l : List CueEntry} (f : CueEntry → CueEntry) (h : ∀ y ∈ l, y.time ≠ t) :
      l.map (fun y => if y.time = t then f y else y) = l := (List.map_congr_left fun y hy => if_neg (h y hy)).trans (List.map_id l)
  have rewritten (f : CueEntry → CueEntry) : (before ++ x :: after).map (fun y => if y.time = t then f y else y) =
      before ++ f x :: after := by
    rw [List.map_append, List.map_cons, if_pos time, kept f fun y hy => (hb y hy).ne, kept f fun y hy => (ha y hy).ne']
  have index (e : CueEntry) (time : e.time = t) : cueIndex t (before ++ e :: after) = some before.length := by
    rw [← time]; exact cueIndex_append_cons after (by rw [time]; exact hb)
  unfold markAt
  simp only [split, found, number, rewritten, point, CueKind.isStart, Bool.false_eq_true, if_false]
  rw [index]
  · simp only [List.isEmpty_iff, Option.getD_some]
    rfl
  · exact time

end

theorem answered_refused {ticket : Ticket} {body : List Word} {status : Status} {data : List Word} (s : State)
    (refused : status ≠ .done) : answered ticket body status data s = answered ticket body status [] s := by
  unfold answered replyBody
  rw [if_neg refused, if_neg refused]

section
variable {s : State} {ticket : Ticket} {body : List Word}

theorem argLabel_length (body : List Word) (i : Nat) : (argLabel body i).1 = (argWord body i).toNat := rfl

theorem judgeMark_overlong (h : 8 < (argWord body 4).toNat) : judgeMark ticket body s = (s, .badRequest, []) := by
  unfold judgeMark
  exact if_pos h

theorem markOrigin_port (port : Port) : markOrigin port.origin = .request := by
  cases port <;> rfl

theorem markSet_popRequest (port : Port) (t m : Nat) : (popRequest port s).markSet t m =
    if (s.transport.state = .starting ∨ s.transport.state = .play ∨ s.transport.state = .record) ∧ s.decoder.time < t then
      .waiting t m else (popRequest port s).cues.mark := by
  unfold State.markSet
  rw [popRequest_transport, popRequest_decoder]

/-- The time that a MARK request names: its argument, or NOW. -/
def State.marked (s : State) (body : List Word) : Nat := if argLong body 1 = markNow then s.nowTime else argLong body 1

theorem judgeMark_badValue (length : (argWord body 4).toNat ≤ 8)
    (h : 359999 < s.marked body ∨ labelOk (argLabel body 4).2 = false) : judgeMark ticket body s = (s, .badValue, []) := by
  unfold judgeMark
  exact (if_neg length.not_gt).trans (if_pos h)

theorem judgeMark_marks (length : (argWord body 4).toNat ≤ 8) (time : s.marked body ≤ 359999)
    (label : labelOk (argLabel body 4).2 = true) : judgeMark ticket body s =
      ((markAt (s.marked body) (argLabel body 4).2 ticket.port.origin s).1,
        (markAt (s.marked body) (argLabel body 4).2 ticket.port.origin s).2.1,
        [wordOfBytes (markAt (s.marked body) (argLabel body 4).2 ticket.port.origin s).2.2.1
          (markAt (s.marked body) (argLabel body 4).2 ticket.port.origin s).2.2.2]) := by
  unfold judgeMark
  exact (if_neg length.not_gt).trans (if_neg fun h => h.elim (not_lt_of_ge time) fun bad => Bool.noConfusion (label.symm.trans bad))

/-- NOW stands for the next frame in STARTING, PLAY and RECORD (R133). -/
theorem marked_popRequest {port : Port} {time : Nat}
    (h : argLong body 1 ≠ 0xFFFFFFFE ∧ time = argLong body 1 ∨ argLong body 1 = 0xFFFFFFFE ∧
      ((s.transport.state = .starting ∨ s.transport.state = .play ∨ s.transport.state = .record) ∧ time = s.decoder.time + 1 ∨
        ¬ (s.transport.state = .starting ∨ s.transport.state = .play ∨ s.transport.state = .record) ∧ time = s.decoder.time)) :
    (popRequest port s).marked body = time := by
  unfold State.marked markNow State.nowTime
  rw [popRequest_transport, popRequest_decoder]
  rcases h with ⟨given, rfl⟩ | ⟨given, ⟨running, rfl⟩ | ⟨still, rfl⟩⟩
  · exact if_neg given
  · rw [if_pos given, if_pos running]
  · rw [if_pos given, if_neg still]

end
end Sys2Proof.Machine

namespace Sys2Proof.Proofs

open Sys2Proof.Machine

/-- Settles O20: the tests of R133 in order, then the addition and the conversion of `markAt`. -/
theorem markRequest : Obligations.MarkRequest := by
  intro port ticket body s hq hs ordered running length label refused
  have quiet : (popRequest port s).quiet := (popRequest_quiet port s).2 hq
  have judged {t : State} {status : Status} {data : List Word} (h : judgeMark ticket body (popRequest port s) = (t, status, data))
      (q : t.quiet) : exec (.mark port) s = .next (answered ticket body status data t) := exec_judged rfl hs h q
  refine ⟨fun h => judged (judgeMark_overlong h) quiet, fun time named short => ?_⟩
  have named : (popRequest port s).marked body = time := marked_popRequest named
  refine ⟨fun h => judged (judgeMark_badValue short (by rw [named]; exact h)) quiet, fun most spelt => ?_⟩
  have marks := judgeMark_marks (ticket := ticket) short (named.trans_le most) spelt
  rw [named, headRequest_port hs.1] at marks
  rw [← popRequest_cues port s] at ordered ⊢
  refine ⟨fun taken => ?_, fun free full => ?_, fun before after entries hb ha => ?_⟩
  · rw [markAt_duplicate taken ordered] at marks
    exact (judged marks quiet).trans (congrArg _ (answered_refused _ (fun h => by cases h)))
  · rw [markAt_full free full] at marks
    exact (judged marks quiet).trans (congrArg _ (answered_refused _ (fun h => by cases h)))
  · intro m
    rintro (⟨split, room, rfl⟩ | ⟨x, split, named_at, point, rfl⟩)
    · rw [markAt_added split hb ha room, markOrigin_port, markSet_popRequest] at marks
      exact judged marks (by simpa [State.quiet] using quiet)
    · rw [markAt_converted split hb ha named_at point, markOrigin_port, markSet_popRequest] at marks
      exact judged marks (by simpa [State.quiet] using quiet)

end Sys2Proof.Proofs
end

section
/-! Settings, banks, reports and the log (R173 to R184). Settles O26, O27 and O28. -/

namespace Sys2Proof.Machine

section
variable {s : State} {ticket : Ticket} {body : List Word}

/-! ### SET-SETTING (R173, R174) -/

theorem judgeSetSetting_unnamed (h : Setting.ofCode (argWord body 1).toNat = none) :
    judgeSetSetting ticket body s = (s, .badValue, []) := by
  unfold judgeSetSetting
  simp only [h]

theorem judgeSetSetting_unwritten {name : Setting} (h : Setting.ofCode (argWord body 1).toNat = some name)
    (value : s.banks.stagedBank.write name (argWord body 2).toNat = none) :
    judgeSetSetting ticket body s = (s, .badValue, []) := by
  unfold judgeSetSetting
  simp only [h, value]

/-- The setting is one that a take in hand holds fast: rate or tape word length, differing from the active bank's. -/
def State.holdsFast (s : State) (name : Setting) (bank : Bank) : Prop :=
  (name = .rate ∨ name = .tapeWordLength) ∧ bank.value name ≠ s.activeBank.value name

theorem judgeSetSetting_locked {name : Setting} {bank : Bank} (h : Setting.ofCode (argWord body 1).toNat = some name)
    (value : s.banks.stagedBank.write name (argWord body 2).toNat = some bank) (fast : s.holdsFast name bank)
    (held : s.banks.pendingSwitch.isSome = true ∧ s.takeInHand = true) :
    judgeSetSetting ticket body s = (s, .locked, []) := by
  unfold judgeSetSetting
  simp only [h, value]
  exact if_pos ⟨fast, held⟩

theorem judgeSetSetting_stored {name : Setting} {bank : Bank} (h : Setting.ofCode (argWord body 1).toNat = some name)
    (value : s.banks.stagedBank.write name (argWord body 2).toNat = some bank)
    (free : ¬ (s.holdsFast name bank ∧ s.banks.pendingSwitch.isSome = true ∧ s.takeInHand = true)) :
    judgeSetSetting ticket body s =
      ({ s with banks := s.banks.setStaged bank }, .done, [BitVec.ofNat 16 (bank.value name)]) := by
  unfold judgeSetSetting
  simp only [h, value]
  exact if_neg free

theorem Rate.ofHertz_hertz (r : Rate) : Rate.ofHertz r.hertz = some r := by
  cases r <;> rfl

theorem WordLength.ofBits_bits (w : WordLength) : WordLength.ofBits w.bits = some w := by
  cases w <;> rfl

theorem Rate.ofHertz_eq_none {n : Nat} (h : n ∉ [32000, 44100, 48000]) : Rate.ofHertz n = none := by
  simp only [List.mem_cons, List.not_mem_nil, or_false, not_or] at h
  obtain ⟨h32, h44, h48⟩ := h
  simp [Rate.ofHertz, h32, h44, h48]

theorem WordLength.ofBits_eq_none {n : Nat} (h : n ∉ [16, 24]) : WordLength.ofBits n = none := by
  simp only [List.mem_cons, List.not_mem_nil, or_false, not_or] at h
  simp [WordLength.ofBits, h]

theorem holdsFast_rate {bank : Bank} {r : Rate} (h : bank.rate = r) : s.holdsFast .rate bank ↔ r ≠ s.activeBank.rate := by
  simp [State.holdsFast, Bank.value, h, hertz_injective.eq_iff]

theorem holdsFast_tapeWordLength {bank : Bank} {w : WordLength} (h : bank.tapeWordLength = w) :
    s.holdsFast .tapeWordLength bank ↔ w ≠ s.activeBank.tapeWordLength := by
  simp [State.holdsFast, Bank.value, h, bits_injective.eq_iff]

theorem not_holdsFast {name : Setting} {bank : Bank} (rate : name ≠ .rate) (length : name ≠ .tapeWordLength) :
    ¬ s.holdsFast name bank := fun h => h.1.elim rate length

@[simp] theorem takeInHand_popRequest (port : Port) : (popRequest port s).takeInHand = s.takeInHand := by
  unfold State.takeInHand
  rw [popRequest_mixer]

@[simp] theorem holdsFast_popRequest {name : Setting} {bank : Bank} (port : Port) :
    (popRequest port s).holdsFast name bank ↔ s.holdsFast name bank := by
  unfold State.holdsFast State.activeBank
  rw [popRequest_banks]

end

/-! ### Banks (R175, R176) -/

section
variable {s : State} {ticket : Ticket} {body : List Word}

theorem setStaged_copy (b : Banks) : b.setStaged b.activeBank = match b.active with
    | .a => { b with bankB := b.bankA }
    | .b => { b with bankA := b.bankB } := by
  obtain ⟨_, _, _ | _, _⟩ := b <;> rfl

/-- The bank that the high byte of READ-SETTING's argument names. -/
def State.bankNamed (s : State) (code : Nat) : Option BankName := match code with
  | 0 => some .a
  | 1 => some .b
  | 2 => some s.banks.active
  | 3 => some s.banks.active.other
  | _ => none

theorem judgeReadSetting_eq : judgeReadSetting ticket body s =
    match s.bankNamed (argWord body 1).high, (if (argWord body 1).low = 11 then some Setting.inOrder
      else (Setting.ofCode (argWord body 1).low).map fun n => [n]) with
    | some name, some names => (s, .done, wordOf name.code :: names.map fun n => wordOf ((s.banks.bank name).value n))
    | _, _ => (s, .badValue, []) := rfl

theorem judgeReadSetting_done {name : BankName} {names : List Setting} (bank : s.bankNamed (argWord body 1).high = some name)
    (which : (if (argWord body 1).low = 11 then some Setting.inOrder else (Setting.ofCode (argWord body 1).low).map fun n => [n]) =
      some names) : judgeReadSetting ticket body s =
      (s, .done, BitVec.ofNat 16 name.code :: names.map fun n => BitVec.ofNat 16 ((s.banks.bank name).value n)) := by
  rw [judgeReadSetting_eq, bank, which] <;> rfl

theorem judgeReadSetting_badValue (h : s.bankNamed (argWord body 1).high = none ∨ 11 < (argWord body 1).low) :
    judgeReadSetting ticket body s = (s, .badValue, []) := by
  rw [judgeReadSetting_eq]
  rcases h with none | past
  · rw [none]
  · have unnamed : Setting.ofCode (argWord body 1).low = none := List.getElem?_eq_none past.le
    rw [if_neg past.ne', unnamed]
    cases s.bankNamed (argWord body 1).high <;> rfl

theorem bankNamed_popRequest {port : Port} {code : Nat} {name : BankName}
    (h : code = 0 ∧ name = .a ∨ code = 1 ∧ name = .b ∨ code = 2 ∧ name = s.banks.active ∨ code = 3 ∧ name = s.banks.active.other) :
    (popRequest port s).bankNamed code = some name := by
  rcases h with ⟨rfl, rfl⟩ | ⟨rfl, rfl⟩ | ⟨rfl, rfl⟩ | ⟨rfl, rfl⟩ <;> simp [State.bankNamed]

theorem bankNamed_past {code : Nat} (h : 3 < code) : s.bankNamed code = none := by
  unfold State.bankNamed
  split <;> first | omega | rfl

end

/-! ### Reports, masks and the log (R179 to R184) -/

@[simp] theorem Reports.setPort_port (r : Reports) (port : Port) (v : PortReport) : (r.setPort port v).port port = v := by
  cases port <;> rfl

@[simp] theorem Reports.setPort_log (r : Reports) (port : Port) (v : PortReport) : (r.setPort port v).log = r.log := by
  cases port <;> rfl

@[simp] theorem Reports.setPort_nextSequence (r : Reports) (port : Port) (v : PortReport) :
    (r.setPort port v).nextSequence = r.nextSequence := by
  cases port <;> rfl

theorem Reports.setPort_other (r : Reports) {port other : Port} (v : PortReport) (h : other ≠ port) :
    (r.setPort port v).port other = r.port other := by
  cases port <;> cases other
  · exact absurd rfl h
  · rfl
  · rfl
  · exact absurd rfl h

section
variable {s : State} {ticket : Ticket} {body : List Word}

@[simp] theorem reportWords_popRequest (port other : Port) : (popRequest port s).reportWords other = s.reportWords other := by
  unfold State.reportWords
  simp only [popRequest_transport, popRequest_reports, popRequest_sequencer, popRequest_decoder, popRequest_mixer,
    popRequest_copy, popRequest_input, popRequest_banks]

theorem Reports.readLog_found {r : Reports} {before after : List LogEntry} {n : Nat} (split : r.log = before ++ after)
    (absent : ∀ e ∈ before, e.sequence ≠ n) (head : after.head?.map (·.sequence) = some n) :
    r.readLog n = (after.take 8, false) := by
  cases after with
  | nil => cases head
  | cons e rest =>
    have named : e.sequence = n := Option.some.inj head
    have found : r.log.findIdx? (fun x => x.sequence == n) = some before.length := by
      rw [split, List.findIdx?_append, List.findIdx?_eq_none_iff.2 fun x hx => by simpa using absent x hx,
        List.findIdx?_cons]
      simp [named]
    unfold Reports.readLog
    rw [found, split]
    simp only [List.drop_left]

theorem Reports.readLog_absent {r : Reports} {n : Nat} (absent : ∀ e ∈ r.log, e.sequence ≠ n) :
    r.readLog n = if n = r.nextSequence then ([], false) else (r.log.take 8, true) := by
  unfold Reports.readLog
  rw [List.findIdx?_eq_none_iff.2 fun x hx => by simpa using absent x hx]

theorem judgeLogRead_eq {shown : List LogEntry} {gap : Bool} (h : s.reports.readLog (argWord body 1).toNat = (shown, gap)) :
    judgeLogRead ticket body s = (s, .done, [BitVec.ofNat 16 s.reports.nextSequence, BitVec.ofNat 16 gap.toNat,
      BitVec.ofNat 16 shown.length] ++ shown.flatMap logWords) := by
  unfold judgeLogRead
  rw [h]
  rfl

/-- REPLY-READY that the mask does not hide stands among the flags once raised. -/
theorem raise_replyReady {r : PortReport} (shown : r.mask.getLsbD 10 = false) : (r.raise .replyReady).flags.getLsbD 10 = true := by
  have bit : (Flag.bit .replyReady).getLsbD 10 = true := by decide
  unfold PortReport.raise
  rw [BitVec.getLsbD_or, BitVec.getLsbD_and, BitVec.getLsbD_not, shown, bit]
  exact Bool.or_true _

theorem raise_hidden {r : PortReport} (hidden : r.mask.getLsbD 10 = true) : r.raise .replyReady = r := by
  have bit : Flag.bit .replyReady = BitVec.twoPow 11 10 := by decide
  have masked : Flag.bit .replyReady &&& ~~~ r.mask = 0#11 := by
    refine BitVec.eq_of_getLsbD_eq fun i hi => ?_
    rw [bit, BitVec.getLsbD_and, BitVec.getLsbD_twoPow, BitVec.getLsbD_not, BitVec.getLsbD_zero]
    by_cases ready : i = 10
    · rw [ready, hidden]
      rfl
    · simp [Ne.symm ready]
  unfold PortReport.raise
  rw [masked, BitVec.or_zero]

theorem placeReply_system (tag : Byte) (body : List Word) (s : State) : placeReply ⟨.system, tag⟩ body s =
    if argWord body 0 = 24#16 then { s with system := { s.system with replies := s.system.replies ++ [body] } }
    else raiseReplyReady { s with system := { s.system with replies := s.system.replies ++ [body] } } := rfl

theorem replyBody_kind (kind : Word) (status : Status) (data : List Word) : argWord (replyBody kind status data) 0 = kind := rfl

end
end Sys2Proof.Machine

namespace Sys2Proof.Proofs

open Sys2Proof.Machine

/-- Settles O26: what the bank's write of each setting gives is stored, clamped, or refused. -/
theorem setSettingRequest : Obligations.SetSettingRequest := by
  intro port ticket body s hq hs name v staged stored refused free held
  have quiet : (popRequest port s).quiet := (popRequest_quiet port s).2 hq
  have named (n : Nat) (setting : Setting) (h : name = n) (code : Setting.ofCode n = some setting) :
      Setting.ofCode (argWord body 1).toNat = some setting := by rw [← code, ← h]
  have rejects (n : Nat) (setting : Setting) (code : Setting.ofCode n = some setting) (h : name = n)
      (value : staged.write setting v = none) : refused .badValue :=
    exec_judged rfl hs (judgeSetSetting_unwritten (named n setting h code) (by rw [popRequest_banks]; exact value)) quiet
  have stores (n : Nat) (setting : Setting) (bank : Bank) (code : Setting.ofCode n = some setting) (h : name = n)
      (value : staged.write setting v = some bank) (open_ : free ∨ ¬ s.holdsFast setting bank) :
      stored bank (bank.value setting) := by
    have judged := judgeSetSetting_stored (s := popRequest port s) (ticket := ticket) (named n setting h code)
      (by rw [popRequest_banks]; exact value) (by
        rw [holdsFast_popRequest, popRequest_banks, takeInHand_popRequest]
        rintro ⟨fast, pending, taken⟩
        rcases open_ with (none | idle) | slow
        · rw [none] at pending; cases pending
        · rw [idle] at taken; cases taken
        · exact slow fast)
    rw [popRequest_banks] at judged
    exact exec_judged rfl hs judged quiet
  have locks (n : Nat) (setting : Setting) (bank : Bank) (code : Setting.ofCode n = some setting) (h : name = n)
      (value : staged.write setting v = some bank) (fast : s.holdsFast setting bank) (held : held) : refused .locked :=
    exec_judged rfl hs (judgeSetSetting_locked (named n setting h code) (by rw [popRequest_banks]; exact value)
      ((holdsFast_popRequest port).2 fast) (by rw [popRequest_banks, takeInHand_popRequest]; exact held)) quiet
  have kept {setting : Setting} {bank : Bank} (rate : setting ≠ .rate) (length : setting ≠ .tapeWordLength) :
      free ∨ ¬ s.holdsFast setting bank := .inr (not_holdsFast rate length)
  refine ⟨fun h => ?_, fun r h value => ⟨fun held differs => ?_, fun open_ => ?_⟩, fun h value => ?_,
    fun w h value => ⟨fun held differs => ?_, fun open_ => ?_⟩, fun h value => ?_, fun h value => ?_, fun h value => ?_,
    fun h => ?_, fun h => ⟨fun value => ?_, fun value => ?_, fun value => ?_, fun value => ?_⟩, fun h => ?_, fun h => ?_,
    fun h => ⟨fun value => ?_, fun value => ?_, fun value => ?_⟩, fun h => ?_, fun h => ?_, fun w h value => ?_,
    fun h value => ?_⟩
  · exact exec_judged rfl hs (judgeSetSetting_unnamed (List.getElem?_eq_none h)) quiet
  · exact locks 0 .rate { staged with rate := r } rfl h (by simp [Bank.write, value, Rate.ofHertz_hertz])
      ((holdsFast_rate rfl).2 differs) held
  · rw [value]
    exact stores 0 .rate { staged with rate := r } rfl h (by simp [Bank.write, value, Rate.ofHertz_hertz])
      (open_.imp id fun same => by rw [holdsFast_rate rfl, not_not]; exact same)
  · exact rejects 0 .rate rfl h (by simp [Bank.write, Rate.ofHertz_eq_none value])
  · exact locks 1 .tapeWordLength { staged with tapeWordLength := w } rfl h (by simp [Bank.write, value, WordLength.ofBits_bits])
      ((holdsFast_tapeWordLength rfl).2 differs) held
  · rw [value]
    exact stores 1 .tapeWordLength { staged with tapeWordLength := w } rfl h
      (by simp [Bank.write, value, WordLength.ofBits_bits])
      (open_.imp id fun same => by rw [holdsFast_tapeWordLength rfl, not_not]; exact same)
  · exact rejects 1 .tapeWordLength rfl h (by simp [Bank.write, WordLength.ofBits_eq_none value])
  · exact stores 2 .crossfade { staged with crossfade := v } rfl h (if_pos value) (kept (by decide) (by decide))
  · exact rejects 2 .crossfade rfl h (if_neg value)
  · exact stores 3 .lmax { staged with lmax := min 16 (max 1 v) } rfl h rfl (kept (by decide) (by decide))
  · exact stores 4 .ramp { staged with ramp := 64 } rfl h (by rw [value]; rfl) (kept (by decide) (by decide))
  · exact stores 4 .ramp { staged with ramp := 128 } rfl h (by rw [value]; rfl) (kept (by decide) (by decide))
  · exact stores 4 .ramp { staged with ramp := 256 } rfl h (by rw [value]; rfl) (kept (by decide) (by decide))
  · exact rejects 4 .ramp rfl h (by rw [Bank.write, List.getElem?_eq_none value]; rfl)
  · exact stores 5 .holdover { staged with holdover := min 50 (max 1 v) } rfl h rfl (kept (by decide) (by decide))
  · exact stores 6 .verifyThreshold { staged with verifyThreshold := min 40 (max 0 v) } rfl h rfl (kept (by decide) (by decide))
  · exact stores 7 .analogCopy { staged with analogCopy := .free } rfl h (by rw [value]; rfl) (kept (by decide) (by decide))
  · exact stores 7 .analogCopy { staged with analogCopy := .once } rfl h (by rw [value]; rfl) (kept (by decide) (by decide))
  · exact rejects 7 .analogCopy rfl h ((if_neg (by omega)).trans (if_neg (by omega)))
  · exact stores 8 .preroll { staged with preroll := min 250 (max 0 v) } rfl h rfl (kept (by decide) (by decide))
  · exact stores 9 .locateLimit { staged with locateLimit := min 600 (max 10 v) } rfl h rfl (kept (by decide) (by decide))
  · rw [value]
    exact stores 10 .outputWordLength { staged with outputWordLength := w } rfl h
      (by simp [Bank.write, value, WordLength.ofBits_bits]) (kept (by decide) (by decide))
  · exact rejects 10 .outputWordLength rfl h (by simp [Bank.write, WordLength.ofBits_eq_none value])

/-- Settles O27: reading by bank and names, copying, and the tests of R176 in order. -/
theorem bankRequests : Obligations.BankRequests := by
  refine ⟨fun port ticket body s hq => ⟨fun hs name n bank low => ?_, fun hs past => ?_, fun hs => ?_⟩,
    fun port ticket body s hq hs => ?_⟩
  all_goals have quiet : (popRequest port s).quiet := (popRequest_quiet port s).2 hq
  · have bank := bankNamed_popRequest (port := port) bank
    rw [← popRequest_banks port s]
    refine ⟨fun x below found => ?_, fun all => ?_, fun past => ?_⟩
    · exact exec_judged rfl hs (judgeReadSetting_done (names := [x]) bank
        (by rw [low, if_neg below.ne, Setting.ofCode, found]; rfl)) quiet
    · exact exec_judged rfl hs (judgeReadSetting_done bank (by rw [low, if_pos all])) quiet
    · exact exec_judged rfl hs (judgeReadSetting_badValue (.inr (by rw [low]; exact past))) quiet
  · exact exec_judged rfl hs (judgeReadSetting_badValue (.inl (bankNamed_past past))) quiet
  · have judged : judgeCopyBank ticket body (popRequest port s) =
        ({ popRequest port s with banks := s.banks.setStaged s.activeBank }, .done, []) := by
      simp [judgeCopyBank, State.activeBank]
    rw [exec_judged rfl hs judged quiet]
    exact congrArg (fun b => Host.Outcome.next (answered ticket body .done [] { popRequest port s with banks := b }))
      (setStaged_copy s.banks)
  · intro take differs
    have differs : (popRequest port s).switchChangesFormat = true ↔ differs := by
      simp [State.switchChangesFormat, differs]
    have take : (popRequest port s).takeInHand = true ↔ take := by
      simp [State.takeInHand, take]
    have port_ : ticket.port = port := headRequest_port hs.1
    refine ⟨fun pending => exec_judged rfl hs ?_ quiet, fun none taken changes => exec_judged rfl hs ?_ quiet,
      fun none free => exec_judged rfl hs ?_ ((popRequest_quiet port s).2 hq)⟩
    all_goals unfold judgeSwitchBank; rw [popRequest_banks]
    · exact if_pos (Option.isSome_iff_ne_none.2 pending)
    · rw [none]
      exact (if_neg (by decide)).trans (if_pos ⟨take.2 taken, differs.2 changes⟩)
    · rw [none, port_]
      exact (if_neg (by decide)).trans (if_neg fun h => free ⟨take.1 h.1, differs.1 h.2⟩)

/-- Settles O28: the judgements of the Report Unit, the addition of a log entry, and the raising of REPLY-READY. -/
theorem reportAndLogRequests : Obligations.ReportAndLogRequests := by
  refine ⟨fun port ticket body s hq => ⟨fun hs => ?_, fun hs => ⟨fun unassigned => ?_, fun assigned => ?_⟩⟩,
    fun port ticket body s hq => ⟨fun hs => ⟨fun before after split some absent head => ?_, fun absent next => ?_,
      fun absent gap => ?_⟩, fun hs => ?_⟩,
    fun kind time origin argument s within => ?_, fun tag kind status data s => ⟨?_, fun other shown => ?_, fun hidden => ?_⟩⟩
  all_goals try have quiet : (popRequest port s).quiet := (popRequest_quiet port s).2 hq
  all_goals try have own : ticket.port = port := headRequest_port hs.1
  · refine ⟨clearReport port (popRequest port s), ?_, rfl, ?_⟩
    · refine exec_judged rfl hs ?_ quiet
      rw [judgeReadReport, own, reportWords_popRequest]
    · simp [clearReport]
      exact fun other => Reports.setPort_other _ _
  · exact exec_judged rfl hs (if_pos unassigned) quiet
  · refine ⟨{ popRequest port s with 
        reports := s.reports.setPort port { s.reports.port port with mask := (argWord body 1).setWidth 11 } }, exec_judged rfl hs ?_ quiet, rfl, ?_⟩
    · rw [judgeSetMask, if_neg assigned.not_ge, own, popRequest_reports]
    · simp
      exact fun other => Reports.setPort_other _ _
  · rw [← popRequest_reports port s] at split ⊢
    rw [exec_judged rfl hs (judgeLogRead_eq (Reports.readLog_found split absent head)) quiet, List.length_take]
    rfl
  · rw [← popRequest_reports port s] at absent next ⊢
    exact exec_judged rfl hs (judgeLogRead_eq ((Reports.readLog_absent absent).trans (if_pos next))) quiet
  · rw [← popRequest_reports port s] at absent gap ⊢
    rw [exec_judged rfl hs (judgeLogRead_eq ((Reports.readLog_absent absent).trans (if_neg gap))) quiet, List.length_take]
    rfl
  · exact exec_judged rfl hs rfl quiet
  · obtain ⟨-, -, length, next⟩ := within
    refine ⟨?_, ?_, rfl, rfl⟩
    · show (if s.reports.log.length < 32 then s.reports.log else s.reports.log.drop (s.reports.log.length + 1 - 32)) ++ _ = _
      split
      · rfl
      · next full => rw [show s.reports.log.length + 1 - 32 = 1 by omega]
    · show (s.reports.nextSequence + 1) % 65536 = _
      split <;> omega
  · rw [placeReply_system, replyBody_kind]
    split <;> rfl
  · rw [placeReply_system, replyBody_kind, if_neg other]
    have set := raise_replyReady (r := s.reports.system) shown
    refine ⟨set, ?_⟩
    show ((s.reports.system.raise .replyReady).flags != 0) = true
    rw [bne_iff_ne]
    intro none
    rw [none] at set
    exact absurd set (by decide)
  · rw [placeReply_system, replyBody_kind]
    split
    · rfl
    · next other =>
      show { s.reports with system := s.reports.system.raise .replyReady } = s.reports
      rw [raise_hidden (hidden.resolve_left other)]

end Sys2Proof.Proofs
end

section
/-! The Studio Link: SET-POSITION, the lines, packets and their routing (R186 to R190). Settles O29, O30, O31 and O32. -/

namespace Sys2Proof.Machine

section
variable {s : State} {bytes : List Byte} {r : LinkRequest} {rest : List LinkRequest}

/-! ### The head of the link request queue (R171, R189) -/

theorem headRequest_link (requests : s.link.requests = r :: rest) (hop : r.hop = 0) (configured : s.link.position.isSome = true)
    (reset : s.link.chainReset = none) (room : s.upstreamRoom = true) : s.headRequest .link = some (⟨.link, r.tag⟩, r.body) := by
  unfold State.headRequest
  obtain ⟨p, position⟩ := Option.isSome_iff_exists.1 configured
  simp [requests, hop, position, reset, State.replyRoom, room]

theorem headRequest_chainReset {port : Port} (reset : s.link.chainReset.isSome = true) : s.headRequest port = none :=
  headRequest_waits (.inr reset)

theorem placeUpstream_up (up : s.link.upstream.up = true) :
    placeUpstream bytes s = { s with link := { s.link with upstreamQueue := s.link.upstreamQueue ++ [bytes] } } := if_pos up

/-- A head request that a configured deck has on the Studio Link is answered upstream (R190). -/
theorem answered_link {tag : Byte} {body : List Word} (up : s.link.upstream.up = true) :
    placeReply ⟨.link, tag⟩ body s = { s with link := { s.link with
      upstreamQueue := s.link.upstreamQueue ++ [packetBytes 0 true tag (s.link.position.getD 0) body] } } := placeUpstream_up up

theorem ofCode_of_requestKind {body : List Word} {kind : RequestKind} (h : requestKind body = some kind) :
    RequestKind.ofCode (argWord body 0).toNat = some kind := by
  unfold requestKind at h
  split at h
  · cases h
  · next w _ =>
    show RequestKind.ofCode w.toNat = some kind
    split at h
    · next k found =>
      split at h
      · rw [found, Option.some.inj h]
      · cases h
    · cases h

theorem argWord_setPosition {body : List Word} (h : requestKind body = some .setPosition) : argWord body 0 = 29#16 := by
  have code := ofCode_of_requestKind h
  unfold RequestKind.ofCode at code
  split at code
  · cases code
  · next positive =>
    have within := (List.getElem?_eq_some_iff.1 code).1
    have index : (argWord body 0).toNat - 1 = 28 := (List.getElem?_inj within (by decide)).1 (code.trans (by decide))
    exact BitVec.eq_of_toNat_eq (show _ = 29 by omega)

/-! ### Lines and packets (R186, R187) -/

/-- The upstream transmit queue is discarded with the upstream line (R187). -/
def emptied (l : Line) (s : State) : State := match l with
  | .upstream => { s with link := { s.link with upstreamQueue := [] } }
  | .downstream => s

/-- A packet cut off that has its place counts once and sets the framing error flag. -/
theorem discardPacket_cut (l : Line) (v : LineStatus) (s : State) : discardPacket l ⟨true, false⟩ (setLine l v s) =
    count .linkErrors 1 (setLine l { v with framing := true } s) := by
  cases l <;> simp [discardPacket, setLine, State.line]

theorem passChainReset_none (l : Line) (reset : s.link.chainReset = none) : passChainReset l s = s := by
  unfold passChainReset
  rw [reset]
  cases l <;> rfl

/-- A line that is UP becomes DOWN, its flags and its reception `v`. -/
def State.lineCut (l : Line) (v : LineStatus) (s : State) : State := emptied l (setLine l { v with up := false, hard := true, reception := .idle } s)

theorem lineDown_whole {l : Line} (up : (s.line l).up = true) (whole : (s.line l).reception ≠ .placed) :
    exec (.lineDown l) s = .next (passChainReset l (s.lineCut l (s.line l))) := by
  refine congrArg Host.Outcome.next ((if_neg (fun down => ?_)).trans ?_)
  · rw [up] at down
    cases down
  · unfold State.lineCut
    dsimp only
    rw [if_neg whole]
    cases l <;> rfl

/-- With a packet in reception the framing error counts besides. -/
theorem lineDown_placed {l : Line} (up : (s.line l).up = true) (placed : (s.line l).reception = .placed) :
    exec (.lineDown l) s = .next (passChainReset l (count .linkErrors 1 (s.lineCut l { s.line l with framing := true }))) := by
  refine congrArg Host.Outcome.next ((if_neg (fun down => ?_)).trans ?_)
  · rw [up] at down
    cases down
  · unfold State.lineCut
    dsimp only
    rw [if_pos placed, discardPacket_cut]
    cases l <;> rfl

theorem lineDown_passes {l : Line} {t : State} (h : exec (.lineDown l) s = .next (passChainReset l t))
    (reset : l = .downstream → t.link.chainReset = none) : exec (.lineDown l) s = .next t := by
  refine h.trans (congrArg Host.Outcome.next ?_)
  cases l
  · rfl
  · exact passChainReset_none _ (reset rfl)

/-- A packet begins on a line that is UP and ready, with none in reception. -/
theorem packetBegin_placed {l : Line} (up : (s.line l).up = true) (idle : (s.line l).reception = .idle) (ready : s.ready l = true) :
    exec (.linkPacketBegin l) s = .next (setLine l { s.line l with reception := .placed } s) :=
  congrArg Host.Outcome.next (if_pos ⟨up, idle, ready⟩)

theorem packetBegin_nothing {l : Line} (h : (s.line l).up = false ∨ (s.line l).reception ≠ .idle ∨ s.ready l = false) :
    exec (.linkPacketBegin l) s = .next s := by
  refine congrArg Host.Outcome.next (if_neg ?_)
  rintro ⟨up, idle, ready⟩
  rcases h with down | busy | full
  · rw [up] at down; cases down
  · exact busy idle
  · rw [ready] at full; cases full

/-- With no packet in reception a line is ready while its queue has room. -/
theorem ready_idle : (s.link.upstream.reception = .idle → (s.ready .upstream = true ↔ s.link.requests.length < 4)) ∧
    (s.link.downstream.reception = .idle → (s.ready .downstream = true ↔ s.link.upstreamQueue.length < 8)) :=
  ⟨fun idle => by simp [State.ready, State.requestRoom, idle, Reception.places, Config.requestPlaces],
    fun idle => by simp [State.ready, State.upstreamRoom, idle, Reception.places, Config.upstreamPlaces]⟩

theorem ready_false : (4 ≤ s.link.requests.length → s.ready .upstream = false) ∧
    (8 ≤ s.link.upstreamQueue.length → s.ready .downstream = false) := by
  constructor <;> intro full <;>
    simp only [State.ready, State.requestRoom, State.upstreamRoom, Config.requestPlaces, Config.upstreamPlaces,
      decide_eq_false_iff_not] <;> omega

/-- A packet with an error is discarded, unless a reset caught it in reception. -/
theorem receivePacket_bad {l : Line} {e : PacketErrors} {room : Bool} {place : State → State} (up : (s.line l).up = true)
    (kept : (s.line l).reception ≠ .dropped) (bad : e.framing = true ∨ e.soft = true) : receivePacket l e room place s =
      count .linkErrors 1 (setLine l { s.line l with
        framing := (s.line l).framing || e.framing, soft := (s.line l).soft || e.soft, reception := .idle } s) := by
  unfold receivePacket
  simp only [up, Bool.true_eq_false, if_false]
  split
  · next dropped => exact absurd dropped kept
  · rw [if_pos bad]
    cases l <;> rfl
  · rw [if_pos bad]
    cases l <;> rfl

theorem receivePacket_dropped {l : Line} {e : PacketErrors} {room : Bool} {place : State → State} (up : (s.line l).up = true)
    (dropped : (s.line l).reception = .dropped) :
    receivePacket l e room place s = setLine l { s.line l with reception := .idle } s := by
  unfold receivePacket
  simp only [up, dropped, Bool.true_eq_false, if_false]

theorem receivePacket_down {l : Line} {e : PacketErrors} {room : Bool} {place : State → State} (down : (s.line l).up = false) :
    receivePacket l e room place s = s := if_pos down

theorem packetCheckOk_eq (bytes : List Byte) : (!packetCheckOk bytes) =
    (decide (2 ≤ bytes.length) &&
      bytes.drop (bytes.length - 2) != bytesOfWords [checkWord (bytes.take (bytes.length - 2))]) := by
  unfold packetCheckOk
  rw [Bool.not_or, ← decide_not, decide_eq_decide.2 (Nat.not_lt (a := bytes.length))]
  rfl

/-! ### Packets laid out as R195 has them -/

section
variable {hop position : Nat} {reply : Bool} {tag : Byte} {body : List Word}

/-- The header and body of a packet, which its check word covers (R195). -/
def packetCovered (hop : Nat) (reply : Bool) (tag : Byte) (position : Nat) (body : List Word) : List Byte :=
  [byteOf (hop % 8 * 32 + if reply then 16 else 0), byteOf body.length, tag, byteOf position] ++ bytesOfWords body

theorem packetBytes_eq : packetBytes hop reply tag position body =
    packetCovered hop reply tag position body ++ bytesOfWords [checkWord (packetCovered hop reply tag position body)] := rfl

theorem packetCovered_length : (packetCovered hop reply tag position body).length = 4 + 2 * body.length := by
  unfold packetCovered
  rw [List.length_append, bytesOfWords_length]
  rfl

theorem packetBytes_length : (packetBytes hop reply tag position body).length = 6 + 2 * body.length := by
  rw [packetBytes_eq, List.length_append, packetCovered_length, bytesOfWords_length]
  simp only [List.length_cons, List.length_nil]
  omega

theorem packetBytes_covered : (packetBytes hop reply tag position body).take ((packetBytes hop reply tag position body).length - 2) =
    packetCovered hop reply tag position body := by
  rw [packetBytes_length, packetBytes_eq]
  exact List.take_left' (by rw [packetCovered_length]; omega)

theorem packetBytes_extentOk (least : 1 ≤ body.length) (most : body.length ≤ 64) :
    packetExtentOk (packetBytes hop reply tag position body) = true := by
  have named : ((packetBytes hop reply tag position body).getD 1 0#8).toNat = body.length :=
    Nat.mod_eq_of_lt (show body.length < 2 ^ 8 by omega)
  unfold packetExtentOk
  simp only [named, packetBytes_length, beq_self_eq_true, Bool.and_true, Bool.and_eq_true, decide_eq_true_eq]
  exact ⟨least, most⟩

theorem packetBytes_isReply : packetIsReply (packetBytes hop reply tag position body) = reply := by
  have first : (packetBytes hop reply tag position body).getD 0 0#8 = byteOf (hop % 8 * 32 + if reply then 16 else 0) := rfl
  unfold packetIsReply
  rw [first]
  have below : hop % 8 < 8 := Nat.mod_lt _ (by decide)
  generalize hop % 8 = k at below
  interval_cases k <;> cases reply <;> decide

theorem packetBytes_checkOk : packetCheckOk (packetBytes hop reply tag position body) = true := by
  have carried : (packetBytes hop reply tag position body).drop ((packetBytes hop reply tag position body).length - 2) =
      bytesOfWords [checkWord (packetCovered hop reply tag position body)] := by
    rw [packetBytes_length, packetBytes_eq]
    exact List.drop_left' (by rw [packetCovered_length]; omega)
  unfold packetCheckOk
  dsimp only
  rw [packetBytes_covered, carried, beq_self_eq_true, Bool.or_true]

/-- A packet laid out right has no error on its line. -/
theorem packetBytes_errors (least : 1 ≤ body.length) (most : body.length ≤ 64) :
    packetErrors reply (packetBytes hop reply tag position body) = ⟨false, false⟩ := by
  unfold packetErrors
  rw [packetBytes_extentOk least most, packetBytes_isReply, packetBytes_checkOk]
  cases reply <;> rfl

theorem linkRequestOf_packetBytes (least : hop ≤ 7) :
    linkRequestOf (packetBytes hop false tag position body) = ⟨hop, tag, body⟩ := by
  have words : wordsOfBytes (((packetBytes hop false tag position body).take
      ((packetBytes hop false tag position body).length - 2)).drop 4) = body := by
    rw [packetBytes_covered]
    exact wordsOfBytes_bytesOfWords body
  have hops : ((packetBytes hop false tag position body).getD 0 0#8).toNat / 32 = hop := by
    show (hop % 8 * 32 + 0) % 256 / 32 = hop
    omega
  unfold linkRequestOf
  rw [words, hops]
  rfl

/-- A good packet that has its place reaches its queue. -/
theorem receivePacket_placed {l : Line} {room : Bool} {place : State → State} (up : (s.line l).up = true)
    (placed : (s.line l).reception = .placed) : receivePacket l ⟨false, false⟩ room place s =
      place (setLine l { s.line l with reception := .idle } s) := by
  unfold receivePacket
  simp only [up, placed, Bool.true_eq_false, Bool.false_eq_true, or_self, if_false]

end

/-! ### Routing (R188, R189) -/

theorem serveUnknown_waits {port : Port} (h : s.headRequest port = none) : serveUnknown port s = s := by
  unfold serveUnknown
  rw [h]

/-- What the routing of a head request leads to, by the deck's configuration and the request's hop. -/
theorem execLinkRoute_head (ready : Bool) (requests : s.link.requests = r :: rest) : exec (.linkRoute ready) s = .next
    (match s.link.position with
      | none => if r.hop = 0 ∧ requestKind r.body = some .setPosition then servePosition .link s
          else { s with link := { s.link with requests := rest } }
      | some position =>
        if r.hop = 0 then
          match requestKind r.body with
          | some kind => serveAny .link kind s
          | none => serveUnknown .link s
        else if s.link.downstream.up then
          if ready then { s with link := { s.link with
            requests := rest, sentDownstream := packetBytes (r.hop - 1) false r.tag 0 r.body } }
          else s
        else if s.upstreamRoom then
          placeUpstream (packetBytes 0 true r.tag position (replyBody (argWord r.body 0) .noRoute []))
            { s with link := { s.link with requests := rest } }
        else s) := by
  show execLinkRoute ready s = _
  unfold execLinkRoute
  rw [requests] <;> rfl

theorem route_unset (ready : Bool) (requests : s.link.requests = r :: rest) (unset : s.link.position = none) :
    exec (.linkRoute ready) s = .next (if r.hop = 0 ∧ requestKind r.body = some .setPosition then servePosition .link s
      else { s with link := { s.link with requests := rest } }) := by
  rw [execLinkRoute_head ready requests, unset]

/-- A configured deck takes a request of hop 0 as the command of its kind. -/
theorem route_own {p : Nat} (ready : Bool) (requests : s.link.requests = r :: rest) (set : s.link.position = some p)
    (hop : r.hop = 0) : exec (.linkRoute ready) s = .next (match requestKind r.body with
      | some kind => serveAny .link kind s
      | none => serveUnknown .link s) := by
  rw [execLinkRoute_head ready requests, set]
  exact congrArg Host.Outcome.next (if_pos hop)

theorem route_on {p : Nat} (ready : Bool) (requests : s.link.requests = r :: rest) (set : s.link.position = some p)
    (hop : 1 ≤ r.hop) : exec (.linkRoute ready) s = .next (if s.link.downstream.up then
        if ready then { s with link := { s.link with
          requests := rest, sentDownstream := packetBytes (r.hop - 1) false r.tag 0 r.body } }
        else s
      else if s.upstreamRoom then
        placeUpstream (packetBytes 0 true r.tag p (replyBody (argWord r.body 0) .noRoute []))
          { s with link := { s.link with requests := rest } }
      else s) := by
  rw [execLinkRoute_head ready requests, set]
  exact congrArg Host.Outcome.next (if_neg (by omega))

/-! ### SET-POSITION (R172, R188) -/

theorem servePosition_system {ticket : Ticket} {body : List Word} (h : s.stands .system .setPosition ticket body) :
    servePosition .system s = placeReply ticket (replyBody 29#16 .badRequest []) (popRequest .system s) := by
  unfold servePosition
  simp only [h.1, h.2, if_true]

theorem servePosition_unset (requests : s.link.requests = r :: rest) (unset : s.link.position = none)
    (taken : s.link.chainReset = none ∧ r.hop = 0 ∧ requestKind r.body = some .setPosition) : servePosition .link s =
      if 1 ≤ (argWord r.body 1).toNat ∧ (argWord r.body 1).toNat ≤ 8 then
        { s with link := { s.link with position := some (argWord r.body 1).toNat, requests := rest } }
      else { s with link := { s.link with requests := rest } } := by
  obtain ⟨reset, hop, kind⟩ := taken
  have popped : popRequest .link s = { s with link := { s.link with requests := rest } } := by simp [popRequest, requests]
  unfold servePosition
  simp only [requests, unset, reset, hop, kind, popped, Option.isNone_none, and_self, if_true]

/-- A chain reset that waits holds the position's request back (R191). -/
theorem servePosition_held (requests : s.link.requests = r :: rest) (unset : s.link.position = none)
    (reset : s.link.chainReset.isSome = true) : servePosition .link s = s := by
  unfold servePosition
  simp only [requests, unset]
  refine if_neg fun h => ?_
  rw [Option.isNone_iff_eq_none.1 h.1] at reset
  cases reset

theorem servePosition_set {ticket : Ticket} {body : List Word} {p : Nat} (head : s.headRequest .link = some (ticket, body))
    (kind : requestKind body = some .setPosition) (set : s.link.position = some p) :
    servePosition .link s = setConfigured ticket (argWord body 1).toNat (popRequest .link s) := by
  unfold servePosition
  simp only [head, kind, set, if_true]

end
end Sys2Proof.Machine

namespace Sys2Proof.Proofs

open Sys2Proof.Machine

/-- Settles O29, by port, by configuration and by the value. -/
theorem setPositionRequest : Obligations.SetPositionRequest := by
  refine ⟨fun ticket body s h => ?_, fun r rest s requests hop kind reset => ?_⟩
  · have code : argWord body 0 = 29#16 := argWord_setPosition h.2
    exact congrArg Host.Outcome.next ((servePosition_system h).trans (by rw [answered, code]))
  intro value up down
  have run {t : State} (h : servePosition .link s = t) : exec (.setPosition .link) s = .next t := congrArg Host.Outcome.next h
  have popped : popRequest .link s = { s with link := { s.link with requests := rest } } := by simp [popRequest, requests]
  refine ⟨fun unset least most => ?_, fun unset out => ?_, fun p set room isUp least most => ?_, fun p set room isUp out => ?_⟩
  · exact run ((servePosition_unset requests unset ⟨reset, hop, kind⟩).trans (if_pos ⟨least, most⟩))
  · exact run ((servePosition_unset requests unset ⟨reset, hop, kind⟩).trans (if_neg fun h => by omega))
  all_goals
    refine run ((servePosition_set (headRequest_link requests hop (by rw [set]; rfl) reset room) kind set).trans ?_)
    rw [popped]
  · have value_ : 1 ≤ (argWord r.body 1).toNat ∧ (argWord r.body 1).toNat ≤ 8 := ⟨least, most⟩
    unfold setConfigured
    rw [if_pos value_]
    dsimp only
    rw [answered_link (by exact isUp)]
    exact if_pos isUp
  · have value_ : ¬ (1 ≤ (argWord r.body 1).toNat ∧ (argWord r.body 1).toNat ≤ 8) := fun h => by omega
    unfold setConfigured
    rw [if_neg value_, answered_link (by exact isUp)]
    simp only [set, Option.getD_some]
    rfl

/-- Settles O30: a line's events by its reception, and a packet by the errors found in it. -/
theorem lineEventsAndBadPackets : Obligations.LineEventsAndBadPackets := by
  refine ⟨fun s => ?_, fun bytes s => ?_⟩
  · intro up down
    refine ⟨rfl, rfl, fun isDown => ?_, fun isDown => ?_, fun isUp idle => ?_, fun isUp placed => ?_, fun isUp dropped => ?_,
      fun reset isUp => ⟨fun idle => ?_, fun placed => ?_, fun dropped => ?_⟩, fun isUp idle room => ?_, fun isUp idle room => ?_,
      fun h => ?_, fun h => ?_⟩
    · exact congrArg Host.Outcome.next (if_pos isDown)
    · exact congrArg Host.Outcome.next (if_pos isDown)
    · refine (lineDown_passes (lineDown_whole (l := .upstream) isUp fun h => ?_) fun h => ?_).trans ?_
      · cases h.symm.trans idle
      · cases h
      · exact congrArg (fun v => Host.Outcome.next { s with link := { s.link with
          upstream := { up with up := false, hard := true, reception := v }, upstreamQueue := [] } }) idle.symm
    · exact lineDown_passes (lineDown_placed (l := .upstream) isUp placed) fun h => by cases h
    · exact lineDown_passes (lineDown_whole (l := .upstream) isUp fun h => by cases h.symm.trans dropped) fun h => by cases h
    · refine (lineDown_passes (lineDown_whole (l := .downstream) isUp fun h => ?_) fun _ => reset).trans ?_
      · cases h.symm.trans idle
      · exact congrArg (fun v => Host.Outcome.next { s with link := { s.link with
          downstream := { down with up := false, hard := true, reception := v } } }) idle.symm
    · exact lineDown_passes (lineDown_placed (l := .downstream) isUp placed) fun _ => reset
    · exact lineDown_passes (lineDown_whole (l := .downstream) isUp fun h => by cases h.symm.trans dropped) fun _ => reset
    · exact packetBegin_placed (l := .upstream) isUp idle ((ready_idle.1 idle).2 room)
    · exact packetBegin_placed (l := .downstream) isUp idle ((ready_idle.2 idle).2 room)
    · exact packetBegin_nothing (h.imp id (Or.imp id ready_false.1))
    · exact packetBegin_nothing (h.imp id (Or.imp id ready_false.2))
  · intro up down disagrees
    have soft (reply : Bool) : (packetErrors reply bytes).soft = disagrees := packetCheckOk_eq bytes
    have run {l : Line} {reply : Bool} {room : Bool} {place : State → State} (isUp : (s.line l).up = true)
        (kept : (s.line l).reception ≠ .dropped) (bad : packetExtentOk bytes = false ∨ packetIsReply bytes ≠ reply) :
        receivePacket l (packetErrors reply bytes) room place s = count .linkErrors 1 (setLine l { s.line l with
          framing := true, soft := (s.line l).soft || disagrees, reception := .idle } s) := by
      have framing : (packetErrors reply bytes).framing = true := by simpa [packetErrors] using bad
      rw [receivePacket_bad isUp kept (.inl framing), framing, soft, Bool.or_true]
    have spoilt {l : Line} {reply : Bool} {room : Bool} {place : State → State} (isUp : (s.line l).up = true)
        (kept : (s.line l).reception ≠ .dropped) (extent : packetExtentOk bytes = true) (direction : packetIsReply bytes = reply)
        (h : disagrees = true) : receivePacket l (packetErrors reply bytes) room place s =
          count .linkErrors 1 (setLine l { s.line l with soft := true, reception := .idle } s) := by
      have framing : (packetErrors reply bytes).framing = false := by simp [packetErrors, extent, direction]
      rw [receivePacket_bad isUp kept (.inr ((soft reply).trans h)), framing, soft, h, Bool.or_true, Bool.or_false]
    refine ⟨fun isUp kept bad => ?_, fun isUp kept extent direction h => ?_, fun isUp kept bad => ?_,
      fun isUp kept extent direction h => ?_, fun isUp dropped => ?_, fun isUp dropped => ?_, fun isDown => ?_, fun isDown => ?_⟩
    all_goals refine congrArg Host.Outcome.next ?_
    · exact run (l := .upstream) isUp kept (bad.imp id (by simp))
    · exact spoilt (l := .upstream) isUp kept extent direction h
    · exact run (l := .downstream) isUp kept (bad.imp id (by simp))
    · exact spoilt (l := .downstream) isUp kept extent direction h
    · exact receivePacket_dropped (l := .upstream) isUp dropped
    · exact receivePacket_dropped (l := .downstream) isUp dropped
    · exact receivePacket_down (l := .upstream) isDown
    · exact receivePacket_down (l := .downstream) isDown

/-- Settles O31: the packet has no error on its line, and spells its request. -/
theorem packetsArriveWhole : Obligations.PacketsArriveWhole := by
  intro hop tag position body s most least longest
  refine ⟨fun up placed => congrArg Host.Outcome.next ?_, fun up placed upstream => congrArg Host.Outcome.next ?_⟩
  · rw [packetBytes_errors least longest, receivePacket_placed (l := .upstream) up placed, linkRequestOf_packetBytes most]
    rfl
  · rw [packetBytes_errors least longest, receivePacket_placed (l := .downstream) up placed]
    exact placeUpstream_up upstream

/-- Settles O32, by configuration, by hop and by the state of the lines. -/
theorem linkRouting : Obligations.LinkRouting := by
  refine ⟨fun r rest s requests => ⟨fun p set hop up => ⟨?_, ?_⟩, fun p ready set hop down up => ⟨fun room => ?_, fun full => ?_⟩,
    fun ready unset other => ?_, fun ready unset hop kind => ?_, fun ready reset hop own => ?_⟩,
    fun r rest p ready kind c s requests set hop isKind listed => ?_⟩
  · rw [route_on true requests set hop, if_pos up]
    rfl
  · rw [route_on false requests set hop, if_pos up]
    rfl
  · rw [route_on ready requests set hop, down, if_neg (by decide), if_pos room]
    exact congrArg Host.Outcome.next (placeUpstream_up up)
  · rw [route_on ready requests set hop, down, if_neg (by decide), full]
    rfl
  · rw [route_unset ready requests unset, if_neg fun h => other.elim (fun far => by omega) fun kind => kind h.2]
  · rw [route_unset ready requests unset, if_pos ⟨hop, kind⟩]
    rfl
  · have waits := headRequest_chainReset (port := .link) reset
    cases set : s.link.position with
    | none =>
      have kind := own.resolve_left (by rw [set]; decide)
      rw [route_unset ready requests set, if_pos ⟨hop, kind⟩]
      exact congrArg Host.Outcome.next (servePosition_held requests set reset)
    | some p =>
      rw [route_own ready requests set hop]
      refine congrArg Host.Outcome.next ?_
      split
      · exact serveAny_waits (fun _ => by rw [set]; rfl) waits _
      · exact serveUnknown_waits waits
  · rw [route_own ready requests set hop, isKind]
    simp only [List.mem_cons, List.not_mem_nil, or_false, Prod.mk.injEq] at listed
    iterate 29
      rcases listed with ⟨rfl, rfl⟩ | listed
      · rfl
    obtain ⟨rfl, rfl⟩ := listed
    rfl

end Sys2Proof.Proofs
end

section
/-! Soft reset (R40, R125, R184, R191). Settles O4 and O33. -/

namespace Sys2Proof.Machine

section
variable {s t : State}

/-! ### Flags (R179) -/

theorem Flag.bit_eq (f : Flag) : f.bit = BitVec.twoPow 11 f.index := by
  cases f <;> decide

theorem Flag.index_lt (f : Flag) : f.index < 11 := by
  cases f <;> decide

/-- A flag raised stands besides those that stood, unless the mask hides it. -/
theorem PortReport.getLsbD_raise (r : PortReport) (f : Flag) (k : Nat) : (r.raise f).flags.getLsbD k = true ↔
    r.flags.getLsbD k = true ∨ k = f.index ∧ r.mask.getLsbD k = false := by
  have below := f.index_lt
  unfold PortReport.raise
  rw [BitVec.getLsbD_or, BitVec.getLsbD_and, BitVec.getLsbD_not, f.bit_eq, BitVec.getLsbD_twoPow, Bool.or_eq_true]
  refine or_congr Iff.rfl ?_
  by_cases named : k = f.index
  · simp [named, below]
  · simp [named, Ne.symm named]

/-! ### The cancelling of a punch-in (R144) -/

/-- The cancelling of a scheduled punch-in is work on the slots under no punches, a log entry, and for the edit list a hand-off. -/
theorem cancelPunch_eq (reason : CancelReason) {p : Punch} (punch : s.mixer.punchIn = some p) (taken : s.mixer.taken = false) :
    cancelPunch reason s = handOffIf s.listPunch (.punchFailed reason)
      (logEntry .punchCancelled s.timeNow p.origin reason.code (spanChanged (clearPunches s))) := by
  have time := (slotWork_spanChanged (clearPunches s)).1.timeNow
  unfold cancelPunch
  rw [punch]
  simp only [taken, Bool.false_eq_true, if_false]
  rw [time]
  rfl

theorem cancelPunch_same (reason : CancelReason) (h : s.mixer.punchIn = none ∨ s.mixer.taken = true) : cancelPunch reason s = s := by
  unfold cancelPunch
  cases punch : s.mixer.punchIn with
  | none => rfl
  | some p => exact if_pos (h.resolve_left (by rw [punch]; exact Option.some_ne_none p))

/-- What the cancelling of a punch-in leaves in the log. -/
def State.cancelledReports (s : State) (reason : CancelReason) : Reports := match s.mixer.punchIn with
  | some p => if s.mixer.taken then s.reports else s.reports.addEntry .punchCancelled s.timeNow p.origin reason.code
  | none => s.reports

/-- Work on slots changes the collections, the trim demand, the write frame, the output frame and what goes with the record path
in Copy Control alone. -/
theorem SlotWork.eq (h : SlotWork s t) : t = { s with
    transport := { s.transport with demand := t.transport.demand }, store := t.store
    coder := { s.coder with current := t.coder.current }
    output := { s.output with playing := t.output.playing, frame := t.output.frame }
    copy := { s.copy with latched := t.copy.latched, inputFields := t.copy.inputFields } } := by
  have copy : t.copy = { s.copy with latched := t.copy.latched, inputFields := t.copy.inputFields } := by
    dsimp only
    rw [← h.current, ← h.heldTape]
  rw [← h.transport, ← h.coder, ← h.output, ← h.decoder, ← h.conceal, ← h.mixer, ← h.sequencer, ← h.cues, ← h.input, ← h.banks,
    ← h.reports, ← h.system, ← h.link, ← h.pending, ← copy]

theorem handOffIf_eq (c : Bool) (x : Handoff) (s : State) :
    ∃ h, handOffIf c x s = { s with sequencer := { s.sequencer with handoffs := h } } := by
  cases c
  · exact ⟨s.sequencer.handoffs, rfl⟩
  · exact ⟨_, rfl⟩

/-- What the cancelling of a punch-in leaves of the state: the slots, the punches and what the log then holds aside, only the trim
demand, the write frame, the output frame, what goes with the record path and the hand-offs may differ. -/
theorem cancelPunch_leaves (reason : CancelReason) (s : State) :
    ∃ demand store current playing frame mixer handoffs latched inputFields, cancelPunch reason s = { s with
      transport := { s.transport with demand := demand }, store := store, coder := { s.coder with current := current }
      output := { s.output with playing := playing, frame := frame }, mixer := mixer
      sequencer := { s.sequencer with handoffs := handoffs }
      copy := { s.copy with latched := latched, inputFields := inputFields }, reports := s.cancelledReports reason } := by
  have same (h : s.mixer.punchIn = none ∨ s.mixer.taken = true) (reports : s.cancelledReports reason = s.reports) :
      cancelPunch reason s = { s with reports := s.cancelledReports reason } := by
    rw [cancelPunch_same reason h, reports]
  unfold State.cancelledReports at same ⊢
  cases punch : s.mixer.punchIn with
  | none =>
    rw [punch] at same
    exact ⟨_, _, _, _, _, _, _, _, _, same (.inl rfl) rfl⟩
  | some p =>
    rw [punch] at same
    cases taken : s.mixer.taken with
    | true =>
      rw [taken] at same
      exact ⟨_, _, _, _, _, _, _, _, _, same (.inr rfl) rfl⟩
    | false =>
      have work := (slotWork_spanChanged (clearPunches s)).1.eq
      obtain ⟨h, handed⟩ := handOffIf_eq s.listPunch (.punchFailed reason)
        (logEntry .punchCancelled s.timeNow p.origin reason.code (spanChanged (clearPunches s)))
      rw [cancelPunch_eq reason punch taken, handed]
      generalize spanChanged (clearPunches s) = w at work
      rw [work]
      exact ⟨_, _, _, _, _, _, _, _, _, rfl⟩

/-! ### Soft reset -/

/-- The Edit Sequencer after a soft reset: a running list has ended HALTED-BY-RESET, its entry in progress SKIPPED (R154, R158). -/
theorem resetSequencer_eq (s : State) : resetSequencer s = { s with sequencer := { s.sequencer with
    state := .idle, saved := none, waitRemainder := 0, chainCount := 0, conditions := 0, handoffs := []
    lastEnd := if s.sequencer.state = .idle then s.sequencer.lastEnd else .byReset
    entries := if s.sequencer.state = .idle then s.sequencer.entries else
      s.sequencer.entries.set s.sequencer.current { s.entry s.sequencer.current with
        outcome := .skipped, seen := s.sequencer.conditions, completion := s.timeNow } } } := by
  unfold resetSequencer
  by_cases idle : s.sequencer.state = .idle
  · simp only [if_pos idle]
    exact congrArg (fun x => { s with sequencer := { s.sequencer with
      state := x, saved := none, waitRemainder := 0, chainCount := 0, conditions := 0, handoffs := [] } }) idle
  · simp only [if_neg idle]
    rfl

/-- The reports after a soft reset, but for the reply. -/
def State.resetReports (s : State) (origin : Origin) (scope : Nat) : Reports :=
  let r := s.cancelledReports .motion
  let t := { r with system := r.system.softReset, link := r.link.softReset }.addEntry .reset none origin scope
  if s.transport.tapePresent then { t with system := t.system.raise .tape, link := t.link.raise .tape } else t

theorem softReset_eq (origin : Origin) (scope : Nat) (s : State) : softReset origin scope s = { s with
    transport := s.transport.softReset
    store := State.reset.store
    coder := { s.coder with current := none, sequence := 0, verify := [], writeOn := false }
    decoder := State.reset.decoder
    conceal := State.reset.conceal
    output := { State.reset.output with wordLength := s.activeBank.outputWordLength }
    mixer := State.reset.mixer
    sequencer := (resetSequencer s).sequencer
    cues := { s.cues with mark := .none }
    copy := { current := .field s.activeBank.analogCopy, latched := false, heldTape := none, inputFields := [] }
    input := { s.input with selected := .analog, pendingSelect := none, lost := none }
    banks := { s.banks with pendingSwitch := none }
    reports := s.resetReports origin scope
    system := { s.system with requests := [], replies := [] }
    link := { s.link with
      requests := [], upstreamQueue := [], upstream := s.link.upstream.softReset
      downstream := s.link.downstream.softReset, chainReset := none } } := by
  obtain ⟨demand, store, current, playing, frame, mixer, handoffs, latched, fields, cancelled⟩ := cancelPunch_leaves .motion s
  unfold softReset State.resetReports
  rw [cancelled, resetSequencer_eq, resetSequencer_eq]
  dsimp only
  by_cases tape : s.transport.tapePresent = true
  · rw [if_pos tape]
    exact (if_pos tape).trans rfl
  · rw [if_neg tape]
    exact (if_neg tape).trans rfl

/-! ### The log and the reports through a soft reset -/

/-- The log and the next sequence number of two reports agree. -/
def Reports.logsAs (r q : Reports) : Prop := r.log = q.log ∧ r.nextSequence = q.nextSequence

theorem Reports.logsAs.trans {r q p : Reports} (h : r.logsAs q) (k : q.logsAs p) : r.logsAs p := ⟨h.1.trans k.1, h.2.trans k.2⟩

theorem Reports.logsAs.addEntry {r q : Reports} (h : r.logsAs q) (kind : LogKind) (time : Option Nat) (origin : Origin)
    (argument : Nat) : (r.addEntry kind time origin argument).logsAs (q.addEntry kind time origin argument) := by
  obtain ⟨log, next⟩ := h
  unfold Reports.addEntry
  exact ⟨by rw [log, next], by rw [next]⟩

theorem cancelledReports_logsAs {s u : State} (same : u = { s with reports := u.reports, system := u.system, link := u.link })
    (logs : u.reports.logsAs s.reports) (reason : CancelReason) :
    (u.cancelledReports reason).logsAs (s.cancelledReports reason) := by
  generalize u.reports = r, u.system = x, u.link = l at same logs
  subst same
  unfold State.cancelledReports
  cases s.mixer.punchIn with
  | none => exact logs
  | some p =>
    dsimp only
    split
    · exact logs
    · exact logs.addEntry ..

theorem resetReports_logsAs (origin : Origin) (scope : Nat) (s : State) : (s.resetReports origin scope).logsAs
    ((s.cancelledReports .motion).addEntry .reset none origin scope) := by
  unfold State.resetReports
  dsimp only
  split <;> exact ⟨rfl, rfl⟩

theorem cancelledReports_port (reason : CancelReason) (s : State) (port : Port) :
    (s.cancelledReports reason).port port = s.reports.port port := by
  unfold State.cancelledReports
  cases s.mixer.punchIn with
  | none => rfl
  | some p =>
    dsimp only
    split
    · rfl
    · cases port <;> rfl

/-- The report of a port after a soft reset: nothing counted, TAPE alone raised with tape present, and the mask kept. -/
theorem resetReports_port (origin : Origin) (scope : Nat) (s : State) (port : Port) :
    ((s.resetReports origin scope).port port).counters = Counters.zero ∧
    ((s.resetReports origin scope).port port).mask = (s.reports.port port).mask ∧
    ∀ k, ((s.resetReports origin scope).port port).flags.getLsbD k = true ↔
      (k = 9 ∧ s.transport.tapePresent = true) ∧ (s.reports.port port).mask.getLsbD k = false := by
  have was := cancelledReports_port .motion s port
  have result : (s.resetReports origin scope).port port = if s.transport.tapePresent then
      ((s.reports.port port).softReset).raise .tape else (s.reports.port port).softReset := by
    rw [← was]
    unfold State.resetReports
    dsimp only
    split <;> cases port <;> rfl
  rw [result]
  split
  · next tape =>
    refine ⟨rfl, rfl, fun k => (PortReport.getLsbD_raise ..).trans ?_⟩
    simp [PortReport.softReset, tape, Flag.index]
  · next bare => exact ⟨rfl, rfl, fun k => by simp [PortReport.softReset, bare]⟩

/-! ### The reset of a deck and its reply -/

/-- A reply placed: in the reply queue of the System Port, which raises REPLY-READY, or upstream while that line is UP. -/
theorem placeReply_eq (ticket : Ticket) (body : List Word) (s : State) : placeReply ticket body s = { s with
    system := { s.system with replies := s.system.replies ++ (match ticket.port with
      | .system => [body]
      | .link => []) }
    link := { s.link with upstreamQueue := s.link.upstreamQueue ++
      (if ticket.port = .link ∧ s.link.upstream.up = true then [packetBytes 0 true ticket.tag (s.link.position.getD 0) body]
      else []) }
    reports := if ticket.port = .system ∧ argWord body 0 ≠ 24#16 then
      { s.reports with system := s.reports.system.raise .replyReady } else s.reports } := by
  obtain ⟨port, tag⟩ := ticket
  cases port with
  | system =>
    rw [placeReply_system]
    by_cases report : argWord body 0 = 24#16
    · simp [report]
    · simp [report, raiseReplyReady]
  | link =>
    by_cases up : s.link.upstream.up = true
    · rw [answered_link up]
      simp [up]
    · rw [show placeReply ⟨.link, tag⟩ body s = s from if_neg up]
      simp [up]

/-- REPLY-READY is raised by the reply, on the System Port alone. -/
theorem repliedReports_port {tape : Prop} {mask : BitVec 11} (ticket : Ticket) (port : Port) (r : Reports) (code : Word)
    (other : code ≠ 24#16) (counters : (r.port port).counters = Counters.zero) (kept : (r.port port).mask = mask)
    (flags : ∀ k, (r.port port).flags.getLsbD k = true ↔ (k = 9 ∧ tape) ∧ mask.getLsbD k = false) :
    let t : Reports := if ticket.port = .system ∧ code ≠ 24#16 then { r with system := r.system.raise .replyReady } else r
    (t.port port).counters = Counters.zero ∧ (t.port port).mask = mask ∧ ∀ k, (t.port port).flags.getLsbD k = true ↔
      (k = 9 ∧ tape ∨ k = 10 ∧ port = .system ∧ ticket.port = .system) ∧ mask.getLsbD k = false := by
  intro t
  by_cases system : port = .system ∧ ticket.port = .system
  · obtain ⟨rfl, own⟩ := system
    have raised : t.port .system = (r.port .system).raise .replyReady := congrArg (Reports.port · .system) (if_pos ⟨own, other⟩)
    rw [raised]
    refine ⟨counters, kept, fun k => (PortReport.getLsbD_raise ..).trans ?_⟩
    rw [flags, kept]
    simp only [Flag.index, own, and_true]
    tauto
  · have same : t.port port = r.port port := by
      unfold t
      split
      · next own =>
        cases port
        · exact absurd ⟨rfl, own.1⟩ system
        · rfl
      · rfl
    rw [same]
    refine ⟨counters, kept, fun k => (flags k).trans ?_⟩
    tauto

theorem resetAndReply_sentDownstream (ticket : Ticket) (scope : Nat) (s : State) :
    (resetAndReply ticket scope s).link.sentDownstream = s.link.sentDownstream := by
  unfold resetAndReply
  rw [softReset_eq, placeReply_eq]

/-- A soft reset, with the DONE reply, from a state `u` that differs from `s` in its ports and counters alone. -/
theorem resetAndReply_to {s u : State} (ticket : Ticket) (scope : Nat)
    (same : u = { s with reports := u.reports, system := u.system, link := u.link }) (logs : u.reports.logsAs s.reports)
    (masks : ∀ port, (u.reports.port port).mask = (s.reports.port port).mask) (position : u.link.position = s.link.position)
    (ups : ∀ l, (u.line l).up = (s.line l).up) : s.softResetTo ticket scope (resetAndReply ticket scope u) := by
  have cancelled := cancelledReports_logsAs same logs .motion
  have logged := resetReports_logsAs ticket.port.origin scope u
  have ports := resetReports_port ticket.port.origin scope u
  unfold resetAndReply
  rw [softReset_eq, resetSequencer_eq, placeReply_eq]
  generalize u.resetReports ticket.port.origin scope = reports at logged ports
  generalize u.reports = r, u.system = x, u.link = l at *
  subst same
  refine ⟨reset_slot, rfl, rfl, rfl, rfl, rfl, rfl, ?_, rfl, ?_, ?_, rfl, ?_, rfl, rfl, rfl, rfl, rfl, rfl, rfl, rfl, rfl, rfl, rfl,
    rfl, rfl, rfl, rfl, rfl, rfl, ?_, ?_, rfl, rfl, rfl, ?_, ?_, rfl⟩
  · cases ticket.port <;> rfl
  · have up : l.upstream.up = s.link.upstream.up := ups .upstream
    show [] ++ (if ticket.port = .link ∧ l.upstream.up = true then [packetBytes 0 true ticket.tag (l.position.getD 0) _] else []) = _
    rw [up, show l.position = s.link.position from position]
    rfl
  · exact position
  · rintro (_ | _)
    · exact ⟨ups .upstream, rfl, rfl, rfl⟩
    · exact ⟨ups .downstream, rfl, rfl, rfl⟩
  · intro idle
    exact ⟨if_pos idle, if_pos idle⟩
  · intro running
    exact ⟨if_neg running, if_neg running⟩
  · intro port
    obtain ⟨counters, mask, flags⟩ := ports port
    have kept : (reports.port port).mask = (s.reports.port port).mask := mask.trans (masks port)
    rw [masks port] at flags
    refine repliedReports_port ticket port reports (28#16) (by decide) counters kept flags
  · have was : reports.logsAs ((s.cancelledReports .motion).addEntry .reset none ticket.port.origin scope) :=
      logged.trans (cancelled.addEntry ..)
    obtain ⟨log, next⟩ := was
    dsimp only
    split
    · exact ⟨log, next⟩
    · exact ⟨log, next⟩

end
end Sys2Proof.Machine

namespace Sys2Proof.Proofs

open Sys2Proof.Machine

/-- Settles O4, by scope and by the state of the downstream line. -/
theorem resetPartRequest : Obligations.ResetPartRequest := by
  intro port ticket body s hs scope
  obtain ⟨head, kind⟩ := hs
  have run : exec (.resetPart port) s = .next (match (argWord body 1).toNat with
      | 0 => resetAndReply ticket 0 (popRequest port s)
      | 1 =>
        if (popRequest port s).link.downstream.up then
          { popRequest port s with link := { (popRequest port s).link with chainReset := some ticket } }
        else resetAndReply ticket 1 (popRequest port s)
      | _ => placeReply ticket (replyBody 28#16 .badValue []) (popRequest port s)) := by
    refine congrArg Host.Outcome.next ?_
    unfold serveReset
    rw [head]
    exact if_pos kind
  have lines (l : Line) : (popRequest port s).line l = s.line l := by cases port <;> cases l <;> rfl
  have down : (popRequest port s).link.downstream = s.link.downstream := lines .downstream
  have resets (k : Nat) : s.softResetTo ticket k (resetAndReply ticket k (popRequest port s)) := by
    refine resetAndReply_to ticket k ?_ ?_ (fun p => ?_) ?_ fun l => by rw [lines]
    · cases port <;> rfl
    · rw [popRequest_reports]; exact ⟨rfl, rfl⟩
    · rw [popRequest_reports]
    · cases port <;> rfl
  have named : (argWord body 1).toNat = scope := rfl
  clear_value scope
  rw [named] at run
  refine ⟨fun h => ?_, fun h => ?_, fun h up => ?_⟩
  · rcases h with rfl | ⟨rfl, isDown⟩
    · exact ⟨_, run, resets 0⟩
    · refine ⟨_, run.trans (congrArg Host.Outcome.next (if_neg ?_)), resets 1⟩
      rw [down, isDown]
      decide
  · refine run.trans ?_
    split
    · omega
    · omega
    · rfl
  · subst h
    exact run.trans (congrArg Host.Outcome.next (if_pos (by rw [down]; exact up)))

/-- Settles O33: the head of the upstream queue by the line and its partner, and the chain reset by the downstream line. -/
theorem sendingOnTheLines : Obligations.SendingOnTheLines := by
  intro s
  have transmit (ready : Bool) {p : List Byte} {rest : List (List Byte)} (queue : s.link.upstreamQueue = p :: rest) :
      exec (.upstreamTransmit ready) s = .next (if s.link.upstream.up = true ∧ ready = true then
        { s with link := { s.link with upstreamQueue := rest, sentUpstream := p } } else s) := by
    refine congrArg Host.Outcome.next ?_
    rw [queue]
  have forward (ready : Bool) {ticket : Ticket} (waits : s.link.chainReset = some ticket) :
      exec (.chainResetForward ready) s = .next (if s.link.downstream.up = true ∧ ready = true then
        resetAndReply ticket 1 { s with link := { s.link with sentDownstream := packetBytes 0 false ticket.tag 0 [28#16, 1#16] } }
      else s) := by
    refine congrArg Host.Outcome.next ?_
    rw [waits]
  refine ⟨fun p rest queue => ⟨fun up => ?_, fun ready waits => ?_⟩, fun ready empty => ?_, fun ready none => ?_,
    fun ticket waits => ⟨?_, fun down => ?_, fun up => ⟨⟨_, (forward true waits).trans (congrArg _ (if_pos ⟨up, rfl⟩)), ?_, ?_⟩, ?_⟩⟩⟩
  · exact (transmit true queue).trans (congrArg _ (if_pos ⟨up, rfl⟩))
  · refine (transmit ready queue).trans (congrArg _ (if_neg ?_))
    rintro ⟨up, isReady⟩
    rcases waits with down | busy
    · rw [up] at down; cases down
    · rw [isReady] at busy; cases busy
  · refine congrArg Host.Outcome.next ?_
    rw [empty]
  · refine congrArg Host.Outcome.next ?_
    rw [none]
  · exact (forward false waits).trans (congrArg _ (if_neg fun h => by cases h.2))
  · exact (forward true waits).trans (congrArg _ (if_neg fun h => by rw [down] at h; cases h.1))
  · exact resetAndReply_sentDownstream ..
  · exact resetAndReply_to ticket 1 rfl ⟨rfl, rfl⟩ (fun _ => rfl) rfl fun l => by cases l <;> rfl
  · have passed (t : State) (held : t.link.chainReset = some ticket) : passChainReset .downstream t = resetAndReply ticket 1 t := by
      unfold passChainReset
      rw [held]
    by_cases placed : s.link.downstream.reception = .placed
    · refine ⟨_, (lineDown_placed (l := .downstream) up placed).trans (congrArg _ (passed _ waits)),
        resetAndReply_sentDownstream .., resetAndReply_to ticket 1 rfl ⟨rfl, rfl⟩ (fun port => ?_) rfl fun l => ?_⟩
      · cases port <;> rfl
      · cases l <;> rfl
    · refine ⟨_, (lineDown_whole (l := .downstream) up placed).trans (congrArg _ (passed _ waits)),
        resetAndReply_sentDownstream .., resetAndReply_to ticket 1 rfl ⟨rfl, rfl⟩ (fun _ => rfl) rfl fun l => ?_⟩
      cases l <;> rfl

end Sys2Proof.Proofs
end

section
/-! The arithmetic of gains (R85, R86, R147). Settles O50. -/

namespace Sys2Proof.Machine

/-- The share `g` of `n` of a difference `d`, rounded by `h`, lies between nothing and the whole. -/
theorem share_between {d g h n : Int} (least : 0 ≤ g) (most : g ≤ n) (up : 0 ≤ h) (below : h < n) :
    min 0 d ≤ (d * g + h) / n ∧ (d * g + h) / n ≤ max 0 d := by
  have positive : 0 < n := lt_of_le_of_lt up below
  rcases le_total 0 d with rises | falls
  · rw [min_eq_left rises, max_eq_right rises]
    have part : d * g ≤ d * n := mul_le_mul_of_nonneg_left most rises
    refine ⟨Int.ediv_nonneg (add_nonneg (mul_nonneg rises least) up) positive.le, ?_⟩
    refine Int.lt_add_one_iff.1 (Int.ediv_lt_of_lt_mul positive ?_)
    rw [add_mul, one_mul]
    exact add_lt_add_of_le_of_lt part below
  · rw [min_eq_right falls, max_eq_left falls]
    have part : d * n ≤ d * g := mul_le_mul_of_nonpos_left most falls
    refine ⟨Int.le_ediv_of_mul_le positive (by linarith), Int.lt_add_one_iff.1 (Int.ediv_lt_of_lt_mul positive ?_)⟩
    have : d * g ≤ 0 := mul_nonpos_of_nonpos_of_nonneg falls least
    linarith

theorem share_from {a b x : Int} (h : min 0 (b - a) ≤ x ∧ x ≤ max 0 (b - a)) : min a b ≤ a + x ∧ a + x ≤ max a b := by
  omega

theorem mixSample_eq (g : Nat) (new old : Int) : mixSample g new old = old + ((new - old) * g + 512) / 1024 := by
  unfold mixSample
  rw [show new * (g : Int) + old * (1024 - g) + 512 = (new - old) * g + 512 + old * 1024 by ring,
    Int.add_mul_ediv_right _ _ (by decide), add_comm]

end Sys2Proof.Machine

namespace Sys2Proof.Proofs

open Sys2Proof.Machine

/-- Settles O50: each value is a share of a difference, which lies between nothing and the whole. -/
theorem gainsStayBetween : Obligations.GainsStayBetween := by
  refine ⟨fun a b length i least most => ?_, fun v g least most => ?_, fun v => ⟨?_, ?_⟩, fun g new old most => ?_,
    fun new old => ⟨?_, ?_⟩⟩
  · exact share_from (share_between (by omega) (by omega) (by omega) (by omega))
  · rw [min_comm, max_comm]
    exact share_between least most (by decide) (by decide)
  · show (v * 1024 + 512) / 1024 = v
    omega
  · show (v * 0 + 512) / 1024 = 0
    omega
  · rw [mixSample_eq, min_comm, max_comm]
    exact share_from (share_between (by omega) (by omega) (by decide) (by decide))
  · show (new * 1024 + old * (1024 - 1024) + 512) / 1024 = new
    omega
  · show (new * 0 + old * (1024 - 0) + 512) / 1024 = old
    omega

end Sys2Proof.Proofs
end

section
/-! Blocks, parity and whole frames written and read back (R3 to R16, R68 to R70, R193). Settles O52, O53 and O54. -/

namespace Sys2Proof.Machine

/-! ### A block and its 101 bytes (R5 to R7) -/

section
variable {track : Track} {position tag : Nat} {payload : List Byte}

theorem bytesOfWords_one (w : Word) : bytesOfWords [w] = [byteOf (w.toNat / 256), byteOf w.toNat] := by
  rw [bytesOfWords_eq_flatMap]
  rfl

theorem makeBlock_bytes : (makeBlock track position tag payload).bytes =
    byteOf position :: byteOf track.code :: byteOf tag ::
      (payload ++ bytesOfWords [(makeBlock track position tag payload).check]) := rfl

theorem blockOfBytes_makeBlock (whole : payload.length = 96) : blockOfBytes (makeBlock track position tag payload).bytes =
    some (makeBlock track position tag payload) := blockOfBytes_bytes whole

theorem makeBlock_position (below : position < 256) : (makeBlock track position tag payload).position.toNat = position := by
  show (byteOf position).toNat = position
  rw [toNat_byteOf, Nat.mod_eq_of_lt below]

theorem makeBlock_tag (below : tag < 256) : (makeBlock track position tag payload).tag.toNat = tag := by
  show (byteOf tag).toNat = tag
  rw [toNat_byteOf, Nat.mod_eq_of_lt below]

theorem makeBlock_trackOf : (makeBlock track position tag payload).trackOf = track := by
  cases track <;> rfl

theorem makeBlock_good (most : position ≤ 75) : (makeBlock track position tag payload).good = true := by
  have places : decide ((makeBlock track position tag payload).position.toNat ≤ 75) = true := by
    rw [makeBlock_position (by omega)]
    exact decide_eq_true most
  have tracks : decide ((makeBlock track position tag payload).track.toNat ≤ 1) = true := by cases track <;> rfl
  have check : checkWord (makeBlock track position tag payload).covered = (makeBlock track position tag payload).check := by
    unfold makeBlock TapeBlock.covered
    dsimp only
  unfold TapeBlock.good
  rw [check, places, tracks, BEq.rfl, Bool.and_self, Bool.and_self]

end

/-! ### Places of the blocks of a frame (R3, R4) -/

theorem groupOfPosition_blockPosition {j g t : Nat} (group : g ≤ 7) {f : Nat} (same : f % 8 = t % 8) :
    groupOfPosition (blockPosition j g f) t = g := by
  unfold groupOfPosition blockPosition
  omega

/-! ### Subcode records (R14 to R16) -/

theorem subcodePayload_length (r : Subcode) : (subcodePayload r).length = 96 := rfl

theorem Rate.ofCode_code (r : Rate) : Rate.ofCode (r.code % 256) = some r := by
  cases r <;> rfl

theorem WordLength.ofBits_byte (w : WordLength) : WordLength.ofBits (w.bits % 256) = some w := by
  cases w <;> rfl

theorem CopyField.ofCode_code (c : CopyField) : CopyField.ofCode (c.code % 256) = some c := by
  cases c <;> rfl

/-- A record in range is read back from its payload under the tag of its time. -/
theorem subcodeOf_subcodePayload {r : Subcode} (time : r.time ≤ 359999) (program : r.program ≤ 99)
    (start : r.start = true → 1 ≤ r.program) : subcodeOf (r.time % 256) (subcodePayload r) = some r := by
  have at_ (i : Nat) (below : i < 8) : ((subcodePayload r).getD i 0#8) = (subcodeBytes r).getD i 0#8 := by
    interval_cases i <;> rfl
  have times : ((subcodePayload r).getD 0 0#8).toNat * 65536 + ((subcodePayload r).getD 1 0#8).toNat * 256 +
      ((subcodePayload r).getD 2 0#8).toNat = r.time := bytes24_join (by omega)
  have rates : Rate.ofCode ((subcodePayload r).getD 3 0#8).toNat = some r.rate := Rate.ofCode_code r.rate
  have lengths : WordLength.ofBits ((subcodePayload r).getD 4 0#8).toNat = some r.wordLength := WordLength.ofBits_byte r.wordLength
  have programs : ((subcodePayload r).getD 5 0#8).toNat = r.program := by
    show r.program % 256 = r.program
    omega
  have starts : ((subcodePayload r).getD 6 0#8).getLsbD 0 = r.start := by
    show (byteOf r.start.toNat).getLsbD 0 = r.start
    cases r.start <;> rfl
  have fields : CopyField.ofCode ((subcodePayload r).getD 7 0#8).toNat = some r.copyField := CopyField.ofCode_code r.copyField
  unfold subcodeOf
  simp only [times, rates, lengths, programs, starts, fields]
  exact if_pos ⟨time, program, start, trivial⟩

/-! ### The blocks of a written frame (R54) -/

section
variable {fmt : Format} {pairs : List Pair} {r : Subcode}

/-- The payload at a place of a written frame (R3, R8, R13, R14). -/
def placedPayload (fmt : Format) (pairs : List Pair) (r : Subcode) (track : Track) (p : Nat) : List Byte :=
  if 72 ≤ p then subcodePayload r
  else if p / 8 = 8 then parityPayload fmt pairs track (groupOfPosition p r.time)
  else dataPayload fmt pairs track (groupOfPosition p r.time) (p / 8)

/-- The track of the block at a place of the supply order (R54). -/
def placeTrack (k : Nat) : Track := if k < 76 then .a else .b

theorem frameBlock_eq (k : Nat) : frameBlock fmt pairs r k =
    makeBlock (placeTrack k) (k % 76) (r.time % 256) (placedPayload fmt pairs r (placeTrack k) (k % 76)) := rfl

theorem frameBlock_subcode {k : Nat} (place : 72 ≤ k % 76) (time : r.time ≤ 359999) (program : r.program ≤ 99)
    (start : r.start = true → 1 ≤ r.program) : (frameBlock fmt pairs r k).subcode = some r := by
  have below : k % 76 < 76 := Nat.mod_lt _ (by decide)
  rw [frameBlock_eq]
  unfold TapeBlock.subcode
  rw [makeBlock_good (by omega), makeBlock_position (by omega), makeBlock_tag (Nat.mod_lt _ (by decide)), if_pos ⟨rfl, place⟩]
  show subcodeOf _ (placedPayload ..) = _
  unfold placedPayload
  rw [if_pos place]
  exact subcodeOf_subcodePayload time program start

end

/-! ### Parity (R13, R69) -/

theorem xorPayload_comm (x y : List Byte) : xorPayload x y = xorPayload y x :=
  List.zipWith_comm_of_comm fun a b => BitVec.xor_comm a b

theorem xorPayload_assoc (x y z : List Byte) : xorPayload (xorPayload x y) z = xorPayload x (xorPayload y z) := by
  refine List.ext_getElem (by simp [xorPayload, Nat.min_assoc]) fun i _ _ => ?_
  simp [xorPayload, BitVec.xor_assoc]

theorem xorPayload_length (x y : List Byte) : (xorPayload x y).length = min x.length y.length := List.length_zipWith

/-- A payload added twice is gone. -/
theorem xorPayload_cancel {x y : List Byte} (h : x.length = y.length) : xorPayload y (xorPayload y x) = x := by
  refine List.ext_getElem (by simp [xorPayload, h]) fun i _ _ => ?_
  simp [xorPayload]

/-- In an exclusive-or of payloads one of them may stand last. -/
theorem xorPayloads_middle (before after : List (List Byte)) (x : List Byte) :
    xorPayloads (before ++ x :: after) = xorPayload (xorPayloads (before ++ after)) x := by
  have swap (x y z : List Byte) : xorPayload (xorPayload x y) z = xorPayload (xorPayload x z) y := by
    rw [xorPayload_assoc, xorPayload_comm y z, ← xorPayload_assoc]
  have moved (x : List Byte) (l : List (List Byte)) (y : List Byte) : l.foldl xorPayload (xorPayload y x) =
      xorPayload (l.foldl xorPayload y) x := by
    induction l generalizing y with
    | nil => rfl
    | cons z l ih => rw [List.foldl_cons, swap, ih, List.foldl_cons]
  unfold xorPayloads
  rw [List.foldl_append, List.foldl_cons, moved, List.foldl_append]

theorem xorPayloads_length {l : List (List Byte)} (whole : ∀ x ∈ l, x.length = 96) : (xorPayloads l).length = 96 := by
  have folds (y : List Byte) (hy : y.length = 96) : (l.foldl xorPayload y).length = 96 := by
    induction l generalizing y with
    | nil => exact hy
    | cons x l ih =>
      refine ih (fun z hz => whole z (List.mem_cons_of_mem _ hz)) _ ?_
      rw [xorPayload_length, hy, whole x List.mem_cons_self, Nat.min_self]
  exact folds _ rfl

/-- The payload missing is the exclusive-or of the others and of the parity payload. -/
theorem xorPayloads_missing {before after : List (List Byte)} {x : List Byte} (hx : x.length = 96)
    (whole : ∀ y ∈ before ++ after, y.length = 96) :
    xorPayloads ((before ++ after) ++ [xorPayloads (before ++ x :: after)]) = x := by
  have last (l : List (List Byte)) (y : List Byte) : xorPayloads (l ++ [y]) = xorPayload (xorPayloads l) y := by
    unfold xorPayloads
    rw [List.foldl_append]
    rfl
  rw [last, xorPayloads_middle]
  exact xorPayload_cancel (hx.trans (xorPayloads_length whole).symm)

section
variable {fmt : Format} {pairs : List Pair} {track : Track} {g : Nat}

/-- The pair slots of a group that a data block carries (R8 to R10). -/
def blockSlots (fmt : Format) (g j : Nat) : List Nat :=
  ((List.range fmt.wordLength.pairsPerBlock).map fun i => j * fmt.wordLength.pairsPerBlock + i).filter
    (· < groupPairs fmt.rate.pairs g)

theorem pairBytes_length (w : WordLength) (p : Pair) : (pairBytes w p).length = w.pairBytes := by
  cases w <;> rfl

theorem dataPayload_eq (j : Nat) : dataPayload fmt pairs track g j = padPayload ((blockSlots fmt g j).flatMap fun s =>
    pairBytes fmt.wordLength (pairs.getD (2 * (8 * s + g) + track.code) Pair.zero)) := rfl

theorem slotBytes_length (l : List Nat) (f : Nat → Pair) (w : WordLength) :
    (l.flatMap fun s => pairBytes w (f s)).length = l.length * w.pairBytes := by
  rw [List.length_flatMap, List.map_congr_left fun s _ => pairBytes_length w (f s), List.map_const', List.sum_replicate]
  rfl

theorem dataPayload_length (j : Nat) : (dataPayload fmt pairs track g j).length = 96 := by
  have slots : (blockSlots fmt g j).length ≤ fmt.wordLength.pairsPerBlock :=
    (List.length_filter_le ..).trans_eq (by rw [List.length_map, List.length_range])
  have bytes := slotBytes_length (blockSlots fmt g j) (fun s => pairs.getD (2 * (8 * s + g) + track.code) Pair.zero)
    fmt.wordLength
  rw [dataPayload_eq, padPayload, List.length_append, List.length_replicate, bytes, Config.payloadBytes]
  have : (blockSlots fmt g j).length * fmt.wordLength.pairBytes ≤ 96 := by
    cases length : fmt.wordLength <;> rw [length] at slots <;> simp only [WordLength.pairsPerBlock, WordLength.pairBytes] at slots ⊢ <;> omega
  omega

end
end Sys2Proof.Machine

namespace Sys2Proof.Proofs

open Sys2Proof.Machine

/-- Settles O52: the block, the places, and the subcode record. -/
theorem blocksReadBack : Obligations.BlocksReadBack := by
  refine ⟨fun track position tag payload most below whole => ?_, fun j g f data group => ?_,
    fun fmt pairs r k _ place time program start => ?_⟩
  · intro b
    refine ⟨?_, blockOfBytes_makeBlock whole, ?_, makeBlock_good most, makeBlock_trackOf, makeBlock_position (by omega),
      makeBlock_tag below, rfl⟩
    · rw [makeBlock_bytes]
      simp only [List.length_cons, List.length_append, bytesOfWords_length, whole, List.length_nil]
    · rw [makeBlock_bytes, bytesOfWords_one]
      rfl
  · have place := groupOfPosition_blockPosition (j := j) group (show f % 8 = f % 256 % 8 by omega)
    unfold blockPosition at place ⊢
    omega
  · have below : k % 76 < 76 := Nat.mod_lt _ (by decide)
    rw [frameBlock_eq, blockOfBytes_makeBlock, Option.bind_some, ← frameBlock_eq]
    · exact frameBlock_subcode place time program start
    · unfold placedPayload
      rw [if_pos place]
      rfl

/-- Settles O53: the data block that is missing is the exclusive-or of what is there. -/
theorem parityRebuilds : Obligations.ParityRebuilds := by
  intro fmt pairs track g bad below
  have data (j : Nat) : (dataPayload fmt pairs track g j).length = 96 := dataPayload_length j
  unfold parityPayload
  generalize dataPayload fmt pairs track g = d at data
  have split : (List.range 8).map d = (List.range bad).map d ++ d bad :: (List.range' (bad + 1) (7 - bad)).map d := by
    interval_cases bad <;> rfl
  have present : ((List.range 9).map fun j => if j = bad then none
      else some (if j = 8 then xorPayloads ((List.range 8).map d) else d j)).filterMap id =
      ((List.range bad).map d ++ (List.range' (bad + 1) (7 - bad)).map d) ++ [xorPayloads ((List.range 8).map d)] := by
    interval_cases bad <;> rfl
  have rebuilt := xorPayloads_missing (before := (List.range bad).map d) (after := (List.range' (bad + 1) (7 - bad)).map d)
    (data bad) fun y hy => by
      rw [← List.map_append] at hy
      obtain ⟨j, -, rfl⟩ := List.mem_map.1 hy
      exact data j
  rw [← split] at rebuilt
  have eight : (((List.range bad).map d ++ (List.range' (bad + 1) (7 - bad)).map d) ++
      [xorPayloads ((List.range 8).map d)]).length = 8 := by
    simp only [List.length_append, List.length_map, List.length_range, List.length_range', List.length_cons, List.length_nil]
    omega
  generalize (List.range bad).map d ++ (List.range' (bad + 1) (7 - bad)).map d ++ [xorPayloads ((List.range 8).map d)] = there
    at present rebuilt eight
  unfold correctGroup
  dsimp only
  rw [present]
  refine (if_pos ⟨?_, ?_⟩).trans (Prod.ext ?_ rfl)
  · rw [rebuilt]
    interval_cases bad <;> rfl
  · rw [eight, List.length_map, List.length_range]
  · interval_cases bad <;> rfl

end Sys2Proof.Proofs
end

section
/-! A whole frame written and read back (R1 to R16, R54, R68 to R70). Settles O54. -/

namespace Sys2Proof.Machine

section
variable {fmt : Format} {pairs : List Pair} {r : Subcode} {track : Track} {g : Nat}

/-! ### What is held of a frame gathered whole (R66) -/

/-- Every block of a written frame, as it is held. -/
def heldWhole (fmt : Format) (pairs : List Pair) (r : Subcode) : List HeldBlock := (List.range 152).map fun k =>
  ⟨(frameBlock fmt pairs r k).trackOf, (frameBlock fmt pairs r k).position.toNat, (frameBlock fmt pairs r k).payload⟩

theorem heldWhole_eq : heldWhole fmt pairs r = (List.range 152).map fun k =>
    ⟨placeTrack k, k % 76, placedPayload fmt pairs r (placeTrack k) (k % 76)⟩ := by
  refine List.map_congr_left fun k _ => ?_
  have below : k % 76 < 76 := Nat.mod_lt _ (by decide)
  rw [frameBlock_eq, makeBlock_trackOf, makeBlock_position (by omega)]
  rfl

/-- Each place of a frame gathered whole holds what was written there. -/
theorem heldPayload_whole {p : Nat} (below : p < 76) : heldPayload (heldWhole fmt pairs r) track p =
    some (placedPayload fmt pairs r track p) := by
  have place : placeTrack (track.code * 76 + p) = track ∧ (track.code * 76 + p) % 76 = p := by
    cases track
    · exact ⟨if_pos (show 0 * 76 + p < 76 by omega), show (0 * 76 + p) % 76 = p by omega⟩
    · exact ⟨if_neg (show ¬ 1 * 76 + p < 76 by omega), show (1 * 76 + p) % 76 = p by omega⟩
  have first (j : Nat) (before : j < track.code * 76 + p) : ¬ (placeTrack j = track ∧ j % 76 = p) := by
    rintro ⟨same, named⟩
    cases track
    · replace before : j < 0 * 76 + p := before
      omega
    · replace before : j < 1 * 76 + p := before
      have late : ¬ j < 76 := fun early => by
        rw [placeTrack, if_pos early] at same
        cases same
      omega
  have inside : track.code * 76 + p < 152 := by
    cases track
    · show 0 * 76 + p < 152
      omega
    · show 1 * 76 + p < 152
      omega
  have found : (List.range 152).find? ((fun h : HeldBlock => decide (h.track = track ∧ h.position = p)) ∘ fun k =>
      ⟨placeTrack k, k % 76, placedPayload fmt pairs r (placeTrack k) (k % 76)⟩) = some (track.code * 76 + p) := by
    rw [List.find?_range_eq_some]
    exact ⟨decide_eq_true place, List.mem_range.2 inside, fun j before => by
      show (!decide _) = true
      rw [Bool.not_eq_true', decide_eq_false_iff_not]
      exact first j before⟩
  rw [heldPayload, heldWhole_eq, List.find?_map, found]
  show some (placedPayload ..) = _
  rw [place.1, place.2]

/-- The groups of a frame gathered whole hold their data blocks and parity (R69). -/
theorem groupPayloads_whole (group : g ≤ 7) : groupPayloads (r.time % 256) (heldWhole fmt pairs r) track g =
    (List.range 9).map fun j => some (if j = 8 then parityPayload fmt pairs track g else dataPayload fmt pairs track g j) := by
  refine List.map_congr_left fun j hj => ?_
  have most : j < 9 := List.mem_range.1 hj
  have named := groupOfPosition_blockPosition (j := j) (f := r.time % 256) (t := r.time) group (by omega)
  have position : blockPosition j g (r.time % 256) < 72 ∧ blockPosition j g (r.time % 256) / 8 = j := by
    unfold blockPosition
    omega
  obtain ⟨main, place⟩ := position
  rw [heldPayload_whole (by omega), placedPayload, if_neg (by omega), named, place]

/-- A group without a bad block is its data blocks, all good (R69). -/
theorem correctGroup_whole (d : Nat → List Byte) (parity : List Byte) :
    correctGroup ((List.range 9).map fun j => some (if j = 8 then parity else d j)) =
      ((List.range 8).map fun j => some (d j), ⟨9, 0, 0⟩) := rfl

theorem correctedGroups_whole : correctedGroups (r.time % 256) (heldWhole fmt pairs r) =
    [Track.a, Track.b].flatMap fun track => (List.range 8).map fun g =>
      ((List.range 8).map fun j => some (dataPayload fmt pairs track g j), ⟨9, 0, 0⟩) := by
  have groups (track : Track) : ((List.range 8).map fun g =>
      correctGroup (groupPayloads (r.time % 256) (heldWhole fmt pairs r) track g)) = (List.range 8).map fun g =>
        ((List.range 8).map fun j => some (dataPayload fmt pairs track g j), ⟨9, 0, 0⟩) := List.map_congr_left fun g hg => by
    have most : g < 8 := List.mem_range.1 hg
    rw [groupPayloads_whole (by omega), correctGroup_whole]
  exact congrArg (List.flatMap · [Track.a, Track.b]) (funext groups)

/-! ### The subcode and the tally (R68, R69) -/

theorem heldPayload_copy {p : Nat} (copy : 72 ≤ p) (below : p < 76) : heldPayload (heldWhole fmt pairs r) track p =
    some (subcodePayload r) := by
  rw [heldPayload_whole below, placedPayload, if_pos copy]

theorem selectSubcode_whole (time : r.time ≤ 359999) (program : r.program ≤ 99) (start : r.start = true → 1 ≤ r.program) :
    selectSubcode (r.time % 256) (heldWhole fmt pairs r) = some r := by
  have first : (heldPayload (heldWhole fmt pairs r) .a 72).bind (subcodeOf (r.time % 256)) = some r := by
    rw [heldPayload_copy (by decide) (by decide), Option.bind_some, subcodeOf_subcodePayload time program start]
  unfold selectSubcode subcodePlaces
  rw [List.findSome?_cons]
  simp only [first]

theorem frameTally_whole : frameTally (r.time % 256) (heldWhole fmt pairs r) = ⟨152, 0, 0⟩ := by
  have copies : (subcodePlaces.filter fun (track, p) => (heldPayload (heldWhole fmt pairs r) track p).isSome).length = 8 := by
    rw [List.filter_eq_self.2]
    · rfl
    · rintro ⟨track, p⟩ hp
      have copy : 72 ≤ p ∧ p < 76 := by
        unfold subcodePlaces at hp
        simp only [List.mem_cons, Prod.mk.injEq, List.not_mem_nil, or_false] at hp
        omega
      show (heldPayload (heldWhole fmt pairs r) track p).isSome = true
      rw [heldPayload_copy copy.1 copy.2]
      rfl
  unfold frameTally
  rw [correctedGroups_whole, copies]
  rfl

/-! ### The pairs (R8 to R12, R70) -/

/-- A pair slot of a group stands in its data block at its place, after the slots before it (R8). -/
theorem blockSlots_split {s : Nat} (inside : s < groupPairs fmt.rate.pairs g) : ∃ before after,
    blockSlots fmt g (s / fmt.wordLength.pairsPerBlock) = before ++ s :: after ∧
      before.length = s % fmt.wordLength.pairsPerBlock := by
  have positive : 0 < fmt.wordLength.pairsPerBlock := by cases fmt.wordLength <;> decide
  unfold blockSlots
  generalize fmt.wordLength.pairsPerBlock = n at positive
  have below : s % n < n := Nat.mod_lt _ positive
  have whole : s / n * n + s % n = s := Nat.div_add_mod' s n
  obtain ⟨m, rest⟩ : ∃ m, n - s % n = m + 1 := ⟨n - s % n - 1, by omega⟩
  have range : List.range n = List.range (s % n) ++ (s % n) :: ((List.range m).map Nat.succ).map (s % n + ·) := by
    rw [show List.range n = List.range (s % n + (n - s % n)) by rw [Nat.add_sub_cancel' below.le], List.range_add, rest,
      List.range_succ_eq_map]
    rfl
  rw [range, List.map_append, List.map_cons, List.filter_append, whole, List.filter_cons_of_pos (by simpa using inside)]
  refine ⟨_, _, rfl, ?_⟩
  rw [List.filter_eq_self.2, List.length_map, List.length_range]
  intro x hx
  obtain ⟨k, hk, rfl⟩ := List.mem_map.1 hx
  have := List.mem_range.1 hk
  simp only [decide_eq_true_eq]
  omega

theorem sampleOfBytes_append (w : WordLength) (v : Sample) (rest : List Byte) :
    sampleOfBytes w (sampleBytes w v ++ rest) = sampleOfBytes w (sampleBytes w v) := by
  cases w <;> rfl

theorem drop_sampleBytes (w : WordLength) (v : Sample) (rest : List Byte) :
    (sampleBytes w v ++ rest).drop (w.pairBytes / 2) = rest := by
  cases w <;> rfl

/-- A pair as it is read back: as it was in 24 bits, expanded from its 16 bits in 16 (R12, R19, R20). -/
def pairReadBack (w : WordLength) (p : Pair) : Pair := match w with
  | .w24 => p
  | .w16 => ⟨expand16 (reduce16 p.left), expand16 (reduce16 p.right)⟩

theorem sampleOfBytes_sampleBytes {w : WordLength} {v : Sample} (least : -8388608 ≤ v) (most : v ≤ 8388607) :
    sampleOfBytes w (sampleBytes w v) = match w with
      | .w24 => v
      | .w16 => expand16 (reduce16 v) := by
  cases w
  · exact sampleOfBytes_sampleBytes_w16 least
  · exact sampleOfBytes_sampleBytes_w24 least most

/-- A pair is read back from a payload at the place where its bytes stand. -/
theorem pairOfPayload_at {w : WordLength} {before rest : List Byte} {p : Pair} {offset : Nat} (place : before.length = offset)
    (left : -8388608 ≤ p.left ∧ p.left ≤ 8388607) (right : -8388608 ≤ p.right ∧ p.right ≤ 8388607) :
    pairOfPayload w (before ++ (pairBytes w p ++ rest)) offset = pairReadBack w p := by
  unfold pairOfPayload pairBytes
  rw [List.drop_left' place, List.append_assoc]
  dsimp only
  rw [sampleOfBytes_append, drop_sampleBytes, sampleOfBytes_append, sampleOfBytes_sampleBytes left.1 left.2,
    sampleOfBytes_sampleBytes right.1 right.2]
  cases w <;> rfl

theorem pairOfPayload_data {s : Nat} (inside : s < groupPairs fmt.rate.pairs g) {p : Pair}
    (named : pairs.getD (2 * (8 * s + g) + track.code) Pair.zero = p)
    (left : -8388608 ≤ p.left ∧ p.left ≤ 8388607) (right : -8388608 ≤ p.right ∧ p.right ≤ 8388607) :
    pairOfPayload fmt.wordLength (dataPayload fmt pairs track g (s / fmt.wordLength.pairsPerBlock))
      (s % fmt.wordLength.pairsPerBlock * fmt.wordLength.pairBytes) = pairReadBack fmt.wordLength p := by
  obtain ⟨before, after, split, place⟩ := blockSlots_split inside
  rw [dataPayload_eq, padPayload, split, List.flatMap_append, List.flatMap_cons, named, List.append_assoc, List.append_assoc]
  exact pairOfPayload_at (by rw [slotBytes_length, place]) left right

/-- Pair `n` of a frame gathered whole (R9, R70). -/
theorem framePair_whole {n : Nat} (below : n < fmt.rate.pairs) {p : Pair} (named : pairs.getD n Pair.zero = p)
    (left : -8388608 ≤ p.left ∧ p.left ≤ 8388607) (right : -8388608 ≤ p.right ∧ p.right ≤ 8388607) :
    framePair fmt.wordLength (correctedGroups (r.time % 256) (heldWhole fmt pairs r)) n = (pairReadBack fmt.wordLength p, true) := by
  obtain ⟨track, code⟩ : ∃ track : Track, track.code = n % 2 := by
    rcases Nat.mod_two_eq_zero_or_one n with even | odd
    · exact ⟨.a, even.symm⟩
    · exact ⟨.b, odd.symm⟩
  have even : fmt.rate.pairs % 2 = 0 := by cases fmt.rate <;> decide
  have most : fmt.rate.pairs ≤ 1920 := by cases fmt.rate <;> decide
  have inside : n / 2 / 8 < groupPairs fmt.rate.pairs (n / 2 % 8) := by
    unfold groupPairs
    omega
  have block : n / 2 / 8 / fmt.wordLength.pairsPerBlock < 8 := by
    cases fmt.wordLength <;> simp only [WordLength.pairsPerBlock] <;> omega
  have group : (correctedGroups (r.time % 256) (heldWhole fmt pairs r)).getD (n % 2 * 8 + n / 2 % 8) ([], ⟨0, 0, 0⟩) =
      ((List.range 8).map fun j => some (dataPayload fmt pairs track (n / 2 % 8) j), ⟨9, 0, 0⟩) := by
    rw [correctedGroups_whole, ← code]
    have small : n / 2 % 8 < 8 := Nat.mod_lt _ (by decide)
    generalize n / 2 % 8 = g at small
    cases track <;> interval_cases g <;> rfl
  have data : ((List.range 8).map fun j => some (dataPayload fmt pairs track (n / 2 % 8) j)).getD
      (n / 2 / 8 / fmt.wordLength.pairsPerBlock) none =
        some (dataPayload fmt pairs track (n / 2 % 8) (n / 2 / 8 / fmt.wordLength.pairsPerBlock)) := by
    rw [List.getD_eq_getElem?_getD, List.getElem?_map, List.getElem?_range block]
    rfl
  have index : 2 * (8 * (n / 2 / 8) + n / 2 % 8) + track.code = n := by omega
  unfold framePair
  dsimp only
  rw [group, data]
  show (pairOfPayload .., true) = _
  rw [pairOfPayload_data inside (by rw [index]; exact named) left right]

theorem framePairs_whole (whole : pairs.length = fmt.rate.pairs)
    (ranged : ∀ p ∈ pairs, -8388608 ≤ p.left ∧ p.left ≤ 8388607 ∧ -8388608 ≤ p.right ∧ p.right ≤ 8388607) :
    framePairs fmt (r.time % 256) (heldWhole fmt pairs r) = pairs.map fun p => (pairReadBack fmt.wordLength p, true) := by
  unfold framePairs
  refine List.ext_getElem (by simp [whole]) fun n hn _ => ?_
  have below : n < pairs.length := by simpa [whole] using hn
  obtain ⟨leftLeast, leftMost, rightLeast, rightMost⟩ := ranged _ (List.getElem_mem below)
  rw [List.getElem_map, List.getElem_map, List.getElem_range]
  exact framePair_whole (whole ▸ below) (by rw [List.getD_eq_getElem?_getD, List.getElem?_eq_getElem below]; rfl)
    ⟨leftLeast, leftMost⟩ ⟨rightLeast, rightMost⟩

end
end Sys2Proof.Machine

namespace Sys2Proof.Proofs

open Sys2Proof.Machine

/-- Settles O54: each block from its bytes, then the subcode, the tally and the pairs of the frame held whole. -/
theorem frameReadsBack : Obligations.FrameReadsBack := by
  intro fmt pairs r whole time program start ranged tag held
  refine ⟨fun k _ => ?_, selectSubcode_whole time program start, frameTally_whole, ?_⟩
  · refine blockOfBytes_bytes ?_
    show (placedPayload fmt pairs r (placeTrack k) (k % 76)).length = 96
    unfold placedPayload
    split
    · rfl
    · split
      · refine xorPayloads_length fun x hx => ?_
        obtain ⟨j, -, rfl⟩ := List.mem_map.1 hx
        exact dataPayload_length j
      · exact dataPayload_length _
  · exact (framePairs_whole whole ranged).trans rfl

end Sys2Proof.Proofs
end

section
/-! What leaving play speed leaves (R37, R56, R61, R63, R94, R103, R120, R144, R150). -/

namespace Sys2Proof.Machine

section
variable {s t u : State}

/-! ### Off play speed no depth is judged (R38, R39) -/

/-- Off play speed the transport and the trim stay as they are. -/
def Still (s t : State) : Prop := s.transport.state.rolling = false → t.transport = s.transport ∧ t.store.trim = s.store.trim

theorem Still.refl (s : State) : Still s s := fun _ => ⟨rfl, rfl⟩

theorem Still.trans (h : Still s t) (k : Still t u) : Still s u := fun off => by
  obtain ⟨transport, trim⟩ := h off
  obtain ⟨transport', trim'⟩ := k (by rw [transport]; exact off)
  exact ⟨transport'.trans transport, trim'.trans trim⟩

theorem still_withDepths {f : State → State} (h : Still s (f s)) : Still s (withDepths f s) := fun off => by
  have transport := (h off).1
  have state : (f s).transport.state.rolling = false := by rw [transport]; exact off
  have unjudged : ¬ (f s).judgesQ := fun q => by rw [q.1] at state; cases state
  have unrecorded : (f s).transport.state ≠ .record := fun e => by rw [e] at state; cases state
  have same : withDepths f s = f s := by
    unfold withDepths
    simp only [judgeQ_of_not_judgesQ unjudged, judgeW_of_ne_record unrecorded, ite_self]
  rw [same]
  exact h off

theorem still_foldl_freeOne (l : List Nat) (s : State) : Still s (l.foldl freeOne s) := by
  induction l generalizing s with
  | nil => exact .refl s
  | cons i l ih =>
    have one : Still s (freeOne s i) := fun _ => ⟨rfl, rfl⟩
    exact one.trans (ih _)

theorem still_freeSlots (l : List Nat) (s : State) : Still s (freeSlots l s) := still_withDepths (still_foldl_freeOne l s)

theorem still_takeSlot (i : Nat) (s : State) : Still s (takeSlot i s) := by
  unfold takeSlot
  refine Still.trans ?_ (still_freeSlots _ _)
  exact fun _ => ⟨rfl, rfl⟩

theorem still_mixerRun (n : Nat) (s : State) : Still s (mixerRun n s) := by
  induction n generalizing s with
  | zero => exact .refl s
  | succ n ih =>
    unfold mixerRun
    split
    · exact .refl s
    · dsimp only
      split
      · exact (still_takeSlot _ s).trans (ih _)
      · exact .refl s

theorem still_spanChanged (s : State) : Still s (spanChanged s) := by
  have roles : Still s (setRoles s) := still_withDepths fun _ => ⟨rfl, rfl⟩
  unfold spanChanged
  dsimp only
  have freed := roles.trans (still_freeSlots ((setRoles s).slotsWhere (setRoles s).outsideSpan) (setRoles s))
  generalize freeSlots ((setRoles s).slotsWhere (setRoles s).outsideSpan) (setRoles s) = u at freed
  refine freed.trans (.trans ?_ (still_mixerRun Config.slotCount _))
  split
  · exact fun _ => ⟨rfl, rfl⟩
  · exact .refl u

theorem still_cancelPunch (reason : CancelReason) (s : State) : Still s (cancelPunch reason s) := by
  by_cases h : s.mixer.punchIn = none ∨ s.mixer.taken = true
  · rw [cancelPunch_same reason h]
    exact .refl s
  · obtain ⟨scheduled, taken⟩ := not_or.1 h
    obtain ⟨p, punch⟩ := Option.ne_none_iff_exists'.1 scheduled
    obtain ⟨x, handed⟩ := handOffIf_eq s.listPunch (.punchFailed reason)
      (logEntry .punchCancelled s.timeNow p.origin reason.code (spanChanged (clearPunches s)))
    rw [cancelPunch_eq reason punch (by simpa using taken), handed]
    have spans := still_spanChanged (clearPunches s)
    generalize spanChanged (clearPunches s) = w at spans
    exact spans

/-! ### The slots that stay (R37) -/

/-- A slot that leaving play speed leaves as it is: FREE, waiting to be played, or being played. -/
def Slot.stays (v : Slot) : Prop := v.state = .free ∨ (v.state = .concealed ∧ v.role ≠ some .old) ∨ v.state = .playing

/-- The slots that leaving play speed frees (R37). -/
def Slot.leaves (v : Slot) : Bool :=
  v.state == .gathering || v.state == .corrected || v.state == .capturing || v.state == .captured ||
  v.state == .mixed || v.state == .writing || v.oldConcealed

theorem Slot.stays_of_not_leaves {v : Slot} (h : v.leaves = false) : v.stays := by
  unfold Slot.leaves Slot.oldConcealed at h
  unfold Slot.stays
  cases state : v.state <;> simp_all

theorem stays_freed : Slot.freed.stays := .inl rfl

/-- Freeing the slots that leave leaves those that stay. -/
theorem freeSlots_stays (sized : s.store.slots.length = 16) (i : Nat) : ((freeSlots (s.slotsWhere Slot.leaves) s).slot i).stays := by
  rw [(freeSlots_frees _ s).slot]
  split
  · exact stays_freed
  · next kept =>
    by_cases inside : i < 16
    · refine Slot.stays_of_not_leaves ?_
      by_contra leaves
      exact kept (List.mem_filter.2 ⟨List.mem_range.2 inside, by simpa using leaves⟩)
    · rw [State.slot, List.getD_eq_default _ _ (by omega)]
      exact stays_freed

/-- The roles set again are those that R23 calls for. -/
theorem slot_setRoles (s : State) (k : Nat) : (setRoles s).slot k =
    if (s.slot k).rolesAgain then { s.slot k with role := some (s.roleFor ((s.slot k).frameTime.getD 0)) } else s.slot k := by
  obtain ⟨trim, demand, roles⟩ := withDepths_trimmed (fun t => { t with store := { t.store with
    slots := t.store.slots.map fun v => if v.rolesAgain then { v with role := some (t.roleFor (v.frameTime.getD 0)) } else v } }) s
  have same : setRoles s = _ := roles
  rw [same]
  exact slot_map (s := s) (f := fun v => if v.rolesAgain then { v with role := some (s.roleFor (v.frameTime.getD 0)) } else v)
    rfl rfl k

/-- Without punches no slot is OLD, and slots that stay go on to stay. -/
theorem spanChanged_stays (punch : s.mixer.punchIn = none) (stays : ∀ i, (s.slot i).stays) (i : Nat) :
    ((spanChanged s).slot i).stays := by
  have roles (k : Nat) : ((setRoles s).slot k).stays := by
    have role : s.roleFor ((s.slot k).frameTime.getD 0) = .play := by simp [State.roleFor, State.inSpan, punch]
    rw [slot_setRoles, role]
    split
    · rcases stays k with free | waits | playing
      · exact .inl free
      · exact .inr (.inl ⟨waits.1, fun h => by cases h⟩)
      · exact .inr (.inr playing)
    · exact stays k
  have freed (k : Nat) : ((freeSlots ((setRoles s).slotsWhere (setRoles s).outsideSpan) (setRoles s)).slot k).stays := by
    rw [(freeSlots_frees _ _).slot]
    split
    · exact stays_freed
    · exact roles k
  have judged (u : State) (h : ∀ k, (u.slot k).stays) : mixerJudge u = u := by
    unfold mixerJudge Config.slotCount mixerRun
    split
    · rfl
    · next k _ _ =>
      refine if_neg fun takes => ?_
      rcases h k with free | waits | playing
      · rw [takes.1] at free; cases free
      · rw [takes.1] at waits; cases waits.1
      · rw [takes.1] at playing; cases playing
  unfold spanChanged
  dsimp only
  generalize freeSlots ((setRoles s).slotsWhere (setRoles s).outsideSpan) (setRoles s) = u at freed
  split
  · rw [judged { u with copy := { u.copy with latched := false } } freed]
    exact freed i
  · rw [judged u freed]
    exact freed i

theorem cancelPunch_stays (reason : CancelReason) (stays : ∀ i, (s.slot i).stays) (i : Nat) :
    ((cancelPunch reason s).slot i).stays := by
  by_cases h : s.mixer.punchIn = none ∨ s.mixer.taken = true
  · rw [cancelPunch_same reason h]
    exact stays i
  · obtain ⟨scheduled, taken⟩ := not_or.1 h
    obtain ⟨p, punch⟩ := Option.ne_none_iff_exists'.1 scheduled
    obtain ⟨x, handed⟩ := handOffIf_eq s.listPunch (.punchFailed reason)
      (logEntry .punchCancelled s.timeNow p.origin reason.code (spanChanged (clearPunches s)))
    rw [cancelPunch_eq reason punch (by simpa using taken), handed]
    have span := spanChanged_stays (s := clearPunches s) rfl stays i
    generalize spanChanged (clearPunches s) = w at span
    exact span

/-! ### Leaving play speed -/

theorem leaveRolling_eq (s : State) : leaveRolling s =
    { cancelPunch .motion (freeSlots (s.slotsWhere Slot.leaves) s) with
      decoder := { (cancelPunch .motion (freeSlots (s.slotsWhere Slot.leaves) s)).decoder with
        gathering := false, current := none, next := none, closedLast := false }
      coder := { (cancelPunch .motion (freeSlots (s.slotsWhere Slot.leaves) s)).coder with verify := [], current := none }
      copy := { (cancelPunch .motion (freeSlots (s.slotsWhere Slot.leaves) s)).copy with latched := false } } := by
  have slots : (fun v : Slot => v.state == .gathering || v.state == .corrected || v.state == .capturing || v.state == .captured ||
      v.state == .mixed || v.state == .writing || v.oldConcealed) = Slot.leaves := rfl
  unfold leaveRolling
  rw [slots]

/-- What leaving play speed leaves of a state that is off it already and has the gate closed: all but the slots written out. -/
structure Left (s t : State) : Prop where
  stays : ∀ i, (t.slot i).stays
  trim : t.store.trim = s.store.trim
  transport : t.transport = s.transport
  coder : t.coder = { s.coder with verify := [], current := none }
  decoder : t.decoder = { s.decoder with gathering := false, current := none, next := none, closedLast := false }
  conceal : t.conceal = s.conceal
  output : ∃ playing frame, t.output = { s.output with playing := playing, frame := frame }
  mixer : t.mixer = match s.mixer.punchIn with
    | some _ => { s.mixer with punchIn := none, taken := false, punchOut := none, committed := false, gateOpen := false }
    | none => s.mixer
  sequencer : ∃ h, t.sequencer = { s.sequencer with handoffs := h }
  cues : t.cues = s.cues
  copy : ∃ fields, t.copy = { s.copy with latched := false, inputFields := fields }
  input : t.input = s.input
  banks : t.banks = s.banks
  reports : t.reports = s.cancelledReports .motion
  system : t.system = s.system
  link : t.link = s.link
  pending : t.pending = s.pending

theorem left_leaveRolling (sized : s.store.slots.length = 16) (off : s.transport.state.rolling = false)
    (taken : s.mixer.taken = false) : Left s (leaveRolling s) := by
  have stays := cancelPunch_stays .motion (freeSlots_stays sized)
  have still := ((still_freeSlots (s.slotsWhere Slot.leaves) s).trans (still_cancelPunch .motion _)) off
  have work := (freeSlots_frees (s.slotsWhere Slot.leaves) s).work.eq
  rw [leaveRolling_eq]
  generalize freeSlots (s.slotsWhere Slot.leaves) s = u at stays still work
  obtain ⟨demand, store, current, playing, frame, mixer, handoffs, latched, fields, cancelled⟩ := cancelPunch_leaves .motion u
  have closed : (cancelPunch .motion u).mixer = match s.mixer.punchIn with
      | some _ => { s.mixer with punchIn := none, taken := false, punchOut := none, committed := false, gateOpen := false }
      | none => s.mixer := by
    have mixer : u.mixer = s.mixer := by rw [work]
    rw [← mixer] at taken ⊢
    cases punch : u.mixer.punchIn with
    | none => rw [cancelPunch_same .motion (.inl punch)]
    | some p =>
      rw [cancelPunch_eq .motion punch taken, handOffIf_mixer, logEntry_mixer, spanChanged_mixer]
      rfl
  have reports : u.cancelledReports .motion = s.cancelledReports .motion := by
    rw [work]
    rfl
  rw [reports] at cancelled
  generalize cancelPunch .motion u = w at stays still cancelled closed
  subst cancelled
  exact {
    stays := stays, trim := still.2, transport := still.1, mixer := closed
    coder := by rw [work], decoder := by rw [work], conceal := by rw [work], output := ⟨_, _, by rw [work]⟩
    sequencer := ⟨_, by rw [work]⟩, cues := by rw [work], copy := ⟨_, by rw [work]⟩, input := by rw [work], banks := by rw [work]
    reports := rfl, system := by rw [work], link := by rw [work], pending := by rw [work] }

/-! ### The gate closed at once (R56, R94, R150) -/

/-- What the closing of the gate leaves: the slots and the collections aside, all written out. -/
theorem closeGate_leaves (s : State) : ∃ demand store current playing frame latched inputFields, closeGate s = { s with
    transport := { s.transport with demand := demand }, store := store
    coder := { s.coder with writeOn := false, current := current }
    output := { s.output with cut := s.output.cut || s.monitored, playing := playing, frame := frame }
    mixer := { s.mixer with punchIn := none, taken := false, punchOut := none, committed := false, gateOpen := false }
    copy := { s.copy with latched := latched, inputFields := inputFields } } := by
  have freed := (slotWork_freeSlots (s.slotsWhere fun v => v.state == .writing || v.oldConcealed) s).eq
  unfold closeGate
  dsimp only
  generalize freeSlots (s.slotsWhere fun v => v.state == .writing || v.oldConcealed) s = u at freed
  have span := (slotWork_spanChanged (clearPunches { u with
    coder := { u.coder with writeOn := false, current := none }, output := { u.output with cut := u.output.cut || s.monitored } })).1.eq
  rw [span, freed]
  exact ⟨_, _, _, _, _, _, _, rfl⟩

/-- An event that closes an open gate at once. -/
theorem closeAtOnce_leaves (event : ClosingEvent) (origin : Origin) (gate : s.mixer.gateOpen = true) :
    ∃ demand store current playing frame handoffs latched inputFields, closeAtOnce event origin s = { s with
      transport := { s.transport with demand := demand }, store := store
      coder := { s.coder with writeOn := false, current := current }
      output := { s.output with cut := s.output.cut || s.monitored, playing := playing, frame := frame }
      mixer := { s.mixer with punchIn := none, taken := false, punchOut := none, committed := false, gateOpen := false }
      sequencer := { s.sequencer with handoffs := handoffs }
      copy := { s.copy with latched := latched, inputFields := inputFields }
      reports := (logEntry .punchOut s.timeNow origin event.code (raiseFlag .punchOut s)).reports } := by
  obtain ⟨demand, store, current, playing, frame, latched, inputFields, closed⟩ := closeGate_leaves s
  obtain ⟨h, handed⟩ := handOffIf_eq s.listPunch .closedEarly
    (logEntry .punchOut (raiseFlag .punchOut (closeGate s)).timeNow origin event.code (raiseFlag .punchOut (closeGate s)))
  unfold closeAtOnce
  rw [if_pos gate]
  dsimp only
  rw [handed, closed]
  exact ⟨_, _, _, _, _, _, _, _, rfl⟩

theorem closeAtOnce_slots (event : ClosingEvent) (origin : Origin) (sized : s.store.slots.length = 16) :
    (closeAtOnce event origin s).store.slots.length = 16 := (kept_closeAtOnce event origin s).slots.trans sized

/-! ### A change of state from play speed -/

/-- What a change from play speed to the state `new` leaves, the gate being closed at once by `event` where it stood open. -/
structure Leaving (event : Nat) (origin : Origin) (new : TransportState) (demand : Demand) (s t : State) : Prop where
  leaves : s.leavesPlaySpeed t
  transport : t.transport = (entered new demand s).transport
  decoder : t.decoder = { (entered new demand s).decoder with gathering := false, current := none, next := none, closedLast := false }
  cues : t.cues = (entered new demand s).cues
  sequencer : ∃ h, t.sequencer = { s.sequencer with handoffs := h }
  heldTape : t.copy.heldTape = s.copy.heldTape
  reports : t.reports = (s.leavingLog event origin s).reports
  system : t.system = s.system
  link : t.link = s.link
  pending : t.pending = s.pending

variable {new : TransportState} {demand : Demand}

/-- A scheduled punch-in of PLAY is cancelled, and nothing else is logged. -/
theorem leaving_play (event : Nat) (origin : Origin) (play : s.transport.state = .play) (gate : s.gateAgrees)
    (sized : s.store.slots.length = 16) (off : new.rolling = false) : Leaving event origin new demand s (enterState new demand s) := by
  obtain ⟨opens, takes, -, -⟩ := gate
  have closed : s.mixer.gateOpen = false := by
    rw [Bool.eq_false_iff]
    intro isOpen
    rw [opens.1 isOpen] at play
    cases play
  have taken : s.mixer.taken = false := takes.trans closed
  rw [enterState_leave (by rw [play]; rfl) off]
  have left := left_leaveRolling (s := entered new demand s) sized off taken
  generalize leaveRolling (entered new demand s) = t at left
  obtain ⟨playing, frame, output⟩ := left.output
  obtain ⟨fields, copy⟩ := left.copy
  have notRecord : s.transport.state ≠ .record := by rw [play]; decide
  have mixer : t.mixer.gateOpen = false ∧ t.mixer.punchIn = none ∧ t.mixer.taken = false ∧
      (s.mixer.punchIn.isSome = true → t.mixer.punchOut = none) := by
    rw [left.mixer]
    cases punch : s.mixer.punchIn with
    | none => exact ⟨by simp [entered, punch, closed], by simp [entered, punch], by simp [entered, punch, taken], fun h => by cases h⟩
    | some p => simp [entered, punch]
  obtain ⟨open_, punchIn, takenOf, punchOut⟩ := mixer
  refine ⟨⟨left.trim, left.stays, by rw [left.coder], by rw [left.coder], fun h => absurd h notRecord, open_, punchIn, takenOf,
    punchOut, by rw [copy], ?_, left.banks, left.input, left.conceal⟩, left.transport, left.decoder, left.cues, left.sequencer,
    by rw [copy]; rfl, ?_, left.system, left.link, left.pending⟩
  · rw [output]
    simp [notRecord, entered]
  · rw [left.reports]
    unfold State.leavingLog State.cancelledReports
    rw [if_neg notRecord]
    cases punch : s.mixer.punchIn with
    | none => simp [entered, punch]
    | some p =>
      simp only [entered, punch, taken]
      rfl

/-- From RECORD the gate is closed at once, its end raised and logged. -/
theorem leaving_record (event : ClosingEvent) (origin : Origin) (record : s.transport.state = .record) (gate : s.gateAgrees)
    (sized : s.store.slots.length = 16) (off : new.rolling = false) :
    Leaving event.code origin new demand s (enterState new demand (closeAtOnce event origin s)) := by
  obtain ⟨opens, -, punched, -⟩ := gate
  have isOpen := opens.2 record
  have slots := closeAtOnce_slots event origin sized
  obtain ⟨d, store, current, playing, frame, handoffs, latched, inputFields, closed⟩ := closeAtOnce_leaves event origin isOpen
  have rolling : (closeAtOnce event origin s).transport.state.rolling = true := by
    rw [closed]
    show s.transport.state.rolling = true
    rw [record]
    rfl
  rw [enterState_leave rolling off]
  have left := left_leaveRolling (s := entered new demand (closeAtOnce event origin s)) slots off (by rw [closed]; rfl)
  generalize leaveRolling (entered new demand (closeAtOnce event origin s)) = t at left
  rw [closed] at left
  obtain ⟨playing, frame, output⟩ := left.output
  obtain ⟨fields, copy⟩ := left.copy
  obtain ⟨h, sequencer⟩ := left.sequencer
  have mixer : t.mixer = { s.mixer with punchIn := none, taken := false, punchOut := none, committed := false, gateOpen := false } :=
    left.mixer
  refine ⟨⟨left.trim, left.stays, by rw [left.coder], by rw [left.coder], fun _ => by rw [left.coder]; rfl, by rw [mixer],
    by rw [mixer], by rw [mixer], fun _ => by rw [mixer], by rw [copy], ?_, left.banks, left.input, left.conceal⟩,
    left.transport, left.decoder, left.cues, ⟨h, sequencer⟩, by rw [copy]; rfl, ?_, left.system, left.link, left.pending⟩
  · rw [output]
    show (s.output.cut || s.monitored) = (s.output.cut || (decide (s.transport.state = .record) && _))
    rw [decide_eq_true record, Bool.true_and]
    rfl
  · rw [left.reports]
    unfold State.leavingLog
    rw [if_pos record]
    rfl

/-- A stop or a fault from play speed: the gate is closed at once where it stands open. -/
theorem leaving (event : ClosingEvent) (origin : Origin) (rolls : s.transport.state = .play ∨ s.transport.state = .record)
    (gate : s.gateAgrees) (sized : s.store.slots.length = 16) (off : new.rolling = false) :
    Leaving event.code origin new demand s (enterState new demand (closeAtOnce event origin s)) := by
  rcases rolls with play | record
  · have closed : s.mixer.gateOpen = false := by
      rw [Bool.eq_false_iff]
      intro isOpen
      rw [gate.1.1 isOpen] at play
      cases play
    rw [closeAtOnce_closed closed]
    exact leaving_play event.code origin play gate sized off
  · exact leaving_record event origin record gate sized off

end
end Sys2Proof.Machine
end

section
/-! Requests and reports that stop, wind or hold the tape (R111 to R114, R117 to R124). Settles O8, O12, O43 and O44. -/

namespace Sys2Proof.Machine

section
variable {s t u : State} {ticket : Ticket} {body : List Word} {status : Status}

/-! ### A request that takes the transport out of PLAY -/

theorem leavesPlaySpeed_popRequest (port : Port) : (popRequest port s).leavesPlaySpeed t = s.leavesPlaySpeed t := by
  cases port <;> rfl

theorem gateAgrees_popRequest (port : Port) : (popRequest port s).gateAgrees = s.gateAgrees := by cases port <;> rfl

theorem leavingLog_popRequest (port : Port) (event : Nat) (origin : Origin) (u : State) :
    (popRequest port s).leavingLog event origin u = s.leavingLog event origin u := by cases port <;> rfl

/-- The log of what is left speaks of the reports alone. -/
theorem leavingLog_reports (event : Nat) (origin : Origin) (same : t.reports = u.reports) :
    (s.leavingLog event origin t).reports = (s.leavingLog event origin u).reports := by
  unfold State.leavingLog
  split
  · simp [logEntry, raiseFlag, same]
  · split
    · simp [logEntry, same]
    · exact same

/-- A motion request that ends a locate and takes the transport out of PLAY: with no list running nothing is handed on. -/
theorem exec_motion_leaves {c : Instr} {port : Port} {kind : RequestKind} {judge : Ticket → List Word → State → Judgement}
    {new : TransportState} {demand : Demand} {outcome : LocateOutcome} (f : Transport → Transport)
    (hc : exec c s = .next (serve port kind judge s)) (hs : s.stands port kind ticket body)
    (hj : judge ticket body (popRequest port s) = ({ enterState new demand (endLocate outcome (popRequest port s)) with
      transport := f (enterState new demand (endLocate outcome (popRequest port s))).transport }, status, []))
    (quiet : s.quiet) (idle : s.sequencer.state = .idle) (play : s.transport.state = .play) (gate : s.gateAgrees) (sized : s.sized)
    (off : new.rolling = false) :
    ∃ t, exec c s = .next (answered ticket body status [] t) ∧ s.leavesPlaySpeed t ∧ t.transport = f (entered new demand s).transport ∧
      t.decoder = { (entered new demand s).decoder with gathering := false, current := none, next := none, closedLast := false } ∧
      t.cues = (entered new demand s).cues ∧ t.sequencer = s.sequencer ∧ t.copy.heldTape = s.copy.heldTape ∧
      t.reports = (s.leavingLog 0 .internal s).reports := by
  have none : endLocate outcome (popRequest port s) = popRequest port s :=
    endLocate_none (by rw [popRequest_transport, play]; decide)
  rw [none] at hj
  have left := leaving_play (s := popRequest port s) (new := new) (demand := demand) 0 .internal
    (by rw [popRequest_transport]; exact play) (by rw [gateAgrees_popRequest]; exact gate)
    (by rw [popRequest_store]; exact sized.1) off
  have input : (enterState new demand (popRequest port s)).input = s.input := by
    obtain ⟨-, -, -, -, -, -, -, -, -, -, -, -, input, -⟩ := left.leaves
    exact input.trans (popRequest_input port s)
  obtain ⟨h, sequencer⟩ := left.sequencer
  rw [popRequest_sequencer] at sequencer
  refine ⟨_, exec_judged_idle hc hs hj ?_ ?_, ?_, ?_, ?_, ?_, ?_, ?_, ?_⟩
  · show (enterState new demand (popRequest port s)).sequencer.state = _
    rw [sequencer]
    exact idle
  · show (enterState new demand (popRequest port s)).input.pendingSelect = _
    rw [input]
    exact quiet.2
  · have leaves := left.leaves
    rw [leavesPlaySpeed_popRequest] at leaves
    exact leaves
  · show f (enterState new demand (popRequest port s)).transport = _
    rw [left.transport]
    cases port <;> rfl
  · refine left.decoder.trans ?_
    cases port <;> rfl
  · refine left.cues.trans ?_
    cases port <;> rfl
  · show { (enterState new demand (popRequest port s)).sequencer with handoffs := [] } = _
    rw [sequencer]
    exact quiet.handoffs_nil
  · refine left.heldTape.trans ?_
    cases port <;> rfl
  · refine left.reports.trans ?_
    rw [leavingLog_popRequest]
    exact leavingLog_reports 0 .internal (popRequest_reports port s)

end

/-- A motion request that ends a locate and changes the state off play speed, and something of the transport besides. -/
theorem exec_motion_entered_with {s : State} {ticket : Ticket} {body : List Word} {status : Status} {c : Instr} {port : Port}
    {kind : RequestKind} {judge : Ticket → List Word → State → Judgement}
    {new : TransportState} {demand : Demand} {outcome : LocateOutcome} (f : Transport → Transport)
    (hc : exec c s = .next (serve port kind judge s)) (hs : s.stands port kind ticket body)
    (hj : judge ticket body (popRequest port s) = ({ enterState new demand (endLocate outcome (popRequest port s)) with
      transport := f (enterState new demand (endLocate outcome (popRequest port s))).transport }, status, []))
    (quiet : s.quiet) (idle : s.sequencer.state = .idle) (steady : s.transport.state.rolling = new.rolling) :
    exec c s = .next (answered ticket body status [] { entered new demand ((popRequest port s).locateEnded outcome) with
      transport := f (entered new demand ((popRequest port s).locateEnded outcome)).transport }) := by
  have steadyOf : (popRequest port s).transport.state.rolling = new.rolling := by rw [popRequest_transport]; exact steady
  obtain ⟨state, input⟩ := enterState_endLocate_keeps outcome demand steadyOf
  have same := enterState_endLocate outcome demand (by rw [popRequest_sequencer]; exact quiet.handoffs_nil) steadyOf
  rw [exec_judged_idle hc hs hj (by dsimp only; rw [state, popRequest_sequencer]; exact idle)
    (by dsimp only; rw [input, popRequest_input]; exact quiet.2), ← same]

/-! ### WIND and CUE-HOLD (R118) -/

section
variable {s : State} {ticket : Ticket} {body : List Word} {status : Status}

theorem judgeWind_allowed {port : Port} {direction : Direction} {speed : Speed} (hs : s.stands port .wind ticket body)
    (ha : s.allows port) (word : argWord body 1 = (match direction, speed with
      | .forward, .fast => 0#16
      | .forward, .slow => 1#16
      | .reverse, .fast => 256#16
      | .reverse, .slow => 257#16)) :
    judgeWind ticket body (popRequest port s) = plain (windMotion direction speed (popRequest port s)) := by
  unfold judgeWind
  rw [motion_allowed_popRequest hs ha]
  cases direction <;> cases speed <;> rw [word] <;> rfl

/-- The high and the low byte make up the word. -/
theorem word_of_high_low {w : Word} {h l : Nat} (high : w.high = h) (low : w.low = l) : w.toNat = 256 * h + l := by
  subst high low
  simp only [Word.high, Word.low]
  omega

theorem windMotion_barred {direction : Direction} {speed : Speed} (h : s.transport.state.barred = true) :
    windMotion direction speed s = (s, .state) := if_pos h

theorem windMotion_winds {direction : Direction} {speed : Speed} (h : s.transport.state.barred = false) :
    windMotion direction speed s = (enterState .wind (.wind direction speed) (endLocate .superseded s), .done) :=
  if_neg (by rw [h]; decide)

theorem judgeWind_badValue {port : Port} (hs : s.stands port .wind ticket body) (ha : s.allows port)
    (bad : argWord body 1 ∉ [0#16, 1#16, 256#16, 257#16]) :
    judgeWind ticket body (popRequest port s) = (popRequest port s, .badValue, []) := by
  have apart (w : Word) (known : w ∈ [0#16, 1#16, 256#16, 257#16]) {h l : Nat} (high : (argWord body 1).high = h)
      (low : (argWord body 1).low = l) (value : w.toNat = 256 * h + l) : False :=
    bad (BitVec.eq_of_toNat_eq ((word_of_high_low high low).trans value.symm) ▸ known)
  unfold judgeWind
  rw [motion_allowed_popRequest hs ha]
  dsimp only
  split
  · next high low => exact (apart 0#16 (by simp) high low rfl).elim
  · next high low => exact (apart 1#16 (by simp) high low rfl).elim
  · next high low => exact (apart 256#16 (by simp) high low rfl).elim
  · next high low => exact (apart 257#16 (by simp) high low rfl).elim
  · rfl

theorem cueHoldMotion_holds (h : s.transport.state = .stop ∨ s.transport.state = .play ∨ s.transport.state = .starting ∨
    s.transport.state = .wind ∨ s.transport.state = .locate) : cueHoldMotion s =
    ({ enterState .cued .hold (endLocate .superseded s) with transport :=
      { (enterState .cued .hold (endLocate .superseded s)).transport with holdAwaited := true } }, .accepted) := by
  unfold cueHoldMotion
  rcases h with e | e | e | e | e <;> rw [e]

end
end Sys2Proof.Machine

namespace Sys2Proof.Proofs
open Sys2Proof.Machine

/-- Settles O8. -/
theorem windAndCueHoldRequests : Obligations.WindAndCueHoldRequests := by
  refine ⟨fun port ticket body direction speed s quiet stands allows word => ?_, fun port ticket body s quiet stands allows bad => ?_,
    fun port ticket body s quiet stands allows => ?_⟩
  · have judged := judgeWind_allowed stands allows word
    intro winding
    refine ⟨fun state => ?_, fun play gate sized => ?_, fun barred => ?_⟩
    · have off : s.transport.state.rolling = false := by rcases state with e | e | e | e | e <;> rw [e] <;> rfl
      have free : (popRequest port s).transport.state.barred = false := by
        rw [popRequest_transport]; rcases state with e | e | e | e | e <;> rw [e] <;> rfl
      rw [exec_motion_entered rfl stands (judged.trans (congrArg plain (windMotion_winds free))) quiet allows.idle off]
      refine congrArg (fun u => Host.Outcome.next (answered ticket body .done [] u)) ?_
      simp only [entered, State.locateEnded, popRequest_transport, popRequest_decoder, popRequest_cues, popRequest_store]
      rcases state with e | e | e | e | e <;> simp [winding, e, startRunCleared, TransportState.rolling, TransportState.readMode] <;> rfl
    · have free : (popRequest port s).transport.state.barred = false := by rw [popRequest_transport, play]; rfl
      obtain ⟨t, done, leaves, transport, decoder, cues, rest⟩ := exec_motion_leaves (c := .wind port) id rfl stands
        (judged.trans (congrArg plain (windMotion_winds free))) quiet allows.idle play gate sized rfl
      refine ⟨t, done, leaves, transport.trans ?_, decoder.trans ?_, cues.trans ?_, rest⟩
      · simp [winding, entered, play]
      · simp [entered, play, startRunCleared, TransportState.readMode]
      · simp [entered, TransportState.rolling]
    · have barred : (popRequest port s).transport.state.barred = true := by
        rw [popRequest_transport]; rcases barred with e | e | e <;> rw [e] <;> rfl
      exact exec_judged rfl stands (judged.trans (congrArg plain (windMotion_barred barred))) ((popRequest_quiet port s).2 quiet)
  · exact exec_judged rfl stands (judgeWind_badValue stands allows bad) ((popRequest_quiet port s).2 quiet)
  · have judged : judgeCueHold ticket body (popRequest port s) = plain (cueHoldMotion (popRequest port s)) :=
      motion_allowed_popRequest stands allows _
    intro held
    refine ⟨fun state => ?_, fun play gate sized => ?_, fun cued => ?_, fun barred => ?_⟩
    · have off : s.transport.state.rolling = false := by rcases state with e | e | e | e <;> rw [e] <;> rfl
      have holds := cueHoldMotion_holds (s := popRequest port s) (by
        rw [popRequest_transport]; rcases state with e | e | e | e <;> simp [e])
      rw [exec_motion_entered_with (c := .cueHold port) (fun r => { r with holdAwaited := true }) rfl stands
        (judged.trans (congrArg plain holds)) quiet allows.idle off]
      refine congrArg (fun u => Host.Outcome.next (answered ticket body .accepted [] u)) ?_
      simp only [entered, State.locateEnded, popRequest_transport, popRequest_decoder, popRequest_cues, popRequest_store]
      rcases state with e | e | e | e <;> simp [held, e, startRunCleared, TransportState.rolling, TransportState.readMode] <;> rfl
    · have holds := cueHoldMotion_holds (s := popRequest port s) (by rw [popRequest_transport]; simp [play])
      obtain ⟨t, done, leaves, transport, decoder, cues, rest⟩ := exec_motion_leaves (c := .cueHold port) (fun r => { r with holdAwaited := true }) rfl
        stands (judged.trans (congrArg plain holds)) quiet allows.idle play gate sized rfl
      refine ⟨t, done, leaves, transport.trans ?_, decoder.trans ?_, cues.trans ?_, rest⟩
      · simp [held, entered, play]
      · simp [entered, play, startRunCleared, TransportState.readMode]
      · simp [entered, TransportState.rolling]
    · refine exec_judged rfl stands (judged.trans ?_) ((popRequest_quiet port s).2 quiet)
      unfold cueHoldMotion
      rw [popRequest_transport, cued] <;> rfl
    · refine exec_judged rfl stands (judged.trans ?_) ((popRequest_quiet port s).2 quiet)
      unfold cueHoldMotion
      rw [popRequest_transport]
      rcases barred with e | e | e <;> rw [e] <;> rfl

end Sys2Proof.Proofs
end

section
/-! Reports of the Servo Line and of timers that stop the transport (R111 to R115, R123, R124). Settles O43 and O44. -/

namespace Sys2Proof.Machine

section
variable {s t u : State}

/-! ### The end of a command while no entry in progress heeds a hand-off (R158) -/

/-- No list runs, or its entry in progress waits for the clock alone. -/
def State.heedless (s : State) : Prop := s.sequencer.state = .idle ∨ (s.entry s.sequencer.current).kind = 1 ∨ (s.entry s.sequencer.current).kind = 2

theorem State.heedless.of (h : s.heedless) (state : t.sequencer.state = s.sequencer.state)
    (entries : t.sequencer.entries = s.sequencer.entries) (current : t.sequencer.current = s.sequencer.current) : t.heedless := by
  unfold State.heedless State.entry at *
  rw [state, entries, current]
  exact h

/-- WAIT-TIME and WAIT-FRAMES entries heed no hand-off. -/
theorem endingOf_waits {kind : Nat} (h : kind = 1 ∨ kind = 2) (x : Handoff) : endingOf kind x = none := by
  rcases h with rfl | rfl <;> rfl

/-- Where no entry heeds a hand-off the end of a command discards them all and adds nothing else. -/
theorem settle_heedless (h : s.heedless) (selection : s.input.pendingSelect = none) :
    settle s = { s with sequencer := { s.sequencer with handoffs := [] } } := by
  by_cases idle : s.sequencer.state = .idle
  · exact settle_idle idle selection
  · have waits := h.resolve_left idle
    have same : takeSelection s = s := by unfold takeSelection; rw [selection]
    have kind : s.kindInProgress = some (s.entry s.sequencer.current).kind := if_neg idle
    have unheard : s.sequencer.handoffs.findSome? (endingOf (s.entry s.sequencer.current).kind) = none :=
      List.findSome?_eq_none_iff.2 fun x _ => endingOf_waits waits x
    unfold settle takeHandoffs
    rw [same, kind]
    simp only [unheard]

/-- A change of state under the demand STOP. -/
theorem entered_stop {new : TransportState} (h : new = .stop ∨ new = .empty ∨ new = .fault) (s : State) : entered new .stop s = { s with
    transport := { s.transport with
      state := new, demand := .stop, spinUpRunning := false, recordPending := false, holdAwaited := false, faultRelease := false }
    store := { s.store with trim := .normal }
    decoder := { s.decoder with readMode := .off, lateReads := s.decoder.lateReads && decide (new = .stop) }
    cues := { s.cues with mark := .none } } := by
  have runs : startRunCleared s.transport.state new = false := by
    rcases h with rfl | rfl | rfl <;> cases s.transport.state <;> rfl
  unfold entered
  rw [runs]
  rcases h with rfl | rfl | rfl <;> simp [TransportState.rolling, TransportState.readMode]

/-! ### A halting event (R157, R158) -/

/-- A halting event ends a running list, with its entry in progress SKIPPED. -/
theorem haltList_eq (reason : EndReason) (origin : Origin) (s : State) : haltList reason origin s =
    if s.sequencer.state = .idle then s else logEntry .listEnd s.timeNow origin (reason.code - 1) (raiseFlag .listEnd { s with
      sequencer := { s.sequencer with
        entries := s.sequencer.entries.set s.sequencer.current { s.entry s.sequencer.current with
          outcome := .skipped, seen := s.sequencer.conditions, completion := s.timeNow }
        state := .idle, saved := none, waitRemainder := 0, chainCount := 0, lastEnd := reason } }) := by
  unfold haltList endList
  rw [Nat.zero_mul, Nat.zero_add] <;> rfl

/-- It changes the sequencer and the reports alone, and leaves no list running. -/
theorem haltList_leaves (reason : EndReason) (origin : Origin) (s : State) : ∃ q r, haltList reason origin s =
    { s with sequencer := q, reports := r } ∧ q.state = .idle ∧ q.handoffs = s.sequencer.handoffs := by
  rw [haltList_eq]
  split
  · next idle => exact ⟨s.sequencer, s.reports, rfl, idle, rfl⟩
  · exact ⟨_, _, rfl, rfl, rfl⟩

/-! ### Leaving play speed with a list halted, and records made (R114, R144, R150) -/

/-- What leaves play speed, said of the blocks that a halted list leaves alone. -/
theorem Leaving.halted {event : Nat} {origin : Origin} {new : TransportState} {demand : Demand} {q : Sequencer} {r : Reports}
    (h : Leaving event origin new demand { s with sequencer := q, reports := r } t) :
    s.leavesPlaySpeed t ∧ t.transport = (entered new demand s).transport ∧
      t.decoder = { (entered new demand s).decoder with gathering := false, current := none, next := none, closedLast := false } ∧
      t.cues = (entered new demand s).cues ∧ (∃ h, t.sequencer = { q with handoffs := h }) ∧ t.copy.heldTape = s.copy.heldTape ∧
      t.reports = (s.leavingLog event origin { s with sequencer := q, reports := r }).reports ∧ t.system = s.system ∧ t.link = s.link :=
  ⟨h.leaves, h.transport, h.decoder, h.cues, h.sequencer, h.heldTape, h.reports, h.system, h.link⟩

theorem rolling_of (h : s.transport.state = .play ∨ s.transport.state = .record) : s.transport.state.rolling = true := by
  rcases h with e | e <;> rw [e] <;> rfl

theorem rolling_of_not (h : ¬ (s.transport.state = .play ∨ s.transport.state = .record)) : s.transport.state.rolling = false := by
  rw [not_or] at h
  revert h
  cases s.transport.state <;> simp [TransportState.rolling]

theorem not_locate_of (h : s.transport.state = .play ∨ s.transport.state = .record) : s.transport.state ≠ .locate := by
  rcases h with e | e <;> rw [e] <;> decide

/-- Off RECORD the gate is closed. -/
theorem State.gateAgrees.closed (gate : s.gateAgrees) (h : s.transport.state ≠ .record) : s.mixer.gateOpen = false := by
  obtain ⟨opens, -⟩ := gate
  rw [Bool.eq_false_iff]
  exact fun isOpen => h (opens.1 isOpen)

/-! ### Hand-offs under way -/

/-- `s` with the hand-offs `x` under way. -/
def State.handing (x : List Handoff) (s : State) : State := { s with sequencer := { s.sequencer with handoffs := x } }

/-- The end of a command takes what was handed on from a state that hands on nothing else. -/
theorem settle_handing {x : List Handoff} (heedless : u.heedless) (quiet : u.quiet) : settle (u.handing x) = u := by
  have heeds : (u.handing x).heedless := heedless.of rfl rfl rfl
  rw [settle_heedless heeds quiet.2]
  show { u with sequencer := { u.sequencer with handoffs := [] } } = u
  rw [← quiet.1]

/-- A change of state off play speed that ends a locate hands on its outcome where the list began it. -/
theorem enterState_handing {new : TransportState} (outcome : LocateOutcome) (demand : Demand)
    (steady : s.transport.state.rolling = new.rolling) :
    ∃ x, enterState new demand (endLocate outcome s) = (entered new demand (s.locateEnded outcome)).handing x := by
  obtain ⟨x, ended⟩ := endLocate_eq outcome s
  refine ⟨x, ?_⟩
  rw [ended]
  exact enterState_steady (s := { s.locateEnded outcome with sequencer := { s.sequencer with handoffs := x } }) steady

/-! ### The tape's end (R113, R124) -/

/-- A tape end is recorded on top of what it has left. -/
def tapeEndRecords (argument : Nat) (s : State) : State :=
  logEntry .tapeEnd s.timeNow .internal argument (raiseFlag .tape (setCondition .tapeEnd s))

theorem tapeEndRecords_handing (argument : Nat) (x : List Handoff) (s : State) :
    tapeEndRecords argument (s.handing x) = (tapeEndRecords argument s).handing x := rfl

theorem tapeEnd_rolls (argument : Nat) (h : s.transport.state = .play ∨ s.transport.state = .record) :
    tapeEnd argument s = tapeEndRecords argument (enterState .stop .stop (closeAtOnce .tapeEnd .internal s)) := by
  unfold tapeEnd tapeEndRecords
  rcases h with e | e <;> rw [e] <;> rfl

theorem tapeEnd_moves (argument : Nat) (h : s.transport.state = .wind ∨ s.transport.state = .starting) :
    ∃ x, tapeEnd argument s = (tapeEndRecords argument (entered .stop .stop s)).handing x := by
  have steady : enterState .stop .stop s = entered .stop .stop s :=
    enterState_steady (by rcases h with e | e <;> rw [e] <;> rfl)
  unfold tapeEnd
  rw [steady]
  rcases h with e | e <;> rw [e]
  · exact ⟨s.sequencer.handoffs, rfl⟩
  · exact ⟨_, rfl⟩

theorem tapeEnd_locates (argument : Nat) (h : s.transport.state = .locate) :
    tapeEnd argument s = tapeEndRecords argument (failLocate .tapeEnd s) := by
  unfold tapeEnd tapeEndRecords
  rw [h] <;> rfl

theorem tapeEnd_rests (argument : Nat) (h : s.transport.state = .empty ∨ s.transport.state = .stop ∨ s.transport.state = .cued ∨
    s.transport.state = .fault) : tapeEnd argument s = s := by
  unfold tapeEnd
  rcases h with e | e | e | e <;> rw [e]

/-- What is recorded of a locate that fails. -/
def locateFailedRecords (outcome : LocateOutcome) (s : State) : State :=
  logEntry .locateFailed s.timeNow s.transport.locate.origin outcome.reason (raiseFlag .locateFailed (setCondition .locateFail
    (setLateReads (entered .stop .stop (s.locateEnded outcome)))))

/-- A locate that fails stops the transport, with its outcome handed on where the list began it. -/
theorem failLocate_eq (outcome : LocateOutcome) (h : s.transport.state = .locate) :
    ∃ x, failLocate outcome s = (locateFailedRecords outcome s).handing x := by
  obtain ⟨x, ended⟩ := enterState_handing outcome (new := .stop) .stop (s := s) (by rw [h]; rfl)
  refine ⟨x, ?_⟩
  unfold failLocate
  rw [ended] <;> rfl

theorem settle_moves (argument : Nat) (heedless : s.heedless) (quiet : s.quiet)
    (moves : s.transport.state = .wind ∨ s.transport.state = .starting) :
    settle (tapeEnd argument s) = tapeEndRecords argument (entered .stop .stop s) := by
  obtain ⟨x, ended⟩ := tapeEnd_moves argument moves
  have heeds : (tapeEndRecords argument (entered .stop .stop s)).heedless := heedless.of rfl rfl rfl
  rw [ended]
  exact settle_handing heeds quiet

theorem settle_locates (argument : Nat) (heedless : s.heedless) (quiet : s.quiet) (locates : s.transport.state = .locate) :
    settle (tapeEnd argument s) = tapeEndRecords argument (locateFailedRecords .tapeEnd s) := by
  obtain ⟨x, failed⟩ := failLocate_eq .tapeEnd locates
  have heeds : (tapeEndRecords argument (locateFailedRecords .tapeEnd s)).heedless := heedless.of rfl rfl rfl
  rw [tapeEnd_locates argument locates, failed, tapeEndRecords_handing]
  exact settle_handing heeds quiet

/-! ### A fault, and the tape taken out (R112, R114) -/

/-- A fault is recorded on top of what it has left. -/
def faultRecords (argument : Nat) (s : State) : State := logEntry .fault s.timeNow .internal argument (raiseFlag .fault s)

theorem enterFault_rolls (argument : Nat) (h : s.transport.state = .play ∨ s.transport.state = .record) :
    enterFault argument s = faultRecords argument (enterState .fault .stop (closeAtOnce .fault .internal s)) := by
  have none : endLocate .fault (closeAtOnce .fault .internal s) = closeAtOnce .fault .internal s := by
    refine endLocate_none ?_
    rw [closeAtOnce_state]
    exact not_locate_of h
  unfold enterFault faultRecords
  dsimp only
  rw [none] <;> rfl

/-- Off play speed a fault with no list running ends a locate in progress. -/
theorem settle_fault (argument : Nat) (quiet : s.quiet) (idle : s.sequencer.state = .idle) (off : s.transport.state.rolling = false)
    (closed : s.mixer.gateOpen = false) :
    settle (enterFault argument s) = faultRecords argument (entered .fault .stop (s.locateEnded .fault)) := by
  have steady : s.transport.state.rolling = TransportState.fault.rolling := off
  obtain ⟨x, ended⟩ := enterState_handing .fault .stop steady
  have idleOf : (faultRecords argument (entered .fault .stop (s.locateEnded .fault))).heedless := .inl idle
  unfold enterFault
  dsimp only
  rw [closeAtOnce_closed closed, ended]
  exact settle_handing (u := faultRecords argument (entered .fault .stop (s.locateEnded .fault))) idleOf quiet

/-- The tape taken out is recorded on top of what was left (R112). -/
def tapeOutRecords (s : State) : State := logEntry .tapeOut none .internal 0 (raiseFlag .tape (clearTape s))

theorem exec_tapeOut (h : s.transport.state ≠ .empty) : exec .tapeOut s = .next (settle (tapeOutRecords (enterState .empty .stop
    (endLocate .tapeOut (closeAtOnce .tapeOut .internal (haltList .byTapeOut .internal s)))))) :=
  congrArg Host.Outcome.next (if_neg h)

/-- Off play speed the tape taken out with no list running ends a locate in progress. -/
theorem settle_tapeOut (quiet : s.quiet) (idle : s.sequencer.state = .idle) (off : s.transport.state.rolling = false)
    (closed : s.mixer.gateOpen = false) :
    settle (tapeOutRecords (enterState .empty .stop (endLocate .tapeOut (closeAtOnce .tapeOut .internal s)))) =
      tapeOutRecords (entered .empty .stop (s.locateEnded .tapeOut)) := by
  have steady : s.transport.state.rolling = TransportState.empty.rolling := off
  obtain ⟨x, ended⟩ := enterState_handing .tapeOut .stop steady
  have idleOf : (tapeOutRecords (entered .empty .stop (s.locateEnded .tapeOut))).heedless := .inl idle
  rw [closeAtOnce_closed closed, ended]
  exact settle_handing (u := tapeOutRecords (entered .empty .stop (s.locateEnded .tapeOut))) idleOf quiet

/-- What has left play speed with a list halted, its hand-offs discarded, is settled. -/
theorem settle_left {q : Sequencer} {h : List Handoff} {v : State} (idle : q.state = .idle) (unhanded : q.handoffs = [])
    (selection : s.input.pendingSelect = none) (input : v.input = s.input) (sequencer : v.sequencer = { q with handoffs := h }) :
    (settle v).sequencer = q ∧ settle v = v.handing [] := by
  have settled : settle v = v.handing [] := settle_idle (by rw [sequencer]; exact idle) (by rw [input]; exact selection)
  refine ⟨?_, settled⟩
  rw [settled]
  show { v.sequencer with handoffs := [] } = q
  rw [sequencer, ← unhanded]

/-- Reports made on top of equal reports at an equal time are equal. -/
theorem logEntry_reports_of {kind : LogKind} {flag : Flag} {origin : Origin} {argument : Nat} {time : Option Nat}
    (reports : t.reports = u.reports) :
    (logEntry kind time origin argument (raiseFlag flag t)).reports = (logEntry kind time origin argument (raiseFlag flag u)).reports := by
  simp only [logEntry, raiseFlag, reports]

end
end Sys2Proof.Machine

namespace Sys2Proof.Proofs
open Sys2Proof.Machine

/-- Settles O43. -/
theorem tapeAndFaultReports : Obligations.TapeAndFaultReports := by
  refine ⟨fun s quiet => ⟨fun empty => ⟨?_, ?_⟩, fun loaded => ?_, fun other => ?_⟩, fun c argument s listed quiet rests => ?_,
    fun s quiet gate sized => ?_⟩
  · show Host.Outcome.next (if s.transport.state = .empty then _ else _) = _
    rw [if_pos empty, enterState_steady (by show s.transport.state.rolling = _; rw [empty]; rfl)]
    rw [entered_stop (.inl rfl)]
    simp
  · exact congrArg Host.Outcome.next (if_pos empty)
  · exact congrArg Host.Outcome.next (if_neg loaded)
  · exact congrArg Host.Outcome.next (if_neg other)
  · have ends : exec c s = .next (settle (tapeEnd argument s)) := by
      simp only [List.mem_cons, Prod.mk.injEq, List.not_mem_nil, or_false] at listed
      rcases listed with ⟨rfl, rfl⟩ | ⟨rfl, rfl⟩ <;> rfl
    rw [ends, tapeEnd_rests argument rests, settle_quiet quiet]
  · have closedOff (still : ¬ (s.transport.state = .play ∨ s.transport.state = .record)) : s.mixer.gateOpen = false :=
      gate.closed fun e => still (.inr e)
    intro rolls left moved aside halted ends faults
    have tape (c : Instr) (argument : Nat) (hc : exec c s = .next (settle (tapeEnd argument s))) : ends c argument := by
      unfold ends
      intro records heedless
      have heeds : s.heedless := heedless
      refine ⟨fun moves => ?_, fun locates => ?_, fun rolling => ?_⟩
      · have other : s.transport.state ≠ .locate := by rcases moves with e | e <;> rw [e] <;> decide
        rw [hc, settle_moves argument heeds quiet moves, entered_stop (.inl rfl)]
        simp [records, moved, left, tapeEndRecords, other, State.timeNow]
      · rw [hc, settle_locates argument heeds quiet locates, tapeEndRecords, locateFailedRecords, entered_stop (.inl rfl)]
        simp [records, moved, left, LocateOutcome.reason, locates, State.timeNow, State.locateEnded, LocateRecord.ended, setLateReads]
      · have play := leaving (new := .stop) (demand := .stop) .tapeEnd .internal rolling gate sized.1 rfl
        rw [hc, tapeEnd_rolls argument rolling]
        generalize enterState .stop .stop (closeAtOnce .tapeEnd .internal s) = t at play
        obtain ⟨leaves, transport, decoder, cues, ⟨h, sequencer⟩, heldTape, reports, system, link⟩ := play.halted
        have input : t.input = s.input := by
          obtain ⟨-, -, -, -, -, -, -, -, -, -, -, -, input, -⟩ := leaves
          exact input
        have time : t.timeNow = s.timeNow := by simp [State.timeNow, decoder, entered]
        have heedsOf : (tapeEndRecords argument t).heedless := heeds.of (by show t.sequencer.state = _; rw [sequencer])
          (by show t.sequencer.entries = _; rw [sequencer]) (by show t.sequencer.current = _; rw [sequencer])
        rw [settle_heedless heedsOf (by show t.input.pendingSelect = _; rw [input]; exact quiet.2)]
        rw [entered_stop (.inl rfl)] at transport decoder cues
        refine ⟨_, rfl, leaves, transport.trans ?_, decoder.trans ?_, cues, heldTape, system, link, ?_, ?_⟩
        · simp [left, not_locate_of rolling]
        · simp [aside]
        · show { (setCondition .tapeEnd t).sequencer with handoffs := [] } = _
          simp [setCondition, sequencer, quiet.1]
        · show (logEntry .tapeEnd t.timeNow .internal argument (raiseFlag .tape (setCondition .tapeEnd t))).reports = _
          rw [time]
          exact logEntry_reports_of reports
    have fault (c : Instr) (argument : Nat) (hc : exec c s = .next (settle (enterFault argument (haltList .byFault .internal s)))) :
        faults c argument := by
      unfold faults
      intro v records
      have halts : v = haltList .byFault .internal s := (haltList_eq .byFault .internal s).symm
      obtain ⟨q, r, halt, idle, handoffs⟩ := haltList_leaves .byFault .internal s
      clear_value v
      subst halts
      rw [hc, halt]
      have none : q.handoffs = [] := handoffs.trans quiet.1
      refine ⟨fun still => ?_, fun rolling => ?_⟩
      · rw [settle_fault argument (s := { s with sequencer := q, reports := r }) ⟨none, quiet.2⟩ idle (rolling_of_not still)
          (closedOff still), entered_stop (.inr (.inr rfl))]
        simp [records, moved, left, faultRecords, State.locateEnded, LocateRecord.ended, State.timeNow] <;> rfl
      · have play := leaving (s := { s with sequencer := q, reports := r }) (new := .fault) (demand := .stop) .fault .internal rolling
          gate sized.1 rfl
        rw [enterFault_rolls argument (s := { s with sequencer := q, reports := r }) rolling]
        generalize enterState .fault .stop (closeAtOnce .fault .internal { s with sequencer := q, reports := r }) = t at play
        obtain ⟨leaves, transport, decoder, cues, ⟨h, sequencer⟩, heldTape, reports, system, link⟩ := play.halted
        have input : t.input = s.input := by
          obtain ⟨-, -, -, -, -, -, -, -, -, -, -, -, input, -⟩ := leaves
          exact input
        have time : t.timeNow = s.timeNow := by simp [State.timeNow, decoder, entered]
        obtain ⟨sequencerOf, settled⟩ := settle_left (v := faultRecords argument t) idle none quiet.2 input sequencer
        rw [entered_stop (.inr (.inr rfl))] at transport decoder cues
        refine ⟨_, rfl, ?_, ?_, ?_, ?_, ?_, ?_, ?_, sequencerOf, ?_⟩ <;> rw [settled]
        · exact leaves
        · refine transport.trans ?_
          simp [left, not_locate_of rolling]
        · refine decoder.trans ?_
          simp [aside]
        · exact cues
        · exact heldTape
        · exact system
        · exact link
        · show (logEntry .fault t.timeNow .internal argument (raiseFlag .fault t)).reports = _
          rw [time]
          exact logEntry_reports_of reports
    refine ⟨tape _ 0 rfl, tape _ 1 rfl, fault _ 0 rfl, fun starts => fault _ 1 (congrArg Host.Outcome.next (if_pos starts)), ?_⟩
    intro v emptied forgotten records
    have halts : v = haltList .byTapeOut .internal s := (haltList_eq .byTapeOut .internal s).symm
    obtain ⟨q, r, halt, idle, handoffs⟩ := haltList_leaves .byTapeOut .internal s
    clear_value v
    subst halts
    have none : q.handoffs = [] := handoffs.trans quiet.1
    refine ⟨fun loaded still => ?_, fun rolling => ?_⟩
    · rw [exec_tapeOut loaded, halt, settle_tapeOut (s := { s with sequencer := q, reports := r }) ⟨none, quiet.2⟩ idle
        (rolling_of_not still) (closedOff still), entered_stop (.inr (.inl rfl))]
      simp [records, moved, emptied, forgotten, left, tapeOutRecords, clearTape, Decoder.forget, State.locateEnded, LocateRecord.ended]
    · have loaded : s.transport.state ≠ .empty := by rcases rolling with e | e <;> rw [e] <;> decide
      have other : endLocate .tapeOut (closeAtOnce .tapeOut .internal { s with sequencer := q, reports := r }) =
          closeAtOnce .tapeOut .internal { s with sequencer := q, reports := r } :=
        endLocate_none (by rw [closeAtOnce_state]; exact not_locate_of rolling)
      have play := leaving (s := { s with sequencer := q, reports := r }) (new := .empty) (demand := .stop) .tapeOut .internal rolling
        gate sized.1 rfl
      rw [exec_tapeOut loaded, halt, other]
      generalize enterState .empty .stop (closeAtOnce .tapeOut .internal { s with sequencer := q, reports := r }) = t at play
      obtain ⟨leaves, transport, decoder, cues, ⟨h, sequencer⟩, heldTape, reports, system, link⟩ := play.halted
      have input : t.input = s.input := by
        obtain ⟨-, -, -, -, -, -, -, -, -, -, -, -, input, -⟩ := leaves
        exact input
      obtain ⟨sequencerOf, settled⟩ := settle_left (v := tapeOutRecords t) idle none quiet.2 input sequencer
      rw [entered_stop (.inr (.inl rfl))] at transport decoder
      refine ⟨_, rfl, ?_, ?_, ?_, ?_, ?_, ?_, ?_, sequencerOf, ?_⟩ <;> rw [settled]
      · exact leaves
      · show { t.transport with tapePresent := false, lastReport := Option.none } = _
        rw [transport]
        simp [emptied, left, not_locate_of rolling]
      · show t.decoder.forget = _
        rw [decoder]
        simp [forgotten, aside, Decoder.forget]
      · rfl
      · rfl
      · exact system
      · exact link
      · exact logEntry_reports_of reports

end Sys2Proof.Proofs
end

section
/-! Reads of the subcode off play speed, and the locates that they steer and end (R71, R77, R78, R121, R123, R124). Settles O41 and O44. -/

namespace Sys2Proof.Machine

section
variable {s t u : State}

/-! ### A block that arrives -/

/-- What reads a block by its subcode does nothing with bytes that give none. -/
theorem onBlock_subcode {bytes : List Byte} {work : TapeBlock → State → State} {o : Option Subcode}
    (h : (blockOfBytes bytes).bind (·.subcode) = o) (reads : ∀ b, b.subcode = o → work b s = t) (unread : o = none → t = s) :
    onBlock bytes work s = t := by
  unfold onBlock
  cases block : blockOfBytes bytes with
  | none =>
    rw [block] at h
    exact (unread h.symm).symm
  | some b =>
    rw [block] at h
    exact reads b h

theorem subcodeRead_of (mode : s.decoder.readMode = .subcode) (b : TapeBlock) : s.subcodeRead b = b.subcode := if_pos mode

theorem subcodeRead_none (mode : s.decoder.readMode ≠ .subcode) (b : TapeBlock) : s.subcodeRead b = none := if_neg mode

theorem lateRead_of (mode : s.decoder.readMode = .off) (late : s.decoder.lateReads = true) (b : TapeBlock) :
    s.lateRead b = b.subcode := if_pos ⟨mode, late⟩

theorem lateRead_none (h : s.decoder.readMode ≠ .off ∨ s.decoder.lateReads = false) (b : TapeBlock) : s.lateRead b = none := by
  refine if_neg fun both => ?_
  obtain ⟨mode, late⟩ := both
  rcases h with other | never
  · exact other mode
  · rw [late] at never; cases never

/-- A valid record read in SUBCODE read mode. -/
theorem exec_subcodeBlock_reads {bytes : List Byte} {r : Subcode} (mode : s.decoder.readMode = .subcode)
    (h : (blockOfBytes bytes).bind (·.subcode) = some r) : exec (.subcodeBlock bytes) s = .next (readSubcode r s) := by
  refine congrArg Host.Outcome.next (onBlock_subcode h (fun b subcode => ?_) (fun none => by cases none))
  rw [subcodeRead_of mode, subcode]

theorem exec_hunting_reads {bytes : List Byte} {r : Subcode} (mode : s.decoder.readMode = .subcode)
    (h : (blockOfBytes bytes).bind (·.subcode) = some r) (hunts : s.huntingRead r.time = true) :
    exec (.hunting bytes) s = .next (readSubcode r s) := by
  refine congrArg Host.Outcome.next (onBlock_subcode h (fun b subcode => ?_) (fun none => by cases none))
  rw [subcodeRead_of mode, subcode]
  exact if_pos hunts

/-! ### The record read -/

/-- A marker taken changes the cue table and the log alone. -/
theorem takeMarker_leaves (time number : Nat) (s : State) : ∃ cues reports, takeMarker time number s = { s with cues := cues, reports := reports } ∧
    ∀ d, takeMarker time number { s with decoder := d } = { s with decoder := d, cues := cues, reports := reports } := by
  unfold takeMarker
  dsimp only
  split_ifs
  · exact ⟨_, s.reports, rfl, fun _ => rfl⟩
  · exact ⟨s.cues, s.reports, rfl, fun _ => rfl⟩
  · exact ⟨s.cues, _, rfl, fun _ => rfl⟩
  · exact ⟨_, s.reports, rfl, fun _ => rfl⟩

/-- The state in which the Transport Controller learns of a record read: T is set, and a START marker handed on (R71, R77, R78). -/
def received (r : Subcode) (s : State) : State :=
  { (if r.start = true ∧ s.transport.demand.forward = true ∧ s.decoder.startRun ≠ some r.program then takeMarker r.time r.program s
      else s) with
    decoder := { s.decoder with
      time := r.time, leadIn := 0, status := .locked, holdover := 0
      startRun := if r.start = true ∧ s.transport.demand.forward = true then some r.program else none } }

theorem readSubcode_eq (r : Subcode) (s : State) : readSubcode r s = settle (judgeWaitTime (steer r.time (received r s))) := by
  unfold readSubcode received readTime setStatus offerMarker
  obtain ⟨cues, reports, taken, takenOf⟩ := takeMarker_leaves r.time r.program s
  dsimp only
  rw [takenOf, taken]
  cases s.transport.demand.forward <;> cases r.start <;> by_cases run : s.decoder.startRun = some r.program <;> simp [run]

/-- What is received leaves the transport and the sequencer as they are. -/
theorem received_keeps (r : Subcode) (s : State) : (received r s).transport = s.transport ∧ (received r s).sequencer = s.sequencer ∧
    (received r s).input = s.input ∧ (received r s).mixer = s.mixer ∧ (received r s).store = s.store := by
  obtain ⟨cues, reports, taken, -⟩ := takeMarker_leaves r.time r.program s
  unfold received
  rw [taken]
  split_ifs <;> exact ⟨rfl, rfl, rfl, rfl, rfl⟩

/-! ### The Transport Controller learns of T (R123, R124) -/

theorem steer_rests {time : Nat} (h : s.transport.state ≠ .locate) : steer time s = s := by
  unfold steer State.locating
  exact if_neg (by simpa using h)

theorem steer_arrives {time : Nat} (h : s.transport.state = .locate) (there : time = s.transport.locate.aim) : steer time s = arrive s := by
  unfold steer State.locating
  rw [if_pos (by simp [h])]
  exact if_pos there

/-- A read away from the aim point that is not the ninth reversal steers the wind. -/
theorem steer_winds {time : Nat} (h : s.transport.state = .locate) (away : time ≠ s.transport.locate.aim)
    (few : chooseDirection time s.transport.locate.aim = s.transport.locate.direction ∨ s.transport.locate.reversals < 8) :
    steer time s = { s with transport := { s.transport with
      demand := .wind (chooseDirection time s.transport.locate.aim) (choosePhase time s.transport.locate.aim).speed
      locate := { s.transport.locate with
        phase := choosePhase time s.transport.locate.aim, direction := chooseDirection time s.transport.locate.aim
        noTimeRunning := true
        reversals := if chooseDirection time s.transport.locate.aim = s.transport.locate.direction then s.transport.locate.reversals
          else s.transport.locate.reversals + 1 } } } := by
  have free : ¬ (chooseDirection time s.transport.locate.aim ≠ s.transport.locate.direction ∧ 8 ≤ s.transport.locate.reversals) := by
    rintro ⟨turned, many⟩
    rcases few with same | few
    · exact turned same
    · omega
  unfold steer State.locating
  rw [if_pos (by simp [h]), if_neg away, if_neg free]
  unfold setLocate
  simp only [ne_eq, ite_not]

theorem steer_hunts {time : Nat} (h : s.transport.state = .locate) (away : time ≠ s.transport.locate.aim)
    (turned : chooseDirection time s.transport.locate.aim ≠ s.transport.locate.direction) (many : 8 ≤ s.transport.locate.reversals) :
    steer time s = failLocate .hunting s := by
  unfold steer State.locating
  rw [if_pos (by simp [h]), if_neg away]
  exact if_pos ⟨turned, many⟩

theorem settle_steady (quiet : s.quiet) (idle : s.sequencer.state = .idle) : settle (judgeWaitTime s) = s := by
  rw [judgeWaitTime_idle idle, settle_quiet quiet]

theorem settle_steer_winds {time : Nat} {r : LocateRecord} (locate : s.transport.locate = r) (h : s.transport.state = .locate)
    (away : time ≠ r.aim) (few : chooseDirection time r.aim = r.direction ∨ r.reversals < 8) (quiet : s.quiet)
    (idle : s.sequencer.state = .idle) :
    settle (judgeWaitTime (steer time s)) = { s with transport := { s.transport with
      demand := .wind (chooseDirection time r.aim) (choosePhase time r.aim).speed
      locate := { r with
        phase := choosePhase time r.aim, direction := chooseDirection time r.aim, noTimeRunning := true
        reversals := if chooseDirection time r.aim = r.direction then r.reversals else r.reversals + 1 } } } := by
  subst locate
  rw [steer_winds h away few]
  exact settle_steady (s := { s with transport := _ }) quiet idle

/-- The arrival of a locate with no list running. -/
theorem settle_arrive (h : s.transport.state = .locate) (quiet : s.quiet) (idle : s.sequencer.state = .idle) :
    settle (judgeWaitTime (arrive s)) = raiseFlag .motionDone (setLateReads (entered .cued .hold (s.locateEnded .arrived))) := by
  obtain ⟨x, ended⟩ := enterState_handing (s := s) (new := .cued) .arrived .hold (by rw [h]; rfl)
  have arrived : arrive s = (raiseFlag .motionDone (setLateReads (entered .cued .hold (s.locateEnded .arrived)))).handing x := by
    unfold arrive
    rw [ended] <;> rfl
  rw [arrived]
  have heeds : (raiseFlag .motionDone (setLateReads (entered .cued .hold (s.locateEnded .arrived)))).heedless := .inl idle
  have unjudged := judgeWaitTime_idle
    (s := (raiseFlag .motionDone (setLateReads (entered .cued .hold (s.locateEnded .arrived)))).handing x) idle
  rw [unjudged]
  exact settle_handing heeds quiet

/-- The failure of a locate with no list running. -/
theorem settle_failLocate (outcome : LocateOutcome) (h : s.transport.state = .locate) (quiet : s.quiet) (idle : s.sequencer.state = .idle) :
    settle (failLocate outcome s) = locateFailedRecords outcome s ∧
    settle (judgeWaitTime (failLocate outcome s)) = locateFailedRecords outcome s := by
  obtain ⟨x, failed⟩ := failLocate_eq outcome h
  have heeds : (locateFailedRecords outcome s).heedless := .inl idle
  have unjudged := judgeWaitTime_idle (s := (locateFailedRecords outcome s).handing x) idle
  rw [failed, unjudged]
  exact ⟨settle_handing heeds quiet, settle_handing heeds quiet⟩

theorem settle_steer_hunts {time : Nat} (h : s.transport.state = .locate) (away : time ≠ s.transport.locate.aim)
    (turned : chooseDirection time s.transport.locate.aim ≠ s.transport.locate.direction) (many : 8 ≤ s.transport.locate.reversals)
    (quiet : s.quiet) (idle : s.sequencer.state = .idle) :
    settle (judgeWaitTime (steer time s)) = locateFailedRecords .hunting s := by
  rw [steer_hunts h away turned many]
  exact (settle_failLocate .hunting h quiet idle).2

end
end Sys2Proof.Machine

namespace Sys2Proof.Proofs
open Sys2Proof.Machine

/-- Settles O41. -/
theorem subcodeBlockIsRead : Obligations.SubcodeBlockIsRead := by
  intro bytes s quiet idle
  refine ⟨fun unread => ?_, fun r mode late read => ?_, fun r mode given => ?_⟩
  · refine congrArg Host.Outcome.next (onBlock_subcode rfl (fun b subcode => ?_) (fun _ => rfl))
    have none : s.subcodeRead b = none ∧ s.lateRead b = none := by
      rcases unread with (full | ⟨off, never⟩) | invalid
      · exact ⟨subcodeRead_none (by rw [full]; decide) b, lateRead_none (.inl (by rw [full]; decide)) b⟩
      · exact ⟨subcodeRead_none (by rw [off]; decide) b, lateRead_none (.inr never) b⟩
      · rw [invalid] at subcode
        unfold State.subcodeRead State.lateRead
        rw [subcode]
        exact ⟨ite_self _, ite_self _⟩
    rw [none.1, none.2]
  · refine congrArg Host.Outcome.next (onBlock_subcode read (fun b subcode => ?_) (fun none => by cases none))
    rw [subcodeRead_none (by rw [mode]; decide), lateRead_of mode late, subcode]
    exact settle_steady (s := readTime r.time s) quiet idle
  · intro forward u read
    have moves : forward = s.transport.demand.forward := by
      simp only [forward]
      cases s.transport.demand with
      | wind direction speed => cases direction <;> rfl
      | _ => rfl
    have same : received r s = { u with decoder := read } := by
      simp only [received, u, read, moves]
    obtain ⟨transport, sequencer, input, -, store⟩ := received_keeps r s
    have quietOf : (received r s).quiet := by unfold State.quiet; rw [sequencer, input]; exact quiet
    have idleOf : (received r s).sequencer.state = .idle := by rw [sequencer]; exact idle
    refine ⟨fun moving => ?_, fun locates away => ?_, fun locates there origin => ?_⟩
    · have other : (received r s).transport.state ≠ .locate := by rw [transport]; rcases moving with e | e <;> rw [e] <;> decide
      rw [exec_subcodeBlock_reads mode given, readSubcode_eq, steer_rests other, settle_steady quietOf idleOf, same]
    · intro direction far few
      have phase : choosePhase r.time s.transport.locate.aim = if far then .fast else .slow := by
        simp only [choosePhase, distance, far, decide_eq_true_eq]
        exact if_congr (by omega) rfl rfl
      have winds := settle_steer_winds (time := r.time) (congrArg Transport.locate transport) (by rw [transport]; exact locates) away few
        quietOf idleOf
      have speed : (if far = true then LocatePhase.fast else .slow).speed = if far = true then .fast else .slow := by cases far <;> rfl
      rw [exec_subcodeBlock_reads mode given, readSubcode_eq, winds, transport, phase, speed, same] <;> rfl
    · rw [exec_subcodeBlock_reads mode given, readSubcode_eq, steer_arrives (by rw [transport]; exact locates)
        (by rw [transport]; exact there), settle_arrive (by rw [transport]; exact locates) quietOf idleOf]
      refine congrArg (fun v => Host.Outcome.next (raiseFlag .motionDone v)) ?_
      rw [same] at transport store ⊢
      have at_u : u.transport = s.transport := transport
      have kept : u.store = s.store := store
      clear_value u
      simp [setLateReads, entered, State.locateEnded, LocateRecord.ended, at_u, kept, locates, startRunCleared, TransportState.rolling,
        TransportState.readMode, read]

/-- Settles O44. -/
theorem locateFailures : Obligations.LocateFailures := by
  intro s quiet idle failed
  refine ⟨fun locates origin => ⟨fun running => ?_, fun running => ?_, fun bytes r mode given start away many sides => ?_⟩,
    fun elsewhere => ⟨?_, ?_, fun bytes => ?_⟩⟩
  · have ends : exec .locateTimeout s = .next (settle (failLocate .timeout s)) :=
      congrArg Host.Outcome.next (if_pos ⟨by simp [State.locating, locates], running⟩)
    rw [ends, (settle_failLocate .timeout locates quiet idle).1]
    simp [failed, locateFailedRecords, entered_stop, State.locateEnded, LocateRecord.ended, LocateOutcome.reason, locates, setLateReads]
  · have ends : exec .noTimeExpiry s = .next (settle (failLocate .noTime s)) :=
      congrArg Host.Outcome.next (if_pos ⟨by simp [State.locating, locates], running⟩)
    rw [ends, (settle_failLocate .noTime locates quiet idle).1]
    simp [failed, locateFailedRecords, entered_stop, State.locateEnded, LocateRecord.ended, LocateOutcome.reason, locates, setLateReads]
  · have turned : chooseDirection r.time s.transport.locate.aim ≠ s.transport.locate.direction := by
      unfold chooseDirection
      split
      · next below => rw [sides.2 below]; decide
      · next above =>
        intro forward
        have := sides.1 forward.symm
        omega
    have hunts : s.huntingRead r.time = true := by
      simp [State.huntingRead, State.locating, locates, away, many, turned]
    have unmarked : received r s = { s with decoder := { s.decoder with
        time := r.time, leadIn := 0, status := .locked, holdover := 0, startRun := none } } := by
      simp [received, start]
    have hunted := settle_steer_hunts (time := r.time) (s := { s with decoder := { s.decoder with
        time := r.time, leadIn := 0, status := .locked, holdover := 0, startRun := none } }) locates away turned (by rw [many]) quiet idle
    rw [exec_hunting_reads mode given hunts, readSubcode_eq, unmarked, hunted]
    simp [failed, locateFailedRecords, entered_stop, State.locateEnded, LocateRecord.ended, LocateOutcome.reason, locates, setLateReads,
      State.timeNow]
  · exact congrArg Host.Outcome.next (if_neg (by simp [State.locating, elsewhere]))
  · exact congrArg Host.Outcome.next (if_neg (by simp [State.locating, elsewhere]))
  · refine congrArg Host.Outcome.next (onBlock_subcode rfl (fun b _ => ?_) (fun _ => rfl))
    have calm (time : Nat) : s.huntingRead time = false := by simp [State.huntingRead, State.locating, elsewhere]
    split
    · exact if_neg (by rw [calm]; decide)
    · rfl

end Sys2Proof.Proofs
end

section
/-! STOP and LOCATE as requests (R114, R117 to R123, R136). Settles O9 and O12. -/

namespace Sys2Proof.Machine

section
variable {s t u : State} {ticket : Ticket} {body : List Word} {status : Status} {data : List Word} {port : Port}

theorem popRequest_leaves (port : Port) (s : State) : ∃ y l, popRequest port s = { s with system := y, link := l } := by
  cases port
  · exact ⟨_, s.link, rfl⟩
  · exact ⟨s.system, _, rfl⟩

/-- A request judged with no list running, with hand-offs under way: they go to nobody. -/
theorem exec_judged_handing {c : Instr} {kind : RequestKind} {judge : Ticket → List Word → State → Judgement} {x : List Handoff}
    (hc : exec c s = .next (serve port kind judge s)) (hs : s.stands port kind ticket body)
    (hj : judge ticket body (popRequest port s) = (u.handing x, status, data)) (idle : u.sequencer.state = .idle) (quiet : u.quiet) :
    exec c s = .next (answered ticket body status data u) := by
  rw [exec_judged_idle hc hs hj idle quiet.2]
  refine congrArg (fun v => Host.Outcome.next (answered ticket body status data v)) ?_
  show { u with sequencer := { u.sequencer with handoffs := [] } } = u
  rw [← quiet.1]

theorem handing_self (h : s.sequencer.handoffs = []) : s.handing [] = s := by
  unfold State.handing
  rw [← h]

/-! ### LOCATE (R117, R118, R122, R123, R136) -/

theorem locateMotion_badValue {origin : Origin} {code arg preroll : Nat} (h : 2 < code ∨ code = 0 ∧ 359999 < arg) :
    locateMotion origin code arg preroll s = (s, .badValue, false) := by
  unfold locateMotion targetKindOf
  rcases h with above | ⟨rfl, late⟩
  · split
    · rfl
    · next k found =>
      split at found
      all_goals first | omega | cases found
  · exact if_pos ⟨rfl, late⟩

/-- The kind that a code names. -/
theorem targetKindOf_eq {code : Nat} {kind : TargetKind} (h : kind = .time ∧ code = 0 ∨ kind = .cue ∧ code = 1 ∨ kind = .program ∧ code = 2) :
    targetKindOf code = some kind := by
  rcases h with ⟨rfl, rfl⟩ | ⟨rfl, rfl⟩ | ⟨rfl, rfl⟩ <;> rfl

theorem locateMotion_barred {origin : Origin} {code arg preroll : Nat} (known : code ≤ 2) (inTime : code = 0 → arg ≤ 359999)
    (h : s.transport.state.barred = true) : locateMotion origin code arg preroll s = (s, .state, false) := by
  have kind : ∃ k, targetKindOf code = some k ∧ ¬ (k = .time ∧ Config.lastTime < arg) := by
    have codes : code = 0 ∨ code = 1 ∨ code = 2 := by omega
    rcases codes with rfl | rfl | rfl
    · exact ⟨.time, rfl, fun late => absurd (inTime rfl) (by simpa [Config.lastTime] using late.2)⟩
    · exact ⟨.cue, rfl, fun time => by cases time.1⟩
    · exact ⟨.program, rfl, fun time => by cases time.1⟩
  obtain ⟨k, found, free⟩ := kind
  unfold locateMotion
  rw [found]
  dsimp only
  rw [if_neg free, if_pos h]

/-- LOCATE from the resolving of its target on. -/
theorem locateMotion_resolves {origin : Origin} {code arg preroll : Nat} {kind : TargetKind}
    (h : kind = .time ∧ code = 0 ∨ kind = .cue ∧ code = 1 ∨ kind = .program ∧ code = 2) (inTime : code = 0 → arg ≤ 359999)
    (free : s.transport.state.barred = false) : locateMotion origin code arg preroll s =
      (match resolveTarget s.cues.entries kind arg with
        | none => (s, .notFound, false)
        | some target => (startLocate origin kind target preroll s, .accepted,
            (startLocate origin kind target preroll s).transport.state == .cued)) := by
  have timely : ¬ (kind = .time ∧ Config.lastTime < arg) := by
    rintro ⟨rfl, late⟩
    rcases h with ⟨-, zero⟩ | ⟨time, -⟩ | ⟨time, -⟩
    · exact absurd (inTime zero) (by simpa [Config.lastTime] using late)
    · cases time
    · cases time
  unfold locateMotion
  rw [targetKindOf_eq h]
  dsimp only
  rw [if_neg timely, if_neg (by rw [free]; decide)] <;> rfl

theorem locateMotion_starts {origin : Origin} {code arg preroll target : Nat} {kind : TargetKind}
    (h : kind = .time ∧ code = 0 ∨ kind = .cue ∧ code = 1 ∨ kind = .program ∧ code = 2) (inTime : code = 0 → arg ≤ 359999)
    (free : s.transport.state.barred = false)
    (found : kind = .time ∧ target = arg ∨ kind = .cue ∧ (s.cues.entries[arg]?).map (·.time) = some target ∨
      kind = .program ∧ (s.cues.entries.find? fun x => decide (x.kind = .programStart arg)).map (·.time) = some target) :
    locateMotion origin code arg preroll s = (startLocate origin kind target preroll s, .accepted,
      (startLocate origin kind target preroll s).transport.state == .cued) := by
  have resolved : resolveTarget s.cues.entries kind arg = some target := by
    rcases found with ⟨rfl, rfl⟩ | ⟨rfl, cue⟩ | ⟨rfl, program⟩
    · rfl
    · exact cue
    · exact program
  rw [locateMotion_resolves h inTime free, resolved]

theorem locateMotion_notFound {origin : Origin} {code arg preroll : Nat} {kind : TargetKind}
    (h : kind = .time ∧ code = 0 ∨ kind = .cue ∧ code = 1 ∨ kind = .program ∧ code = 2) (inTime : code = 0 → arg ≤ 359999)
    (free : s.transport.state.barred = false)
    (missing : kind = .cue ∧ s.cues.entries.length ≤ arg ∨ kind = .program ∧ ∀ x ∈ s.cues.entries, x.kind ≠ .programStart arg) :
    locateMotion origin code arg preroll s = (s, .notFound, false) := by
  have unresolved : resolveTarget s.cues.entries kind arg = none := by
    rcases missing with ⟨rfl, past⟩ | ⟨rfl, none⟩
    · exact congrArg (Option.map CueEntry.time) (List.getElem?_eq_none past)
    · refine congrArg (Option.map CueEntry.time) (List.find?_eq_none.2 fun x inside => ?_)
      simpa using none x inside
  rw [locateMotion_resolves h inTime free, unresolved]

theorem choosePhase_eq (time aim : Nat) :
    choosePhase time aim = if decide (aim + 250 < time ∨ time + 250 < aim) = true then .fast else .slow := by
  simp only [choosePhase, distance, decide_eq_true_eq]
  exact if_congr (by omega) rfl rfl

theorem choosePhase_speed (time aim : Nat) :
    (choosePhase time aim).speed = if decide (aim + 250 < time ∨ time + 250 < aim) = true then .fast else .slow := by
  rw [choosePhase_eq]
  split <;> rfl

/-- The locate record of a locate begun at T (R121, R122). -/
def State.locateBegun (origin : Origin) (kind : TargetKind) (target preroll : Nat) (s : State) : LocateRecord :=
  { s.transport.locate with
    origin := origin, kind := kind, target := target, preroll := preroll, aim := target - preroll
    limit := s.activeBank.locateLimit, phase := choosePhase s.decoder.time (target - preroll)
    direction := chooseDirection s.decoder.time (target - preroll), reversals := 0, elapsedRunning := true, noTimeRunning := true
    lastOutcome := if s.transport.state = .locate then .superseded else s.transport.locate.lastOutcome }

/-- A locate begun away from its aim point, or without LOCKED time. -/
theorem startLocate_winds {origin : Origin} {kind : TargetKind} {target preroll : Nat}
    (h : s.decoder.time ≠ target - preroll ∨ s.decoder.status ≠ .locked) : ∃ x, startLocate origin kind target preroll s =
    enterState .locate (.wind (chooseDirection s.decoder.time (target - preroll)) (choosePhase s.decoder.time (target - preroll)).speed)
      (State.handing x { s with transport := { s.transport with locate := s.locateBegun origin kind target preroll } }) := by
  obtain ⟨x, ended⟩ := endLocate_eq .superseded s
  refine ⟨x, ?_⟩
  unfold startLocate
  rw [ended]
  dsimp only
  have away : ¬ (s.decoder.time = target - preroll ∧ s.decoder.status = .locked) := by
    rintro ⟨there, locked⟩
    exact h.elim (fun other => other there) (fun other => other locked)
  refine (if_neg away).trans ?_
  unfold State.locateBegun State.handing State.locateEnded setLocate
  by_cases locating : s.transport.state = .locate <;> simp only [locating, if_true, if_false] <;> rfl

/-- A locate begun at its aim point with LOCKED time arrives at once. -/
theorem startLocate_arrives {origin : Origin} {kind : TargetKind} {target preroll : Nat}
    (there : s.decoder.time = target - preroll) (locked : s.decoder.status = .locked) :
    ∃ x, startLocate origin kind target preroll s = raiseFlag .motionDone (setLateReads (enterState .cued .hold
      (State.handing x { s with transport := { s.transport with
        holdAwaited := false, locate := (s.locateBegun origin kind target preroll).ended .arrived } }))) := by
  obtain ⟨x, ended⟩ := endLocate_eq .superseded s
  refine ⟨x, ?_⟩
  unfold startLocate
  rw [ended]
  dsimp only
  have at_aim : s.decoder.time = target - preroll ∧ s.decoder.status = .locked := ⟨there, locked⟩
  refine (if_pos at_aim).trans ?_
  unfold State.locateBegun State.handing State.locateEnded setLocate LocateRecord.ended
  by_cases locating : s.transport.state = .locate <;> simp only [locating, if_true, if_false] <;> rfl

/-- The demand under which a locate winds. -/
def State.locateDemand (target preroll : Nat) (s : State) : Demand :=
  .wind (chooseDirection s.decoder.time (target - preroll)) (choosePhase s.decoder.time (target - preroll)).speed

/-- The transport of a deck that winds in a locate. -/
def State.locateWinds (origin : Origin) (kind : TargetKind) (target preroll : Nat) (s : State) : Transport := { s.transport with
  state := .locate, demand := s.locateDemand target preroll, spinUpRunning := false, recordPending := false, holdAwaited := false
  faultRelease := false, locate := s.locateBegun origin kind target preroll }

/-- The transport of a deck that was at its aim point. -/
def State.locateArrives (origin : Origin) (kind : TargetKind) (target preroll : Nat) (s : State) : Transport := { s.transport with
  state := .cued, demand := .hold, spinUpRunning := false, recordPending := false, holdAwaited := false
  faultRelease := false, locate := (s.locateBegun origin kind target preroll).ended .arrived }

/-- Off play speed a locate winds the tape, with a hand-off where it supersedes one of the list's. -/
theorem startLocate_winds_off {origin : Origin} {kind : TargetKind} {target preroll : Nat}
    (h : s.decoder.time ≠ target - preroll ∨ s.decoder.status ≠ .locked) (off : s.transport.state.rolling = false) :
    ∃ x, startLocate origin kind target preroll s = State.handing x { s with
      transport := s.locateWinds origin kind target preroll
      store := { s.store with trim := .normal }
      decoder := { s.decoder with
        readMode := .subcode, lateReads := false
        startRun := if s.transport.state = .wind ∨ s.transport.state = .locate then s.decoder.startRun else none }
      cues := { s.cues with mark := .none } } := by
  obtain ⟨x, winds⟩ := startLocate_winds (origin := origin) (kind := kind) h
  refine ⟨x, ?_⟩
  rw [winds, enterState_steady (by exact off)]
  unfold State.locateWinds State.handing State.locateDemand entered
  cases state : s.transport.state <;> simp_all [startRunCleared, TransportState.rolling, TransportState.readMode]

theorem startLocate_arrives_off {origin : Origin} {kind : TargetKind} {target preroll : Nat}
    (there : s.decoder.time = target - preroll) (locked : s.decoder.status = .locked) (off : s.transport.state.rolling = false) :
    ∃ x, startLocate origin kind target preroll s = State.handing x (raiseFlag .motionDone { s with
      transport := s.locateArrives origin kind target preroll
      store := { s.store with trim := .normal }
      decoder := { s.decoder with readMode := .off, lateReads := true }
      cues := { s.cues with mark := .none } }) := by
  obtain ⟨x, arrives⟩ := startLocate_arrives (origin := origin) (kind := kind) there locked
  refine ⟨x, ?_⟩
  rw [arrives, enterState_steady (by exact off)]
  unfold State.locateArrives State.handing entered setLateReads
  have still : (TransportState.cued == .starting) = false := rfl
  simp [startRunCleared, TransportState.rolling, TransportState.readMode, still]
  rfl

/-- `t` has left PLAY for a locate, with the blocks named as they are. -/
structure LocatesFromPlay (s t : State) (transport : Transport) (decoder : Decoder) (reports : Reports) : Prop where
  leaves : s.leavesPlaySpeed t
  transport : t.transport = transport
  decoder : t.decoder = decoder
  cues : t.cues = { s.cues with mark := .none }
  sequencer : ∃ h, t.sequencer = { s.sequencer with handoffs := h }
  heldTape : t.copy.heldTape = s.copy.heldTape
  system : t.system = s.system
  link : t.link = s.link
  reports : t.reports = reports

theorem leavingLog_congr {event : Nat} {origin : Origin} (state : t.transport.state = s.transport.state) (mixer : t.mixer = s.mixer)
    (decoder : t.decoder = s.decoder) : t.leavingLog event origin u = s.leavingLog event origin u := by
  unfold State.leavingLog State.timeNow
  rw [state, mixer, decoder]

theorem leaving_locate {origin : Origin} {new : TransportState} {demand : Demand}
    {x : List Handoff} {r : Transport} (play : s.transport.state = .play) (gate : s.gateAgrees)
    (sized : s.sized) (state : r.state = s.transport.state) (off : new.rolling = false) :
    Leaving 0 origin new demand (State.handing x { s with transport := r }) (enterState new demand (State.handing x { s with transport := r })) ∧
    (enterState new demand (State.handing x { s with transport := r })).reports = (s.leavingLog 0 origin s).reports := by
  have gateOf : (State.handing x { s with transport := r }).gateAgrees := by
    unfold State.gateAgrees at *
    show (_ ↔ r.state = .record) ∧ _
    rw [state]
    exact gate
  have left := leaving_play (new := new) (demand := demand) 0 origin (s := State.handing x { s with transport := r })
    (state.trans play) gateOf sized.1 off
  refine ⟨left, left.reports.trans ?_⟩
  rw [leavingLog_congr (s := s) (t := State.handing x { s with transport := r }) state rfl rfl]
  exact leavingLog_reports 0 origin rfl

theorem startLocate_winds_play {origin o : Origin} {kind : TargetKind} {target preroll : Nat}
    (h : s.decoder.time ≠ target - preroll ∨ s.decoder.status ≠ .locked) (play : s.transport.state = .play) (gate : s.gateAgrees)
    (sized : s.sized) : LocatesFromPlay s (startLocate origin kind target preroll s) (s.locateWinds origin kind target preroll)
      { s.decoder with
        readMode := .subcode, lateReads := false, gathering := false, current := none, next := none, closedLast := false }
      (s.leavingLog 0 o s).reports := by
  obtain ⟨x, winds⟩ := startLocate_winds (origin := origin) (kind := kind) h
  rw [winds]
  obtain ⟨⟨leaves, transport, decoder, cues, ⟨y, sequencer⟩, heldTape, -, system, link, -⟩, reports⟩ :=
    leaving_locate (origin := o) (new := .locate)
      (demand := .wind (chooseDirection s.decoder.time (target - preroll)) (choosePhase s.decoder.time (target - preroll)).speed)
      (x := x) (r := { s.transport with locate := s.locateBegun origin kind target preroll }) play gate sized rfl rfl
  refine ⟨leaves, transport.trans ?_, decoder.trans ?_, cues, ⟨y, sequencer⟩, heldTape, system, link, reports⟩
  · have still : (TransportState.locate == .starting) = false ∧ (TransportState.locate == .cued) = false := ⟨rfl, rfl⟩
    simp [entered, State.handing, State.locateWinds, State.locateDemand, still]
  · have runs : startRunCleared .play .locate = false := rfl
    have late : (TransportState.locate == .stop) = false ∧ (TransportState.locate == .cued) = false := ⟨rfl, rfl⟩
    simp [entered, State.handing, play, runs, late, TransportState.readMode]

theorem startLocate_arrives_play {origin o : Origin} {kind : TargetKind} {target preroll : Nat}
    (there : s.decoder.time = target - preroll) (locked : s.decoder.status = .locked) (play : s.transport.state = .play)
    (gate : s.gateAgrees) (sized : s.sized) :
    LocatesFromPlay s (startLocate origin kind target preroll s) (s.locateArrives origin kind target preroll)
      { s.decoder with
        readMode := .off, lateReads := true, gathering := false, current := none, next := none, closedLast := false }
      (raiseFlag .motionDone (s.leavingLog 0 o s)).reports := by
  obtain ⟨x, arrives⟩ := startLocate_arrives (origin := origin) (kind := kind) there locked
  rw [arrives]
  have left := leaving_locate (origin := o) (new := .cued) (demand := .hold) (x := x)
    (r := { s.transport with holdAwaited := false, locate := (s.locateBegun origin kind target preroll).ended .arrived })
    play gate sized rfl rfl
  generalize enterState .cued .hold (State.handing x _) = t at left ⊢
  obtain ⟨⟨leaves, transport, decoder, cues, ⟨y, sequencer⟩, heldTape, -, system, link, -⟩, reports⟩ := left
  refine ⟨leaves, transport.trans ?_, ?_, cues, ⟨y, sequencer⟩, heldTape, system, link, ?_⟩
  · have still : (TransportState.cued == .starting) = false := rfl
    simp [entered, State.handing, State.locateArrives, still]
  · show { t.decoder with lateReads := true } = _
    rw [decoder]
    have runs : startRunCleared .play .cued = false := rfl
    simp [entered, State.handing, play, runs, TransportState.readMode]
  · show (raiseFlag .motionDone t).reports = _
    unfold raiseFlag
    dsimp only
    rw [reports]

/-! ### STOP (R119) -/

theorem judgeStop_fault (asked : ticket.port = port) (h : s.transport.state = .fault) : judgeStop ticket body s =
    (if s.transport.lastReport = some .stopped then leaveFault (haltList .byStop port.origin s)
      else { haltList .byStop port.origin s with transport := { s.transport with faultRelease := true } }, .done, []) := by
  subst asked
  obtain ⟨q, r, halts, -⟩ := haltList_leaves .byStop ticket.port.origin s
  unfold judgeStop
  simp only [halts, if_pos h]

theorem judgeStop_stops (asked : ticket.port = port) (h : s.transport.state ≠ .fault) : judgeStop ticket body s =
    (stopMotion port.origin (haltList .byStop port.origin s), .done, []) := by
  subst asked
  obtain ⟨q, r, halts, -⟩ := haltList_leaves .byStop ticket.port.origin s
  unfold judgeStop
  simp only [halts, if_neg h]

theorem stopMotion_rests (origin : Origin) (closed : s.mixer.gateOpen = false)
    (h : s.transport.state = .empty ∨ s.transport.state = .fault) : stopMotion origin s = s := by
  unfold stopMotion
  rw [closeAtOnce_closed closed]
  rcases h with e | e <;> simp only [e]

theorem stopMotion_stops (origin : Origin) (closed : s.mixer.gateOpen = false)
    (h : s.transport.state = .stop ∨ s.transport.state = .cued ∨ s.transport.state = .starting ∨ s.transport.state = .wind ∨
      s.transport.state = .locate) : ∃ x, stopMotion origin s = (entered .stop .stop (s.locateEnded .stopped)).handing x := by
  obtain ⟨x, ended⟩ := enterState_handing (s := s) (new := .stop) .stopped .stop
    (by rcases h with e | e | e | e | e <;> rw [e] <;> rfl)
  refine ⟨x, ?_⟩
  unfold stopMotion
  rw [closeAtOnce_closed closed]
  rcases h with e | e | e | e | e <;> simp only [e] <;> exact ended

theorem stopMotion_rolls (origin : Origin) (h : s.transport.state = .play ∨ s.transport.state = .record) :
    stopMotion origin s = enterState .stop .stop (closeAtOnce .stop origin s) := by
  have other : endLocate .stopped (closeAtOnce .stop origin s) = closeAtOnce .stop origin s :=
    endLocate_none (by rw [closeAtOnce_state]; exact not_locate_of h)
  unfold stopMotion
  dsimp only
  rw [closeAtOnce_state, other]
  rcases h with e | e <;> simp only [e]

end
end Sys2Proof.Machine

namespace Sys2Proof.Proofs
open Sys2Proof.Machine

/-- Settles O12. -/
theorem stopRequests : Obligations.StopRequests := by
  intro port ticket body s quiet stands gate sized v u
  have asked := headRequest_port stands.1
  have halts : u = haltList .byStop port.origin (popRequest port s) := by
    rw [haltList_eq, popRequest_sequencer]
    cases port <;> rfl
  obtain ⟨y, l, popped⟩ := popRequest_leaves port s
  obtain ⟨q, r, halt, idle, handoffs⟩ := haltList_leaves .byStop port.origin (popRequest port s)
  have unhanded : q.handoffs = [] := by rw [handoffs, popRequest_sequencer]; exact quiet.1
  clear_value u v
  rw [← halts, popped] at halt
  dsimp only at halt
  intro stopped still
  have quietOf : u.quiet := by rw [halt]; exact ⟨unhanded, quiet.2⟩
  have idleOf : u.sequencer.state = .idle := by rw [halt]; exact idle
  refine ⟨fun empty => ?_, fun fault moving => ?_, fun fault stopped' => ?_, fun state => ?_, fun rolling => ?_⟩
  · have judged : judgeStop ticket body (popRequest port s) = (u.handing [], .done, []) := by
      rw [judgeStop_stops asked (by rw [popRequest_transport, empty]; decide), ← halts, handing_self quietOf.1,
        stopMotion_rests port.origin (by rw [halt]; exact gate.closed (by rw [empty]; decide)) (by rw [halt]; exact .inl empty)]
    exact exec_judged_handing rfl stands judged idleOf quietOf
  · have judged : judgeStop ticket body (popRequest port s) =
        (State.handing [] { u with transport := { s.transport with faultRelease := true } }, .done, []) := by
      rw [judgeStop_fault asked (by rw [popRequest_transport, fault]), popRequest_transport, if_neg moving, ← halts,
        handing_self (s := { u with transport := { s.transport with faultRelease := true } }) quietOf.1]
    exact exec_judged_handing rfl stands judged idleOf quietOf
  · have released : leaveFault u = { still { stopped with state := if s.transport.tapePresent then .stop else .empty } with
        decoder := { s.decoder with readMode := .off, lateReads := s.decoder.lateReads && s.transport.tapePresent } } := by
      subst halt
      unfold leaveFault
      cases tape : s.transport.tapePresent
      · rw [enterState_steady (by show s.transport.state.rolling = _; rw [fault]; rfl)]
        simp [entered_stop, still, stopped, fault, tape]
      · rw [enterState_steady (by show s.transport.state.rolling = _; rw [fault]; rfl)]
        simp [entered_stop, still, stopped, fault, tape]
    have judged : judgeStop ticket body (popRequest port s) = ((leaveFault u).handing [], .done, []) := by
      rw [judgeStop_fault asked (by rw [popRequest_transport, fault]), popRequest_transport, if_pos stopped', ← halts,
        handing_self (by rw [released]; exact quietOf.1)]
    rw [exec_judged_handing rfl stands judged (by rw [released]; exact idleOf) (by rw [released]; exact quietOf), released]
  · have other : s.transport.state ≠ .fault ∧ s.transport.state ≠ .record := by
      rcases state with e | e | e | e | e <;> rw [e] <;> decide
    obtain ⟨x, stops⟩ := stopMotion_stops (s := u) port.origin (by rw [halt]; exact gate.closed other.2) (by rw [halt]; exact state)
    have judged : judgeStop ticket body (popRequest port s) = ((entered .stop .stop (u.locateEnded .stopped)).handing x, .done, []) := by
      rw [judgeStop_stops asked (by rw [popRequest_transport]; exact other.1), ← halts, stops]
    rw [exec_judged_handing rfl stands judged idleOf quietOf]
    refine congrArg (fun v => Host.Outcome.next (answered ticket body .done [] v)) ?_
    subst halt
    rw [entered_stop (.inl rfl)]
    simp [still, stopped, State.locateEnded, LocateRecord.ended]
  · have left := leaving (s := u) (new := .stop) (demand := .stop) .stop port.origin (by rw [halt]; exact rolling)
      (by rw [halt]; exact gate) (by rw [halt]; exact sized.1) rfl
    have judged : judgeStop ticket body (popRequest port s) = (enterState .stop .stop (closeAtOnce .stop port.origin u), .done, []) := by
      rw [judgeStop_stops asked (by rw [popRequest_transport]; rcases rolling with e | e <;> rw [e] <;> decide), ← halts,
        stopMotion_rolls port.origin (by rw [halt]; exact rolling)]
    generalize enterState .stop .stop (closeAtOnce .stop port.origin u) = t at left judged
    subst halt
    obtain ⟨leaves, transport, decoder, cues, ⟨h, sequencer⟩, heldTape, reports, system, link, -⟩ := left
    have leavesOf : s.leavesPlaySpeed t := leaves
    obtain ⟨trim, slots, current, verify, writeOff, closed, punchIn, taken, punchOut, latched, cut, banks, input, conceal⟩ := leavesOf
    rw [entered_stop (.inl rfl)] at transport decoder cues
    refine ⟨_, exec_judged_idle rfl stands judged (by rw [sequencer]; exact idle) (by rw [input]; exact quiet.2), transport.trans ?_,
      current, verify, closed, punchIn, taken, latched, decoder.trans ?_, cues, banks, ?_, trim, slots, fun play => ?_, fun record => ?_⟩
    · simp [stopped, not_locate_of rolling]
    · simp
    · show { t.sequencer with handoffs := [] } = q
      rw [sequencer, ← unhanded]
    · have notRecord : s.transport.state ≠ .record := by rw [play]; decide
      refine ⟨by simpa [notRecord] using cut, fun none => ?_, fun p punch => ⟨punchOut (by rw [punch]; rfl), ?_⟩⟩
      · refine reports.trans ?_
        unfold State.leavingLog
        rw [if_neg notRecord, none]
      · refine reports.trans ?_
        unfold State.leavingLog
        rw [if_neg notRecord, punch] <;> rfl
    · refine ⟨writeOff record, ?_, by simpa [record] using cut, ?_⟩
      · obtain ⟨opens, -, punched, -⟩ := gate
        exact punchOut (punched (opens.2 record))
      · refine reports.trans ?_
        unfold State.leavingLog
        rw [if_pos record] <;> rfl

/-- Settles O9. -/
theorem locateRequest : Obligations.LocateRequest := by
  intro port ticket body s quiet stands allows code argument refused
  have asked := headRequest_port stands.1
  obtain ⟨y, l, popped⟩ := popRequest_leaves port s
  have judged : judgeLocate ticket body (popRequest port s) =
      plain ((locateMotion port.origin code argument s.activeBank.preroll { s with system := y, link := l }).1,
        (locateMotion port.origin code argument s.activeBank.preroll { s with system := y, link := l }).2.1) := by
    unfold judgeLocate
    rw [motion_allowed_popRequest stands allows, popped, asked] <;> rfl
  have refuses {status : Status} (h : locateMotion port.origin code argument s.activeBank.preroll { s with system := y, link := l } =
      ({ s with system := y, link := l }, status, false)) : refused status := by
    rw [h, ← popped] at judged
    exact exec_judged rfl stands judged ((popRequest_quiet port s).2 quiet)
  refine ⟨fun bad => refuses (locateMotion_badValue bad), fun known inTime => ⟨fun barred => refuses (locateMotion_barred known inTime ?_),
    fun notRecord notEmpty notFault kind named => ?_⟩⟩
  · rcases barred with e | e | e <;> exact congrArg TransportState.barred e
  have free : s.transport.state.barred = false := by
    revert notRecord notEmpty notFault
    cases s.transport.state <;> simp [TransportState.barred]
  refine ⟨fun cue past => refuses (locateMotion_notFound named inTime free (.inl ⟨cue, past⟩)),
    fun program none => refuses (locateMotion_notFound named inTime free (.inr ⟨program, none⟩)), fun target found => ?_⟩
  rw [locateMotion_starts (s := { s with system := y, link := l }) named inTime free found] at judged
  intro aim direction far begun moving arrived winding waiting still leaves
  have locate : State.locateBegun port.origin kind target s.activeBank.preroll { s with system := y, link := l } = begun := by
    simp only [State.locateBegun, choosePhase_eq, begun] <;> rfl
  have demand : State.locateDemand target s.activeBank.preroll { s with system := y, link := l } =
      .wind direction (if far then .fast else .slow) := by
    simp only [State.locateDemand, choosePhase_speed] <;> rfl
  have winds : State.locateWinds port.origin kind target s.activeBank.preroll { s with system := y, link := l } = moving := by
    simp only [State.locateWinds, locate, demand] <;> rfl
  have arrives : State.locateArrives port.origin kind target s.activeBank.preroll { s with system := y, link := l } = arrived := by
    simp only [State.locateArrives, locate] <;> rfl
  refine ⟨fun away => ⟨fun off => ?_, fun play gate sized => ?_⟩, fun there locked => ⟨fun off => ?_, fun play gate sized => ?_⟩⟩
  · obtain ⟨x, started⟩ := startLocate_winds_off (origin := port.origin) (kind := kind) (s := { s with system := y, link := l }) away
      (rolling_of_not fun rolling => rolling.elim off notRecord)
    rw [started] at judged
    refine (exec_judged_handing rfl stands judged allows.idle quiet).trans ?_
    refine congrArg (fun v => Host.Outcome.next (answered ticket body .accepted [] v)) ?_
    simp only [still, winding, popped, winds, off, or_false]
  · have left := startLocate_winds_play (origin := port.origin) (o := .internal) (kind := kind) (s := { s with system := y, link := l })
      away play gate sized
    generalize startLocate port.origin kind target s.activeBank.preroll { s with system := y, link := l } = t at judged left
    obtain ⟨leavesOf, transport, decoder, cues, ⟨h, sequencer⟩, heldTape, system, link, reports⟩ := left
    have input : t.input = s.input := by
      obtain ⟨-, -, -, -, -, -, -, -, -, -, -, -, input, -⟩ := leavesOf
      exact input
    refine ⟨_, exec_judged_idle rfl stands judged (by rw [sequencer]; exact allows.idle) (by rw [input]; exact quiet.2), leavesOf,
      transport.trans winds, decoder.trans ?_, cues, ?_, heldTape, system.trans (by rw [popped]), link.trans (by rw [popped]), ?_⟩
    · simp only [winding, play, or_true, if_true]
    · show { t.sequencer with handoffs := [] } = s.sequencer
      rw [sequencer, ← quiet.1]
    · refine reports.trans ?_
      rw [leavingLog_congr (s := s) (t := { s with system := y, link := l }) rfl rfl rfl]
      exact leavingLog_reports 0 .internal rfl
  · obtain ⟨x, started⟩ := startLocate_arrives_off (origin := port.origin) (kind := kind) (s := { s with system := y, link := l }) there
      locked (rolling_of_not fun rolling => rolling.elim off notRecord)
    rw [started] at judged
    refine (exec_judged_handing rfl stands judged allows.idle quiet).trans ?_
    refine congrArg (fun v => Host.Outcome.next (answered ticket body .accepted [] (raiseFlag .motionDone v))) ?_
    simp only [still, waiting, popped, arrives]
  · have left := startLocate_arrives_play (origin := port.origin) (o := .internal) (kind := kind) (s := { s with system := y, link := l })
      there locked play gate sized
    generalize startLocate port.origin kind target s.activeBank.preroll { s with system := y, link := l } = t at judged left
    obtain ⟨leavesOf, transport, decoder, cues, ⟨h, sequencer⟩, heldTape, system, link, reports⟩ := left
    have input : t.input = s.input := by
      obtain ⟨-, -, -, -, -, -, -, -, -, -, -, -, input, -⟩ := leavesOf
      exact input
    refine ⟨_, exec_judged_idle rfl stands judged (by rw [sequencer]; exact allows.idle) (by rw [input]; exact quiet.2), leavesOf,
      transport.trans arrives, decoder, cues, ?_, heldTape, system.trans (by rw [popped]), link.trans (by rw [popped]), ?_⟩
    · show { t.sequencer with handoffs := [] } = s.sequencer
      rw [sequencer, ← quiet.1]
    · refine reports.trans ?_
      rw [leavingLog_congr (s := s) (t := { s with system := y, link := l }) rfl rfl rfl]
      unfold raiseFlag
      dsimp only
      rw [leavingLog_reports 0 .internal (t := { s with system := y, link := l }) (u := s) rfl]

end Sys2Proof.Proofs
end

section
/-! What a change of the take span makes of the trim demand (R23, R38, R39), and the scheduling of punches (R106, R139 to R142). -/

namespace Sys2Proof.Machine

section
variable {s t u : State} {l : List Nat}

/-! ### Work that leaves Q and the trim as they are -/

/-- `t` has the transport, the trim, Q and W of `s`. -/
structure Level (s t : State) : Prop where
  transport : t.transport = s.transport
  trim : t.store.trim = s.store.trim
  depthQ : t.depthQ = s.depthQ

theorem Level.refl (s : State) : Level s s := ⟨rfl, rfl, rfl⟩

theorem Level.trans (h : Level s t) (k : Level t u) : Level s u :=
  ⟨k.transport.trans h.transport, k.trim.trans h.trim, k.depthQ.trans h.depthQ⟩

/-- A change of the collections that leaves Q, and in RECORD W, judges nothing. -/
theorem level_withDepths {f : State → State} (h : Level s (f s)) (depthW : s.transport.state = .record → (f s).depthW = s.depthW) :
    Level s (withDepths f s) := by
  have same : withDepths f s = f s := by
    unfold withDepths
    dsimp only
    rw [if_pos h.depthQ]
    by_cases record : s.transport.state = .record
    · exact if_pos (depthW record)
    · rw [judgeW_of_ne_record (by rw [h.transport]; exact record), ite_self]
  rw [same]
  exact h

/-- Where Q is not judged and W is as it was, a change judges nothing. -/
theorem withDepths_unjudged {f : State → State} (unjudged : ¬ (f s).judgesQ) (depthW : (f s).depthW = s.depthW) :
    withDepths f s = f s := by
  unfold withDepths
  dsimp only
  rw [judgeQ_of_not_judgesQ unjudged, ite_self]
  exact if_pos depthW

theorem transport_foldl_freeOne (fs : List Nat) (s : State) :
    (fs.foldl freeOne s).transport = s.transport ∧ (fs.foldl freeOne s).store.trim = s.store.trim := by
  induction fs generalizing s with
  | nil => exact ⟨rfl, rfl⟩
  | cons i fs ih => exact ih (freeOne s i)

/-- Freeing slots that Q does not count, and in RECORD none of the write queue. -/
theorem level_freeSlots {fs : List Nat} (unplayed : ∀ i ∈ fs, i ∈ s.store.outputQueue → (s.slot i).role ≠ some .play)
    (unqueued : s.transport.state = .record → ∀ i ∈ fs, i ∉ s.store.writeQueue) : Level s (freeSlots fs s) := by
  have frees := foldl_freeOne_frees fs s
  obtain ⟨transport, trim⟩ := transport_foldl_freeOne fs s
  refine level_withDepths ⟨transport, trim, ?_⟩ fun record => ?_
  · unfold State.depthQ
    rw [frees.outputQueue, List.filter_filter]
    refine congrArg List.length (List.filter_congr fun i queued => ?_)
    rw [frees.slot]
    by_cases freed : i ∈ fs
    · have := unplayed i freed queued
      simp [freed, this]
    · simp [freed]
  · unfold State.depthW
    rw [frees.writeQueue, List.filter_eq_self.2 fun i queued => by simpa using fun freed => unqueued record i freed queued]

/-- The OLD slot that is found waits on the output queue. -/
theorem oldSlot_spec {f k : Nat} (h : s.oldSlot f = some k) :
    k ∈ s.store.outputQueue ∧ (s.slot k).role = some .old ∧ (s.slot k).state = .concealed ∧ (s.slot k).frameTime = some f := by
  have found := List.find?_some h
  simp only [Bool.and_eq_true, beq_iff_eq] at found
  exact ⟨List.mem_of_find?_eq_some h, found.1.1, found.1.2, found.2⟩

/-- A take changes neither Q nor W: the OLD slot it frees counts to neither. -/
theorem level_takeSlot (sound : SoundWith l s) {i : Nat} (state : (s.slot i).state = .captured) : Level s (takeSlot i s) := by
  have hi := sound.lt (i := i) (by rw [state]; decide)
  unfold takeSlot
  dsimp only
  generalize hv : ({ s.slot i with state := .mixed, copyField := _, pairs := _, mixed := _ } : Slot) = v
  have role : v.role = (s.slot i).role := by subst hv; rfl
  have slot := slot_setSlot_of sound.length hi v
  have mixed : Level s { Machine.setSlot i v s with
      store := { (Machine.setSlot i v s).store with captureList := (Machine.setSlot i v s).store.captureList.filter (· != i) }
      copy := { (Machine.setSlot i v s).copy with inputFields := (Machine.setSlot i v s).copy.inputFields.filter (·.1 != i) } } := by
    refine ⟨rfl, rfl, ?_⟩
    unfold State.depthQ
    refine congrArg List.length (List.filter_congr fun k _ => ?_)
    have same : ((Machine.setSlot i v s).slot k).role = (s.slot k).role := by
      rw [slot]
      split
      · next at_i => rw [role, at_i]
      · rfl
    exact congrArg (· == some Role.play) same
  refine mixed.trans (level_freeSlots (fun k old _ => ?_) (fun _ k old queued => ?_))
  · obtain ⟨-, roleOf, concealed, -⟩ := oldSlot_spec (Option.mem_toList.1 old)
    show ((Machine.setSlot i v s).slot k).role ≠ some .play
    have ne : k ≠ i := by rintro rfl; rw [state] at concealed; cases concealed
    rw [slot, if_neg ne, roleOf]
    decide
  · obtain ⟨-, -, concealed, -⟩ := oldSlot_spec (Option.mem_toList.1 old)
    have hk := sound.lt (i := k) (by rw [concealed]; decide)
    obtain ⟨-, -, -, -, queue, -⟩ := sound.agrees hk
    have waits : (s.slot k).state = .captured ∨ (s.slot k).state = .mixed := queue.1 queued
    rw [concealed] at waits
    rcases waits with w | w <;> cases w

theorem level_mixerRun (sound : SoundWith l s) (n : Nat) : Level s (mixerRun n s) := by
  induction n generalizing s with
  | zero => exact .refl s
  | succ n ih =>
    unfold mixerRun
    split
    · exact .refl s
    · dsimp only
      split
      · next ready => exact (level_takeSlot sound ready.1).trans (ih (sound.takeSlot ready.1))
      · exact .refl s

/-! ### A change of the take span -/

theorem State.followsQ.level (h : s.followsQ t) (k : Level t u) : s.followsQ u := by
  obtain ⟨judged, unjudged⟩ := h
  obtain ⟨transport, trim, depth⟩ := k
  unfold State.followsQ State.carries State.keepsTrim at *
  rw [transport, trim, depth]
  exact ⟨judged, unjudged⟩

/-- The trim follows Q as roles are set again. -/
theorem setRoles_followsQ (s : State) : s.followsQ (setRoles s) := by
  by_cases record : s.transport.state = .record
  · have unjudged : ¬ s.judgesQ := fun q => by rw [q.1] at record; cases record
    have kept : s.keepsTrim (setRoles s) := by
      have judged : withDepths (fun t => { t with store := { t.store with slots := t.store.slots.map fun v =>
          if v.rolesAgain then { v with role := some (t.roleFor (v.frameTime.getD 0)) } else v } }) s = { s with store := { s.store with
          slots := s.store.slots.map fun v => if v.rolesAgain then { v with role := some (s.roleFor (v.frameTime.getD 0)) } else v } } :=
        withDepths_unjudged unjudged rfl
      unfold setRoles
      rw [judged]
      exact ⟨rfl, rfl⟩
    exact ⟨fun q => absurd q unjudged, fun _ => kept⟩
  · exact withDepths_followsQ record rfl rfl rfl

/-- Slots that leave the take span do not wait on the output queue. -/
theorem outsideSpan_state {v : Slot} (h : s.outsideSpan v = true) : v.state = .capturing ∨ v.state = .captured ∨ v.state = .mixed := by
  simp only [State.outsideSpan, Bool.and_eq_true, Bool.or_eq_true, beq_iff_eq] at h
  exact or_assoc.1 h.1

/-- The trim follows Q as the take span changes, where in RECORD no slot that waits leaves the span. -/
theorem spanChanged_followsQ (sound : SoundWith l s)
    (inside : s.transport.state = .record → ∀ i ∈ s.store.writeQueue, s.inSpan ((s.slot i).frameTime.getD 0) = true) :
    s.followsQ (spanChanged s) := by
  have roles := setRoles_followsQ s
  have work := slotWork_setRoles s
  have queue : (setRoles s).store.writeQueue = s.store.writeQueue := by
    obtain ⟨trim, demand, roles⟩ := withDepths_trimmed (fun t => { t with store := { t.store with
      slots := t.store.slots.map fun v => if v.rolesAgain then { v with role := some (t.roleFor (v.frameTime.getD 0)) } else v } }) s
    unfold setRoles
    rw [roles] <;> rfl
  have slot := slot_setRoles s
  have soundOf := sound.setRoles
  have spanOf : (setRoles s).inSpan = s.inSpan := by
    funext f
    unfold State.inSpan State.framePairs
    rw [work.mixer, work.activeBank]
  unfold spanChanged
  dsimp only
  generalize setRoles s = u at *
  have freed : Level u (freeSlots (u.slotsWhere u.outsideSpan) u) := by
    refine level_freeSlots (fun i outside queued => ?_) fun record i outside queued => ?_
    · have outsideOf := outsideSpan_state (List.mem_filter.1 outside).2
      intro played
      have hi := soundOf.lt (i := i) (by rcases outsideOf with e | e | e <;> rw [e] <;> decide)
      obtain ⟨-, -, -, -, -, -, output, -⟩ := soundOf.agrees hi
      rw [output.1 queued] at outsideOf
      rcases outsideOf with e | e | e <;> cases e
    · have outsideOf := (List.mem_filter.1 outside).2
      have insideOf := inside (work.state ▸ record) i (queue ▸ queued)
      have time : (u.slot i).frameTime = (s.slot i).frameTime := by
        rw [slot]; split <;> rfl
      simp [State.outsideSpan, time, spanOf, insideOf] at outsideOf
  have soundFreed : SoundWith l (freeSlots (u.slotsWhere u.outsideSpan) u) := by
    refine soundOf.freeSlots fun i outside => ?_
    have outsideOf := outsideSpan_state (List.mem_filter.1 outside).2
    rcases outsideOf with e | e | e <;> rw [e] <;> decide
  generalize freeSlots (u.slotsWhere u.outsideSpan) u = w at *
  split
  · refine (roles.level freed).level ?_
    have opened : Level w { w with copy := { w.copy with latched := false } } := ⟨rfl, rfl, rfl⟩
    exact opened.trans (level_mixerRun (s := { w with copy := { w.copy with latched := false } }) soundFreed.of _)
  · exact (roles.level freed).level (level_mixerRun soundFreed _)

/-! ### A punch set (R137, R139, R141, R142) -/

/-- `t` is `s` with the punch records of `m`, the collections and the trim following the new take span. -/
structure PunchSet (s t : State) (m : Mixer) : Prop where
  mixer : t.mixer = m
  transport : t.transport = { s.transport with demand := t.transport.demand }
  decoder : t.decoder = s.decoder
  banks : t.banks = s.banks
  cues : t.cues = s.cues
  sequencer : t.sequencer = s.sequencer
  input : t.input = s.input
  current : t.copy.current = s.copy.current
  heldTape : t.copy.heldTape = s.copy.heldTape
  reports : t.reports = s.reports
  conceal : t.conceal = s.conceal
  system : t.system = s.system
  link : t.link = s.link
  follows : s.storeSound → s.recordSound → s.followsQ t

theorem spanChanged_punchSet {m : Mixer} (inside : s.recordSound → s.transport.state = .record →
      ∀ i ∈ s.store.writeQueue, State.inSpan { s with mixer := m } ((s.slot i).frameTime.getD 0) = true) :
    PunchSet s (spanChanged { s with mixer := m }) m := by
  have work := (slotWork_spanChanged { s with mixer := m }).1
  refine ⟨work.mixer, work.transport, work.decoder, work.banks, work.cues, work.sequencer, work.input, work.current, work.heldTape,
    work.reports, work.conceal, work.system, work.link, fun store record => ?_⟩
  exact spanChanged_followsQ (s := { s with mixer := m }) (storeSound_iff.1 store).1.of (inside record)

/-! ### The tests of a punch-in (R139, R140) -/

variable {p : Punch} {o : Option Punch} {origin : Origin} {status : Status}

/-- A punch-in stands in the way of another, or is about to be asked for. -/
def State.punchPending (s : State) : Prop := s.mixer.gateOpen = true ∨ s.mixer.punchIn.isSome = true ∨ s.transport.recordPending = true

/-- A pending switch would change the format. -/
def State.locks (s : State) : Prop := s.banks.pendingSwitch.isSome = true ∧
  (s.banks.stagedBank.rate ≠ s.activeBank.rate ∨ s.banks.stagedBank.tapeWordLength ≠ s.activeBank.tapeWordLength)

theorem locks_iff : s.banks.pendingSwitch.isSome = true ∧ s.switchChangesFormat = true ↔ s.locks := by
  simp [State.locks, State.switchChangesFormat, State.activeBank]

theorem punchInTests_pending (h : s.punchPending) : s.punchInTests p o = some .pending := if_pos h

theorem punchInTests_state (h : ¬ s.punchPending) (k : s.transport.state ≠ .play ∨ p.timed = true ∧ s.decoder.status = .lost) :
    s.punchInTests p o = some .state := by
  refine (if_neg h).trans ?_
  by_cases play : s.transport.state = .play
  · exact (if_neg (not_not.2 play)).trans (if_pos (k.resolve_left (not_not.2 play)))
  · exact if_pos play

/-- The tests of the state are passed: nothing stands in the way, and the deck plays with a time known to a timed punch. -/
def State.punchable (s : State) (p : Punch) : Prop :=
  ¬ s.punchPending ∧ s.transport.state = .play ∧ ¬ (p.timed = true ∧ s.decoder.status = .lost)

theorem punchInTests_passed (h : s.punchable p) : s.punchInTests p o =
    if s.banks.pendingSwitch.isSome = true ∧ s.switchChangesFormat = true then some .locked
    else if p.time < s.decoder.time + 4 then some .tooLate
    else if ∃ q ∈ o, q.time ≤ p.lastIn s.framePairs then some .badValue
    else if 359999 < p.lastIn s.framePairs ∨ ∃ q ∈ o, 359999 ≤ q.lastOut s.framePairs then some .tooLate
    else none := by
  obtain ⟨free, play, known⟩ := h
  refine (if_neg free).trans ((if_neg (not_not.2 play)).trans ((if_neg known).trans ?_))
  refine if_congr Iff.rfl rfl (if_congr Iff.rfl rfl (if_congr ?_ rfl (if_congr ?_ rfl rfl)))
  · cases o <;> simp
  · cases o <;> simp [Config.lastTime]

theorem punchInTests_locked (h : s.punchable p) (locks : s.locks) : s.punchInTests p o = some .locked :=
  (punchInTests_passed h).trans (if_pos (locks_iff.2 locks))

theorem punchInTests_early (h : s.punchable p) (free : ¬ s.locks) (early : p.time < s.decoder.time + 4) :
    s.punchInTests p o = some .tooLate :=
  (punchInTests_passed h).trans ((if_neg (mt locks_iff.1 free)).trans (if_pos early))

theorem punchInTests_overlaps (h : s.punchable p) (free : ¬ s.locks) (timely : ¬ p.time < s.decoder.time + 4)
    (overlaps : ∃ q ∈ o, q.time ≤ p.lastIn s.framePairs) : s.punchInTests p o = some .badValue :=
  (punchInTests_passed h).trans ((if_neg (mt locks_iff.1 free)).trans ((if_neg timely).trans (if_pos overlaps)))

theorem punchInTests_past (h : s.punchable p) (free : ¬ s.locks) (timely : ¬ p.time < s.decoder.time + 4)
    (apart : ¬ ∃ q ∈ o, q.time ≤ p.lastIn s.framePairs)
    (past : 359999 < p.lastIn s.framePairs ∨ ∃ q ∈ o, 359999 ≤ q.lastOut s.framePairs) : s.punchInTests p o = some .tooLate :=
  (punchInTests_passed h).trans ((if_neg (mt locks_iff.1 free)).trans ((if_neg timely).trans ((if_neg apart).trans (if_pos past))))

theorem punchInTests_none (h : s.punchable p) (free : ¬ s.locks) (timely : ¬ p.time < s.decoder.time + 4)
    (apart : ¬ ∃ q ∈ o, q.time ≤ p.lastIn s.framePairs)
    (within : ¬ (359999 < p.lastIn s.framePairs ∨ ∃ q ∈ o, 359999 ≤ q.lastOut s.framePairs)) : s.punchInTests p o = none :=
  (punchInTests_passed h).trans ((if_neg (mt locks_iff.1 free)).trans ((if_neg timely).trans ((if_neg apart).trans (if_neg within))))

/-- A punch-in set in PLAY: no slot of the record path waits before it. -/
theorem schedulePunchIn_punchSet (h : s.punchInTests p o = none) (free : s.copy.current ≠ .refuse) (play : s.transport.state = .play) :
    ∃ t, schedulePunchIn origin p o s = (t, .accepted) ∧
      PunchSet s t { s.mixer with punchIn := some p, taken := false, punchOut := o, committed := false } := by
  refine ⟨_, ?_, spanChanged_punchSet fun _ record => by rw [play] at record; cases record⟩
  unfold schedulePunchIn judgeCopy
  rw [h, if_neg free]

theorem schedulePunchIn_refused (h : s.punchInTests p o = some status) : schedulePunchIn origin p o s = (s, status) := by
  unfold schedulePunchIn
  rw [h]

theorem schedulePunchIn_copy (h : s.punchInTests p o = none) (refuse : s.copy.current = .refuse) :
    schedulePunchIn origin p o s = (recordRefusal origin s, .copy) := by
  unfold schedulePunchIn judgeCopy
  rw [h, if_pos refuse]

theorem recordRefusal_eq (origin : Origin) (s : State) : recordRefusal origin s =
    logEntry .copyRefused s.timeNow origin (if s.input.status.valid then 1 else 0)
      (raiseFlag .copyRefused (setCondition .copy (count .copyRefusals 1 s))) := rfl

end
end Sys2Proof.Machine
end

section
/-! Punches asked for by a port, and at the end of a spin-up (R106, R118, R139 to R141). Settles O10, O11 and O42. -/

namespace Sys2Proof.Machine

section
variable {s t w : State} {port : Port} {ticket : Ticket} {body : List Word} {status : Status} {origin : Origin}

/-! ### RECORD (R118, R140) -/

theorem recordMotion_barred (h : s.transport.state = .wind ∨ s.transport.state = .locate ∨ s.transport.state = .record ∨
    s.transport.state = .empty ∨ s.transport.state = .fault) : recordMotion origin s = (s, .state) := by
  unfold recordMotion
  rcases h with e | e | e | e | e <;> simp only [e]

theorem judgeCopy_refuses (h : s.copy.current = .refuse) : judgeCopy origin s = (recordRefusal origin s, false) := if_pos h

theorem judgeCopy_passes (h : s.copy.current ≠ .refuse) : judgeCopy origin s = (s, true) := if_neg h

theorem recordMotion_copy (h : s.transport.state = .stop ∨ s.transport.state = .cued ∨
      s.transport.state = .starting ∧ s.transport.recordPending = false) (refuse : s.copy.current = .refuse) :
    recordMotion origin s = (recordRefusal origin s, .copy) := by
  unfold recordMotion
  rw [judgeCopy_refuses refuse]
  rcases h with e | e | ⟨e, unasked⟩
  · simp only [e]
  · simp only [e]
  · simp [e, unasked]

theorem recordMotion_starts (h : s.transport.state = .stop ∨ s.transport.state = .cued) (free : s.copy.current ≠ .refuse) :
    recordMotion origin s = ({ s with
      transport := { s.transport with
        state := .starting, demand := .playSpeed .normal, spinUpRunning := true, recordPending := true
        recordOrigin := origin, holdAwaited := false, faultRelease := false }
      store := { s.store with trim := .normal }
      decoder := { s.decoder with readMode := .subcode, lateReads := false } }, .accepted) := by
  have off : s.transport.state.rolling = false := by rcases h with e | e <;> rw [e] <;> rfl
  have entering := enterState_steady (new := .starting) (demand := .playSpeed .normal) off
  have runs : startRunCleared s.transport.state .starting = false := by cases s.transport.state <;> rfl
  unfold recordMotion
  rw [judgeCopy_passes free]
  rcases h with e | e <;> simp only [e, entering] <;>
    simp [entered, runs, TransportState.rolling, TransportState.readMode]

theorem recordMotion_pending (h : s.transport.state = .starting) (asked : s.transport.recordPending = true) :
    recordMotion origin s = (s, .pending) := by
  unfold recordMotion
  simp [h, asked]

theorem recordMotion_sets (h : s.transport.state = .starting) (unasked : s.transport.recordPending = false)
    (free : s.copy.current ≠ .refuse) :
    recordMotion origin s = ({ s with transport := { s.transport with recordPending := true, recordOrigin := origin } }, .accepted) := by
  unfold recordMotion
  rw [judgeCopy_passes free]
  simp [h, unasked]

theorem recordMotion_play (h : s.transport.state = .play) : recordMotion origin s = schedulePunchIn origin (s.punchNow origin) none s := by
  unfold recordMotion
  simp only [h]

theorem crossfadeOfChoice_eq {choice cross bank : Nat}
    (h : [0, 32, 64, 128, 256, 512, 1024, 2048][choice]? = some cross ∨ choice = 8 ∧ cross = bank) :
    crossfadeOfChoice bank choice = some cross := by
  unfold crossfadeOfChoice crossfadeLengths
  rcases h with listed | ⟨rfl, rfl⟩
  · have ne : choice ≠ 8 := by rintro rfl; cases listed
    rw [if_neg ne, listed]
  · exact if_pos rfl

theorem crossfadeOfChoice_none {choice bank : Nat} (h : 8 < choice) : crossfadeOfChoice bank choice = none := by
  unfold crossfadeOfChoice
  rw [if_neg (by omega)]
  exact List.getElem?_eq_none (by simp [crossfadeLengths]; omega)

/-! ### SCHEDULE-PUNCH (R118, R139) -/

theorem exists_mem_ite {c : Prop} [Decidable c] {q : Punch} {holds : Punch → Prop} :
    (∃ r ∈ (if c then some q else none), holds r) ↔ c ∧ holds q := by
  by_cases h : c <;> simp [h]

theorem judgeSchedulePunch_barred (allows : s.allows ticket.port) (h : s.transport.state = .empty ∨ s.transport.state = .fault) :
    judgeSchedulePunch ticket body s = plain (s, .state) := by
  have barred : s.punchBarred = true := by rcases h with e | e <;> simp [State.punchBarred, e]
  unfold judgeSchedulePunch
  rw [motion_allowed allows, if_pos barred]

theorem punchBarred_false (empty : s.transport.state ≠ .empty) (fault : s.transport.state ≠ .fault) : s.punchBarred = false := by
  simp [State.punchBarred, empty, fault]

theorem judgeSchedulePunch_badValue (allows : s.allows ticket.port) (free : s.punchBarred = false)
    (bad : 8 < (argWord body 1).high ∨ 359999 < argLong body 2 ∨
      body.length = 6 ∧ (8 < (argWord body 1).low ∨ 359999 < argLong body 4)) :
    judgeSchedulePunch ticket body s = plain (s, .badValue) := by
  unfold judgeSchedulePunch
  rw [motion_allowed allows, if_neg (by rw [free]; decide)]
  refine congrArg plain ?_
  dsimp only
  split
  · rfl
  · next high =>
    have listed : ¬ 8 < (argWord body 1).high := fun past => by rw [crossfadeOfChoice_none past] at high; cases high
    by_cases late : 359999 < argLong body 2
    · exact if_pos late
    · obtain ⟨six, rest⟩ := (bad.resolve_left listed).resolve_left late
      refine (if_neg late).trans ((if_pos six).trans ?_)
      split
      · rfl
      · next low =>
        have lowListed : ¬ 8 < (argWord body 1).low := fun past => by rw [crossfadeOfChoice_none past] at low; cases low
        exact if_pos (rest.resolve_left lowListed)

theorem judgeSchedulePunch_schedules {crossIn crossOut : Nat} (allows : s.allows ticket.port) (free : s.punchBarred = false)
    (high : crossfadeOfChoice s.activeBank.crossfade (argWord body 1).high = some crossIn) (inTime : argLong body 2 ≤ 359999)
    (low : body.length = 6 → crossfadeOfChoice s.activeBank.crossfade (argWord body 1).low = some crossOut ∧ argLong body 4 ≤ 359999) :
    judgeSchedulePunch ticket body s = plain (schedulePunchIn ticket.port.origin ⟨argLong body 2, crossIn, true, ticket.port.origin⟩
      (if body.length = 6 then some ⟨argLong body 4, crossOut, true, ticket.port.origin⟩ else none) s) := by
  have timely : ¬ Config.lastTime < argLong body 2 := not_lt.2 inTime
  unfold judgeSchedulePunch
  rw [motion_allowed allows, if_neg (by rw [free]; decide)]
  refine congrArg plain ?_
  simp only [high, if_neg timely]
  by_cases six : body.length = 6
  · obtain ⟨lowOf, outTime⟩ := low six
    have timelyOut : ¬ Config.lastTime < argLong body 4 := not_lt.2 outTime
    simp only [six, if_true, lowOf, if_neg timelyOut]
  · simp only [six, if_false]

/-! ### PUNCH-OUT (R141) -/

/-- The punch-out that a PUNCH-OUT request sets. -/
def State.punchOutNext (p : Punch) (origin : Origin) (s : State) : Punch :=
  ⟨max (s.decoder.time + 4) (p.lastIn s.framePairs + 1), s.activeBank.crossfade, false, origin⟩

theorem punchOutNow_pending (scheduled : s.mixer.punchIn.isSome = true) (set : s.mixer.punchOut.isSome = true) :
    punchOutNow origin s = (s, .pending) := by
  obtain ⟨p, punch⟩ := Option.isSome_iff_exists.1 scheduled
  unfold punchOutNow
  rw [punch]
  exact if_pos set

theorem punchOutNow_near {p : Punch} (punch : s.mixer.punchIn = some p) (unset : s.mixer.punchOut = none)
    (near : s.mixer.gateOpen = true ∨ p.time < s.decoder.time + 4) : punchOutNow origin s = setPunchOutNow p origin s := by
  unfold punchOutNow
  rw [punch, unset]
  exact if_pos near

theorem punchOutNow_cancels {p : Punch} (punch : s.mixer.punchIn = some p) (unset : s.mixer.punchOut = none)
    (closed : s.mixer.gateOpen = false) (far : s.decoder.time + 4 ≤ p.time) :
    punchOutNow origin s = (cancelPunch .request s, .done) := by
  have notNear : ¬ (s.mixer.gateOpen = true ∨ p.time < s.decoder.time + 4) := by simp [closed]; omega
  unfold punchOutNow
  rw [punch, unset]
  exact if_neg notNear

theorem punchOutNow_callsOff (none : s.mixer.punchIn = none) (starting : s.transport.state = .starting)
    (asked : s.transport.recordPending = true) : punchOutNow origin s =
    (logEntry .punchCancelled s.timeNow s.transport.recordOrigin 23
      { s with transport := { s.transport with recordPending := false } }, .done) := by
  unfold punchOutNow
  rw [none]
  exact if_pos ⟨starting, asked⟩

theorem punchOutNow_state (none : s.mixer.punchIn = none) (h : s.transport.state ≠ .starting ∨ s.transport.recordPending = false) :
    punchOutNow origin s = (s, .state) := by
  unfold punchOutNow
  rw [none]
  refine if_neg fun both => ?_
  obtain ⟨starting, asked⟩ := both
  rcases h with other | unasked
  · exact other starting
  · rw [asked] at unasked; cases unasked

theorem setPunchOutNow_late {p : Punch} (late : 359999 ≤ (s.punchOutNext p origin).lastOut s.framePairs) :
    setPunchOutNow p origin s = (s, .tooLate) := if_pos late

/-- A slot that waits is of a frame before the last one of the take. -/
theorem waits_inside {p o : Punch} (punch : s.mixer.punchIn = some p) (record : s.recordSound)
    (after : s.decoder.time + 3 ≤ o.lastOut s.framePairs) {i : Nat} (queued : i ∈ s.store.writeQueue) :
    State.inSpan { s with mixer := { s.mixer with punchOut := some o, committed := false } } ((s.slot i).frameTime.getD 0) = true := by
  obtain ⟨-, -, -, -, waiting, -⟩ := record
  have listed : (s.slot i).frameTime.getD 0 ∈ s.times (s.store.captureList ++ s.store.writeQueue) :=
    List.mem_map.2 ⟨i, List.mem_append_right _ queued, rfl⟩
  obtain ⟨inside, near⟩ := waiting _ listed
  unfold State.inSpan at inside ⊢
  rw [punch] at inside
  show (match s.mixer.punchIn with | _ => _) = true
  rw [punch]
  simp only [Bool.and_eq_true, decide_eq_true_eq] at inside ⊢
  exact ⟨inside.1, by show _ ≤ o.lastOut s.framePairs; omega⟩

theorem lastOut_ge (o : Punch) (n : Nat) : o.time - 1 ≤ o.lastOut n := by
  unfold Punch.lastOut
  split <;> omega

/-- A punch-out set within the tape time. -/
theorem setPunchOutNow_punchSet {p : Punch} (punch : s.mixer.punchIn = some p)
    (fits : (s.punchOutNext p origin).lastOut s.framePairs < 359999) : ∃ t, setPunchOutNow p origin s = (t, .accepted) ∧
      PunchSet s t { s.mixer with punchOut := some (s.punchOutNext p origin), committed := false } := by
  have far : s.decoder.time + 4 ≤ (s.punchOutNext p origin).time := le_max_left _ _
  have after := lastOut_ge (s.punchOutNext p origin) s.framePairs
  have within : s.decoder.time + 3 ≤ (s.punchOutNext p origin).lastOut s.framePairs := by omega
  refine ⟨_, if_neg (show ¬ Config.lastTime ≤ _ from not_le_of_gt fits), spanChanged_punchSet fun record _ i queued => ?_⟩
  exact waits_inside punch record within queued

/-- A slot that a cancelled punch-in leaves: none of the record path, and none of role OLD that is not mixed. -/
def Slot.unscheduled (v : Slot) : Prop :=
  v.state ∉ [SlotState.capturing, .captured, .mixed] ∧ (v.state = .concealed → v.mixed = false → v.role ≠ some .old)

theorem unscheduled_freed : Slot.freed.unscheduled := ⟨by decide, fun h => by cases h⟩

/-- Takes of slots beyond the sixteen, which a sound store does not have, leave it so. -/
theorem mixerRun_unscheduled (n : Nat) (h : ∀ i < 16, (s.slot i).unscheduled) : ∀ i < 16, ((mixerRun n s).slot i).unscheduled := by
  induction n generalizing s with
  | zero => exact h
  | succ n ih =>
    unfold mixerRun
    split
    · exact h
    · next k _ _ =>
      dsimp only
      split
      · next ready =>
        refine ih fun i hi => ?_
        have ne : i ≠ k := by
          rintro rfl
          have := (h i hi).1
          rw [ready.1] at this
          simp at this
        unfold takeSlot
        dsimp only
        rw [(freeSlots_frees _ _).slot]
        split
        · exact unscheduled_freed
        · show ((Machine.setSlot k _ s).slot i).unscheduled
          rw [slot_setSlot, if_neg fun both => ne both.1]
          exact h i hi
      · exact h

/-- Without punches no slot of the record path is left, and none of role OLD but a mixed one (R23, R37). -/
theorem spanChanged_unscheduled (none : s.mixer.punchIn = none) : ∀ i < 16, ((spanChanged s).slot i).unscheduled := by
  have roles (k : Nat) : ((setRoles s).slot k).state = .concealed → ((setRoles s).slot k).mixed = false →
      ((setRoles s).slot k).role ≠ some .old := by
    have role : s.roleFor ((s.slot k).frameTime.getD 0) = .play := by simp [State.roleFor, State.inSpan, none]
    rw [slot_setRoles, role]
    split
    · intro _ _ h
      cases h
    · next stays =>
      intro waits unmixed old
      exact stays (by simp [Slot.rolesAgain, waits, unmixed, old])
  have freed : ∀ k < 16, ((freeSlots ((setRoles s).slotsWhere (setRoles s).outsideSpan) (setRoles s)).slot k).unscheduled := by
    intro k hk
    rw [(freeSlots_frees _ _).slot]
    split
    · exact unscheduled_freed
    · next kept =>
      refine ⟨fun listed => kept (List.mem_filter.2 ⟨List.mem_range.2 hk, ?_⟩), roles k⟩
      have spanOf : (setRoles s).mixer.punchIn = Option.none := by rw [(slotWork_setRoles s).mixer, none]
      have outside (f : Nat) : (setRoles s).inSpan f = false := by simp [State.inSpan, spanOf]
      simp only [List.mem_cons, List.not_mem_nil, or_false] at listed
      simp only [State.outsideSpan, outside, Bool.not_false, Bool.and_true, Bool.or_eq_true, beq_iff_eq]
      tauto
  unfold spanChanged
  dsimp only
  generalize freeSlots ((setRoles s).slotsWhere (setRoles s).outsideSpan) (setRoles s) = u at freed
  split
  · exact mixerRun_unscheduled _ (s := { u with copy := { u.copy with latched := false } }) freed
  · exact mixerRun_unscheduled _ freed

/-- A punch-in cancelled in PLAY. -/
theorem cancelPunch_punchSet {p : Punch} (reason : CancelReason) (punch : s.mixer.punchIn = some p) (taken : s.mixer.taken = false)
    (play : s.transport.state = .play) : ∃ x u,
      cancelPunch reason s = State.handing x (logEntry .punchCancelled s.timeNow p.origin reason.code u) ∧
      PunchSet s u { s.mixer with punchIn := none, taken := false, punchOut := none, committed := false, gateOpen := false } ∧
      u.copy.latched = false ∧ ∀ i < 16, (u.slot i).unscheduled := by
  obtain ⟨x, handed⟩ := handOffIf_eq s.listPunch (.punchFailed reason)
    (logEntry .punchCancelled s.timeNow p.origin reason.code (spanChanged (clearPunches s)))
  refine ⟨x, spanChanged (clearPunches s), (cancelPunch_eq reason punch taken).trans handed, ?_, ?_, ?_⟩
  · exact spanChanged_punchSet fun _ record => by rw [play] at record; cases record
  · exact (slotWork_spanChanged (clearPunches s)).2 rfl
  · exact spanChanged_unscheduled rfl

/-! ### AT-SPEED (R111, R115, R140) -/

/-- The deck that a spin-up ends in. -/
def State.rolled (s : State) : State := raiseFlag .motionDone { s with
  transport := { s.transport with
    state := .play, demand := .playSpeed .normal, lastReport := some .atSpeed, spinUpRunning := false
    recordPending := false, holdAwaited := false, faultRelease := false }
  store := { s.store with trim := .normal }
  decoder := { s.decoder with
    readMode := .full, startRun := none, gathering := true, current := none, next := none, closedLast := false
    lateReads := false }
  conceal := { gain := 0, held := ⟨0, 0⟩, heldValid := false, carried := none }
  copy := { s.copy with heldTape := none } }

theorem exec_atSpeed (starting : s.transport.state = .starting) : exec .atSpeed s = .next (settle
    (if s.transport.recordPending = true then punchAtSpeed (s.rolled.handing (s.sequencer.handoffs ++ [.spunUp]))
      else s.rolled.handing (s.sequencer.handoffs ++ [.spunUp]))) := by
  have rolls : handOff .spunUp (raiseFlag .motionDone (enterState .play (.playSpeed .normal) (setReport (some .atSpeed) s))) =
      s.rolled.handing (s.sequencer.handoffs ++ [.spunUp]) := by
    rw [enterState_start (by show s.transport.state.rolling = _; rw [starting]; rfl) rfl]
    unfold State.rolled State.handing handOff startRolling entered setReport
    simp [starting, startRunCleared, TransportState.rolling, TransportState.readMode, Pair.zero]
    rfl
  show Host.Outcome.next (if s.transport.state = .starting then _ else _) = _
  rw [if_pos starting]
  dsimp only
  rw [rolls]

/-- The punch-in asked for at the end of a spin-up. -/
theorem punchAtSpeed_refused (h : s.punchInTests (s.punchNow s.transport.recordOrigin) none = some status) (other : status ≠ .accepted)
    (notCopy : status ≠ .copy) : punchAtSpeed s = logEntry .punchCancelled s.timeNow .internal status.code s := by
  unfold punchAtSpeed
  rw [schedulePunchIn_refused h]
  split
  · next accepted => cases accepted; exact absurd rfl other
  · next copy => cases copy; exact absurd rfl notCopy
  · next same => cases same; rfl

theorem punchAtSpeed_copy (h : s.punchInTests (s.punchNow s.transport.recordOrigin) none = none) (refuse : s.copy.current = .refuse) :
    punchAtSpeed s = recordRefusal .internal s := by
  unfold punchAtSpeed
  rw [schedulePunchIn_copy h refuse]

theorem punchAtSpeed_sets (h : s.punchInTests (s.punchNow s.transport.recordOrigin) none = none) (free : s.copy.current ≠ .refuse)
    (play : s.transport.state = .play) : PunchSet s (punchAtSpeed s)
      { s.mixer with punchIn := some (s.punchNow s.transport.recordOrigin), taken := false, punchOut := none, committed := false } := by
  obtain ⟨t, scheduled, set⟩ := schedulePunchIn_punchSet (origin := .internal) h free play
  unfold punchAtSpeed
  rw [scheduled]
  exact set

/-- Play begins on a sound store with a sound one (R30, R120). -/
theorem rolled_sound {x : List Handoff} (off : s.transport.state.rolling = false) (none : s.mixer.punchIn = none) (store : s.storeSound)
    (record : s.recordSound) : (s.rolled.handing x).storeSound ∧ (s.rolled.handing x).recordSound := by
  obtain ⟨sound, still⟩ := storeSound_iff.1 store
  obtain ⟨current, next⟩ := still off
  have empty : s.gatheringSlots = [] := by simp [State.gatheringSlots, Decoder.nextSlot, current, next]
  rw [empty] at sound
  refine ⟨storeSound_iff.2 ⟨sound.of, fun _ => ⟨rfl, rfl⟩⟩, ?_⟩
  obtain ⟨capture, write, captured, mixed, waits, -, early, verify⟩ := record
  exact ⟨capture, write, captured, mixed, waits, fun _ => none, early, verify⟩

end
end Sys2Proof.Machine

namespace Sys2Proof.Proofs
open Sys2Proof.Machine

/-- Settles O10. -/
theorem recordAndPunchInRequests : Obligations.RecordAndPunchInRequests := by
  intro port ticket body s quiet allows refused copyRefused schedules lastIn lastOut chosen pending locks
  obtain ⟨y, l, popped⟩ := popRequest_leaves port s
  have refusesOf {c : Instr} {kind : RequestKind} {judge : Ticket → List Word → State → Judgement} {status : Status}
      (hc : exec c s = .next (serve port kind judge s)) (stands : s.stands port kind ticket body)
      (judged : judge ticket body (popRequest port s) = plain ({ s with system := y, link := l }, status)) : refused c status := by
    rw [← popped] at judged
    exact exec_judged hc stands judged ((popRequest_quiet port s).2 quiet)
  have copyOf {c : Instr} {kind : RequestKind} {judge : Ticket → List Word → State → Judgement}
      (hc : exec c s = .next (serve port kind judge s)) (stands : s.stands port kind ticket body)
      (judged : judge ticket body (popRequest port s) = plain (recordRefusal port.origin { s with system := y, link := l }, .copy)) :
      copyRefused c := by
    have done := exec_judged hc stands judged quiet
    unfold copyRefused
    rw [popped]
    exact done
  have schedulesOf {c : Instr} {kind : RequestKind} {judge : Ticket → List Word → State → Judgement} {p : Punch} {o : Option Punch}
      {t : State} (hc : exec c s = .next (serve port kind judge s)) (stands : s.stands port kind ticket body)
      (judged : judge ticket body (popRequest port s) = plain (t, .accepted))
      (set : PunchSet { s with system := y, link := l } t
        { s.mixer with punchIn := some p, taken := false, punchOut := o, committed := false }) : schedules c p o := by
    have quietOf : t.quiet := by unfold State.quiet; rw [set.sequencer, set.input]; exact quiet
    refine ⟨t, exec_judged hc stands judged quietOf, set.mixer, set.transport, set.decoder, set.banks, set.cues, set.sequencer, set.input,
      set.current, set.reports, set.conceal, ?_, ?_, set.follows⟩
    · rw [popped]; exact set.system
    · rw [popped]; exact set.link
  refine ⟨fun stands => ?_, fun stands => ?_⟩
  · have asked := headRequest_port stands.1
    have judged : judgeRecord ticket body (popRequest port s) = plain (recordMotion port.origin { s with system := y, link := l }) := by
      unfold judgeRecord
      rw [motion_allowed_popRequest stands allows, popped, asked]
    intro last
    refine ⟨fun barred => refusesOf rfl stands (judged.trans (congrArg plain (recordMotion_barred barred))),
      fun rests => ⟨fun refuse => copyOf rfl stands (judged.trans (congrArg plain (recordMotion_copy (by tauto) refuse))), fun free => ?_⟩,
      fun starting => ⟨fun asked => refusesOf rfl stands (judged.trans (congrArg plain (recordMotion_pending starting asked))),
        fun unasked refuse => copyOf rfl stands (judged.trans (congrArg plain (recordMotion_copy (.inr (.inr ⟨starting, unasked⟩)) refuse))),
        fun unasked free => ?_⟩, fun play => ?_⟩
    · have started := judged.trans (congrArg plain (recordMotion_starts rests free))
      rw [popped]
      exact exec_judged rfl stands started quiet
    · have set := judged.trans (congrArg plain (recordMotion_sets starting unasked free))
      rw [popped]
      exact exec_judged rfl stands set quiet
    · have judgedOf := judged.trans (congrArg plain (recordMotion_play (s := { s with system := y, link := l }) play))
      have punchable (free : ¬ pending) :
          State.punchable { s with system := y, link := l } (State.punchNow { s with system := y, link := l } port.origin) :=
        ⟨free, play, fun timed => by cases timed.1⟩
      have timely : ¬ (State.punchNow { s with system := y, link := l } port.origin).time < s.decoder.time + 4 := lt_irrefl _
      refine ⟨fun pends => ?_, fun free locked => ?_, fun free unlocked past => ?_, fun free unlocked fits refuse => ?_,
        fun free unlocked fits copies => ?_⟩
      · exact refusesOf rfl stands (judgedOf.trans (congrArg plain (schedulePunchIn_refused (punchInTests_pending pends))))
      · exact refusesOf rfl stands (judgedOf.trans (congrArg plain (schedulePunchIn_refused (punchInTests_locked (punchable free) locked))))
      · exact refusesOf rfl stands (judgedOf.trans (congrArg plain (schedulePunchIn_refused
          (punchInTests_past (punchable free) unlocked timely (by simp) (.inl past)))))
      · exact copyOf rfl stands (judgedOf.trans (congrArg plain (schedulePunchIn_copy
          (punchInTests_none (punchable free) unlocked timely (by simp)
            (fun past => absurd fits (not_le_of_gt (past.resolve_right (by simp))))) refuse)))
      · obtain ⟨t, scheduled, set⟩ := schedulePunchIn_punchSet (origin := port.origin)
          (punchInTests_none (o := none) (punchable free) unlocked timely (by simp)
            (fun past => absurd fits (not_le_of_gt (past.resolve_right (by simp))))) copies play
        exact schedulesOf rfl stands (judgedOf.trans (congrArg plain scheduled)) set
  · intro c t u paired
    have asked := headRequest_port stands.1
    have allowsOf : State.allows { s with system := y, link := l } ticket.port := by rw [asked]; exact allows
    refine ⟨fun barred => refusesOf rfl stands (by rw [popped]; exact judgeSchedulePunch_barred allowsOf barred),
      fun notEmpty notFault => ?_⟩
    have freeOf : State.punchBarred { s with system := y, link := l } = false := punchBarred_false notEmpty notFault
    refine ⟨fun bad => refusesOf rfl stands (by rw [popped]; exact judgeSchedulePunch_badValue allowsOf freeOf bad),
      fun crossIn crossOut choiceIn inTime choiceOut => ?_⟩
    intro early overlaps past
    have judged := judgeSchedulePunch_schedules (ticket := ticket) (body := body) (crossIn := crossIn) (crossOut := crossOut)
      (s := { s with system := y, link := l }) allowsOf freeOf (crossfadeOfChoice_eq choiceIn) inTime
      (fun six => ⟨crossfadeOfChoice_eq (choiceOut six).1, (choiceOut six).2⟩)
    rw [asked, ← popped] at judged
    have punchable (free : ¬ pending) (play : s.transport.state = .play) (known : s.decoder.status ≠ .lost) :
        State.punchable { s with system := y, link := l } ⟨t, crossIn, true, port.origin⟩ := ⟨free, play, fun lost => known lost.2⟩
    have early_iff : Punch.time ⟨t, crossIn, true, port.origin⟩ < s.decoder.time + 4 ↔ early := Iff.rfl
    have overlaps_iff : (∃ r ∈ (if body.length = 6 then some (Punch.mk u crossOut true port.origin) else none),
        r.time ≤ Punch.lastIn ⟨t, crossIn, true, port.origin⟩ s.framePairs) ↔ overlaps := exists_mem_ite
    have past_iff : (359999 < Punch.lastIn ⟨t, crossIn, true, port.origin⟩ s.framePairs ∨
        ∃ r ∈ (if body.length = 6 then some (Punch.mk u crossOut true port.origin) else none), 359999 ≤ r.lastOut s.framePairs) ↔ past :=
      or_congr Iff.rfl exists_mem_ite
    have refuses {status : Status} (tests : State.punchInTests { s with system := y, link := l } ⟨t, crossIn, true, port.origin⟩
        (if body.length = 6 then some ⟨u, crossOut, true, port.origin⟩ else none) = some status) : refused c status :=
      refusesOf rfl stands (judged.trans (by rw [popped]; exact congrArg plain (schedulePunchIn_refused tests)))
    refine ⟨fun pends => refuses (punchInTests_pending pends), fun free stays => refuses (punchInTests_state free
      (stays.imp id fun lost => ⟨rfl, lost⟩)), fun free play known => ?_⟩
    have able := punchable free play known
    refine ⟨fun locked => refuses (punchInTests_locked able locked), fun unlocked soon => refuses (punchInTests_early able unlocked soon),
      fun unlocked timely meets => refuses (punchInTests_overlaps able unlocked timely (overlaps_iff.2 meets)),
      fun unlocked timely apart late => refuses (punchInTests_past able unlocked timely (mt overlaps_iff.1 apart) (past_iff.2 late)),
      fun unlocked timely apart fits refuse => ?_, fun unlocked timely apart fits copies => ?_⟩
    · refine copyOf rfl stands (judged.trans ?_)
      rw [popped]
      exact congrArg plain (schedulePunchIn_copy (punchInTests_none able unlocked timely (mt overlaps_iff.1 apart) (mt past_iff.1 fits))
        refuse)
    · obtain ⟨t', scheduled, set⟩ := schedulePunchIn_punchSet (origin := port.origin)
        (punchInTests_none able unlocked timely (mt overlaps_iff.1 apart) (mt past_iff.1 fits)) copies play
      exact schedulesOf rfl stands (judged.trans (by rw [popped]; exact congrArg plain scheduled)) set

/-- Settles O11. -/
theorem punchOutRequest : Obligations.PunchOutRequest := by
  intro port ticket body s quiet stands allows
  obtain ⟨y, l, popped⟩ := popRequest_leaves port s
  have asked := headRequest_port stands.1
  have judged : judgePunchOut ticket body (popRequest port s) =
      plain (if State.punchBarred { s with system := y, link := l } = true then ({ s with system := y, link := l }, .state)
        else punchOutNow port.origin { s with system := y, link := l }) := by
    unfold judgePunchOut
    rw [motion_allowed_popRequest stands allows, popped, asked]
  have judgedOf (free : s.transport.state ≠ .empty ∧ s.transport.state ≠ .fault) : judgePunchOut ticket body (popRequest port s) =
      plain (punchOutNow port.origin { s with system := y, link := l }) := by
    have freeOf : State.punchBarred { s with system := y, link := l } = false := punchBarred_false free.1 free.2
    rw [judged, if_neg (by rw [freeOf]; decide)]
  have refuses {status : Status} (h : judgePunchOut ticket body (popRequest port s) =
      plain ({ s with system := y, link := l }, status)) :
      exec (.punchOut port) s = .next (answered ticket body status [] (popRequest port s)) := by
    rw [← popped] at h
    exact exec_judged rfl stands h ((popRequest_quiet port s).2 quiet)
  refine ⟨fun p near punch unset => ?_, fun rolls scheduled set => ?_, fun p play closed taken punch unset far => ?_,
    fun starting pends none => ?_, fun none idle => ?_⟩
  · intro u
    have free : s.transport.state ≠ .empty ∧ s.transport.state ≠ .fault := by
      rcases near with ⟨e, -⟩ | ⟨e, -⟩ <;> rw [e] <;> decide
    have nearOf : s.mixer.gateOpen = true ∨ p.time < s.decoder.time + 4 := near.imp (·.2) (·.2.2)
    have set := (judgedOf free).trans (congrArg plain (punchOutNow_near (s := { s with system := y, link := l }) punch unset nearOf))
    refine ⟨fun fits => ?_, fun late => ?_⟩
    · obtain ⟨t, done, set'⟩ := setPunchOutNow_punchSet (origin := port.origin) (s := { s with system := y, link := l }) punch fits
      have quietOf : t.quiet := by unfold State.quiet; rw [set'.sequencer, set'.input]; exact quiet
      exact ⟨t, exec_judged rfl stands (set.trans (congrArg plain done)) quietOf, set'.mixer, set'.transport, set'.decoder, set'.sequencer,
        set'.banks, set'.reports, set'.follows⟩
    · exact refuses (set.trans (congrArg plain (setPunchOutNow_late (s := { s with system := y, link := l }) late)))
  · have free : s.transport.state ≠ .empty ∧ s.transport.state ≠ .fault := by rcases rolls with e | e <;> rw [e] <;> decide
    exact refuses ((judgedOf free).trans (congrArg plain (punchOutNow_pending (s := { s with system := y, link := l }) scheduled set)))
  · have free : s.transport.state ≠ .empty ∧ s.transport.state ≠ .fault := by rw [play]; decide
    obtain ⟨x, u, cancelled, set, unlatched, slots⟩ := cancelPunch_punchSet (s := { s with system := y, link := l }) .request punch taken play
    have done := (judgedOf free).trans (congrArg plain (punchOutNow_cancels (s := { s with system := y, link := l }) punch unset closed far))
    rw [cancelled] at done
    have quietOf : (logEntry .punchCancelled s.timeNow p.origin CancelReason.request.code u).quiet := by
      unfold State.quiet
      rw [logEntry_sequencer, logEntry_input, set.sequencer, set.input]
      exact quiet
    refine ⟨_, exec_judged_handing rfl stands done ?_ quietOf, ?_, set.transport, set.decoder, set.sequencer, set.banks, unlatched, ?_,
      set.follows, slots⟩
    · rw [logEntry_sequencer, set.sequencer]
      exact allows.idle
    · refine set.mixer.trans ?_
      simp [taken, closed]
    · unfold logEntry
      dsimp only
      rw [set.reports] <;> rfl
  · have free : s.transport.state ≠ .empty ∧ s.transport.state ≠ .fault := by rw [starting]; decide
    have done := (judgedOf free).trans (congrArg plain (punchOutNow_callsOff (s := { s with system := y, link := l }) none starting pends))
    rw [popped]
    exact exec_judged rfl stands done quiet
  · by_cases barred : State.punchBarred { s with system := y, link := l } = true
    · exact refuses (judged.trans (congrArg plain (if_pos barred)))
    · exact refuses (judged.trans ((congrArg plain (if_neg barred)).trans
        (congrArg plain (punchOutNow_state (s := { s with system := y, link := l }) none idle))))

/-- Settles O42. -/
theorem servoMotionReports : Obligations.ServoMotionReports := by
  refine ⟨fun s quiet => ⟨rfl, fun free => ?_, fun fault asked => ?_, fun free => ?_, fun cued awaited => ?_⟩,
    fun s quiet idle => ⟨fun other => congrArg Host.Outcome.next (if_neg other), fun starting => ?_⟩⟩
  · have stays : ¬ (s.transport.state = .fault ∧ s.transport.faultRelease = true) := by
      rintro ⟨fault, asked⟩
      rcases free with other | unasked
      · exact other fault
      · rw [asked] at unasked; cases unasked
    refine congrArg Host.Outcome.next ?_
    have settled := settle_quiet (s := setReport (some .stopped) s) quiet
    exact (congrArg settle (if_neg stays)).trans settled
  · have off : s.transport.state.rolling = false := by rw [fault]; rfl
    refine congrArg Host.Outcome.next ((congrArg settle (if_pos ⟨fault, asked⟩)).trans ?_)
    have left : leaveFault (setReport (some .stopped) s) = entered (if s.transport.tapePresent then .stop else .empty) .stop
        (setReport (some .stopped) s) := by
      unfold leaveFault
      refine enterState_steady ?_
      show s.transport.state.rolling = TransportState.rolling (if s.transport.tapePresent then .stop else .empty)
      rw [off]
      split <;> rfl
    have quietOf : (leaveFault (setReport (some .stopped) s)).quiet := by rw [left]; exact quiet
    rw [settle_quiet quietOf, left]
    cases tape : s.transport.tapePresent
    · simp [entered_stop, setReport, tape]
    · simp [entered_stop, setReport, tape]
  · refine congrArg Host.Outcome.next (if_neg ?_)
    rintro ⟨cued, awaited⟩
    rcases free with other | unawaited
    · exact other cued
    · change s.transport.holdAwaited = true at awaited
      rw [awaited] at unawaited; cases unawaited
  · exact congrArg Host.Outcome.next (if_pos ⟨cued, awaited⟩)
  · intro rolls p locks last
    have done := exec_atSpeed starting
    generalize s.sequencer.handoffs ++ [Handoff.spunUp] = x at done
    rw [done]
    have same : rolls = s.rolled := rfl
    clear_value rolls
    subst same
    have idleOf : s.rolled.heedless := .inl idle
    refine ⟨fun unasked => ?_, fun asked closed unset => ?_⟩
    · rw [if_neg (by rw [unasked]; decide)]
      exact congrArg Host.Outcome.next (settle_handing idleOf quiet)
    · have able : State.punchable (s.rolled.handing x) p := by
        refine ⟨fun pends => ?_, rfl, fun timed => by cases timed.1⟩
        rcases pends with isOpen | scheduled | pending
        · change s.mixer.gateOpen = true at isOpen
          rw [closed] at isOpen; cases isOpen
        · change s.mixer.punchIn.isSome = true at scheduled
          rw [unset] at scheduled; cases scheduled
        · cases pending
      have timely : ¬ p.time < s.decoder.time + 4 := lt_irrefl _
      have passes (unlocked : ¬ locks) (fits : last ≤ 359999) : State.punchInTests (s.rolled.handing x) p none = none :=
        punchInTests_none able unlocked timely (by simp) (fun past => absurd fits (not_le_of_gt (past.resolve_right (by simp))))
      have refusals {status : Status} (h : State.punchInTests (s.rolled.handing x) p none = some status) (other : status ≠ .accepted)
          (notCopy : status ≠ .copy) : settle (punchAtSpeed (s.rolled.handing x)) =
            logEntry .punchCancelled s.timeNow .internal status.code s.rolled := by
        rw [punchAtSpeed_refused h other notCopy]
        exact settle_handing (u := logEntry .punchCancelled s.timeNow .internal status.code s.rolled) idleOf quiet
      rw [if_pos asked]
      refine ⟨fun locked => ?_, fun unlocked past => ?_, fun unlocked fits refuse => ?_, fun unlocked fits copies => ?_⟩
      · exact congrArg Host.Outcome.next (refusals (punchInTests_locked able locked) (by decide) (by decide))
      · exact congrArg Host.Outcome.next (refusals (punchInTests_past able unlocked timely (by simp) (.inl past)) (by decide) (by decide))
      · refine congrArg Host.Outcome.next ?_
        rw [punchAtSpeed_copy (s := s.rolled.handing x) (passes unlocked fits) refuse]
        exact settle_handing (u := recordRefusal .internal s.rolled) idleOf quiet
      · have set := punchAtSpeed_sets (s := s.rolled.handing x) (passes unlocked fits) copies rfl
        generalize punchAtSpeed (s.rolled.handing x) = t at set
        have settled : settle t = { t with sequencer := { t.sequencer with handoffs := [] } } :=
          settle_idle (by rw [set.sequencer]; exact idle) (by rw [set.input]; exact quiet.2)
        rw [settled]
        refine ⟨_, rfl, set.mixer, set.transport, set.decoder, set.banks, set.cues, ?_, set.input, set.current, set.heldTape, set.conceal,
          set.reports, set.system, set.link, fun store record => ?_⟩
        · show { t.sequencer with handoffs := [] } = s.sequencer
          rw [set.sequencer]
          exact quiet.handoffs_nil
        · have off : s.transport.state.rolling = false := by rw [starting]; rfl
          obtain ⟨storeOf, recordOf⟩ := rolled_sound (x := x) off unset store record
          exact set.follows storeOf recordOf

end Sys2Proof.Proofs
end

section
/-! The entries of the edit list that move the tape or punch (R160, R165 to R168). Settles O25. -/

namespace Sys2Proof.Machine

-- One theorem after another: each one elaborated at the same time would hold a stack of its own.
set_option Elab.async false

section
variable {s t u : State} {i : Nat} {e : ListEntry} {status : Status} {x : List Handoff}

/-! ### Entries by kind (R160) -/

theorem runEntry_locate (kind : (s.entry i).kind = 3) : runEntry i s = runLocate i (s.entry i) s := by
  simp [runEntry, kind, needsTarget]

theorem runEntry_roll (kind : (s.entry i).kind = 4) : runEntry i s = runRoll i s := by
  simp [runEntry, kind, needsTarget]

theorem runEntry_punchIn (kind : (s.entry i).kind = 5) : runEntry i s = runPunchIn i (s.entry i) s := by
  simp [runEntry, kind, needsTarget]

theorem runEntry_punchOut (kind : (s.entry i).kind = 6) : runEntry i s = runPunchOut i (s.entry i) s := by
  simp [runEntry, kind, needsTarget]

theorem runEntry_stop (kind : (s.entry i).kind = 14) : runEntry i s = completes i .done (stopMotion .list s) := by
  simp [runEntry, kind, needsTarget]

/-! ### LOCATE (R165) -/

theorem runLocate_fails (refused : status ≠ .accepted)
    (h : locateMotion .list e.choice e.time (min 250 e.count) s = (t, status, false)) : runLocate i e s = fails i status.code t := by
  unfold runLocate
  rw [h]
  split
  · next same => cases same
  · next same => cases same; exact absurd rfl refused
  · next same => cases same; rfl

theorem runLocate_runs (h : locateMotion .list e.choice e.time (min 250 e.count) s = (t, .accepted, t.transport.state == .cued))
    (winds : t.transport.state ≠ .cued) : runLocate i e s = (t, .inProgress .running) := by
  have moving : (t.transport.state == .cued) = false := by simpa using winds
  unfold runLocate
  rw [h, moving]

theorem runLocate_arrives (h : locateMotion .list e.choice e.time (min 250 e.count) s = (t, .accepted, t.transport.state == .cued))
    (there : t.transport.state = .cued) : runLocate i e s = completes i .done t := by
  have arrived : (t.transport.state == .cued) = true := by simp [there]
  unfold runLocate
  rw [h, arrived]

/-! ### PUNCH-IN and PUNCH-OUT (R167, R168) -/

theorem runPunchIn_badValue (bad : crossfadeOfChoice s.activeBank.crossfade e.choice = none ∨ 359999 < e.time) :
    runPunchIn i e s = fails i Status.badValue.code s := by
  unfold runPunchIn
  split
  · rfl
  · next found => exact if_pos (bad.resolve_left (by rw [found]; exact Option.some_ne_none _))

theorem runPunchIn_judged {c : Nat} (found : crossfadeOfChoice s.activeBank.crossfade e.choice = some c) (inTime : e.time ≤ 359999) :
    runPunchIn i e s = match schedulePunchIn .list ⟨e.time, c, true, .list⟩ none s with
      | (t, .accepted) => (t, .inProgress .running)
      | (t, status) => fails i status.code t := by
  have timely : ¬ Config.lastTime < e.time := not_lt.2 inTime
  unfold runPunchIn
  rw [found]
  dsimp only
  rw [if_neg timely] <;> rfl

theorem runPunchIn_fails {c : Nat} (found : crossfadeOfChoice s.activeBank.crossfade e.choice = some c) (inTime : e.time ≤ 359999)
    (refused : status ≠ .accepted) (h : schedulePunchIn .list ⟨e.time, c, true, .list⟩ none s = (t, status)) :
    runPunchIn i e s = fails i status.code t := by
  rw [runPunchIn_judged found inTime, h]
  split
  · next same => cases same; exact absurd rfl refused
  · next same => cases same; rfl

theorem runPunchIn_sets {c : Nat} (found : crossfadeOfChoice s.activeBank.crossfade e.choice = some c) (inTime : e.time ≤ 359999)
    (h : schedulePunchIn .list ⟨e.time, c, true, .list⟩ none s = (t, .accepted)) : runPunchIn i e s = (t, .inProgress .running) := by
  rw [runPunchIn_judged found inTime, h]

/-- An entry refused by the source. -/
theorem fails_recordRefusal (i : Nat) (s : State) : fails i Status.copy.code (recordRefusal .list s) =
    (logEntry .listEntryFailed s.timeNow .list (i * 65536 + 5) (writeNow i .failed
      (logEntry .copyRefused s.timeNow .list (if s.input.status.valid then 1 else 0)
        (raiseFlag .copyRefused (setCondition .copy (count .copyRefusals 1 s))))), .goto (i + 1)) := by
  rw [recordRefusal_eq]
  rfl

theorem runPunchOut_fails (refused : status ≠ .accepted)
    (h : schedulePunchOut e.time (crossfadeOfChoice s.activeBank.crossfade e.choice) s = (s, status)) :
    runPunchOut i e s = fails i status.code s := by
  unfold runPunchOut
  rw [h]
  split
  · next same => cases same; exact absurd rfl refused
  · next same => cases same; rfl

theorem runPunchOut_sets (h : schedulePunchOut e.time (crossfadeOfChoice s.activeBank.crossfade e.choice) s = (t, .accepted)) :
    runPunchOut i e s = (t, .inProgress .running) := by
  unfold runPunchOut
  rw [h]

theorem schedulePunchOut_badValue {time : Nat} {cross : Option Nat} (bad : cross = none ∨ 359999 < time) :
    schedulePunchOut time cross s = (s, .badValue) := by
  unfold schedulePunchOut
  cases cross with
  | none => rfl
  | some c => exact if_pos (bad.resolve_left (Option.some_ne_none c))

/-- The tests of a punch-out from the punch-in on (R142). -/
theorem schedulePunchOut_scheduled {time c : Nat} {p : Punch} (inTime : time ≤ 359999) (punch : s.mixer.punchIn = some p) :
    schedulePunchOut time (some c) s =
      if s.mixer.punchOut.isSome then (s, .pending)
      else if s.decoder.status = .lost then (s, .state)
      else if time < s.decoder.time + 4 then (s, .tooLate)
      else if time ≤ p.lastIn s.framePairs then (s, .badValue)
      else if Config.lastTime ≤ Punch.lastOut ⟨time, c, true, .list⟩ s.framePairs then (s, .tooLate)
      else (spanChanged { s with mixer := { s.mixer with punchOut := some ⟨time, c, true, .list⟩, committed := false } }, .accepted) := by
  have timely : ¬ Config.lastTime < time := not_lt.2 inTime
  unfold schedulePunchOut
  dsimp only
  rw [if_neg timely, punch]

/-! ### ROLL (R166) -/

theorem runRoll_starts (h : s.transport.state = .cued) : runRoll i s = ({ s with
    transport := { s.transport with
      state := .starting, demand := .playSpeed .normal, spinUpRunning := true, holdAwaited := false, faultRelease := false }
    store := { s.store with trim := .normal }
    decoder := { s.decoder with readMode := .subcode, lateReads := false } }, .inProgress .running) := by
  have begins := playMotion_begins (s := s) (.inr (.inl h))
  have other : s.transport.state ≠ .locate := by rw [h]; decide
  have steady : s.transport.state.rolling = TransportState.starting.rolling := by rw [h]; rfl
  have runs : startRunCleared .cued .starting = false := rfl
  unfold runRoll
  rw [begins, endLocate_none other, enterState_steady steady]
  simp [h, entered, runs, TransportState.rolling, TransportState.readMode]

end
end Sys2Proof.Machine

namespace Sys2Proof.Proofs
open Sys2Proof.Machine

/-- Settles O25. -/
theorem motionEntries : Obligations.MotionEntries := by
  intro i s sized listed gate e ends finishes failsFrom fails still cross pending locks sets
  have crossOf : crossfadeOfChoice s.activeBank.crossfade e.choice = cross := rfl
  have failOf {status : Status} (h : runEntry i s = Machine.fails i status.code s) : fails status.code := h
  have finishOf {x : List Handoff} {u : State} (same : u.sequencer = s.sequencer) (h : runEntry i s = completes i .done (u.handing x)) :
      finishes u := by
    refine ⟨x, h.trans ?_⟩
    have handed : u.handing x = { u with sequencer := { s.sequencer with handoffs := x } } := by unfold State.handing; rw [same]
    rw [handed]
    rfl
  have setsOf {t : State} {p o : Option Punch} (h : runEntry i s = (t, .inProgress .running))
      (set : PunchSet s t { s.mixer with punchIn := p, punchOut := o, committed := false }) : sets p o :=
    ⟨t, h, set.mixer, set.transport, set.decoder, set.banks, set.cues, set.sequencer, set.input, set.current, set.reports, set.conceal,
      set.system, set.link, set.follows⟩
  refine ⟨fun kind => ?_, fun kind => ?_, fun kind => ?_, fun kind => ?_, fun kind => ?_⟩
  · have run := runEntry_locate kind
    have refuses {status : Status} (refused : status ≠ .accepted)
        (h : locateMotion .list e.choice e.time (min 250 e.count) s = (s, status, false)) : fails status.code :=
      failOf (run.trans (runLocate_fails refused h))
    refine ⟨fun bad => refuses (by decide) (locateMotion_badValue bad), fun known inTime =>
      ⟨fun barred => refuses (by decide) (locateMotion_barred known inTime ?_), fun notRecord notEmpty notFault kindOf named => ?_⟩⟩
    · rcases barred with e | e | e <;> rw [e] <;> rfl
    have free : s.transport.state.barred = false := by
      revert notRecord notEmpty notFault
      cases s.transport.state <;> simp [TransportState.barred]
    refine ⟨fun cue past => refuses (by decide) (locateMotion_notFound named inTime free (.inl ⟨cue, past⟩)),
      fun program none => refuses (by decide) (locateMotion_notFound named inTime free (.inr ⟨program, none⟩)), fun target found => ?_⟩
    have started := locateMotion_starts (origin := .list) (preroll := min 250 e.count) named inTime free found
    intro aim direction far begun moved arrived winding waiting leaves
    have locate : s.locateBegun .list kindOf target (min 250 e.count) = begun := by
      simp only [State.locateBegun, choosePhase_eq, begun] <;> rfl
    have demand : s.locateDemand target (min 250 e.count) = .wind direction (if far then .fast else .slow) := by
      simp only [State.locateDemand, choosePhase_speed] <;> rfl
    have winds : s.locateWinds .list kindOf target (min 250 e.count) = moved := by
      simp only [State.locateWinds, locate, demand] <;> rfl
    have arrives : s.locateArrives .list kindOf target (min 250 e.count) = arrived := by
      simp only [State.locateArrives, locate] <;> rfl
    refine ⟨fun away => ⟨fun off => ?_, fun play => ?_⟩, fun there locked => ⟨fun off => ?_, fun play => ?_⟩⟩
    · obtain ⟨x, begins⟩ := startLocate_winds_off (origin := .list) (kind := kindOf) (preroll := min 250 e.count) away
        (rolling_of_not fun rolling => rolling.elim off notRecord)
      rw [begins] at started
      refine ⟨x, run.trans ((runLocate_runs started (show TransportState.locate ≠ .cued by decide)).trans ?_)⟩
      simp only [still, winding, winds, off, or_false, State.handing]
    · have left := startLocate_winds_play (origin := .list) (o := .list) (kind := kindOf) (preroll := min 250 e.count) away play gate sized
      generalize startLocate .list kindOf target (min 250 e.count) s = t at started left
      have moves : t.transport.state ≠ .cued := by rw [left.transport]; exact show TransportState.locate ≠ .cued by decide
      refine ⟨t, run.trans (runLocate_runs started moves), left.leaves, left.transport.trans winds, left.decoder.trans ?_, left.cues,
        left.sequencer, left.heldTape, left.system, left.link, left.reports⟩
      simp only [winding, play, or_true, if_true]
    · obtain ⟨x, begins⟩ := startLocate_arrives_off (origin := .list) (kind := kindOf) (preroll := min 250 e.count) there locked
        (rolling_of_not fun rolling => rolling.elim off notRecord)
      rw [begins, arrives] at started
      exact finishOf rfl (run.trans (runLocate_arrives started rfl))
    · have left := startLocate_arrives_play (origin := .list) (o := .list) (kind := kindOf) (preroll := min 250 e.count) there locked play
        gate sized
      generalize startLocate .list kindOf target (min 250 e.count) s = t at started left
      have rests : t.transport.state = .cued := by rw [left.transport]; rfl
      exact ⟨t, run.trans (runLocate_arrives started rests), left.leaves, left.transport.trans arrives, left.decoder, left.cues,
        left.sequencer, left.heldTape, left.system, left.link, left.reports⟩
  · have run := runEntry_roll kind
    refine ⟨fun cued => run.trans (runRoll_starts cued), fun starting => run.trans ?_, fun play => ?_, fun other => ?_⟩
    · unfold runRoll
      simp only [starting]
    · refine finishOf (x := s.sequencer.handoffs) rfl (run.trans ?_)
      unfold runRoll
      simp only [play]
      rfl
    · refine failOf (status := .state) (run.trans ?_)
      revert other
      unfold runRoll
      cases s.transport.state <;> simp
  · have run := runEntry_punchIn kind
    refine ⟨fun bad => failOf (run.trans (runPunchIn_badValue bad)), fun c chosen inTime => ?_⟩
    intro past
    have refuses {status : Status} (refused : status ≠ .accepted)
        (h : State.punchInTests s ⟨e.time, c, true, .list⟩ none = some status) : fails status.code :=
      failOf (run.trans (runPunchIn_fails chosen inTime refused (schedulePunchIn_refused h)))
    refine ⟨fun pends => refuses (by decide) (punchInTests_pending pends), fun free stays => refuses (by decide)
      (punchInTests_state free (stays.imp id fun lost => ⟨rfl, lost⟩)), fun free play known => ?_⟩
    have able : s.punchable ⟨e.time, c, true, .list⟩ := ⟨free, play, fun lost => known lost.2⟩
    have passes (unlocked : ¬ locks) (fits : ¬ past) : s.punchInTests ⟨e.time, c, true, .list⟩ none = none :=
      punchInTests_none able unlocked (fun early => fits (.inl early)) (by simp) fun late => fits (.inr (late.resolve_right (by simp)))
    refine ⟨fun locked => refuses (by decide) (punchInTests_locked able locked), fun unlocked late => refuses (status := .tooLate) (by decide) ?_,
      fun unlocked fits refuse => ?_, fun unlocked fits copies => ?_⟩
    · by_cases early : e.time < s.decoder.time + 4
      · exact punchInTests_early able unlocked early
      · exact punchInTests_past able unlocked early (by simp) (.inl (late.resolve_left early))
    · have failed := runPunchIn_fails (i := i) chosen inTime (by decide) (schedulePunchIn_copy (passes unlocked fits) refuse)
      exact run.trans (failed.trans (fails_recordRefusal i s))
    · obtain ⟨t, scheduled, set⟩ := schedulePunchIn_punchSet (origin := .list) (passes unlocked fits) copies play
      have untaken : s.mixer.taken = false := by
        obtain ⟨-, taken, -⟩ := gate
        rw [taken, Bool.eq_false_iff]
        exact fun isOpen => free (.inl isOpen)
      refine setsOf (run.trans (runPunchIn_sets chosen inTime scheduled)) ?_
      have same : ({ s.mixer with punchIn := some ⟨e.time, c, true, .list⟩, taken := false, punchOut := none, committed := false } : Mixer) =
          { s.mixer with punchIn := some ⟨e.time, c, true, .list⟩, punchOut := none, committed := false } := by simp [untaken]
      rw [same] at set
      exact set
  · have run := runEntry_punchOut kind
    have refuses {status : Status} (refused : status ≠ .accepted)
        (h : schedulePunchOut e.time (crossfadeOfChoice s.activeBank.crossfade e.choice) s = (s, status)) : fails status.code :=
      failOf (run.trans (runPunchOut_fails refused h))
    refine ⟨fun bad => refuses (by decide) (schedulePunchOut_badValue bad), fun c chosen inTime => ?_⟩
    have chosenOf : crossfadeOfChoice s.activeBank.crossfade e.choice = some c := chosen
    rw [chosenOf] at refuses
    refine ⟨fun none => refuses (status := .state) (by decide) ?_, fun p punch => ?_⟩
    · unfold schedulePunchOut
      dsimp only
      rw [if_neg (not_lt.2 inTime), none]
    intro early last
    have judged := schedulePunchOut_scheduled (c := c) inTime punch
    refine ⟨fun set => refuses (status := .pending) (by decide) (judged.trans (if_pos set)), fun unset lost => ?_, fun unset known => ?_⟩
    · exact refuses (status := .state) (by decide) (judged.trans ((if_neg (by simp [unset])).trans (if_pos lost)))
    have rest := judged.trans ((if_neg (by simp [unset])).trans (if_neg known))
    refine ⟨fun soon => refuses (status := .tooLate) (by decide) (rest.trans (if_pos soon)), fun timely meets => ?_,
      fun timely apart late => ?_, fun timely apart fits => ?_⟩
    · exact refuses (status := .badValue) (by decide) (rest.trans ((if_neg (not_lt.2 timely)).trans (if_pos meets)))
    · exact refuses (status := .tooLate) (by decide)
        (rest.trans ((if_neg (not_lt.2 timely)).trans ((if_neg apart).trans (if_pos late))))
    · have after := lastOut_ge ⟨e.time, c, true, .list⟩ s.framePairs
      have within : s.decoder.time + 3 ≤ Punch.lastOut ⟨e.time, c, true, .list⟩ s.framePairs := by
        refine le_trans ?_ after
        show _ ≤ e.time - 1
        omega
      have set := rest.trans ((if_neg (not_lt.2 timely)).trans ((if_neg apart).trans (if_neg (not_le_of_gt fits))))
      rw [← chosenOf] at set
      refine setsOf (run.trans (runPunchOut_sets set)) ?_
      rw [← punch]
      exact spanChanged_punchSet fun record _ k queued => waits_inside punch record within queued
  · have run := runEntry_stop kind
    intro stopped
    refine ⟨fun rests => ?_, fun state => ?_, fun rolling => ?_⟩
    · have closed : s.mixer.gateOpen = false := gate.closed (by rcases rests with e | e <;> rw [e] <;> decide)
      rw [stopMotion_rests .list closed rests] at run
      exact finishOf (x := s.sequencer.handoffs) rfl run
    · have closed : s.mixer.gateOpen = false := gate.closed (by rcases state with e | e | e | e | e <;> rw [e] <;> decide)
      obtain ⟨x, stops⟩ := stopMotion_stops .list closed state
      rw [stops, entered_stop (.inl rfl)] at run
      refine finishOf rfl (run.trans (congrArg (completes i .done) (congrArg (State.handing x) ?_)))
      simp [still, stopped, State.locateEnded, LocateRecord.ended]
    · have left := leaving (new := .stop) (demand := .stop) .stop .list rolling gate sized.1 rfl
      rw [stopMotion_rolls .list rolling] at run
      generalize enterState .stop .stop (closeAtOnce .stop .list s) = t at left run
      obtain ⟨leaves, transport, decoder, cues, ⟨h, sequencer⟩, heldTape, reports, system, link, -⟩ := left
      rw [entered_stop (.inl rfl)] at transport decoder cues
      refine ⟨t, h, run, leaves, transport.trans ?_, decoder.trans ?_, cues, sequencer, heldTape, reports⟩
      · simp [stopped, not_locate_of rolling]
      · simp

end Sys2Proof.Proofs
end

section
/-! The entries of the edit list that act on the list itself, the clock, the log and the cue table
(R153 to R164). Settles O24. -/

namespace Sys2Proof.Machine

-- One theorem after another: each one elaborated at the same time would hold a stack of its own.
set_option Elab.async false

section
variable {s t u : State} {i : Nat} {e : ListEntry}

/-! ### What a chain leaves alone -/

theorem enterState_input (new : TransportState) (demand : Demand) (s : State) : (enterState new demand s).input = s.input := by
  by_cases leaves : s.transport.state.rolling = true ∧ new.rolling = false
  · rw [enterState_leave leaves.1 leaves.2, leaveRolling_eq]
    have work := (freeSlots_frees ((entered new demand s).slotsWhere Slot.leaves) (entered new demand s)).work.input
    obtain ⟨_, _, _, _, _, _, _, _, _, cancelled⟩ :=
      cancelPunch_leaves .motion (freeSlots ((entered new demand s).slotsWhere Slot.leaves) (entered new demand s))
    show (cancelPunch .motion _).input = _
    rw [cancelled]
    exact work
  · by_cases starts : s.transport.state.rolling = false ∧ new.rolling = true
    · rw [enterState_start starts.1 starts.2] <;> rfl
    · have steady : s.transport.state.rolling = new.rolling := by
        revert leaves starts
        cases s.transport.state.rolling <;> cases new.rolling <;> simp
      rw [enterState_steady steady] <;> rfl

theorem closeAtOnce_input (event : ClosingEvent) (origin : Origin) (s : State) : (closeAtOnce event origin s).input = s.input := by
  by_cases gate : s.mixer.gateOpen = true
  · obtain ⟨_, _, _, _, _, _, _, _, closed⟩ := closeAtOnce_leaves event origin gate
    rw [closed]
  · rw [closeAtOnce_closed (by simpa using gate)]

theorem endLocate_input (outcome : LocateOutcome) (s : State) : (endLocate outcome s).input = s.input := by
  obtain ⟨x, ended⟩ := endLocate_eq outcome s
  rw [ended] <;> rfl

theorem startLocate_input (origin : Origin) (kind : TargetKind) (target preroll : Nat) (s : State) :
    (startLocate origin kind target preroll s).input = s.input := by
  unfold startLocate
  dsimp only
  split
  · show (enterState .cued .hold _).input = _
    exact (enterState_input ..).trans (endLocate_input .superseded s)
  · exact (enterState_input ..).trans (endLocate_input .superseded s)

theorem locateMotion_input (origin : Origin) (code arg preroll : Nat) (s : State) : (locateMotion origin code arg preroll s).1.input = s.input := by
  unfold locateMotion
  split
  · rfl
  · split
    · rfl
    · split
      · rfl
      · split
        · rfl
        · exact startLocate_input ..

theorem playMotion_input (s : State) : (playMotion s).1.input = s.input := by
  unfold playMotion
  split
  all_goals first | rfl | exact (enterState_input ..).trans (endLocate_input .superseded s)

theorem spanChanged_input (m : Mixer) (s : State) : (spanChanged { s with mixer := m }).input = s.input :=
  (slotWork_spanChanged { s with mixer := m }).1.input

theorem schedulePunchIn_input (origin : Origin) (p : Punch) (o : Option Punch) (s : State) :
    (schedulePunchIn origin p o s).1.input = s.input := by
  unfold schedulePunchIn judgeCopy
  split
  · rfl
  · by_cases refuse : s.copy.current = .refuse
    · rw [if_pos refuse] <;> rfl
    · rw [if_neg refuse]
      dsimp only
      rw [spanChanged_input]

theorem schedulePunchOut_input (time : Nat) (cross : Option Nat) (s : State) : (schedulePunchOut time cross s).1.input = s.input := by
  unfold schedulePunchOut
  split
  · rfl
  · dsimp only
    split
    · rfl
    · split
      · rfl
      · repeat' split
        case isFalse => dsimp only; rw [spanChanged_input]
        all_goals rfl

theorem stopMotion_input (origin : Origin) (s : State) : (stopMotion origin s).input = s.input := by
  unfold stopMotion
  dsimp only
  split
  all_goals first
    | exact closeAtOnce_input ..
    | exact (enterState_input ..).trans ((endLocate_input ..).trans (closeAtOnce_input ..))

theorem markAt_input (time : Nat) (label : List Nat) (origin : Origin) (s : State) : (markAt time label origin s).1.input = s.input := by
  unfold markAt
  dsimp only
  split
  · split <;> rfl
  · split <;> rfl

theorem writeFailed_input (i reason : Nat) (s : State) : (writeFailed i reason s).input = s.input := rfl

theorem runEntry_input (i : Nat) (s : State) : (runEntry i s).1.input = s.input := by
  unfold runEntry
  dsimp only
  split_ifs
  · rfl
  · rfl
  · split
    · rfl
    · unfold runWaitTime; split <;> rfl
    · unfold runWaitFrames; split <;> rfl
    · have moved := locateMotion_input .list (s.entry i).choice (s.entry i).time (min 250 (s.entry i).count) s
      unfold runLocate
      generalize locateMotion .list _ _ _ s = r at moved
      split <;> exact moved
    · unfold runRoll; split <;> first | rfl | exact playMotion_input s
    · unfold runPunchIn
      split
      · rfl
      · split
        · rfl
        · have set := fun p => schedulePunchIn_input .list p none s
          split
          · next h => rw [← set, h]
          · next h => rw [← set, h]; rfl
    · have set := schedulePunchOut_input (s.entry i).time (crossfadeOfChoice s.activeBank.crossfade (s.entry i).choice) s
      unfold runPunchOut
      generalize schedulePunchOut _ _ s = r at set
      split <;> exact set
    · have marked := markAt_input (s.entry i).time [] .list s
      unfold runMark
      split
      · rfl
      · generalize markAt _ _ _ s = r at marked
        split <;> exact marked
    · rfl
    · unfold runJumpIf; split <;> rfl
    · unfold runCall; split <;> rfl
    · unfold runReturn; split <;> rfl
    · unfold runRepeatIf; dsimp only; split <;> rfl
    · rfl
    · exact stopMotion_input .list s

theorem chainFrom_input (fuel i : Nat) (s : State) : (chainFrom fuel i s).input = s.input := by
  induction fuel generalizing i s with
  | zero => rfl
  | succ fuel ih =>
    have ran := runEntry_input i { s with sequencer := { s.sequencer with current := i, chainCount := s.sequencer.chainCount + 1 } }
    unfold chainFrom
    dsimp only
    split
    · next t h => rw [h] at ran; exact ran
    · next t _ h => rw [h] at ran; exact ran
    · next t k h =>
      rw [h] at ran
      split
      · exact (ih k t).trans ran
      · exact ran

theorem beginChain_input (i : Nat) (s : State) : (beginChain i s).input = s.input := by
  unfold beginChain
  dsimp only
  split
  · exact chainFrom_input ..
  · rfl

/-- What a chain leaves is quiet when no source selection waits. -/
theorem beginChain_quiet (i : Nat) (selection : s.input.pendingSelect = none) : (beginChain i s).quiet :=
  ⟨rfl, (congrArg InputPort.pendingSelect (beginChain_input i s)).trans selection⟩

/-! ### Results (R153) -/

/-- The result written for an entry of the list memory. -/
theorem entry_writeNow (sized : s.sized) (hi : i < 64) (outcome : EntryOutcome) : (writeNow i outcome s).entry i =
    { s.entry i with outcome := outcome, seen := s.sequencer.conditions, completion := s.timeNow } := by
  have inside : i < s.sequencer.entries.length := by rw [sized.2]; exact hi
  show (s.sequencer.entries.set i _).getD i ListEntry.blank = _
  rw [List.getD_eq_getElem?_getD, List.getElem?_set_self inside]
  rfl

/-- What an entry passed with an outcome leaves written of it. -/
def State.passed (s : State) (i : Nat) (outcome : EntryOutcome) (t : State) : Prop :=
  (t.entry i).outcome = outcome ∧ (t.entry i).seen = s.sequencer.conditions ∧ (t.entry i).completion = s.timeNow

theorem passed_writeNow (sized : s.sized) (hi : i < 64) (outcome : EntryOutcome)
    (entries : t.sequencer.entries = (writeNow i outcome s).sequencer.entries) : s.passed i outcome t := by
  have same : t.entry i = (writeNow i outcome s).entry i := by unfold State.entry; rw [entries]
  unfold State.passed
  rw [same, entry_writeNow sized hi]
  exact ⟨rfl, rfl, rfl⟩

/-- A bad entry ends the list, FAILED. -/
theorem endBad_spec (cause : BadCause) (sized : s.sized) (hi : i < 64) :
    (endBad cause .failed i s).sequencer.lastEnd = .badEntry ∧ (endBad cause .failed i s).sequencer.state = .idle ∧
    s.passed i .failed (endBad cause .failed i s) ∧ (endBad cause .failed i s).sequencer.conditions = s.sequencer.conditions :=
  ⟨rfl, rfl, passed_writeNow sized hi .failed rfl, rfl⟩

/-! ### Entries by kind (R160 to R164) -/

theorem runEntry_unknown (h : 14 < (s.entry i).kind) : runEntry i s = (endBad .unknownKind .failed i s, .ended) := if_pos h

theorem runEntry_badTarget (kind : (s.entry i).kind = 8 ∨ (s.entry i).kind = 9 ∨ (s.entry i).kind = 10 ∨ (s.entry i).kind = 12)
    (far : 63 < (s.entry i).target) : runEntry i s = (endBad .badTarget .failed i s, .ended) := by
  unfold runEntry
  rcases kind with k | k | k | k <;> simp [k, needsTarget, far]

theorem runEntry_waitTime (kind : (s.entry i).kind = 1) : runEntry i s = runWaitTime i (s.entry i) s := by
  simp [runEntry, kind, needsTarget]

theorem runEntry_waitFrames (kind : (s.entry i).kind = 2) : runEntry i s = runWaitFrames i (s.entry i) s := by
  simp [runEntry, kind, needsTarget]

theorem runEntry_mark (kind : (s.entry i).kind = 7) : runEntry i s = runMark i (s.entry i) s := by
  simp [runEntry, kind, needsTarget]

theorem runEntry_note (kind : (s.entry i).kind = 13) :
    runEntry i s = completes i .done (logEntry .note s.timeNow .list (s.entry i).count s) := by
  simp [runEntry, kind, needsTarget]

theorem runEntry_return (kind : (s.entry i).kind = 11) : runEntry i s = runReturn i s := by
  simp [runEntry, kind, needsTarget]

theorem runEntry_jump (kind : (s.entry i).kind = 8) (near : (s.entry i).target ≤ 63) :
    runEntry i s = (writeNow i .done s, .goto (s.entry i).target) := by
  simp [runEntry, kind, needsTarget, near.not_gt]

theorem runEntry_jumpIf (kind : (s.entry i).kind = 9) (near : (s.entry i).target ≤ 63) :
    runEntry i s = runJumpIf i (s.entry i) s := by
  simp [runEntry, kind, needsTarget, near.not_gt]

theorem runEntry_call (kind : (s.entry i).kind = 10) (near : (s.entry i).target ≤ 63) :
    runEntry i s = runCall i (s.entry i) s := by
  simp [runEntry, kind, needsTarget, near.not_gt]

theorem runEntry_repeatIf (kind : (s.entry i).kind = 12) (near : (s.entry i).target ≤ 63) :
    runEntry i s = runRepeatIf i (s.entry i) s := by
  simp [runEntry, kind, needsTarget, near.not_gt]

theorem maskMet_iff {mask : BitVec 7} : s.maskMet mask = true ↔ s.sequencer.conditions &&& mask ≠ 0 := by simp [State.maskMet]

theorem runMark_fails {status : Status} {m n : Nat} (inTime : e.time ≤ 359999) (refused : status ≠ .done)
    (h : markAt e.time [] .list s = (s, status, m, n)) : runMark i e s = fails i status.code s := by
  have timely : ¬ Config.lastTime < e.time := not_lt.2 inTime
  unfold runMark
  rw [if_neg timely, h]
  split
  · next same => cases same; exact absurd rfl refused
  · next same => cases same; rfl

theorem runMark_marks {m n : Nat} (inTime : e.time ≤ 359999) (h : markAt e.time [] .list s = (t, .done, m, n)) :
    runMark i e s = completes i .done t := by
  have timely : ¬ Config.lastTime < e.time := not_lt.2 inTime
  unfold runMark
  rw [if_neg timely, h]

theorem runWaitTime_eq (i : Nat) (e : ListEntry) (s : State) : runWaitTime i e s =
    if 359999 < e.time then fails i 6 s
    else if s.decoder.status = .lost then fails i 24 s
    else if e.time ≤ s.decoder.time then completes i .done s
    else (s, .inProgress .waiting) := by
  unfold runWaitTime State.waitVerdict
  by_cases late : Config.lastTime < e.time
  · rw [if_pos late, if_pos late] <;> rfl
  · rw [if_neg late, if_neg late]
    by_cases lost : s.decoder.status = .lost
    · rw [if_pos lost, if_pos lost]
    · rw [if_neg lost, if_neg lost]
      by_cases come : e.time ≤ s.decoder.time
      · rw [if_pos come, if_pos come]
      · rw [if_neg come, if_neg come]

/-- What a REPEAT-IF leaves, taken or not (R163). -/
def repeated (i : Nat) (e : ListEntry) (outcome : EntryOutcome) (n : Nat) (s : State) : State :=
  clearConditions e.mask (setEntry i { (writeNow i outcome s).entry i with repeats := n } (writeNow i outcome s))

theorem repeated_spec (e : ListEntry) (outcome : EntryOutcome) (n : Nat) (sized : s.sized) (hi : i < 64) :
    s.passed i outcome (repeated i e outcome n s) ∧ ((repeated i e outcome n s).entry i).repeats = n := by
  have inside : i < (writeNow i outcome s).sequencer.entries.length := by
    show i < (s.sequencer.entries.set i _).length
    rw [List.length_set, sized.2]
    exact hi
  have entry : (repeated i e outcome n s).entry i = { (writeNow i outcome s).entry i with repeats := n } := by
    show ((writeNow i outcome s).sequencer.entries.set i _).getD i ListEntry.blank = _
    rw [List.getD_eq_getElem?_getD, List.getElem?_set_self inside]
    rfl
  unfold State.passed
  rw [entry, entry_writeNow sized hi]
  exact ⟨⟨rfl, rfl, rfl⟩, rfl⟩

/-! ### Chains (R156) -/

/-- A chain of one entry that passes on beyond the last. -/
theorem beginChain_passes {k : Nat} (hi : i < 64) (far : 64 ≤ k)
    (h : runEntry i { s with sequencer := { s.sequencer with state := .running, current := i, chainCount := 1 } } = (t, .goto k)) :
    beginChain i s = State.handing [] (endList .endReached .list 0 t) := by
  have inside : i < Config.listEntries := hi
  have outside : ¬ k < Config.listEntries := not_lt.2 far
  unfold beginChain Config.chainLimit chainFrom
  dsimp only
  rw [if_pos inside, Nat.zero_add, h]
  dsimp only
  rw [if_neg outside] <;> rfl

/-- A chain whose entry starts an operation. -/
theorem beginChain_works {state : SequencerState} (hi : i < 64)
    (h : runEntry i { s with sequencer := { s.sequencer with state := .running, current := i, chainCount := 1 } } = (t, .inProgress state)) :
    beginChain i s = { t with sequencer := { t.sequencer with state := state, handoffs := [] } } := by
  have inside : i < Config.listEntries := hi
  unfold beginChain Config.chainLimit chainFrom
  dsimp only
  rw [if_pos inside, Nat.zero_add, h]

/-- A chain whose entry ends the list. -/
theorem beginChain_ends (hi : i < 64)
    (h : runEntry i { s with sequencer := { s.sequencer with state := .running, current := i, chainCount := 1 } } = (t, .ended)) :
    beginChain i s = t.handing [] := by
  have inside : i < Config.listEntries := hi
  unfold beginChain Config.chainLimit chainFrom
  dsimp only
  rw [if_pos inside, Nat.zero_add, h] <;> rfl

/-- A chain that passes on for as long as the fuel lasts ends at the place it has come to. -/
theorem chainFrom_passes (place : Nat → Nat) (path : Nat → State) (inside : ∀ n ≤ 256, place n < 64)
    (passes : ∀ n < 256, runEntry (place n) { path n with sequencer := { (path n).sequencer with
      current := place n, chainCount := (path n).sequencer.chainCount + 1 } } = (path (n + 1), .goto (place (n + 1))))
    (fuel n : Nat) (sum : n + fuel = 256) : chainFrom fuel (place n) (path n) = endBad .noWait .skipped (place 256)
      { path 256 with sequencer := { (path 256).sequencer with current := place 256 } } := by
  induction fuel generalizing n with
  | zero =>
    obtain rfl : n = 256 := sum
    rfl
  | succ fuel ih =>
    have next : place (n + 1) < Config.listEntries := inside (n + 1) (by omega)
    unfold chainFrom
    dsimp only
    rw [passes n (by omega)]
    dsimp only
    rw [if_pos next]
    exact ih (n + 1) (by omega)

end
end Sys2Proof.Machine

namespace Sys2Proof.Proofs
open Sys2Proof.Machine

/-- Settles O24. -/
theorem flowEntries : Obligations.FlowEntries := by
  refine ⟨fun i s sized hi => ?_, fun i s sized hi => ?_, fun i k s t hi far ran => ?_, fun place path s start inside passes => ?_⟩
  · intro e met t goes passed cleared kept bad
    have badOf {cause : BadCause} (h : runEntry i s = (endBad cause .failed i s, .ended)) : bad := by
      have first : t = endBad cause .failed i s := congrArg Prod.fst h
      have second : goes = .ended := congrArg Prod.snd h
      obtain ⟨lastEnd, state, written, conditions⟩ := endBad_spec cause sized hi
      clear_value t
      subst first
      exact ⟨second, lastEnd, state, written, conditions⟩
    have metOf : s.maskMet e.mask = true ↔ met := maskMet_iff
    refine ⟨fun near => ⟨fun kind => ?_, fun kind meets => ?_, fun kind misses => ?_, fun kind unsaved => ?_, fun kind saved => ?_,
      fun kind meets fewer => ?_, fun kind stops => ?_⟩, fun far kind => badOf (runEntry_badTarget kind far),
      fun unknown => badOf (runEntry_unknown unknown), fun k kind saved => ?_, fun kind unsaved => ?_⟩
    · have h := runEntry_jump kind near
      simp only [t, goes, passed, kept, h]
      exact ⟨rfl, passed_writeNow sized hi .done rfl, rfl⟩
    · have h : runEntry i s = (clearConditions e.mask (writeNow i .taken s), .goto e.target) :=
        (runEntry_jumpIf kind near).trans (if_pos (metOf.2 meets))
      simp only [t, goes, passed, cleared, h]
      exact ⟨trivial, passed_writeNow sized hi .taken rfl, rfl⟩
    · have h : runEntry i s = (clearConditions e.mask (writeNow i .notTaken s), .goto (i + 1)) :=
        (runEntry_jumpIf kind near).trans (if_neg (mt metOf.1 misses))
      simp only [t, goes, passed, cleared, h]
      exact ⟨trivial, passed_writeNow sized hi .notTaken rfl, rfl⟩
    · have h := (runEntry_call kind near).trans (if_neg (by rw [unsaved]; decide))
      simp only [t, goes, passed, kept, h]
      exact ⟨rfl, trivial, passed_writeNow sized hi .done rfl, rfl⟩
    · exact badOf ((runEntry_call kind near).trans (if_pos (Option.isSome_iff_ne_none.2 saved)))
    · have h : runEntry i s = (repeated i e .taken (e.repeats + 1) s, .goto e.target) :=
        (runEntry_repeatIf kind near).trans (if_pos ⟨metOf.2 meets, fewer⟩)
      obtain ⟨written, count⟩ := repeated_spec e .taken (e.repeats + 1) sized hi
      simp only [t, goes, passed, cleared, h]
      exact ⟨trivial, written, count, rfl⟩
    · have h : runEntry i s = (repeated i e .notTaken 0 s, .goto (i + 1)) :=
        (runEntry_repeatIf kind near).trans (if_neg fun both => stops ⟨metOf.1 both.1, both.2⟩)
      obtain ⟨written, count⟩ := repeated_spec e .notTaken 0 sized hi
      simp only [t, goes, passed, cleared, h]
      exact ⟨trivial, written, count, rfl⟩
    · have h : runEntry i s = ({ writeNow i .done s with sequencer := { (writeNow i .done s).sequencer with saved := none } }, .goto k) := by
        rw [runEntry_return kind]
        unfold runReturn
        rw [saved]
      simp only [t, goes, passed, kept, h]
      exact ⟨trivial, trivial, passed_writeNow sized hi .done rfl, rfl⟩
    · refine badOf (cause := .noReturn) ((runEntry_return kind).trans ?_)
      unfold runReturn
      rw [unsaved]
  · intro e ends finishes fails
    refine ⟨fun kind => ?_, fun kind => ?_, fun kind => runEntry_note kind, fun kind ordered => ?_⟩
    · have run := (runEntry_waitTime kind).trans (runWaitTime_eq i (s.entry i) s)
      refine ⟨fun late => run.trans (if_pos late), fun inTime lost => ?_, fun come inTime known => ?_, fun soon inTime known => ?_⟩
      · exact run.trans ((if_neg (not_lt.2 inTime)).trans (if_pos lost))
      · exact run.trans ((if_neg (not_lt.2 inTime)).trans ((if_neg known).trans (if_pos come)))
      · exact run.trans ((if_neg (not_lt.2 inTime)).trans ((if_neg known).trans (if_neg (not_le.2 soon))))
    · exact ⟨fun zero => (runEntry_waitFrames kind).trans (if_pos zero), fun some => (runEntry_waitFrames kind).trans (if_neg some)⟩
    · have run := runEntry_mark kind
      intro mark
      refine ⟨fun late => run.trans (if_pos late), fun inTime taken => ?_, fun inTime unmet full => ?_, fun before after inTime hb ha => ?_⟩
      · exact run.trans (runMark_fails inTime (by decide) (markAt_duplicate taken ordered))
      · exact run.trans (runMark_fails inTime (by decide) (markAt_full unmet full))
      · intro m
        refine ⟨fun split room => ?_, fun x split time point => ?_⟩
        · exact run.trans (runMark_marks inTime (markAt_added split hb ha room))
        · exact run.trans (runMark_marks inTime (markAt_converted split hb ha time point))
  · rw [beginChain_passes hi far ran]
    rfl
  · intro k u
    have first : place 0 < Config.listEntries := inside 0 (by omega)
    have ended := chainFrom_passes place path inside passes 256 0 rfl
    unfold beginChain Config.chainLimit
    dsimp only
    rw [if_pos first, ← start, ended]
    rfl

end Sys2Proof.Proofs
end

section
/-! The requests that run and halt the edit list (R155 to R157). Settles O22. -/

namespace Sys2Proof.Machine

/-! ### LIST-RUN and LIST-HALT (R155, R157) -/

section
variable {s t : State} {i : Nat} {port : Port} {ticket : Ticket} {body : List Word}

/-- A list that LIST-RUN starts at an index, before its first chain, as the first of which the start entry will be counted (R155, R156). -/
def State.started (s : State) (port : Port) (i : Nat) : State :=
  logEntry .listStart s.timeNow port.origin i { s with sequencer := { s.sequencer with
    entries := s.sequencer.entries.map fun e => { e with outcome := .notRun, seen := 0, completion := none, repeats := 0 }
    state := .running, current := i, conditions := 0, saved := none, waitRemainder := 0, chainCount := 1 } }

/-- The chain count is set at a chain's beginning. -/
theorem beginChain_anew (i : Nat) (s : State) :
    beginChain i s = beginChain i { s with sequencer := { s.sequencer with chainCount := 0 } } := rfl

theorem startList_started (i : Nat) (port : Port) (s : State) : startList i port.origin s = beginChain i
    { s.started port i with sequencer := { (s.started port i).sequencer with chainCount := 0 } } :=
  beginChain_anew ..

theorem started_entry (sized : s.sized) (hi : i < 64) :
    (s.started port i).entry i = { s.entry i with outcome := .notRun, seen := 0, completion := none, repeats := 0 } := by
  have inside : i < s.sequencer.entries.length := by rw [sized.2]; exact hi
  have held : s.entry i = s.sequencer.entries[i] := by
    unfold State.entry
    rw [List.getD_eq_getElem?_getD, List.getElem?_eq_getElem inside] <;> rfl
  rw [held]
  show (s.sequencer.entries.map ListEntry.cleared).getD i ListEntry.blank = ListEntry.cleared _
  rw [List.getD_eq_getElem?_getD, List.getElem?_map, List.getElem?_eq_getElem inside] <;> rfl

/-- An entry of kind 0 ends the list, DONE (R160). -/
theorem runEntry_end (kind : (s.entry i).kind = 0) : runEntry i s = (endList .endReached .list 0 (writeNow i .done s), .ended) := by
  simp [runEntry, kind, needsTarget]

/-- LIST-RUN in IDLE at an index of the list memory: its first chain is run, and the reply is ACCEPTED. -/
theorem exec_listRun_starts (q : s.quiet) (h : s.stands port .listRun ticket body) (inside : (argWord body 1).toNat ≤ 63)
    (idle : s.sequencer.state = .idle) : exec (.listRun port) s =
      .next (answered ticket body .accepted [] (startList (argWord body 1).toNat port.origin (popRequest port s))) := by
  have asked : ticket.port = port := headRequest_port h.1
  refine exec_judged rfl h (t := startList _ _ _) ?_ (beginChain_quiet _ ((congrArg InputPort.pendingSelect (popRequest_input port s)).trans q.2))
  have still : (popRequest port s).sequencer.state = .idle := by rw [popRequest_sequencer, idle]
  subst asked
  exact (if_neg (not_lt.2 inside)).trans (if_neg (not_not.2 still))

end
end Sys2Proof.Machine

namespace Sys2Proof.Proofs
open Sys2Proof.Machine

/-- Settles O22. -/
theorem listRunAndHaltRequests : Obligations.ListRunAndHaltRequests := by
  refine ⟨fun port ticket body s q h far => exec_judged rfl h (if_pos far) ((popRequest_quiet port s).2 q),
    fun port ticket body s q sized h inside => ⟨fun busy => ?_, fun idle kind => ?_, fun idle => ?_⟩,
    fun port ticket body s q h => ?_⟩
  · have still : (popRequest port s).sequencer.state ≠ .idle := by rw [popRequest_sequencer]; exact busy
    exact exec_judged rfl h ((if_neg (not_lt.2 inside)).trans (if_pos still)) ((popRequest_quiet port s).2 q)
  · have begun := exec_listRun_starts q h inside idle
    have hi : (argWord body 1).toNat < 64 := Nat.lt_succ_of_le inside
    obtain ⟨y, l, popped⟩ := popRequest_leaves port s
    rw [popped] at begun ⊢
    generalize (argWord body 1).toNat = i at begun hi kind
    rw [startList_started] at begun
    have entry := started_entry (s := { s with system := y, link := l }) (port := port) sized hi
    have ran : runEntry i (State.started { s with system := y, link := l } port i) = _ :=
      runEntry_end ((congrArg ListEntry.kind entry).trans kind)
    rw [beginChain_ends hi ran] at begun
    rw [begun]
    unfold writeNow writeResult setEntry
    rw [entry]
    refine congrArg (fun u => Host.Outcome.next (answered ticket body .accepted [] u)) ((handing_self ?_).trans ?_)
    · exact q.1
    · unfold endList endQuietly
      rw [← idle] <;> rfl
  · intro started
    have begun := exec_listRun_starts q h inside idle
    have hi : (argWord body 1).toNat < 64 := Nat.lt_succ_of_le inside
    obtain ⟨y, l, popped⟩ := popRequest_leaves port s
    rw [startList_started] at begun
    refine ⟨?_, fun t working ran => ?_⟩
    · rw [begun]
      unfold started
      rw [popped] <;> rfl
    · have works : runEntry (argWord body 1).toNat (State.started (popRequest port s) port (argWord body 1).toNat) = (t, .inProgress working) := by
        rw [← ran]
        unfold started
        rw [popped] <;> rfl
      rw [begun, beginChain_works hi works]
  · have asked : ticket.port = port := headRequest_port h.1
    obtain ⟨y, l, popped⟩ := popRequest_leaves port s
    refine ⟨fun idle => ?_, fun runs => ?_, fun halts => ?_⟩
    · refine exec_judged rfl h ?_ ((popRequest_quiet port s).2 q)
      unfold judgeListHalt
      rw [popRequest_sequencer, idle]
    · rw [popped]
      refine exec_judged rfl h ?_ (t := { s with system := y, link := l, sequencer := { s.sequencer with state := .halting, haltPort := port } }) q
      unfold judgeListHalt
      rw [popped, asked]
      rcases runs with state | state
      all_goals dsimp only; rw [state]
    · rw [popped]
      refine exec_judged rfl h ?_ q
      unfold judgeListHalt
      rw [popped, asked]
      dsimp only
      rw [halts]
      dsimp only
      rw [haltList_eq, if_neg (by dsimp only; rw [halts]; decide)] <;> rfl

end Sys2Proof.Proofs
end

section
/-! Copy Control and the source (R42 to R44, R98, R104, R105): the judgement of the source-lost state, the derivation of the source
field after it, and what a refusal changes. Settles O15. -/

namespace Sys2Proof.Machine

section
variable {s t : State}

/-! ### The source-lost state (R44) -/

/-- The source-lost state judged, with its condition and its log entry, before the field is derived (R44). -/
def State.lossJudged (s : State) : State :=
  let t : State := { s with input := { s.input with lost := s.lostCause } }
  match s.input.lost, s.lostCause with
  | none, some cause => logEntry .sourceLost s.timeNow .internal cause.code (setCondition .sourceLost t)
  | some _, none => logEntry .sourceRestored s.timeNow .internal 0 (clearCondition .sourceLost t)
  | _, _ => t

theorem judgeLost_eq (s : State) : judgeLost s = deriveField s.lossJudged := by rfl

theorem lossJudged_lost {cause : LostCause} (before : s.input.lost = none) (after : s.lostCause = some cause) : s.lossJudged =
    logEntry .sourceLost s.timeNow .internal cause.code
      (setCondition .sourceLost { s with input := { s.input with lost := some cause } }) := by
  unfold State.lossJudged
  rw [before, after]

theorem lossJudged_restored (before : s.input.lost.isSome = true) (after : s.lostCause = none) : s.lossJudged =
    logEntry .sourceRestored s.timeNow .internal 0
      (clearCondition .sourceLost { s with input := { s.input with lost := none } }) := by
  obtain ⟨c, before⟩ := Option.isSome_iff_exists.1 before
  unfold State.lossJudged
  rw [before, after]

theorem lossJudged_steady (h : s.input.lost.isSome = s.lostCause.isSome) :
    s.lossJudged = { s with input := { s.input with lost := s.lostCause } } := by
  unfold State.lossJudged
  revert h
  cases s.input.lost <;> cases s.lostCause <;> simp

theorem lossJudged_leaves (s : State) : ∃ c r, s.lossJudged = { s with
    input := { s.input with lost := s.lostCause }, sequencer := { s.sequencer with conditions := c }, reports := r } := by
  unfold State.lossJudged
  dsimp only
  split
  · next h => rw [h]; exact ⟨_, _, rfl⟩
  · next h => rw [h]; exact ⟨_, _, rfl⟩
  · exact ⟨s.sequencer.conditions, s.reports, rfl⟩

/-! ### The source field (R98) -/

/-- The source field called for once the source-lost state is judged (R98). -/
def State.judgedField (s : State) : SourceField :=
  State.sourceField { s with input := { s.input with lost := s.lostCause } }

theorem lossJudged_sourceField (s : State) : s.lossJudged.sourceField = s.judgedField := by
  obtain ⟨c, r, judged⟩ := lossJudged_leaves s
  rw [judged] <;> rfl

theorem judgedField_analog (h : s.input.selected = .analog) : s.judgedField = .field s.activeBank.analogCopy := by
  unfold State.judgedField State.sourceField
  dsimp only
  rw [h] <;> rfl

theorem judgedField_lost {cause : LostCause} (h : s.lostCause = some cause) : s.judgedField = .silent := by
  have digital : s.input.selected = .digital := by
    unfold State.lostCause at h
    split at h
    · cases h
    · assumption
  unfold State.judgedField State.sourceField
  dsimp only
  rw [digital, h] <;> rfl

theorem judgedField_digital (digital : s.input.selected = .digital) (h : s.lostCause = none) : s.judgedField =
    if s.input.status.valid then
      match s.input.status.copyField with
      | some .free => .field .free
      | some .once => .field .none
      | _ => .refuse
    else .refuse := by
  unfold State.judgedField State.sourceField
  dsimp only
  rw [digital, h] <;> rfl

theorem lostCause_analog (h : s.input.selected = .analog) : s.lostCause = none := by
  unfold State.lostCause
  rw [h]

theorem lostCause_digital (h : s.input.selected = .digital) : s.lostCause =
    if s.input.status.lock = false then some .noLock
    else if s.input.status.rate = some s.activeBank.rate then none
    else some .rate := by
  unfold State.lostCause
  rw [h]

/-- The current field is combined into the entry of the slot being filled, where there is one (R99). -/
def combineFilling (s : State) : State := match s.fillingSlot with
  | some i => combineEntry i s
  | none => s

/-- The derivation of the field in a state: the field is the one called for, combined into the entry of a slot being filled, and a
field that becomes REFUSE is a refusal event (R98, R99). -/
theorem deriveField_eq (s : State) : ∃ fields, (s.fillingSlot = none → fields = s.copy.inputFields) ∧
    let u : State := { s with copy := { s.copy with current := s.sourceField, inputFields := fields } }
    deriveField s = if s.sourceField = .refuse ∧ s.copy.current ≠ .refuse then refusalEvent u else u := by
  unfold deriveField
  by_cases same : s.sourceField = s.copy.current
  · refine ⟨s.copy.inputFields, fun _ => rfl, ?_⟩
    dsimp only
    rw [if_pos same, if_neg fun h => h.2 (same.symm.trans h.1), same]
  · have combined : ∃ fields, (s.fillingSlot = none → fields = s.copy.inputFields) ∧
        combineFilling { s with copy := { s.copy with current := s.sourceField } } =
          { s with copy := { s.copy with current := s.sourceField, inputFields := fields } } := by
      have still : State.fillingSlot { s with copy := { s.copy with current := s.sourceField } } = s.fillingSlot := rfl
      unfold combineFilling
      rw [still]
      cases s.fillingSlot with
      | none => exact ⟨_, fun _ => rfl, rfl⟩
      | some i =>
        refine Exists.imp (fun fields h => ⟨fun none => absurd none (Option.some_ne_none i), h⟩) ?_
        dsimp only
        unfold combineEntry
        dsimp only
        split
        · exact ⟨_, by rfl⟩
        · exact ⟨_, rfl⟩
    obtain ⟨fields, kept, filled⟩ := combined
    refine ⟨fields, kept, ?_⟩
    by_cases refuse : s.sourceField = .refuse
    · have becomes : s.sourceField = .refuse ∧ s.copy.current ≠ .refuse := ⟨refuse, fun h => same (refuse.trans h.symm)⟩
      exact ((if_neg same).trans (if_pos refuse)).trans ((congrArg refusalEvent filled).trans (if_pos becomes).symm)
    · have stays : ¬ (s.sourceField = .refuse ∧ s.copy.current ≠ .refuse) := fun h => refuse h.1
      exact ((if_neg same).trans (if_neg refuse)).trans (filled.trans (if_neg stays).symm)

/-! ### Refusals (R104, R105) -/

/-- A field that becomes REFUSE troubles neither a take whose gate is latched nor a deck that has no punch-in. -/
def State.careless (s : State) : Prop := s.mixer.gateOpen = false ∧ s.mixer.punchIn = none ∨ s.mixer.gateOpen = true ∧ s.copy.latched = true

theorem refusalEvent_careless (h : s.careless) : refusalEvent s = s := by
  unfold refusalEvent
  rcases h with ⟨gate, punch⟩ | ⟨gate, latched⟩
  · rw [gate, punch] <;> rfl
  · rw [gate, latched] <;> rfl

theorem refusalEvent_latches (gate : s.mixer.gateOpen = true) (latched : s.copy.latched = false) :
    refusalEvent s = recordRefusal .internal { s with copy := { s.copy with latched := true } } := by
  unfold refusalEvent
  rw [gate, latched] <;> rfl

theorem refusalEvent_cancels {p : Punch} (gate : s.mixer.gateOpen = false) (punch : s.mixer.punchIn = some p) :
    refusalEvent s = recordRefusal .internal (cancelPunch .copy s) := by
  unfold refusalEvent
  rw [gate, punch] <;> rfl

/-- An entry of the log with at most `n` after it. -/
def Recent (n : Nat) (e : LogEntry) (log : List LogEntry) : Prop := ∃ a b, log = a ++ e :: b ∧ b.length ≤ n

theorem Recent.mem {n : Nat} {e : LogEntry} {log : List LogEntry} (h : Recent n e log) : e ∈ log := by
  obtain ⟨a, b, rfl, _⟩ := h
  simp

/-- An entry stays in the log until 31 others have come after it (R182). -/
theorem Recent.addEntry {n : Nat} {e : LogEntry} {r : Reports} (h : Recent n e r.log) (few : n < 31) (kind : LogKind)
    (time : Option Nat) (origin : Origin) (argument : Nat) : Recent (n + 1) e (r.addEntry kind time origin argument).log := by
  obtain ⟨a, b, log, short⟩ := h
  have kept : ∃ c, (if r.log.length < Config.logLimit then r.log else r.log.drop (r.log.length + 1 - Config.logLimit)) = c ++ e :: b := by
    split
    · exact ⟨a, log⟩
    · have long : r.log.length + 1 - 32 ≤ a.length := by
        rw [log, List.length_append, List.length_cons]
        omega
      exact ⟨a.drop (r.log.length + 1 - 32), by rw [show Config.logLimit = 32 from rfl, log] at *; rw [List.drop_append_of_le_length long]⟩
  obtain ⟨c, kept⟩ := kept
  refine ⟨c, b ++ [⟨r.nextSequence, kind, time, origin, argument⟩], ?_, by rw [List.length_append]; exact Nat.add_le_add_right short 1⟩
  unfold Reports.addEntry
  dsimp only
  rw [kept, List.append_assoc]
  rfl

/-- The newest entry. -/
theorem recent_addEntry (r : Reports) (kind : LogKind) (time : Option Nat) (origin : Origin) (argument : Nat) :
    Recent 0 ⟨r.nextSequence, kind, time, origin, argument⟩ (r.addEntry kind time origin argument).log :=
  ⟨_, [], rfl, le_rfl⟩

/-- What a refusal event leaves of the state, whatever it finds: the slots, the punches, the trim demand, what goes with the record
path, the COPY condition, the hand-offs and the reports aside, nothing differs; and no more than two entries are made. -/
theorem refusalEvent_leaves (s : State) : ∃ demand store current playing frame mixer handoffs conditions latched inputFields reports,
    refusalEvent s = { s with
      transport := { s.transport with demand := demand }, store := store, coder := { s.coder with current := current }
      output := { s.output with playing := playing, frame := frame }, mixer := mixer
      sequencer := { s.sequencer with handoffs := handoffs, conditions := conditions }
      copy := { s.copy with latched := latched, inputFields := inputFields }, reports := reports } ∧
    (conditions = s.sequencer.conditions ∨ conditions = s.sequencer.conditions ||| Condition.copy.bit) ∧
    ∀ e, Recent 0 e s.reports.log → e ∈ reports.log := by
  cases gate : s.mixer.gateOpen with
  | true =>
    cases latched : s.copy.latched with
    | true =>
      refine ⟨_, _, _, _, _, _, _, _, _, _, _, refusalEvent_careless (.inr ⟨gate, latched⟩), .inl rfl, fun e recent => recent.mem⟩
    | false =>
      refine ⟨_, _, _, _, _, _, _, _, _, _, _, refusalEvent_latches gate latched, .inr rfl, fun e recent => ?_⟩
      exact (Recent.addEntry recent (by decide) ..).mem
  | false =>
    cases punch : s.mixer.punchIn with
    | none =>
      refine ⟨_, _, _, _, _, _, _, _, _, _, _, refusalEvent_careless (.inl ⟨gate, punch⟩), .inl rfl, fun e recent => recent.mem⟩
    | some p =>
      rw [refusalEvent_cancels gate punch]
      obtain ⟨demand, store, current, playing, frame, mixer, handoffs, latched, inputFields, cancelled⟩ := cancelPunch_leaves .copy s
      rw [cancelled]
      refine ⟨_, _, _, _, _, _, _, _, _, _, _, rfl, .inr rfl, fun e recent => ?_⟩
      have one : Recent 1 e (s.cancelledReports .copy).log := by
        unfold State.cancelledReports
        rw [punch]
        dsimp only
        split
        · obtain ⟨a, b, log, short⟩ := recent
          exact ⟨a, b, log, short.trans (by decide)⟩
        · exact Recent.addEntry recent (by decide) ..
      refine (Recent.addEntry (n := 1) ?_ (by decide) .copyRefused _ .internal _).mem
      exact one

/-! ### The whole judgement (R44, R98, R104, R105) -/

/-- The source-lost state and the field as they are judged, before what a refusal changes. -/
def State.fieldJudged (fields : List (Nat × Option CopyField)) (s : State) : State :=
  { s.lossJudged with copy := { s.copy with current := s.judgedField, inputFields := fields } }

/-- The field becomes REFUSE as it is judged. -/
def State.refuses (s : State) : Prop := s.judgedField = .refuse ∧ s.copy.current ≠ .refuse

theorem judgeLost_cases (s : State) : ∃ fields, (s.fillingSlot = none → fields = s.copy.inputFields) ∧
    (¬ s.refuses → judgeLost s = s.fieldJudged fields) ∧ (s.refuses → judgeLost s = refusalEvent (s.fieldJudged fields)) := by
  obtain ⟨c, r, judged⟩ := lossJudged_leaves s
  obtain ⟨fields, kept, derived⟩ := deriveField_eq s.lossJudged
  rw [lossJudged_sourceField] at derived
  have filling : s.lossJudged.fillingSlot = s.fillingSlot := by rw [judged] <;> rfl
  have copy : s.lossJudged.copy = s.copy := by rw [judged]
  rw [filling, copy] at kept
  rw [copy] at derived
  exact ⟨fields, kept, fun h => derived.trans (if_neg h), fun h => derived.trans (if_pos h)⟩

/-- Where the field does not become REFUSE, or troubles nothing, it is judged and no more. -/
theorem judgeLost_untroubled (h : ¬ s.refuses ∨ s.careless) :
    ∃ fields, (s.fillingSlot = none → fields = s.copy.inputFields) ∧ judgeLost s = s.fieldJudged fields := by
  obtain ⟨fields, kept, stays, becomes⟩ := judgeLost_cases s
  obtain ⟨c, r, judged⟩ := lossJudged_leaves s
  by_cases refuses : s.refuses
  · have careless : (s.fieldJudged fields).careless := by
      unfold State.fieldJudged
      rw [judged]
      exact h.resolve_left (not_not.2 refuses)
    exact ⟨fields, kept, (becomes refuses).trans (refusalEvent_careless careless)⟩
  · exact ⟨fields, kept, stays refuses⟩

/-- What the judgement leaves of the state, whatever it finds. -/
theorem judgeLost_leaves (s : State) : ∃ demand store current playing frame mixer handoffs conditions latched inputFields reports,
    judgeLost s = { s with
      transport := { s.transport with demand := demand }, store := store, coder := { s.coder with current := current }
      output := { s.output with playing := playing, frame := frame }, mixer := mixer
      sequencer := { s.sequencer with handoffs := handoffs, conditions := conditions }
      copy := { s.copy with current := s.judgedField, latched := latched, inputFields := inputFields }
      input := { s.input with lost := s.lostCause }, reports := reports } ∧
    (conditions = s.lossJudged.sequencer.conditions ∨ conditions = s.lossJudged.sequencer.conditions ||| Condition.copy.bit) ∧
    (∀ e, Recent 0 e s.lossJudged.reports.log → e ∈ reports.log) ∧
    (¬ s.refuses ∨ s.careless → conditions = s.lossJudged.sequencer.conditions ∧ reports = s.lossJudged.reports) := by
  obtain ⟨fields, kept, stays, becomes⟩ := judgeLost_cases s
  obtain ⟨c, r, judged⟩ := lossJudged_leaves s
  unfold State.fieldJudged at stays becomes
  rw [judged] at stays becomes ⊢
  by_cases refuses : s.refuses
  · rw [becomes refuses]
    by_cases careless : s.careless
    · rw [refusalEvent_careless (by exact careless)]
      exact ⟨_, _, _, _, _, _, _, _, _, _, _, rfl, .inl rfl, fun e recent => recent.mem, fun _ => ⟨rfl, rfl⟩⟩
    · obtain ⟨demand, store, current, playing, frame, mixer, handoffs, conditions, latched, inputFields, reports, left, cond, log⟩ :=
        refusalEvent_leaves { s with
          input := { s.input with lost := s.lostCause }, sequencer := { s.sequencer with conditions := c }, reports := r
          copy := { s.copy with current := s.judgedField, inputFields := fields } }
      exact ⟨_, _, _, _, _, _, _, _, _, _, _, left, cond, log,
        fun h => absurd h (not_or.2 ⟨not_not.2 refuses, careless⟩)⟩
  · rw [stays refuses]
    exact ⟨_, _, _, _, _, _, _, _, _, _, _, rfl, .inl rfl, fun e recent => recent.mem, fun _ => ⟨rfl, rfl⟩⟩

end
end Sys2Proof.Machine

namespace Sys2Proof.Proofs
open Sys2Proof.Machine

/-- Settles O15. -/
theorem sourceStatusAndRefusal : Obligations.SourceStatusAndRefusal := by
  refine ⟨fun b s q idle => ?_, fun s gate => ⟨fun latched => refusalEvent_careless (.inr ⟨gate, latched⟩), refusalEvent_latches gate⟩⟩
  obtain ⟨handoffs, selection⟩ := q
  obtain ⟨status, held⟩ : ∃ r, sourceStatusOf b = r := ⟨_, rfl⟩
  obtain ⟨demand, store, current, playing, frame, mixer, handoffs, conditions, latched, fields, reports, left, cond, log, untroubled⟩ :=
    judgeLost_leaves { s with input := { s.input with status := status } }
  refine ⟨State.handing [] (judgeLost { s with input := { s.input with status := status } }), ?_, ?_⟩
  · rw [← held] at left ⊢
    refine congrArg Host.Outcome.next (settle_idle ?_ ?_)
    · rw [left]
      exact idle
    · rw [left]
      exact selection
  · rw [left]
    generalize judged : ({ s with input := { s.input with status := status } } : State) = v at left cond log untroubled ⊢
    have input : v.input = { s.input with status := status } := by rw [← judged]
    have bank : v.activeBank = s.activeBank := by rw [← judged] <;> rfl
    have loss (before : s.input.lost.isSome = v.lostCause.isSome) :
        v.lossJudged.sequencer.conditions = s.sequencer.conditions ∧ v.lossJudged.reports = s.reports := by
      rw [lossJudged_steady (by rw [input]; exact before), ← judged]
      exact ⟨rfl, rfl⟩
    have unrefused : v.judgedField ≠ .refuse ∨ s.copy.current = .refuse ∨ (s.mixer.gateOpen = false ∧ s.mixer.punchIn = none) ∨
        (s.mixer.gateOpen = true ∧ s.copy.latched = true) → ¬ v.refuses ∨ v.careless := by
      unfold State.refuses State.careless
      rw [← judged]
      tauto
    refine ⟨?_, ?_, fun analog => ?_, fun digital => ?_, ?_⟩
    · have same : v.input.status = status := by rw [input]
      exact same.trans held.symm
    · have same : v.input.selected = s.input.selected := by rw [input]
      exact same
    · have selected : v.input.selected = .analog := by rw [input]; exact analog
      exact ⟨lostCause_analog selected, bank ▸ judgedField_analog selected⟩
    · have selected : v.input.selected = .digital := by rw [input]; exact digital
      have lost := lostCause_digital selected
      rw [bank] at lost
      refine ⟨fun lock => ?_, fun lock rate => ?_, fun lock rate => ?_⟩
      · have noLock := lost.trans (if_pos lock)
        exact ⟨noLock, judgedField_lost noLock⟩
      · have other := lost.trans ((if_neg fun h => absurd (lock.symm.trans h) (by decide)).trans (if_neg rate))
        exact ⟨other, judgedField_lost other⟩
      · have none := lost.trans ((if_neg fun h => absurd (lock.symm.trans h) (by decide)).trans (if_pos rate))
        have field := judgedField_digital selected none
        refine ⟨none, fun valid => ?_, fun valid copy => ?_, fun valid copy => ?_, fun valid copy => ?_⟩
        · exact field.trans (if_neg fun h => absurd (valid.symm.trans h) (by decide))
        all_goals
          refine field.trans ((if_pos valid).trans ?_)
          change v.input.status.copyField = _ at copy
          rw [copy]
    · have lostBefore : v.input.lost = s.input.lost := by rw [input]
      have still : v.banks = s.banks ∧ v.decoder = s.decoder ∧ v.cues = s.cues ∧ v.system = s.system ∧ v.link = s.link ∧
          v.conceal = s.conceal ∧ v.transport.state = s.transport.state := by
        rw [← judged]
        exact ⟨rfl, rfl, rfl, rfl, rfl, rfl, rfl⟩
      obtain ⟨banks, decoder, cues, system, link, conceal, state⟩ := still
      refine ⟨banks, decoder, cues, system, link, conceal, state, ?_⟩
      intro calm
      refine ⟨fun cause before after => ?_, fun before after => ?_, fun same calmly => ?_⟩
      · have fell := lossJudged_lost (lostBefore.trans before) after
        have calmly := untroubled (.inl fun refuses => absurd ((judgedField_lost after).symm.trans refuses.1) (by decide))
        show conditions = _ ∧ reports = _
        rw [calmly.1, calmly.2, fell, ← judged]
        cases cause
        all_goals exact ⟨rfl, rfl⟩
      · have rose := lossJudged_restored ((congrArg Option.isSome lostBefore).trans before) after
        show conditions.getLsbD 5 = false ∧ _ ∈ reports.log ∧ (_ → conditions = _ ∧ reports = _)
        have cleared : v.lossJudged.sequencer.conditions = s.sequencer.conditions &&& 0x5F#7 := by
          rw [rose, ← judged] <;> rfl
        have logged : v.lossJudged.reports = (logEntry .sourceRestored s.timeNow .internal 0 s).reports := by
          rw [rose, ← judged] <;> rfl
        refine ⟨?_, log _ (by rw [logged]; exact recent_addEntry ..), fun calmly => ?_⟩
        · rw [cleared] at cond
          rcases cond with cond | cond
          all_goals rw [cond]; simp [Condition.bit, Condition.index]
        · have calmly := untroubled (unrefused calmly)
          exact ⟨calmly.1.trans cleared, calmly.2.trans logged⟩
      · have calmly := untroubled (unrefused calmly)
        have steady := loss same
        exact ⟨calmly.1.trans steady.1, calmly.2.trans steady.2⟩

end Sys2Proof.Proofs
end

section
/-! The input pair: what one adds to its capture slot, what the last one of a slot completes, and what the Edit Mixer takes then (R27,
R28, R45, R47, R99, R101 to R103, R146, R147). Settles O16. -/

namespace Sys2Proof.Machine

section
variable {s t u : State} {l : List Nat} {i k : Nat} {p : Pair × Bool}

/-! ### The Edit Mixer's take (R28, R146) -/

/-- A slot on the output queue alone, when it is freed. -/
theorem freeOne_concealed (capture : k ∉ s.store.captureList) (gather : k ∉ s.store.gatherList) (write : k ∉ s.store.writeQueue)
    (fields : k ∉ s.copy.inputFields.map (·.1)) (current : ∀ w ∈ s.coder.current, w.slot ≠ k) (playing : s.output.playing ≠ some k) :
    freeOne s k = { s with store := { s.store with
      slots := s.store.slots.set k Slot.freed, outputQueue := s.store.outputQueue.filter (· != k) } } := by
  have fieldsOf : s.copy.inputFields.filter (·.1 != k) = s.copy.inputFields :=
    List.filter_eq_self.2 fun e he => by simpa using fun same : e.1 = k => fields (List.mem_map.2 ⟨e, he, same⟩)
  have currentOf : s.coder.current.filter (·.slot != k) = s.coder.current := by
    cases h : s.coder.current with
    | none => rfl
    | some w => simp [Option.filter, current w h]
  simp only [freeOne, setSlot, filter_ne_of_notMem capture, filter_ne_of_notMem gather, filter_ne_of_notMem write, fieldsOf, currentOf]
  exact congrArg (fun o : Output => ({ s with output := o, store := { s.store with
    slots := s.store.slots.set k Slot.freed, outputQueue := s.store.outputQueue.filter (· != k) } } : State)) (if_neg playing)

/-- An OLD slot on the output queue alone: Q does not count it. -/
theorem freeSlots_concealed (capture : k ∉ s.store.captureList) (gather : k ∉ s.store.gatherList) (write : k ∉ s.store.writeQueue)
    (fields : k ∉ s.copy.inputFields.map (·.1)) (current : ∀ w ∈ s.coder.current, w.slot ≠ k) (playing : s.output.playing ≠ some k)
    (role : (s.slot k).role ≠ some .play) : freeSlots [k] s = { s with store := { s.store with
      slots := s.store.slots.set k Slot.freed, outputQueue := s.store.outputQueue.filter (· != k) } } := by
  have one := freeOne_concealed capture gather write fields current playing
  have freed : [k].foldl freeOne s = freeOne s k := rfl
  unfold freeSlots
  rw [withDepths_still (f := fun t => [k].foldl freeOne t)]
  · exact freed.trans one
  · have frees := freeOne_frees s k
    show (freeOne s k).depthQ = s.depthQ
    unfold State.depthQ
    rw [frees.outputQueue, List.filter_filter]
    refine congrArg List.length (List.filter_congr fun j _ => ?_)
    rw [frees.slot]
    by_cases e : j = k
    · subst e
      simp [role]
    · simp [e]
  · show (freeOne s k).depthW = s.depthW
    unfold State.depthW
    rw [one]

theorem freeSlots_nil (s : State) : freeSlots [] s = s := withDepths_still (f := fun t => [].foldl freeOne t) rfl rfl

/-- The MIXED slot that the Edit Mixer makes of a CAPTURED one (R28, R102, R147). -/
def State.mixedSlot (s : State) (i : Nat) : Slot :=
  let v := s.slot i
  let f := v.frameTime.getD 0
  let old := s.oldSlot f
  let new := if s.copy.latched then v.pairs.map fun _ => Pair.zero else v.pairs
  { v with
    state := .mixed, copyField := some (s.writtenField i (s.crossFrame f) (old.map s.slot)), mixed := s.crossFrame f
    pairs := if s.crossFrame f then s.mixFrame f new ((old.map fun k => (s.slot k).pairs).getD []) else new }

/-- The state with slot `i` taken, and the OLD slot of its frame freed: their records and the lists that they leave. -/
theorem takeSlot_spec (sound : SoundWith l s) (state : (s.slot i).state = .captured) : ∃ slots, takeSlot i s = { s with
    store := { s.store with
      slots := slots, captureList := s.store.captureList.filter (· != i)
      outputQueue := s.store.outputQueue.filter fun k => decide (s.oldSlot ((s.slot i).frameTime.getD 0) ≠ some k) }
    copy := { s.copy with inputFields := s.copy.inputFields.filter (·.1 != i) } } ∧
    ∀ k, slots.getD k Slot.freed = if k = i then s.mixedSlot i
      else if s.oldSlot ((s.slot i).frameTime.getD 0) = some k then Slot.freed else s.slot k := by
  have hi := sound.lt (i := i) (by rw [state]; decide)
  have slot := slot_setSlot_of sound.length hi (s.mixedSlot i)
  show ∃ slots, freeSlots (s.oldSlot ((s.slot i).frameTime.getD 0)).toList { setSlot i (s.mixedSlot i) s with
    store := { (setSlot i (s.mixedSlot i) s).store with captureList := s.store.captureList.filter (· != i) }
    copy := { s.copy with inputFields := s.copy.inputFields.filter (·.1 != i) } } = _ ∧ _
  cases old : s.oldSlot ((s.slot i).frameTime.getD 0) with
  | none =>
    rw [Option.toList_none, freeSlots_nil]
    refine ⟨s.store.slots.set i (s.mixedSlot i), ?_, fun k => (slot k).trans ?_⟩
    · have whole : s.store.outputQueue.filter (fun k => decide (Option.none ≠ some k)) = s.store.outputQueue :=
        List.filter_eq_self.2 fun k _ => by simp
      rw [whole] <;> rfl
    · rw [if_neg (show ¬ Option.none = some k by simp)]
  | some j =>
    obtain ⟨queued, role, concealed, -⟩ := oldSlot_spec old
    have hj := sound.lt (i := j) (by rw [concealed]; decide)
    have ne : j ≠ i := by rintro rfl; rw [state] at concealed; cases concealed
    rw [Option.toList_some, freeSlots_concealed]
    · refine ⟨(s.store.slots.set i (s.mixedSlot i)).set j Slot.freed, ?_, fun k => ?_⟩
      · have same : s.store.outputQueue.filter (· != j) = s.store.outputQueue.filter (fun k => decide (some j ≠ some k)) :=
          List.filter_congr fun k _ => by by_cases e : k = j <;> simp [e, Ne.symm]
        rw [← same] <;> rfl
      · have both : ((s.store.slots.set i (s.mixedSlot i)).set j Slot.freed).getD k Slot.freed =
            if k = j then Slot.freed else (setSlot i (s.mixedSlot i) s).slot k := by
          have length : (setSlot i (s.mixedSlot i) s).store.slots.length = 16 := by simp [setSlot, sound.length]
          exact slot_setSlot_of length hj Slot.freed k
        rw [both, slot]
        by_cases e : k = j
        · rw [e, if_pos rfl, if_neg ne, if_pos rfl]
        · rw [if_neg e, if_neg (show ¬ some j = some k by simpa using Ne.symm e)]
    · exact fun mem => by
        have := sound.mem_captureList.1 (List.mem_filter.1 mem).1
        rw [concealed] at this
        rcases this with h | h <;> cases h
    · show j ∉ s.store.gatherList
      rw [sound.mem_gatherList, concealed]
      decide
    · show j ∉ s.store.writeQueue
      rw [sound.mem_writeQueue, concealed]
      decide
    · intro mem
      rw [sound.fields_filter] at mem
      have := sound.mem_captureList.1 (List.mem_filter.1 mem).1
      rw [concealed] at this
      rcases this with h | h <;> cases h
    · exact sound.write_ne (by rw [concealed]; decide)
    · exact fun h => sound.playing_ne (by rw [concealed]; decide) (by rw [concealed]; decide) j h rfl
    · show ((setSlot i (s.mixedSlot i) s).slot j).role ≠ some .play
      rw [slot, if_neg ne, role]
      decide

/-! ### A pair into its slot (R45, R47, R99) -/

/-- Slot `i` with a delivered pair as its next one. -/
def State.fed (s : State) (i : Nat) (p : Pair × Bool) : State :=
  setSlot i { s.slot i with pairs := (s.slot i).pairs ++ [p.1], good := (s.slot i).good ++ [p.2] } s

theorem slot_fed (hi : i < s.store.slots.length) :
    (s.fed i p).slot i = { s.slot i with pairs := (s.slot i).pairs ++ [p.1], good := (s.slot i).good ++ [p.2] } := by
  unfold State.fed
  rw [slot_setSlot, if_pos ⟨rfl, hi⟩]

theorem capturePair_begins (hi : i < s.store.slots.length) (first : (s.slot i).pairs = []) (few : 1 < (s.slot i).pairCount) :
    capturePair i p s = combineEntry i (s.fed i p) := by
  obtain ⟨c, combined, -⟩ := combineEntry_copy i (s.fed i p)
  have slot : (combineEntry i (s.fed i p)).slot i = (s.fed i p).slot i := by rw [combined] <;> rfl
  have empty : (s.slot i).pairs.isEmpty = true := by rw [first] <;> rfl
  show (if ((if (s.slot i).pairs.isEmpty then combineEntry i (s.fed i p) else s.fed i p).slot i).pairCount ≤ _ then _ else _) = _
  rw [empty]
  refine if_neg ?_
  show ¬ ((combineEntry i (s.fed i p)).slot i).pairCount ≤ ((combineEntry i (s.fed i p)).slot i).pairs.length
  rw [slot, slot_fed hi, first]
  simpa using few

theorem capturePair_goesOn (hi : i < s.store.slots.length) (partly : (s.slot i).pairs ≠ []) :
    capturePair i p s = if (s.slot i).pairCount ≤ (s.slot i).pairs.length + 1 then completeCapture i (s.fed i p) else s.fed i p := by
  have filled : (s.slot i).pairs.isEmpty = false := by simpa using partly
  show (if ((if (s.slot i).pairs.isEmpty then combineEntry i (s.fed i p) else s.fed i p).slot i).pairCount ≤ _ then _ else _) = _
  rw [filled]
  show (if ((s.fed i p).slot i).pairCount ≤ ((s.fed i p).slot i).pairs.length then completeCapture i (s.fed i p) else s.fed i p) = _
  rw [slot_fed hi, List.length_append] <;> rfl

/-- A field combined into the entry of a slot (R99). -/
theorem combineEntry_field {field : CopyField} (h : s.copy.current = .field field) : combineEntry i s = { s with copy := { s.copy with
    inputFields := s.copy.inputFields.map fun e => if e.1 = i then (i, some (match e.2 with
      | none => field
      | some old => if old.code ≤ field.code then field else old)) else e } } := by
  have entry (e : Nat × Option CopyField) : (if e.1 = i then (e.1, combineFields [e.2, some field]) else e) =
      if e.1 = i then (i, some (match e.2 with
        | none => field
        | some old => if old.code ≤ field.code then field else old)) else e := by
    obtain ⟨k, f⟩ := e
    by_cases own : k = i
    · rw [if_pos own, if_pos own, own]
      cases f <;> rfl
    · rw [if_neg own, if_neg own]
  unfold combineEntry
  rw [h]
  simp only [entry]

theorem combineEntry_same (h : ∀ field, s.copy.current ≠ .field field) : combineEntry i s = s := by
  unfold combineEntry
  split
  · next field current => exact absurd current (h field)
  · rfl

/-! ### The input monitor and the end of the command (R90, R93, R95) -/

theorem exec_inputPair (left right : BitVec 24) (selection : takeSelection s = s) : exec (.inputPair left right) s =
    .next (settle (monitorPair (s.deliveredPair left right).1 (match s.capturingSlot with
      | some i => capturePair i (s.deliveredPair left right) s
      | none => s))) := by
  show Host.Outcome.next (settle (monitorPair ((takeSelection s).deliveredPair left right).1 _)) = _
  rw [selection] <;> rfl

theorem takeSelection_none (h : s.input.pendingSelect = none) : takeSelection s = s := by
  unfold takeSelection
  rw [h]

theorem monitorPair_other {q : Pair} (h : s.output.source ≠ .input) : monitorPair q s = s := if_neg h

/-- At unity gain, with no fade in progress, a pair leaves as it is. -/
theorem monitorPair_unity {q : Pair} (h : s.output.source = .input) (fades : s.output.fadesLeft = 0) (gain : s.output.fadeGain = 1024)
    (step : 0 ≤ s.output.fadeStep) : monitorPair q s = { s with output := { s.output with
      heldPair := q, delivered := if s.output.wordLength = .w24 then q else ⟨reduce16 q.left, reduce16 q.right⟩ } } := by
  have unity : (1024 : Int) = min 1024 (s.output.fadeGain + s.output.fadeStep) := by omega
  have whole : q = ⟨(q.left * 1024 + 512) / 1024, (q.right * 1024 + 512) / 1024⟩ := by
    have same (x : Int) : x = (x * 1024 + 512) / 1024 := by omega
    exact congrArg₂ Pair.mk (same q.left) (same q.right)
  unfold monitorPair
  rw [if_pos h, if_pos fades, leave_eq (.inr (.inl ⟨q, rfl, unity, whole⟩)), ← gain]

theorem deliveredPair_eq (left right : BitVec 24) : s.deliveredPair left right =
    (if s.input.lost.isSome then Pair.zero else ⟨left.toInt, right.toInt⟩, s.input.lost.isNone) := by
  unfold State.deliveredPair
  cases s.input.lost <;> rfl

end
end Sys2Proof.Machine

namespace Sys2Proof.Proofs
open Sys2Proof.Machine

/-- Settles O16. -/
theorem inputPairs : Obligations.InputPairs := by
  refine ⟨fun left right i s q other capturing few hi => ?_, fun left right s q monitored idle fades gain step => ?_⟩
  · intro t
    have fed : t = s.fed i (s.deliveredPair left right) := by rw [deliveredPair_eq] <;> rfl
    clear_value t
    subst fed
    have begun := exec_inputPair left right (takeSelection_none q.2)
    rw [capturing] at begun
    dsimp only at begun
    refine ⟨fun plain => ?_, fun field first current => ?_⟩
    · have result : capturePair i (s.deliveredPair left right) s = s.fed i (s.deliveredPair left right) := by
        by_cases first : (s.slot i).pairs = []
        · have unchanged := plain.resolve_left (not_not.2 first)
          rw [capturePair_begins hi first (by rw [first] at few; exact few)]
          exact combineEntry_same unchanged
        · rw [capturePair_goesOn hi first]
          exact if_neg (not_le.2 few)
      rw [begun, result, monitorPair_other (by exact other), settle_quiet (by exact q)]
    · have result := capturePair_begins (p := s.deliveredPair left right) hi first (by rw [first] at few; exact few)
      rw [combineEntry_field (by exact current)] at result
      rw [begun, result, monitorPair_other (by exact other), settle_quiet (by exact q)]
      rfl
  · intro p
    have delivered : p = (s.deliveredPair left right).1 := by rw [deliveredPair_eq] <;> rfl
    have begun := exec_inputPair left right (takeSelection_none q.2)
    rw [idle] at begun
    dsimp only at begun
    rw [monitorPair_unity monitored fades gain step, settle_quiet (by exact q), ← delivered] at begun
    exact begun

end Sys2Proof.Proofs
end

section
/-! The last pair of a capture slot: the slot CAPTURED, the trim that follows W, and the take of the Edit Mixer where it is the oldest
slot there is (R27, R28, R39, R101 to R103, R146, R147). Settles O17. -/

namespace Sys2Proof.Machine

section
variable {s t u : State} {l : List Nat} {i k f : Nat} {p : Pair × Bool}

/-! ### A slot CAPTURED (R24, R27, R39) -/

theorem slot_captured (length : s.store.slots.length = 16) (hi : i < 16) (k : Nat) :
    (s.captured i).slot k = if k = i then { s.slot i with state := .captured } else s.slot k :=
  slot_setSlot_of length hi { s.slot i with state := .captured } k

/-- The capture of a slot is complete: W has risen by one, and Q stays. -/
theorem completeCapture_eq (length : s.store.slots.length = 16) (hi : i < 16) :
    completeCapture i s = mixerJudge (judgeW (s.captured i)) := by
  have q : (s.captured i).depthQ = s.depthQ := by
    unfold State.depthQ
    refine congrArg List.length (List.filter_congr fun k _ => ?_)
    rw [slot_captured length hi]
    by_cases e : k = i <;> simp [e]
  have w : (s.captured i).depthW ≠ s.depthW := by
    show (s.store.writeQueue ++ [i]).length ≠ s.store.writeQueue.length
    simp
  show mixerJudge (withDepths (fun t => t.captured i) s) = _
  unfold withDepths
  dsimp only
  rw [if_pos q, if_neg w]

/-- The judgement of W writes the trim and the demand alone. -/
theorem judgeW_spec (s : State) : ∃ trim demand, judgeW s = { s with
    store := { s.store with trim := trim }, transport := { s.transport with demand := demand } } ∧
    (s.transport.state = .record → trim = s.store.trim.afterW s.depthW ∧ demand = .playSpeed trim) ∧
    (s.transport.state ≠ .record → trim = s.store.trim ∧ demand = s.transport.demand) := by
  by_cases record : s.transport.state = .record
  · obtain ⟨trim, demand⟩ := judgeW_carries record
    refine ⟨_, _, ?_, fun _ => ⟨trim, trim ▸ demand⟩, fun other => absurd record other⟩
    unfold judgeW
    rw [if_pos record] <;> rfl
  · exact ⟨_, _, judgeW_of_ne_record record, fun other => absurd other record, fun _ => ⟨rfl, rfl⟩⟩

/-! ### The Edit Mixer's judgement (R146) -/

theorem mixerJudge_stops {rest : List Nat} {h : Nat} (list : s.store.captureList = h :: rest)
    (waits : (s.slot h).state ≠ .captured ∨ s.crossFrame ((s.slot h).frameTime.getD 0) = true ∧
      s.oldSlot ((s.slot h).frameTime.getD 0) = none) (n : Nat) : mixerRun n s = s := by
  cases n with
  | zero => rfl
  | succ n =>
    unfold mixerRun
    rw [list]
    refine if_neg ?_
    rintro ⟨captured, ready⟩
    rcases waits with other | ⟨cross, none⟩
    · exact other captured
    · rw [cross, none] at ready
      simp at ready

theorem mixerJudge_empty (list : s.store.captureList = []) (n : Nat) : mixerRun n s = s := by
  cases n with
  | zero => rfl
  | succ n =>
    unfold mixerRun
    rw [list]

theorem mixerRun_takes {rest : List Nat} (list : s.store.captureList = i :: rest) (captured : (s.slot i).state = .captured)
    (ready : s.crossFrame ((s.slot i).frameTime.getD 0) = true → (s.oldSlot ((s.slot i).frameTime.getD 0)).isSome = true) (n : Nat) :
    mixerRun (n + 1) s = mixerRun n (takeSlot i s) := by
  conv_lhs => unfold mixerRun
  rw [list]
  refine if_pos ⟨captured, ?_⟩
  cases h : s.crossFrame ((s.slot i).frameTime.getD 0) with
  | true => exact .inr (ready h)
  | false => exact .inl rfl

/-- The OLD slot found for a frame depends on the output queue and its slots alone. -/
theorem oldSlot_congr (queue : t.store.outputQueue = s.store.outputQueue) (slot : ∀ k ∈ s.store.outputQueue, t.slot k = s.slot k) (f : Nat) :
    t.oldSlot f = s.oldSlot f := by
  unfold State.oldSlot
  rw [queue]
  have on {a : List Nat} (same : ∀ k ∈ a, t.slot k = s.slot k) : a.find? (fun i =>
      (t.slot i).role == some .old && (t.slot i).state == .concealed && (t.slot i).frameTime == some f) = a.find? (fun i =>
      (s.slot i).role == some .old && (s.slot i).state == .concealed && (s.slot i).frameTime == some f) := by
    induction a with
    | nil => rfl
    | cons k a ih =>
      rw [List.find?_cons, List.find?_cons, same k (List.mem_cons_self ..), ih fun j hj => same j (List.mem_cons_of_mem _ hj)]
  exact on slot

/-! ### The last pair (R27) -/

/-- Slot `i` with its last pair, CAPTURED. -/
def State.fullSlot (s : State) (i : Nat) (p : Pair × Bool) : Slot :=
  { s.slot i with state := .captured, pairs := (s.slot i).pairs ++ [p.1], good := (s.slot i).good ++ [p.2] }

/-- With the last pair of its slot the slot is CAPTURED and stands on the write queue, the trim follows W, and the Edit Mixer judges. -/
theorem capturePair_last (sound : SoundWith l s) (capturing : s.capturingSlot = some i) (partly : (s.slot i).pairs ≠ [])
    (last : (s.slot i).pairs.length + 1 = (s.slot i).pairCount) : ∃ x slots trim demand, capturePair i p s = mixerJudge x ∧
    x = { s with
      store := { s.store with slots := slots, writeQueue := s.store.writeQueue ++ [i], trim := trim }
      transport := { s.transport with demand := demand } } ∧
    SoundWith l x ∧ (∀ k, x.slot k = if k = i then s.fullSlot i p else s.slot k) ∧
    (s.transport.state = .record → trim = s.store.trim.afterW (s.store.writeQueue.length + 1) ∧ demand = .playSpeed trim) ∧
    (s.transport.state ≠ .record → trim = s.store.trim ∧ demand = s.transport.demand) := by
  have state := capturingSlot_state capturing
  have hi := sound.lt (i := i) (by rw [state]; decide)
  have fed : SoundWith l (s.fed i p) := sound.setSlot (by rfl) (by rw [state]; decide) (.inl (by rfl)) (by rfl)
  have at_i := slot_fed (s := s) (i := i) (p := p) (by rw [sound.length]; exact hi)
  have captured := soundWith_captured fed (i := i) (by rw [at_i]; exact state)
  obtain ⟨trim, demand, judged, record, other⟩ := judgeW_spec ((s.fed i p).captured i)
  have depth : ((s.fed i p).captured i).depthW = s.store.writeQueue.length + 1 := by
    show (s.store.writeQueue ++ [i]).length = _
    simp
  rw [depth] at record
  refine ⟨_, ((s.fed i p).captured i).store.slots, trim, demand, ?_, rfl, ?_, fun k => ?_, record, other⟩
  · rw [capturePair_goesOn (by rw [sound.length]; exact hi) partly, if_pos last.ge, completeCapture_eq fed.length hi, judged] <;> rfl
  · exact captured.of
  · have slot := (slot_captured fed.length hi k).trans (if_congr Iff.rfl rfl (slot_setSlot_of sound.length hi _ k))
    refine slot.trans ?_
    by_cases e : k = i
    · rw [if_pos e, if_pos e, at_i] <;> rfl
    · rw [if_neg e, if_neg e, if_neg e]

/-- The gain of the mix in a crossfade frame (R147). -/
theorem mixGain_crossFrame (cross : s.crossFrame f = true) (n : Nat) : s.mixGain f n =
    match s.mixer.punchIn.filter (·.crosses s.framePairs f), s.mixer.punchOut with
    | some p, _ => if (f - p.time) * s.activeBank.rate.pairs + n < p.cross then
        1024 * ((f - p.time) * s.activeBank.rate.pairs + n) / p.cross else 1024
    | none, some o => if (f - o.time) * s.activeBank.rate.pairs + n < o.cross then
        1024 - 1024 * ((f - o.time) * s.activeBank.rate.pairs + n + 1) / o.cross else 0
    | none, none => 1024 := by
  unfold State.mixGain
  unfold State.crossFrame at cross
  cases into : s.mixer.punchIn with
  | none =>
    cases out : s.mixer.punchOut with
    | none => rfl
    | some o =>
      rw [into, out] at cross
      have crosses : o.crosses s.framePairs f = true := by simpa using cross
      dsimp only [Option.filter]
      rw [if_pos crosses] <;> rfl
  | some p =>
    by_cases first : p.crosses s.framePairs f = true
    · dsimp only [Option.filter]
      rw [if_pos first, if_pos first] <;> rfl
    · cases out : s.mixer.punchOut with
      | none => rw [into, out] at cross; exact absurd (by simpa using cross) first
      | some o =>
        rw [into, out] at cross
        have crosses : o.crosses s.framePairs f = true := by simpa [first] using cross
        dsimp only [Option.filter]
        rw [if_neg first, if_neg first, if_pos crosses] <;> rfl

/-- The entry of a slot in the input field list. -/
theorem fieldEntry_of (sound : SoundWith l s) {entry : Option CopyField} (mem : (i, entry) ∈ s.copy.inputFields) :
    ((s.copy.inputFields.find? (·.1 == i)).map (·.2)).join = entry := by
  have distinct : (s.copy.inputFields.map (·.1)).Nodup := by
    obtain ⟨-, nodup, -⟩ := sound.collections
    rw [sound.fields]
    exact nodup
  have found : s.copy.inputFields.find? (·.1 == i) = some (i, entry) := by
    generalize s.copy.inputFields = fields at mem distinct
    induction fields with
    | nil => cases mem
    | cons e fields ih =>
      rw [List.map_cons, List.nodup_cons] at distinct
      rcases List.mem_cons.1 mem with rfl | later
      · simp
      · have other : e.1 ≠ i := fun same => distinct.1 (same ▸ List.mem_map.2 ⟨_, later, rfl⟩)
        rw [List.find?_cons_of_neg (by simpa using other)]
        exact ih later distinct.2
  rw [found] <;> rfl

/-- The slot mixed outside the crossfade frames (R102, R103). -/
theorem mixedSlot_plain (time : (s.slot i).frameTime.getD 0 = f) (plain : s.crossFrame f = false) {entry : Option CopyField}
    (held : ((s.copy.inputFields.find? (·.1 == i)).map (·.2)).join = entry) : s.mixedSlot i = { s.slot i with
      state := .mixed, mixed := false
      copyField := some ((combineFields [if s.copy.latched then none else entry, none]).getD .free)
      pairs := if s.copy.latched then (s.slot i).pairs.map fun _ => Pair.zero else (s.slot i).pairs } := by
  unfold State.mixedSlot State.writtenField
  dsimp only
  rw [time, plain, held] <;> rfl

/-- The slot mixed in a crossfade frame with its OLD slot (R101, R102, R147). -/
theorem mixedSlot_crossed (time : (s.slot i).frameTime.getD 0 = f) (cross : s.crossFrame f = true) (found : s.oldSlot f = some k)
    {entry : Option CopyField} (held : ((s.copy.inputFields.find? (·.1 == i)).map (·.2)).join = entry) :
    s.mixedSlot i = { s.slot i with
      state := .mixed, mixed := true
      copyField := some ((combineFields [if s.copy.latched then none else entry,
        if (s.slot k).gaps < (s.slot k).pairCount then some (s.oldField (s.slot k)) else none]).getD .free)
      pairs := s.mixFrame f (if s.copy.latched then (s.slot i).pairs.map fun _ => Pair.zero else (s.slot i).pairs) (s.slot k).pairs } := by
  unfold State.mixedSlot State.writtenField
  dsimp only
  rw [time, cross, held, found] <;> rfl

end
end Sys2Proof.Machine

namespace Sys2Proof.Proofs
open Sys2Proof.Machine

/-- Settles O17. -/
theorem captureCompletes : Obligations.CaptureCompletes := by
  intro left right i f entry s q storeSound recordSound other capturing partly last time field
  intro full new input oldField combined position gain mix kept
  obtain ⟨sound, -⟩ := storeSound_iff.1 storeSound
  have state := capturingSlot_state capturing
  have hi := sound.lt (i := i) (by rw [state]; decide)
  have fullOf : full = s.fullSlot i (s.deliveredPair left right) := by rw [deliveredPair_eq] <;> rfl
  obtain ⟨x, slots, trim, demand, captured, written, soundx, slot, record, elsewhere⟩ :=
    capturePair_last (p := s.deliveredPair left right) sound capturing partly last
  rw [← fullOf] at slot
  have begun := exec_inputPair left right (takeSelection_none q.2)
  rw [capturing] at begun
  dsimp only at begun
  rw [captured] at begun
  have work := slotWork_mixerJudge x
  have ran : exec (.inputPair left right) s = .next (mixerJudge x) := by
    have source : (mixerJudge x).output.source = s.output.source := by rw [work.output, written]
    have quiet : (mixerJudge x).quiet := work.quiet.2 (by rw [written]; exact q)
    rw [begun, monitorPair_other (by rw [source]; exact other), settle_quiet quiet]
  have at_i : x.slot i = full := by rw [slot, if_pos rfl]
  have old (g : Nat) : x.oldSlot g = s.oldSlot g := by
    refine oldSlot_congr (by rw [written]) (fun k queued => ?_) g
    rw [slot, if_neg]
    rintro rfl
    rw [sound.mem_outputQueue, state] at queued
    cases queued
  have cross (g : Nat) : x.crossFrame g = s.crossFrame g := by rw [written] <;> rfl
  have trims {t : State} (trimOf : t.store.trim = trim) (demandOf : t.transport.demand = demand) :
      (s.transport.state = .record → t.carries (s.store.trim.afterW (s.store.writeQueue.length + 1))) ∧
      (s.transport.state ≠ .record → s.keepsTrim t) := by
    refine ⟨fun playing => ?_, fun not => ?_⟩
    · obtain ⟨trimIs, demandIs⟩ := record playing
      exact ⟨trimOf.trans trimIs, demandOf.trans (demandIs.trans (congrArg Demand.playSpeed trimIs))⟩
    · obtain ⟨trimIs, demandIs⟩ := elsewhere not
      exact ⟨trimOf.trans trimIs, demandOf.trans demandIs⟩
  refine ⟨fun h rest list crossing missing => ?_, fun rest list ready => ?_⟩
  · have frame : (x.slot h).frameTime = (s.slot h).frameTime := by
      rw [slot]
      split
      · next e => rw [e]
      · rfl
    have stops : mixerJudge x = x := by
      refine mixerJudge_stops (h := h) (rest := rest) (by rw [written]; exact list) (.inr ?_) _
      rw [frame, cross, old]
      exact ⟨crossing, missing⟩
    have others (k : Nat) (hk : k ≠ i) : x.slot k = s.slot k := by rw [slot, if_neg hk]
    refine ⟨x, ran.trans (by rw [stops]), ?_, at_i, by rw [written], by rw [written], by rw [written], others⟩
    refine ⟨?_, by rw [written], by rw [written], ?_, ?_, fun k hk _ => others k hk⟩
    · conv_lhs => rw [written]
      rw [written]
    · exact (trims (by rw [written]) (by rw [written])).1
    · exact (trims (by rw [written]) (by rw [written])).2
  · have frame : (x.slot i).frameTime.getD 0 = f := by
      rw [at_i]
      show (s.slot i).frameTime.getD 0 = f
      rw [time] <;> rfl
    have capturedOf : (x.slot i).state = .captured := by rw [at_i]
    obtain ⟨taken, takes, slotOf⟩ := takeSlot_spec soundx capturedOf
    have takenOf := mixerRun_takes (rest := rest) (by rw [written]; exact list) capturedOf
      (by rw [frame, cross, old]; exact ready) 15
    rw [frame] at takes slotOf
    simp only [old] at takes slotOf
    have nodup : i ∉ rest ∧ rest.Nodup := by
      obtain ⟨-, nodup, -⟩ := sound.collections
      rw [list] at nodup
      exact List.nodup_cons.1 nodup
    have restOf : x.store.captureList.filter (· != i) = rest := by
      rw [written]
      show s.store.captureList.filter (· != i) = rest
      rw [list, List.filter_cons_of_neg (by simp)]
      exact filter_ne_of_notMem nodup.1
    have stops : mixerRun 15 (takeSlot i x) = takeSlot i x := by
      cases rests : rest with
      | nil => exact mixerJudge_empty (by rw [takes]; exact restOf.trans rests) _
      | cons k rest' =>
        refine mixerJudge_stops (h := k) (rest := rest') (by rw [takes]; exact restOf.trans rests) (.inl ?_) _
        have ne : k ≠ i := by rintro rfl; rw [rests] at nodup; exact nodup.1 (List.mem_cons_self ..)
        have waits : (s.slot k).state = .capturing := by
          obtain ⟨-, -, first, -⟩ := recordSound
          rw [list, rests, List.pairwise_cons] at first
          have mem : k ∈ s.store.captureList := by rw [list, rests]; simp
          refine (sound.mem_captureList.1 mem).resolve_right fun captured => ?_
          have := first.1 k (List.mem_cons_self ..) captured
          rw [state] at this
          cases this
        have slotk : (takeSlot i x).slot k = s.slot k := by
          rw [takes]
          refine (slotOf k).trans ?_
          rw [if_neg ne, if_neg, slot, if_neg ne]
          intro found
          obtain ⟨-, -, concealed, -⟩ := oldSlot_spec found
          rw [waits] at concealed
          cases concealed
        rw [slotk, waits]
        decide
    have result : exec (.inputPair left right) s = .next (takeSlot i x) := by
      rw [ran]
      exact congrArg Host.Outcome.next (takenOf.trans stops)
    have held := fieldEntry_of soundx (i := i) (entry := entry) (by rw [written]; exact field)
    have combinedOf (a b : Option CopyField) : (combineFields [a, b]).getD .free = combined a b := by
      cases a <;> cases b <;> rfl
    have latched : x.copy.latched = s.copy.latched := by rw [written]
    refine ⟨takeSlot i x, result, ?_, ?_, ?_, ?_, fun k found => ?_, fun plain => ?_, fun k crossing found => ?_⟩
    · refine ⟨?_, ?_, ?_, ?_, ?_, fun k hk unfound => ?_⟩
      · conv_lhs => rw [takes, written]
        rw [takes, written]
      · rw [takes, written]
      · rw [takes, written]
      · exact (trims (by rw [takes, written]) (by rw [takes, written])).1
      · exact (trims (by rw [takes, written]) (by rw [takes, written])).2
      · rw [takes]
        refine (slotOf k).trans ?_
        rw [if_neg hk, if_neg unfound, slot, if_neg hk]
    · rw [takes]
      exact restOf
    · rw [takes, written]
      exact List.filter_congr fun e _ => by by_cases own : e.1 = i <;> simp [own]
    · rw [takes, written]
    · rw [takes]
      refine (slotOf k).trans ?_
      obtain ⟨-, -, concealed, -⟩ := oldSlot_spec found
      rw [if_neg, if_pos found]
      rintro rfl
      rw [state] at concealed
      cases concealed
    · rw [takes]
      refine (slotOf i).trans ((if_pos rfl).trans ((mixedSlot_plain frame ((cross f).trans plain) held).trans ?_))
      rw [at_i, latched, combinedOf] <;> rfl
    · have ne : k ≠ i := by
        rintro rfl
        obtain ⟨-, -, concealed, -⟩ := oldSlot_spec found
        rw [state] at concealed
        cases concealed
      rw [takes]
      refine (slotOf i).trans ((if_pos rfl).trans ((mixedSlot_crossed frame ((cross f).trans crossing) ((old f).trans found) held).trans ?_))
      have oldFieldOf : x.oldField (s.slot k) = ((s.slot k).copyField.or s.copy.heldTape).getD .none := by rw [written] <;> rfl
      rw [at_i, latched, slot k, if_neg ne, oldFieldOf, combinedOf]
      have mixedOf : x.mixFrame f new (s.slot k).pairs = new.mapIdx fun n p =>
          let old := (s.slot k).pairs.getD n ⟨0, 0⟩
          ⟨mix (gain n) p.left old.left, mix (gain n) p.right old.right⟩ := by
        unfold State.mixFrame
        refine congrArg (fun g => new.mapIdx g) (funext fun n => funext fun p => ?_)
        have gainOf : x.mixGain f n = gain n := by
          rw [mixGain_crossFrame ((cross f).trans crossing), written] <;> rfl
        rw [gainOf] <;> rfl
      exact congrArg (fun pairs => ({ full with
        state := .mixed, mixed := true, copyField := some (combined input (oldField k)), pairs := pairs } : Slot)) mixedOf

end Sys2Proof.Proofs
end

section
/-! SELECT-SOURCE and the capture boundary (R42, R44, R98, R104, R105): a source chosen at once, and one that waits for the last pair of
the slot being filled. Settles O14. -/

namespace Sys2Proof.Machine

section
variable {s t u : State} {l : List Nat} {i k : Nat} {p : Pair × Bool} {port : Port} {ticket : Ticket} {body : List Word}

/-! ### The end of a command with a selection that waits (R42) -/

theorem takeHandoffs_none (h : s.sequencer.handoffs = []) : takeHandoffs s = s := by
  have same : { s with sequencer := { s.sequencer with handoffs := [] } } = s := by rw [← h]
  unfold takeHandoffs
  rw [h, same]
  dsimp only
  split
  · rfl
  · simp

theorem takeSelection_filling (h : s.fillingSlot.isSome = true) : takeSelection s = s := by
  obtain ⟨i, filling⟩ := Option.isSome_iff_exists.1 h
  unfold takeSelection
  rw [filling]
  split <;> rfl

/-- Nothing was handed on, and no selection takes effect: the end of the command does nothing. -/
theorem settle_waits (handoffs : s.sequencer.handoffs = []) (h : s.input.pendingSelect = none ∨ s.fillingSlot.isSome = true) :
    settle s = s := by
  have waits : takeSelection s = s := h.elim takeSelection_none takeSelection_filling
  unfold settle
  rw [waits, takeHandoffs_none handoffs]

theorem exec_judged_waits {c : Instr} {kind : RequestKind} {judge : Ticket → List Word → State → Judgement} {status : Status}
    {data : List Word} (hc : exec c s = .next (serve port kind judge s)) (hs : s.stands port kind ticket body)
    (hj : judge ticket body (popRequest port s) = (t, status, data)) (handoffs : t.sequencer.handoffs = [])
    (h : t.input.pendingSelect = none ∨ t.fillingSlot.isSome = true) : exec c s = .next (answered ticket body status data t) := by
  obtain ⟨head, kindOf⟩ := hs
  have filling : (answered ticket body status data t).fillingSlot = t.fillingSlot := by
    have store : (answered ticket body status data t).store = t.store := by simp [answered]
    unfold State.fillingSlot State.slot
    rw [store]
  rw [hc]
  unfold serve
  rw [head]
  simp only [kindOf, if_true, hj]
  have answer : placeReply ticket (replyBody (argWord body 0) status data) t = answered ticket body status data t := rfl
  rw [answer, settle_waits (by simpa [answered] using handoffs) (by rw [filling]; simpa [answered] using h)]

/-! ### A source chosen (R42, R44, R98) -/

/-- A source selected, nothing pending. -/
def State.selecting (s : State) (source : Source) : State :=
  { s with input := { s.input with selected := source, pendingSelect := none } }

/-- What the judgement of the source-lost state of a selection writes does not depend on the ports. -/
theorem lossJudged_selecting (source : Source) (y : SystemPort) (l : Link) :
    (State.selecting { s with system := y, link := l } source).lossJudged =
      { (s.selecting source).lossJudged with system := y, link := l } := by
  have cause : (State.selecting { s with system := y, link := l } source).lostCause = (s.selecting source).lostCause := rfl
  have lost : (State.selecting { s with system := y, link := l } source).input.lost = (s.selecting source).input.lost := rfl
  unfold State.lossJudged
  rw [cause, lost]
  cases (s.selecting source).input.lost <;> cases (s.selecting source).lostCause <;> rfl

theorem lossJudged_writes (s : State) : s.lossJudged = { s with
    input := { s.input with lost := s.lostCause }
    sequencer := { s.sequencer with conditions := s.lossJudged.sequencer.conditions }, reports := s.lossJudged.reports } := by
  obtain ⟨c, r, judged⟩ := lossJudged_leaves s
  rw [judged]

theorem judgeSelectSource_eq {source : Source} (h : s.transport.state ≠ .record) (code : sourceOf (argWord body 1) = some source) :
    judgeSelectSource ticket body s =
      if source = s.input.selected then ({ s with input := { s.input with pendingSelect := none } }, .done, [])
      else if s.fillingSlot.isSome then ({ s with input := { s.input with pendingSelect := some source } }, .done, [])
      else (judgeLost (s.selecting source), .done, []) := by
  unfold judgeSelectSource
  rw [if_neg h, code] <;> rfl

/-- A field that becomes REFUSE with a punch-in scheduled cancels it: what that leaves. -/
theorem refusalEvent_scheduled {p : Punch} (gate : s.mixer.gateOpen = false) (punch : s.mixer.punchIn = some p)
    (taken : s.mixer.taken = false) : ∃ demand store current playing frame handoffs latched inputFields,
    refusalEvent s = { s with
      transport := { s.transport with demand := demand }, store := store, coder := { s.coder with current := current }
      output := { s.output with playing := playing, frame := frame }, mixer := (clearPunches s).mixer
      sequencer := { (setCondition .copy s).sequencer with handoffs := handoffs }
      copy := { s.copy with latched := latched, inputFields := inputFields }
      reports := (logEntry .copyRefused s.timeNow .internal s.refusalCause (raiseFlag .copyRefused (count .copyRefusals 1
        (logEntry .punchCancelled s.timeNow p.origin 21 s)))).reports } := by
  rw [refusalEvent_cancels gate punch, cancelPunch_eq .copy punch taken]
  have work := (slotWork_spanChanged (clearPunches s)).1.eq
  generalize spanChanged (clearPunches s) = v at work ⊢
  obtain ⟨h, handed⟩ := handOffIf_eq s.listPunch (.punchFailed .copy) (logEntry .punchCancelled s.timeNow p.origin CancelReason.copy.code v)
  rw [handed, work]
  exact ⟨_, _, _, _, _, _, _, _, rfl⟩

theorem lostCause_congr (input : t.input = s.input) (banks : t.banks = s.banks) : t.lostCause = s.lostCause := by
  unfold State.lostCause State.activeBank
  rw [input, banks]

theorem judgedField_congr (input : t.input = s.input) (banks : t.banks = s.banks) : t.judgedField = s.judgedField := by
  unfold State.judgedField State.sourceField State.activeBank
  dsimp only
  rw [lostCause_congr input banks, input, banks]

/-- The judgement of the source-lost state writes the same in states that agree on the source, the clock and the records. -/
theorem lossJudged_congr (input : t.input = s.input) (banks : t.banks = s.banks) (decoder : t.decoder = s.decoder)
    (sequencer : t.sequencer = s.sequencer) (reports : t.reports = s.reports) :
    t.lossJudged.sequencer = s.lossJudged.sequencer ∧ t.lossJudged.reports = s.lossJudged.reports := by
  have cause := lostCause_congr input banks
  have now : t.timeNow = s.timeNow := by
    unfold State.timeNow
    rw [decoder]
  unfold State.lossJudged
  rw [cause, input, now]
  cases s.input.lost <;> cases s.lostCause
  all_goals
    simp only [logEntry, setCondition, clearCondition, sequencer, reports]
    exact ⟨trivial, trivial⟩

/-! ### The slot being filled (R42) -/

theorem fillingSlot_of (capturing : s.capturingSlot = some i) (partly : (s.slot i).pairs ≠ []) : s.fillingSlot = some i := by
  obtain ⟨state, before, after, list, none⟩ := List.find?_eq_some_iff_append.1 capturing
  have filled : (s.slot i).pairs.isEmpty = false := by simpa using partly
  refine List.find?_eq_some_iff_append.2 ⟨?_, before, after, list, fun k hk => ?_⟩
  · rw [filled]
    simpa using state
  · have other := none k hk
    rw [Bool.not_eq_true'] at other ⊢
    rw [other, Bool.false_and]

theorem fillingSlot_isSome (list : i ∈ s.store.captureList) (state : (s.slot i).state = .capturing) (partly : (s.slot i).pairs ≠ []) :
    s.fillingSlot.isSome = true := by
  refine List.find?_isSome.2 ⟨i, list, ?_⟩
  have filled : (s.slot i).pairs.isEmpty = false := by simpa using partly
  rw [state, filled] <;> rfl

theorem fillingSlot_none (h : ∀ k ∈ s.store.captureList, (s.slot k).state = .capturing → (s.slot k).pairs = []) : s.fillingSlot = none := by
  refine List.find?_eq_none.2 fun k hk filled => ?_
  rw [Bool.and_eq_true] at filled
  obtain ⟨state, some⟩ := filled
  rw [h k hk (by simpa using state)] at some
  cases some

theorem monitorPair_output (q : Pair) (s : State) : ∃ o, monitorPair q s = { s with output := o } := by
  unfold monitorPair
  split
  · split <;> exact ⟨_, rfl⟩
  · exact ⟨s.output, rfl⟩

/-- What the takes of the Edit Mixer make of a slot: a CAPTURED one MIXED, its good flags as captured, or a CONCEALED one FREE. -/
theorem mixerRun_slot (sound : SoundWith l s) (n : Nat) (k : Nat) : (mixerRun n s).slot k = s.slot k ∨
    ((s.slot k).state = .captured ∧ ((mixerRun n s).slot k).state = .mixed ∧ ((mixerRun n s).slot k).good = (s.slot k).good) ∨
    ((s.slot k).state = .concealed ∧ ((mixerRun n s).slot k).state = .free) := by
  induction n generalizing s with
  | zero => exact .inl rfl
  | succ n ih =>
    unfold mixerRun
    split
    · exact .inl rfl
    · next i rest list =>
      dsimp only
      split
      · next ready =>
        obtain ⟨slots, taken, slot⟩ := takeSlot_spec sound ready.1
        have here : (takeSlot i s).slot k = _ := (congrArg (State.slot · k) taken).trans (slot k)
        have later := ih (sound.takeSlot ready.1)
        by_cases own : k = i
        · rw [if_pos own] at here
          subst own
          rcases later with same | ⟨state, -⟩ | ⟨state, -⟩
          · rw [same, here]
            exact .inr (.inl ⟨ready.1, rfl, rfl⟩)
          all_goals rw [here] at state; cases state
        · rw [if_neg own] at here
          by_cases old : s.oldSlot ((s.slot i).frameTime.getD 0) = some k
          · rw [if_pos old] at here
            obtain ⟨-, -, concealed, -⟩ := oldSlot_spec old
            rcases later with same | ⟨state, -⟩ | ⟨state, -⟩
            · rw [same, here]
              exact .inr (.inr ⟨concealed, rfl⟩)
            all_goals rw [here] at state; cases state
          · rw [if_neg old] at here
            rw [here] at later
            exact later
      · exact .inl rfl

theorem mixerRun_captureList (sound : SoundWith l s) (n : Nat) : ∀ k ∈ (mixerRun n s).store.captureList, k ∈ s.store.captureList := by
  induction n generalizing s with
  | zero => exact fun k hk => hk
  | succ n ih =>
    unfold mixerRun
    split
    · exact fun k hk => hk
    · next i rest list =>
      dsimp only
      split
      · next ready =>
        obtain ⟨slots, taken, -⟩ := takeSlot_spec sound ready.1
        intro k hk
        have mem := ih (sound.takeSlot ready.1) k hk
        rw [taken] at mem
        exact (List.mem_filter.1 mem).1
      · exact fun k hk => hk

end
end Sys2Proof.Machine

namespace Sys2Proof.Proofs
open Sys2Proof.Machine

/-- Settles O14. -/
theorem selectSourceRequest : Obligations.SelectSourceRequest := by
  intro s handoffs cause field chosen
  have causeOf (source : Source) (y : SystemPort) (l : Link) :
      (State.selecting { s with system := y, link := l } source).lostCause = cause source := by cases source <;> rfl
  have fieldOf (source : Source) (y : SystemPort) (l : Link) :
      (State.selecting { s with system := y, link := l } source).judgedField = field source := by
    cases source with
    | analog => exact judgedField_analog rfl
    | digital =>
      show _ = if (cause .digital).isSome then _ else _
      rw [← causeOf .digital y l]
      cases lost : (State.selecting { s with system := y, link := l } Source.digital).lostCause with
      | some c => exact judgedField_lost lost
      | none => exact judgedField_digital rfl lost
  have chosenOf (source : Source) (y : SystemPort) (l : Link) :
      State.fieldJudged s.copy.inputFields (State.selecting { s with system := y, link := l } source) =
        chosen source { s with system := y, link := l } := by
    unfold State.fieldJudged
    rw [fieldOf]
    unfold State.lossJudged
    rw [causeOf]
    show _ = (match s.input.lost, cause source with
      | none, some c => _
      | some _, none => _
      | _, _ => _)
    generalize field source = q
    cases lost : s.input.lost with
    | none =>
      have unlost : (State.selecting { s with system := y, link := l } source).input.lost = none := lost
      rw [unlost]
      cases cause source with
      | none => rfl
      | some c => cases c <;> rfl
    | some before =>
      have wasLost : (State.selecting { s with system := y, link := l } source).input.lost = some before := lost
      rw [wasLost]
      cases cause source <;> rfl
  have chosenIs (source : Source) (y : SystemPort) (l : Link) : chosen source { s with system := y, link := l } = { s with
      system := y, link := l
      input := { s.input with selected := source, pendingSelect := none, lost := cause source }
      copy := { s.copy with current := field source }
      sequencer := { s.sequencer with conditions := (s.selecting source).lossJudged.sequencer.conditions }
      reports := (s.selecting source).lossJudged.reports } := by
    have lost : (s.selecting source).lostCause = cause source := causeOf source s.system s.link
    rw [← chosenOf]
    unfold State.fieldJudged
    rw [fieldOf, lossJudged_selecting, lossJudged_writes, lost] <;> rfl
  refine ⟨fun port ticket body stands => ?_, fun left right i source sound selection capturing partly => ?_⟩
  · intro replies waiting
    obtain ⟨y, l, popped⟩ := popRequest_leaves port s
    have waitingOf (pending : Option Source) : waiting pending =
        { s with system := y, link := l, input := { s.input with pendingSelect := pending } } := by
      show ({ popRequest port s with input := { s.input with pendingSelect := pending } } : State) = _
      rw [popped]
    rw [popped]
    have runs {t : State} {status : Status} (hj : judgeSelectSource ticket body { s with system := y, link := l } = (t, status, []))
        (handed : t.sequencer.handoffs = []) (h : t.input.pendingSelect = none ∨ t.fillingSlot.isSome = true) : replies status t :=
      exec_judged_waits (c := .selectSource port) rfl stands (by rw [popped]; exact hj) handed h
    refine ⟨fun waits => ⟨fun record => ?_, fun other bad => ?_⟩, fun source other code => ?_⟩
    · exact runs (if_pos record) handoffs waits
    · refine runs ((if_neg other).trans ?_) handoffs waits
      have unknown : sourceOf (argWord body 1) = none := by
        unfold sourceOf
        split
        · omega
        · omega
        · rfl
      rw [unknown]
    · have named : sourceOf (argWord body 1) = some source := by
        rw [code]
        cases source <;> rfl
      have judged := judgeSelectSource_eq (s := { s with system := y, link := l }) (ticket := ticket) other named
      refine ⟨fun same => ?_, fun changes filling => ?_, fun changes empty => ⟨fun calm => ?_, fun p refuse before idle gate taken punch => ?_⟩⟩
      · rw [waitingOf]
        exact runs (judged.trans (if_pos same)) handoffs (.inl rfl)
      · rw [waitingOf]
        exact runs (judged.trans ((if_neg changes).trans (if_pos filling))) handoffs (.inr filling)
      · have unfilled : ¬ s.fillingSlot.isSome = true := by rw [empty]; simp
        have judgedOf := judged.trans ((if_neg changes).trans (if_neg unfilled))
        obtain ⟨fields, kept, whole⟩ := judgeLost_untroubled (s := State.selecting { s with system := y, link := l } source) (by
          unfold State.refuses State.careless
          rw [fieldOf]
          rcases calm with field | current | idle
          · exact .inl fun h => field h.1
          · exact .inl fun h => h.2 current
          · exact .inr (.inl idle))
        have result : judgeLost (State.selecting { s with system := y, link := l } source) = chosen source { s with system := y, link := l } := by
          rw [whole, kept empty]
          exact chosenOf source y l
        rw [result] at judgedOf
        refine runs judgedOf ?_ (.inl ?_)
        · rw [chosenIs]
          exact handoffs
        · rw [chosenIs]
      · have unfilled : ¬ s.fillingSlot.isSome = true := by rw [empty]; simp
        have judgedOf := judged.trans ((if_neg changes).trans (if_neg unfilled))
        intro u
        obtain ⟨fields, kept, -, becomes⟩ := judgeLost_cases (State.selecting { s with system := y, link := l } source)
        rw [kept empty] at becomes
        have whole := becomes ⟨(fieldOf ..).trans refuse, before⟩
        have chosenAs := (chosenOf source y l).trans (chosenIs source y l)
        obtain ⟨demand, store, current, playing, frame, handed, latched, inputFields, left⟩ :=
          refusalEvent_scheduled (s := State.fieldJudged s.copy.inputFields (State.selecting { s with system := y, link := l } source)) (p := p)
          (by rw [chosenAs]; exact gate) (by rw [chosenAs]; exact punch) (by rw [chosenAs]; exact taken)
        have result : judgeLost (State.selecting { s with system := y, link := l } source) = _ := whole.trans left
        rw [chosenAs] at result
        generalize judgeLost (State.selecting { s with system := y, link := l } source) = w at result judgedOf
        have ran := exec_judged_idle (c := .selectSource port) (t := w) (status := .done) (data := []) rfl stands (by rw [popped]; exact judgedOf)
          (by rw [result]; exact idle) (by rw [result])
        have unready : (chosen source s) = _ := chosenIs source s.system s.link
        have uOf : u = logEntry .punchCancelled s.timeNow p.origin 21 _ := congrArg (logEntry .punchCancelled s.timeNow p.origin 21) unready
        clear_value u
        refine ⟨_, ran, ?_⟩
        rw [result, uOf]
        refine ⟨rfl, refuse, rfl, rfl, rfl, rfl, ?_, rfl⟩
        show ({ s.sequencer with conditions := _, handoffs := [] } : Sequencer) = _
        rw [← handoffs] <;> rfl
  · obtain ⟨sound, -⟩ := storeSound_iff.1 sound
    have state := capturingSlot_state capturing
    have hi := sound.lt (i := i) (by rw [state]; decide)
    have listed := sound.mem_captureList.2 (.inl state)
    have filling := fillingSlot_of capturing partly
    have begun := exec_inputPair left right (takeSelection_filling (by rw [filling]; rfl))
    rw [capturing] at begun
    dsimp only at begun
    generalize delivered : s.deliveredPair left right = p at begun
    refine ⟨fun more => ?_, fun last others calm => ?_⟩
    · rw [capturePair_goesOn (by rw [sound.length]; exact hi) partly, if_neg (not_le.2 more)] at begun
      obtain ⟨o, monitored⟩ := monitorPair_output p.1 (s.fed i p)
      rw [monitored] at begun
      have at_i := slot_fed (s := s) (i := i) (p := p) (by rw [sound.length]; exact hi)
      have fills : (s.fed i p).fillingSlot.isSome = true := by
        refine fillingSlot_isSome (i := i) listed (by rw [at_i]; exact state) ?_
        rw [at_i]
        simp
      rw [settle_waits (s := { s.fed i p with output := o }) handoffs (.inr fills)] at begun
      exact ⟨_, begun, rfl, rfl⟩
    · obtain ⟨x, slots, trim, demand, captured, written, soundx, slot, -, -⟩ := capturePair_last (p := p) sound capturing partly last
      rw [captured] at begun
      have work := (slotWork_mixerJudge x).eq
      have slotOf := mixerRun_slot soundx Config.slotCount
      have sub := mixerRun_captureList soundx Config.slotCount
      have mixed : mixerRun Config.slotCount x = mixerJudge x := rfl
      rw [mixed] at slotOf sub
      have at_i : x.slot i = s.fullSlot i p := by rw [slot, if_pos rfl]
      obtain ⟨o, monitored⟩ := monitorPair_output p.1 (mixerJudge x)
      rw [monitored] at begun
      obtain ⟨w, wOf⟩ : ∃ w, w = ({ mixerJudge x with output := o } : State) := ⟨_, rfl⟩
      rw [← wOf] at begun
      have slotw (k : Nat) : w.slot k = (mixerJudge x).slot k := by rw [wOf] <;> rfl
      have empty : w.fillingSlot = none := by
        refine fillingSlot_none fun k hk stateOf => ?_
        have mem : k ∈ s.store.captureList := by
          rw [wOf] at hk
          have := sub k hk
          rwa [written] at this
        rw [slotw] at stateOf ⊢
        by_cases own : k = i
        · subst own
          rcases slotOf k with same | ⟨-, mixed, -⟩ | ⟨-, free⟩
          · rw [same, at_i] at stateOf; cases stateOf
          · rw [mixed] at stateOf; cases stateOf
          · rw [free] at stateOf; cases stateOf
        · rcases slotOf k with same | ⟨-, mixed, -⟩ | ⟨-, free⟩
          · rw [same, slot, if_neg own] at stateOf ⊢
            exact others k mem own stateOf
          · rw [mixed] at stateOf; cases stateOf
          · rw [free] at stateOf; cases stateOf
      have good : (w.slot i).good = (s.slot i).good ++ [s.input.lost.isNone] := by
        have full : (x.slot i).good = (s.slot i).good ++ [s.input.lost.isNone] := by
          rw [at_i, ← delivered, deliveredPair_eq] <;> rfl
        rw [slotw]
        rcases slotOf i with same | ⟨-, -, kept⟩ | ⟨concealed, -⟩
        · rw [same, full]
        · rw [kept, full]
        · rw [at_i] at concealed; cases concealed
      have input : w.input = s.input := by rw [wOf, work, written]
      have banks : w.banks = s.banks := by rw [wOf, work, written]
      have decoder : w.decoder = s.decoder := by rw [wOf, work, written]
      have sequencer : w.sequencer = s.sequencer := by rw [wOf, work, written]
      have reports : w.reports = s.reports := by rw [wOf, work, written]
      have takes : takeSelection w = judgeLost (w.selecting source) := by
        unfold takeSelection
        rw [input, selection, empty] <;> rfl
      have inputOf : (w.selecting source).input = (s.selecting source).input := by
        show ({ w.input with selected := source, pendingSelect := none } : InputPort) = _
        rw [input] <;> rfl
      have lost : (w.selecting source).lostCause = cause source :=
        (lostCause_congr (t := w.selecting source) (s := s.selecting source) inputOf banks).trans (causeOf source s.system s.link)
      have fieldIs : (w.selecting source).judgedField = field source :=
        (judgedField_congr (t := w.selecting source) (s := s.selecting source) inputOf banks).trans (fieldOf source s.system s.link)
      obtain ⟨seq, reps⟩ := lossJudged_congr (s := s.selecting source) (t := w.selecting source) inputOf banks decoder sequencer reports
      have chosenAs : chosen source s = _ := chosenIs source s.system s.link
      rw [chosenAs]
      by_cases refuse : field source = .refuse
      · have idle := calm.resolve_left (not_not.2 refuse)
        obtain ⟨demand, store, current, playing, frame, mixer, handed, conditions, latched, fields, reports, left, -⟩ :=
          judgeLost_leaves (w.selecting source)
        have ends : settle w = State.handing [] (judgeLost (w.selecting source)) := by
          unfold settle
          rw [takes, left]
          refine takeHandoffs_idle ?_
          show w.sequencer.state = .idle
          rw [sequencer]
          exact idle
        refine ⟨_, begun.trans (congrArg _ ends), ?_, ?_, fun plain => absurd refuse plain⟩
        · rw [left]
          show ({ (w.selecting source).input with lost := (w.selecting source).lostCause } : InputPort) = _
          rw [lost, inputOf] <;> rfl
        · rw [left]
          exact fieldIs
      · obtain ⟨fields, -, whole⟩ := judgeLost_untroubled (s := w.selecting source) (.inl fun h => refuse (fieldIs.symm.trans h.1))
        unfold State.fieldJudged at whole
        rw [lossJudged_writes, lost, fieldIs, seq, reps] at whole
        have ends : settle w = judgeLost (w.selecting source) := by
          unfold settle
          rw [takes]
          refine takeHandoffs_none ?_
          rw [whole]
          show w.sequencer.handoffs = []
          rw [sequencer]
          exact handoffs
        refine ⟨_, begun.trans (congrArg _ ends), ?_, ?_, fun _ => ⟨?_, ?_, ?_⟩⟩
        · rw [whole]
          show ({ (w.selecting source).input with lost := cause source } : InputPort) = _
          rw [inputOf] <;> rfl
        · rw [whole]
        · rw [whole]
          exact good
        · rw [whole]
        · rw [whole]
          show ({ w.sequencer with conditions := _ } : Sequencer) = _
          rw [sequencer]

end Sys2Proof.Proofs
end

section
/-! Blocks from the advance head: what one adds to the frame of its tag, in the slot it has, in a FREE slot, or in the oldest of the
output queue (R30, R35, R38, R63, R65, R66). Settles O40. -/

namespace Sys2Proof.Machine

section
variable {s t u : State} {l rest : List Nat} {i k : Nat} {b : TapeBlock} {g n : GatherFrame}

/-! ### The oldest slot of the output queue dropped (R35, R38) -/

theorem SoundWith.freeOne_queued (h : SoundWith l s) (concealed : (s.slot i).state = .concealed) : freeOne s i = { s with store := { s.store with
    slots := s.store.slots.set i Slot.freed, outputQueue := s.store.outputQueue.filter (· != i) } } := by
  refine freeOne_concealed ?_ ?_ ?_ ?_ (h.write_ne (by rw [concealed]; decide)) fun p => ?_
  · rw [h.mem_captureList, concealed]; decide
  · rw [h.mem_gatherList, concealed]; decide
  · rw [h.mem_writeQueue, concealed]; decide
  · rw [h.fields, h.mem_captureList, concealed]; decide
  · exact h.playing_ne (by rw [concealed]; decide) (by rw [concealed]; decide) i p rfl

/-- The oldest slot of the output queue is freed: its record, the queue, and the trim that follows Q. -/
theorem freeSlots_oldest (h : SoundWith l s) (queue : s.store.outputQueue = i :: rest) : ∃ trim demand, freeSlots [i] s = { s with
    store := { s.store with slots := s.store.slots.set i Slot.freed, outputQueue := rest, trim := trim }
    transport := { s.transport with demand := demand } } ∧ s.followsQ (freeSlots [i] s) := by
  have concealed := h.mem_outputQueue.1 (show i ∈ s.store.outputQueue by rw [queue]; exact List.mem_cons_self ..)
  have freed := h.freeOne_queued concealed
  have restOf : s.store.outputQueue.filter (· != i) = rest := by
    obtain ⟨-, -, -, -, nodup, -⟩ := h.collections
    rw [queue] at nodup ⊢
    rw [List.filter_cons_of_neg (by simp)]
    exact filter_ne_of_notMem (List.nodup_cons.1 nodup).1
  rw [restOf] at freed
  have depthW : (freeOne s i).depthW = s.depthW := by rw [freed] <;> rfl
  by_cases record : s.transport.state = .record
  · have unjudged : ¬ (freeOne s i).judgesQ := fun q => by
      rw [freed] at q
      have := q.1
      rw [show _ = s.transport.state from rfl, record] at this
      cases this
    have whole : freeSlots [i] s = freeOne s i := withDepths_unjudged (f := fun t => [i].foldl freeOne t) unjudged depthW
    rw [whole, freed]
    refine ⟨s.store.trim, s.transport.demand, rfl, fun q => ?_, fun _ => ⟨rfl, rfl⟩⟩
    have := q.1
    rw [record] at this
    cases this
  · obtain ⟨trim, demand, whole⟩ := withDepths_trimmed (fun t => [i].foldl freeOne t) s
    refine ⟨trim, demand, whole.trans ((congrArg (State.trimmed · trim demand) freed).trans rfl), ?_⟩
    refine withDepths_followsQ (f := fun t => [i].foldl freeOne t) record ?_ ?_ ?_
    · show (freeOne s i).transport = s.transport
      rw [freed]
    · show (freeOne s i).store.trim = s.store.trim
      rw [freed]
    · show (freeOne s i).output = s.output
      rw [freed]

/-! ### A block in a frame (R30, R66) -/

/-- The block as a frame holds it. -/
def blockHeld (b : TapeBlock) : HeldBlock := ⟨b.trackOf, b.position.toNat, b.payload⟩

/-- A block of the same place is held already. -/
def placeTaken (b : TapeBlock) (held : List HeldBlock) : Prop := ∃ h ∈ held, h.track = b.trackOf ∧ h.position = b.position.toNat

theorem heldPayload_isSome (held : List HeldBlock) : (heldPayload held b.trackOf b.position.toNat).isSome = true ↔ placeTaken b held := by
  unfold heldPayload placeTaken
  rw [Option.isSome_map, List.find?_isSome]
  simp only [decide_eq_true_eq]

theorem placeBlock_stays (h : g.refused = true ∨ g.slot.isSome = true ∧ placeTaken b g.held) : placeBlock b g s = (s, g) := by
  unfold placeBlock
  by_cases refused : g.refused = true
  · exact if_pos refused
  · obtain ⟨slot, within⟩ := h.resolve_left refused
    rw [if_neg refused, if_pos slot]
    exact if_pos (.inr ((heldPayload_isSome _).2 within))

theorem placeBlock_keeps (refused : g.refused = false) (slot : g.slot = some i) (new : ¬ placeTaken b g.held) :
    placeBlock b g s = (s, { g with held := g.held ++ [blockHeld b] }) := by
  have unrefused : ¬ g.refused = true := by rw [refused]; decide
  have has : g.slot.isSome = true := by rw [slot] <;> rfl
  unfold placeBlock
  rw [if_neg unrefused, if_pos has]
  refine if_neg ?_
  rintro (none | held)
  · rw [slot] at none; cases none
  · exact new ((heldPayload_isSome _).1 held)

/-- A frame without a slot and without blocks takes its first block in the slot that opens. -/
theorem placeBlock_opens (refused : g.refused = false) (slot : g.slot = none) (empty : g.held = [])
    (opened : openGather g s = (t, { g with slot := some i })) :
    placeBlock b g s = (t, { g with slot := some i, held := [blockHeld b] }) := by
  have unrefused : ¬ g.refused = true := by rw [refused]; decide
  have hasNot : ¬ g.slot.isSome = true := by rw [slot]; decide
  unfold placeBlock
  rw [if_neg unrefused, if_neg hasNot, opened]
  dsimp only
  rw [if_neg (by rw [empty]; simp [heldPayload]), empty] <;> rfl

theorem placeBlock_refuses (refused : g.refused = false) (slot : g.slot = none)
    (opened : openGather g s = (t, { g with refused := true })) : placeBlock b g s = (t, { g with refused := true }) := by
  have unrefused : ¬ g.refused = true := by rw [refused]; decide
  have hasNot : ¬ g.slot.isSome = true := by rw [slot]; decide
  unfold placeBlock
  rw [if_neg unrefused, if_neg hasNot, opened]
  exact if_pos (.inl (by rw [slot]; rfl))

/-- The store with slot `i` opened for a frame of a time, before the slots `behind` of the next frame. -/
def State.opening (s : State) (i time : Nat) (behind : List Nat) : FrameStore := { s.store with
  slots := s.store.slots.set i { Slot.freed with
    state := .gathering, role := some (s.roleFor time), frameTime := some time
    format := some s.activeFormat, pairCount := s.activeBank.rate.pairs }
  gatherList := s.store.gatherList.filter (fun k => decide (k ∉ behind)) ++ i :: behind }

theorem openGather_free (free : s.lowestFree = some i) :
    openGather g s = ({ s with store := s.opening i g.time s.decoder.nextSlot.toList }, { g with slot := some i }) := by
  unfold openGather findGatherSlot
  rw [free] <;> rfl

theorem openGather_refused (free : s.lowestFree = none) (queue : s.store.outputQueue = []) :
    openGather g s = (s, { g with refused := true }) := by
  unfold openGather findGatherSlot
  rw [free]
  dsimp only
  rw [queue]

/-- What the drop of the oldest slot of the output queue for a frame leaves. -/
structure Dropped (s t : State) (i : Nat) (rest : List Nat) (time : Nat) (behind : List Nat) : Prop where
  store : t.store = { s.opening i time behind with outputQueue := rest, trim := t.store.trim }
  reports : t.reports = (count .framesDropped 1 s).reports
  whole : t = { s with store := t.store, reports := t.reports, transport := { s.transport with demand := t.transport.demand } }
  trims : s.followsQ t

theorem openGather_drops (h : SoundWith l s) (free : s.lowestFree = none) (queue : s.store.outputQueue = i :: rest) :
    ∃ t, openGather g s = (t, { g with slot := some i }) ∧ Dropped s t i rest g.time s.decoder.nextSlot.toList := by
  obtain ⟨trim, demand, freed, follows⟩ := freeSlots_oldest h queue
  have hi := h.lt (i := i) (by rw [h.mem_outputQueue.1 (by rw [queue]; exact List.mem_cons_self ..)]; decide)
  have queued : i ∉ rest := by
    obtain ⟨-, -, -, -, nodup, -⟩ := h.collections
    rw [queue] at nodup
    exact (List.nodup_cons.1 nodup).1
  have length : i < s.store.slots.length := by rw [h.length]; exact hi
  obtain ⟨w, counted⟩ : ∃ w, w = count .framesDropped 1 (freeSlots [i] s) := ⟨_, rfl⟩
  have lowest : w.lowestFree = some i := by
    have slots : w.store.slots = s.store.slots.set i Slot.freed := by rw [counted, freed] <;> rfl
    have others := List.findIdx?_eq_none_iff.1 free
    unfold State.lowestFree
    rw [slots]
    refine List.findIdx?_eq_some_iff_getElem.2 ⟨by rw [List.length_set]; exact length, ?_, fun j hj => ?_⟩
    · rw [List.getElem_set_self]
      decide
    · rw [List.getElem_set_ne (by omega)]
      simpa using others _ (List.getElem_mem (by omega))
  have found : findGatherSlot s = (w, some i) := by
    unfold findGatherSlot
    rw [free]
    dsimp only
    rw [queue]
    dsimp only
    rw [← counted, lowest]
  rw [freed] at counted
  have slots : (w.store.slots.set i (Slot.opened .gathering (w.roleFor g.time) g.time w.activeFormat)) =
      s.store.slots.set i (Slot.opened .gathering (s.roleFor g.time) g.time s.activeFormat) := by
    rw [counted]
    exact List.set_set ..
  refine ⟨{ w with store := { w.store with
    slots := s.store.slots.set i (Slot.opened .gathering (s.roleFor g.time) g.time s.activeFormat)
    gatherList := s.store.gatherList.filter (fun k => decide (k ∉ s.decoder.nextSlot.toList)) ++ i :: s.decoder.nextSlot.toList } }, ?_, ?_, ?_, ?_, ?_⟩
  · unfold openGather
    rw [found]
    dsimp only
    rw [← slots, counted] <;> rfl
  · rw [counted] <;> rfl
  · rw [counted] <;> rfl
  · conv_lhs => rw [counted]
    rw [counted] <;> rfl
  · refine State.followsQ.level (by rw [← freed] at counted; exact follows) (t := freeSlots [i] s) ?_
    rw [freed, counted]
    refine ⟨rfl, rfl, ?_⟩
    unfold State.depthQ
    refine congrArg List.length (List.filter_congr fun k hk => ?_)
    have ne : k ≠ i := fun e => queued (e ▸ hk)
    have other (v : Slot) : (s.store.slots.set i v).getD k Slot.freed = s.slot k := slot_setSlot_other v ne
    exact congrArg (fun v : Slot => v.role == some Role.play) ((other _).trans (other _).symm)

/-! ### The frame of a tag (R65, R66) -/

/-- No block has given the two frames a slot, and neither is refused. -/
def State.untouched (s : State) (g : GatherFrame) : Prop :=
  g.slot = none ∧ g.refused = false ∧ ∀ n, s.decoder.next = some n → n.slot = none ∧ n.refused = false

theorem takeBlock_current (tag : b.tag.toNat = g.tag) : takeBlock b g s = placeCurrent b g s := if_pos tag

theorem takeBlock_next (next : s.decoder.next = some n) (other : b.tag.toNat ≠ g.tag) (tag : b.tag.toNat = n.tag) :
    takeBlock b g s = placeNext b n s := by
  unfold takeBlock
  dsimp only
  rw [if_neg other, next]
  exact if_pos tag

theorem takeBlock_stale (none : s.decoder.next = none) (other : b.tag.toNat ≠ g.tag) (tag : b.tag.toNat = (g.tag + 1) % 256) :
    takeBlock b g s = s := by
  unfold takeBlock
  dsimp only
  rw [if_neg other, none]
  exact if_pos tag

theorem untouched_iff : g.untouched = true ↔ g.slot = none ∧ g.refused = false := by
  unfold GatherFrame.untouched
  simp

/-- A block of any other tag is acquired, or changes nothing. -/
theorem takeBlock_other (other : b.tag.toNat ≠ g.tag) (others : ∀ n, s.decoder.next = some n → b.tag.toNat ≠ n.tag) :
    (s.decoder.status = .locked ∨ ¬ s.untouched g → takeBlock b g s = s) ∧
    (s.decoder.status ≠ .locked → s.untouched g → (s.decoder.next = none → b.tag.toNat ≠ (g.tag + 1) % 256) →
      takeBlock b g s = placeCurrent b { g with tag := b.tag.toNat } { s with decoder := { s.decoder with
        next := s.decoder.next.map fun n => { n with tag := (b.tag.toNat + 1) % 256 } } }) := by
  have acquires : (s.decoder.status != .locked && g.untouched && (match s.decoder.next with
      | some n => n.untouched
      | none => true)) = true ↔ s.decoder.status ≠ .locked ∧ s.untouched g := by
    unfold State.untouched
    cases s.decoder.next with
    | none => simp [untouched_iff, and_assoc]
    | some n => simp [untouched_iff, and_assoc]
  have whole (stale : s.decoder.next = none → b.tag.toNat ≠ (g.tag + 1) % 256) : takeBlock b g s =
      if (s.decoder.status != .locked && g.untouched && (match s.decoder.next with
        | some n => n.untouched
        | none => true)) = true then placeCurrent b { g with tag := b.tag.toNat } { s with decoder := { s.decoder with
          next := s.decoder.next.map fun n => { n with tag := (b.tag.toNat + 1) % 256 } } } else s := by
    unfold takeBlock
    dsimp only
    rw [if_neg other]
    cases next : s.decoder.next with
    | none => exact if_neg (stale next)
    | some n => exact if_neg (others n next)
  refine ⟨fun h => ?_, fun unlocked untouched stale => ?_⟩
  · by_cases stale : s.decoder.next = none ∧ b.tag.toNat = (g.tag + 1) % 256
    · exact takeBlock_stale stale.1 other stale.2
    · rw [whole fun none tag => stale ⟨none, tag⟩]
      refine if_neg (mt acquires.1 ?_)
      rintro ⟨unlocked, untouched⟩
      exact h.elim unlocked fun touched => touched untouched
  · rw [whole stale]
    exact if_pos (acquires.2 ⟨unlocked, untouched⟩)

theorem placeCurrent_eq {h : GatherFrame} (placed : placeBlock b g s = (t, h)) :
    placeCurrent b g s = { t with decoder := { t.decoder with current := some h } } := by
  unfold placeCurrent
  rw [placed]

theorem placeNext_eq {h : GatherFrame} (placed : placeBlock b g s = (t, h)) :
    placeNext b g s = { t with decoder := { t.decoder with next := some h } } := by
  unfold placeNext
  rw [placed]

theorem exec_advanceBlock {bytes : List Byte} (formed : blockOfBytes bytes = some b) (current : s.decoder.current = some g) :
    exec (.advanceBlock bytes) s = .next (if s.decoder.readMode = .full ∧ s.decoder.gathering = true ∧ b.good = true
      then takeBlock b g s else s) := by
  show Host.Outcome.next (onBlock bytes _ s) = _
  rw [onBlock_some formed]
  rw [current]

theorem exec_advanceBlock_taken {bytes : List Byte} (formed : blockOfBytes bytes = some b) (current : s.decoder.current = some g)
    (good : b.good = true) (mode : s.decoder.readMode = .full) (gathering : s.decoder.gathering = true) :
    exec (.advanceBlock bytes) s = .next (takeBlock b g s) := by
  rw [exec_advanceBlock formed current, if_pos ⟨mode, gathering, good⟩]

end
end Sys2Proof.Machine

namespace Sys2Proof.Proofs
open Sys2Proof.Machine

/-- Settles O40. -/
theorem advanceBlockIsPlaced : Obligations.AdvanceBlockIsPlaced := by
  refine ⟨fun bytes s h => ?_, fun bytes b g s formed current => ?_⟩
  · show Host.Outcome.next (onBlock bytes _ s) = _
    cases formed : blockOfBytes bytes with
    | none => rw [onBlock_none formed]
    | some b =>
      rw [onBlock_some formed]
      rw [h.resolve_left (by rw [formed]; exact Option.some_ne_none b)]
  · intro tag block within opened drops
    have begun := exec_advanceBlock formed current
    refine ⟨fun h => ?_, fun none other stale => ?_, fun good mode gathering => ?_⟩
    · rw [begun, if_neg]
      rintro ⟨mode, gathering, good⟩
      rcases h with bad | unread | off
      · rw [bad] at good; cases good
      · exact unread mode
      · rw [off] at gathering; cases gathering
    · rw [begun, takeBlock_stale none other stale, ite_self]
    · have taken := exec_advanceBlock_taken formed current good mode gathering
      rw [taken]
      refine ⟨fun other others => ?_, fun same => ?_, fun n next other same => ?_⟩
      · obtain ⟨stays, acquires⟩ := takeBlock_other other others
        refine ⟨fun h => congrArg Host.Outcome.next (stays ?_), fun i unlocked slot refused empty untouched stale free => ?_⟩
        · rcases h with locked | slot | refused | ⟨n, next, touched⟩
          · exact .inl locked
          · exact .inr fun u => by rw [u.1] at slot; cases slot
          · exact .inr fun u => by rw [u.2.1] at refused; cases refused
          · refine .inr fun u => ?_
            obtain ⟨slotless, unrefused⟩ := u.2.2 n next
            rw [slotless, unrefused] at touched
            simp at touched
        · rw [acquires unlocked ⟨slot, refused, untouched⟩ stale]
          have behind : (s.decoder.next.map fun n => ({ n with tag := (tag + 1) % 256 } : GatherFrame)).bind (·.slot) = Option.none := by
            cases next : s.decoder.next with
            | none => rfl
            | some n => exact (untouched n next).1
          have store : State.opening { s with decoder := { s.decoder with
              next := s.decoder.next.map fun n => { n with tag := (tag + 1) % 256 } } } i g.time
                (Decoder.nextSlot { s.decoder with next := s.decoder.next.map fun n => { n with tag := (tag + 1) % 256 } }).toList =
              opened i g.time [] := by
            unfold Decoder.nextSlot
            rw [behind] <;> rfl
          have placed := placeBlock_opens (b := b) (g := { g with tag := tag }) (s := { s with decoder := { s.decoder with
            next := s.decoder.next.map fun n => { n with tag := (tag + 1) % 256 } } }) refused slot empty (openGather_free free)
          refine congrArg Host.Outcome.next ((placeCurrent_eq placed).trans ?_)
          rw [← store] <;> rfl
      · rw [takeBlock_current same]
        refine ⟨fun h => ?_, fun i refused slot new => ?_, fun i refused slot empty free => ?_, fun refused slot free queue => ?_,
          fun i rest refused slot empty free sound queue => ?_⟩
        · rw [placeCurrent_eq (placeBlock_stays h), ← current]
        · rw [placeCurrent_eq (placeBlock_keeps refused slot new)] <;> rfl
        · rw [placeCurrent_eq (placeBlock_opens refused slot empty (openGather_free free))] <;> rfl
        · rw [placeCurrent_eq (placeBlock_refuses refused slot (openGather_refused free queue))]
        · obtain ⟨sound, -⟩ := storeSound_iff.1 sound
          obtain ⟨t, opens, store, reports, whole, trims⟩ := openGather_drops (g := g) sound free queue
          refine ⟨_, congrArg Host.Outcome.next (placeCurrent_eq (placeBlock_opens refused slot empty opens)), ?_, store, reports, ?_, trims⟩
          · rw [whole] <;> rfl
          · rw [whole] <;> rfl
      · rw [takeBlock_next next other same]
        have behind (slot : n.slot = none) : s.decoder.nextSlot = none := by
          unfold Decoder.nextSlot
          rw [next]
          exact slot
        refine ⟨fun h => ?_, fun i refused slot new => ?_, fun i refused slot empty free => ?_, fun refused slot free queue => ?_,
          fun i rest refused slot empty free sound queue => ?_⟩
        · rw [placeNext_eq (placeBlock_stays h), ← next]
        · rw [placeNext_eq (placeBlock_keeps refused slot new)] <;> rfl
        · rw [placeNext_eq (placeBlock_opens refused slot empty (openGather_free free)), behind slot] <;> rfl
        · rw [placeNext_eq (placeBlock_refuses refused slot (openGather_refused free queue))]
        · obtain ⟨sound, -⟩ := storeSound_iff.1 sound
          obtain ⟨t, opens, store, reports, whole, trims⟩ := openGather_drops (g := n) sound free queue
          rw [behind slot] at store
          refine ⟨_, congrArg Host.Outcome.next (placeNext_eq (placeBlock_opens refused slot empty opens)), ?_, store, reports, ?_, trims⟩
          · rw [whole] <;> rfl
          · rw [whole] <;> rfl

end Sys2Proof.Proofs
end

section
/-! The stages of a frame pulse, each where it has nothing to do, and the pulse off play speed with a pending bank switch or none (R51,
R64, R98, R177). Settles O34. -/

namespace Sys2Proof.Machine

section
variable {s t u : State}

/-! ### Stages with nothing to do (R26, R29, R32, R44, R55, R60, R74, R142, R148) -/

theorem takeFrames_none (h : s.correctedSlots.length < 2) (last : Nat) : takeFrames last s = s := by
  unfold takeFrames Config.slotCount takeReady
  split
  · next list =>
    rw [list] at h
    simp at h
  · rfl

theorem correctedSlots_nil (h : s.store.gatherList = []) : s.correctedSlots = [] := by
  unfold State.correctedSlots
  rw [h] <;> rfl

theorem pulseCommit_none (h : s.mixer.punchOut = none) : pulseCommit s = s := by
  unfold pulseCommit
  rw [h]

theorem pulseGate_closed (gate : s.mixer.gateOpen = false) (h : s.mixer.punchIn = none) : pulseGate s = s := by
  unfold pulseGate
  rw [gate, h] <;> rfl

theorem pulseCut_none (h : s.coder.current = none) : pulseCut s = s := by
  unfold pulseCut
  rw [h]

theorem pulseVerify_none {q : Nat} (h : ∀ e ∈ s.coder.verify, e.frameTime + 2 ≠ q) : pulseVerify q s = s := by
  have checked : s.coder.verify.filter (fun e => e.frameTime + 2 == q) = [] :=
    List.filter_eq_nil_iff.2 fun e he => by simpa using h e he
  have kept : s.coder.verify.filter (fun e => e.frameTime + 2 != q) = s.coder.verify :=
    List.filter_eq_self.2 fun e he => by simpa using h e he
  unfold pulseVerify
  rw [checked, kept] <;> rfl

theorem pulseWindow_closed (gate : s.mixer.gateOpen = false) :
    pulseWindow s = { s with coder := { s.coder with writeOn := false } } := by
  unfold pulseWindow
  rw [gate] <;> rfl

theorem pulseCapture_outside (h : s.transport.state.rolling = false ∨ s.inSpan (s.decoder.time + 2) = false) : pulseCapture s = s := by
  refine if_neg ?_
  rintro ⟨rolls, inside, -⟩
  rcases h with off | out
  · rw [off] at rolls; cases rolls
  · rw [out] at inside; cases inside

theorem pulseConditions_none (lost : s.input.lost = none) (latched : s.copy.latched = false) : pulseConditions s = s := by
  unfold pulseConditions
  rw [lost]
  show (if s.copy.latched = true then setCondition .copy s else s) = s
  rw [latched] <;> rfl

theorem judgeHoldover_within (h : s.decoder.holdover ≤ s.activeBank.holdover) : judgeHoldover s = s := if_neg (not_lt.2 h)

theorem pulseBanks_none (h : s.banks.pendingSwitch = none) : pulseBanks s = s := by
  unfold pulseBanks
  rw [h]

/-! ### The pulse off play speed (R51, R64, R177) -/

/-- Off play speed, with no punch and no frame of the record path or the gather list. -/
def State.resting (s : State) : Prop :=
  s.transport.state.rolling = false ∧ s.decoder.gathering = false ∧ s.mixer.gateOpen = false ∧ s.mixer.punchIn = none ∧
  s.mixer.punchOut = none ∧ s.coder.current = none ∧ s.coder.verify = [] ∧ s.store.captureList = [] ∧ s.store.gatherList = [] ∧
  s.copy.latched = false ∧ s.input.lost = none ∧ s.decoder.holdover ≤ s.activeBank.holdover

/-- What a pulse does after the bank switch: the write command is WRITE-OFF. -/
theorem pulseWork_resting (h : (pulseBanks s).resting) :
    pulseWork s = { pulseBanks s with coder := { (pulseBanks s).coder with writeOn := false } } := by
  rw [pulseWork_eq]
  generalize pulseBanks s = u at h ⊢
  obtain ⟨off, gathering, gate, punchIn, punchOut, current, verify, capture, gather, latched, lost, holdover⟩ := h
  have gathered : pulseGather u = u := by
    unfold pulseGather
    rw [gathering]
    exact judgeHoldover_within holdover
  have heads : pulseHeads s.decoder.time u.decoder.gathering (pulseGather u) = { u with coder := { u.coder with writeOn := false } } := by
    unfold pulseHeads
    rw [gathered, gathering, takeFrames_none (by rw [correctedSlots_nil gather]; decide)]
    dsimp only
    rw [pulseCommit_none punchOut, pulseGate_closed gate punchIn, pulseCut_none current,
      pulseVerify_none (by rw [verify]; simp), pulseWindow_closed gate] <;> rfl
  have captured := pulseCapture_outside (s := { u with coder := { u.coder with writeOn := false } }) (.inl off)
  have conditions := pulseConditions_none (s := { u with coder := { u.coder with writeOn := false } }) lost latched
  rw [heads, captured, conditions]
  exact mixerJudge_empty (s := { u with coder := { u.coder with writeOn := false } }) capture Config.slotCount

/-- With no list running a pulse is the work of the blocks. -/
theorem exec_framePulse_idle (idle : (pulseWork s).sequencer.state = .idle) : exec .framePulse s = .next (settle (pulseWork s)) := by
  show Host.Outcome.next (settle (judgeWaitTime (if s.decoder.gathering then stepWaitFrames (pulseWork s) else pulseWork s))) = _
  rw [stepWaitFrames_idle idle, ite_self, judgeWaitTime_idle idle]

theorem exec_framePulse_resting (h : (pulseBanks s).resting) (idle : (pulseBanks s).sequencer.state = .idle) (quiet : (pulseBanks s).quiet) :
    exec .framePulse s = .next { pulseBanks s with coder := { (pulseBanks s).coder with writeOn := false } } := by
  have work := pulseWork_resting h
  rw [exec_framePulse_idle (by rw [work]; exact idle), work, settle_quiet (by exact quiet)]

/-! ### The bank switch (R44, R98, R177) -/

/-- With source ANALOG and no slot being filled the field is the active bank's. -/
theorem deriveField_analog (analog : s.input.selected = .analog) (unfilled : s.fillingSlot = none) :
    deriveField s = { s with copy := { s.copy with current := .field s.activeBank.analogCopy } } := by
  obtain ⟨fields, kept, derived⟩ := deriveField_eq s
  have field : s.sourceField = .field s.activeBank.analogCopy := by
    unfold State.sourceField
    rw [analog]
  rw [field, kept unfilled] at derived
  exact derived.trans (if_neg fun h => nomatch h.1)

/-- With source ANALOG, not lost, the judgement derives the field and no more. -/
theorem judgeLost_analog (analog : s.input.selected = .analog) (unfilled : s.fillingSlot = none) (lost : s.input.lost = none) :
    judgeLost s = { s with copy := { s.copy with current := .field s.activeBank.analogCopy } } := by
  have cause := lostCause_analog analog
  have steady : s.lossJudged = s := by
    rw [lossJudged_steady (by rw [lost, cause]), cause, ← lost]
  rw [judgeLost_eq, steady]
  exact deriveField_analog analog unfilled

/-- A pending switch with source ANALOG: its entry, and the analog copy field of the new bank. -/
theorem pulseBanks_analog {port : Port} (pending : s.banks.pendingSwitch = some port) (analog : s.input.selected = .analog)
    (lost : s.input.lost = none) (empty : s.store.captureList = []) : pulseBanks s =
      logEntry .bankSwitch s.timeNow port.origin s.banks.active.other.code { s with
        banks := { s.banks with active := s.banks.active.other, pendingSwitch := none }
        copy := { s.copy with current := .field s.banks.stagedBank.analogCopy } } := by
  obtain ⟨t, switched⟩ : ∃ t, t = logEntry .bankSwitch s.timeNow port.origin s.banks.active.other.code { s with
      banks := { s.banks with active := s.banks.active.other, pendingSwitch := none } } := ⟨_, rfl⟩
  have input : t.input = s.input := by rw [switched] <;> rfl
  have selected : t.input.selected = .analog := by rw [input]; exact analog
  have bank : t.activeBank = s.banks.stagedBank := by rw [switched] <;> rfl
  have unfilled : t.fillingSlot = none := by
    unfold State.fillingSlot
    rw [switched]
    show s.store.captureList.find? _ = none
    rw [empty] <;> rfl
  have derived : deriveField t = { t with copy := { t.copy with current := .field s.banks.stagedBank.analogCopy } } := by
    rw [deriveField_analog selected unfilled, bank]
  have twice : deriveField (judgeLost t) = { t with copy := { t.copy with current := .field s.banks.stagedBank.analogCopy } } := by
    rw [judgeLost_analog selected unfilled (by rw [input]; exact lost), deriveField_analog (by exact selected) (by exact unfilled), bank]
    exact congrArg (fun c => ({ t with copy := { t.copy with current := .field c } } : State)) (congrArg Bank.analogCopy bank)
  have begun : pulseBanks s = deriveField (if t.activeBank.rate = s.activeBank.rate then t else judgeLost t) := by
    unfold pulseBanks
    rw [pending, switched] <;> rfl
  rw [begun]
  split
  · rw [derived, switched] <;> rfl
  · rw [twice, switched] <;> rfl

end
end Sys2Proof.Machine

namespace Sys2Proof.Proofs
open Sys2Proof.Machine

/-- Settles O34. -/
theorem pulseOffPlaySpeed : Obligations.PulseOffPlaySpeed := by
  intro s q idle off gathering gate punchIn punchOut current verify capture gather latched lost
  refine ⟨fun pending holdover => ?_, fun port pending holdover analog => ?_⟩
  · have same := pulseBanks_none pending
    have rests : (pulseBanks s).resting := by
      rw [same]
      exact ⟨off, gathering, gate, punchIn, punchOut, current, verify, capture, gather, latched, lost, holdover⟩
    rw [exec_framePulse_resting rests (by rw [same]; exact idle) (by rw [same]; exact q), same]
  · have switched := pulseBanks_analog pending analog lost capture
    have rests : (pulseBanks s).resting := by
      rw [switched]
      exact ⟨off, gathering, gate, punchIn, punchOut, current, verify, capture, gather, latched, lost, holdover⟩
    rw [exec_framePulse_resting rests (by rw [switched]; exact idle) (by rw [switched]; exact q), switched] <;> rfl

end Sys2Proof.Proofs
end

section
/-!
# The verify entry that a pulse closes

The statement on the closing of a verify entry (R60) asks nothing of the tape time beyond what the slots and the
collections need. In a state with a lead-in count left and T above 0, the pulse sets T to 0, and the entry that the new
frame adds can have the frame time of the entry just closed.
-/

namespace Sys2Proof.Machine

-- One theorem after another: each one elaborated at the same time would hold a stack of its own.
set_option Elab.async false

/-- A take in RECORD at T = 2 with one lead-in frame left, the MIXED slot of frame 0 on the write queue, and the verify
entry of frame 0, whose period ends with the next pulse. -/
def State.leadingIn : State := { State.reset with
  transport := { State.reset.transport with state := .record, tapePresent := true, demand := .playSpeed .normal }
  decoder := { State.reset.decoder with readMode := .full, gathering := true, status := .locked, time := 2, leadIn := 1 }
  mixer := { State.reset.mixer with punchIn := some ⟨0, 0, true, .system⟩, taken := true, gateOpen := true }
  coder := { State.reset.coder with verify := [⟨0, 0, 0, []⟩] }
  store := { State.reset.store with
    slots := State.reset.store.slots.set 0 { Slot.freed with state := .mixed, role := some .input, frameTime := some 0 }
    writeQueue := [0] } }

theorem leadingIn_agrees : State.leadingIn.quiet ∧ State.leadingIn.sequencer.state = .idle ∧
    State.leadingIn.gateAgrees ∧ State.leadingIn.readingAgrees := by
  unfold State.quiet State.gateAgrees State.readingAgrees
  and_intros <;> decide +kernel

theorem leadingIn_storeSound : State.leadingIn.storeSound := by
  unfold State.storeSound State.collectionsSound State.holdersSound
  and_intros <;> decide +kernel

theorem leadingIn_verifySound : State.leadingIn.coder.verifySound := by
  unfold Coder.verifySound
  and_intros <;> decide +kernel

/-- The frame times of the verify entries after a pulse from `State.leadingIn`: the entry of frame 0 is closed, and one of
the same frame time added, as T has gone to 0 and the slot of frame 0 is written. -/
theorem leadingIn_pulse :
    (match exec .framePulse State.leadingIn with
      | .next t => t.coder.verify.map VerifyEntry.frameTime
      | _ => []) = [0] := by decide +kernel

end Sys2Proof.Machine

namespace Sys2Proof.Proofs
open Sys2Proof.Machine

/-- Refutes O39: in `State.leadingIn`, sound in all the ways that the statement asks for, the entry of frame 0 is closed by
the pulse, and an entry of frame 0 stands on the verify list after it. -/
theorem not_blocksSuppliedAndChecked : ¬ Obligations.BlocksSuppliedAndChecked := by
  rintro ⟨-, -, -, closes⟩
  obtain ⟨quiet, idle, gate, reading⟩ := leadingIn_agrees
  obtain ⟨t, pulse, -, closed⟩ := closes State.leadingIn quiet idle (Or.inr rfl) gate reading leadingIn_storeSound
    leadingIn_verifySound
  have again : t.coder.verify.map VerifyEntry.frameTime = [0] := by
    have evaluated := leadingIn_pulse
    rw [pulse] at evaluated
    exact evaluated
  obtain ⟨gone, -⟩ := closed ⟨0, 0, 0, []⟩ (by decide +kernel) rfl
  obtain ⟨x, listed, time⟩ := List.mem_map.mp (again ▸ List.mem_singleton_self 0 : 0 ∈ t.coder.verify.map VerifyEntry.frameTime)
  exact gone x listed time

end Sys2Proof.Proofs
end

section
/-!
The Concealment Unit: a run of bad pairs is classified once, carried, and ends; and the take of a frame, which frees what it meets
on the output queue and lets the trim follow Q (R25, R32, R38, R82 to R87). Settles O51.
-/

namespace Sys2Proof.Machine

section
variable {s t u : State} {l : List Nat}

/-! ### Runs (R83, R84) -/

theorem badLead_run {run : List (Pair × Bool)} (bad : ∀ p ∈ run, p.2 = false) (b : Pair) (rest : List (Pair × Bool)) :
    badLead (run ++ (b, true) :: rest) = run.length ∧ badLead run = run.length := by
  induction run with
  | nil => exact ⟨rfl, rfl⟩
  | cons p run ih =>
    obtain ⟨p, good⟩ := p
    obtain rfl : good = false := bad (p, good) (List.mem_cons_self ..)
    obtain ⟨more, alone⟩ := ih fun q hq => bad q (List.mem_cons_of_mem _ hq)
    exact ⟨congrArg (· + 1) more, congrArg (· + 1) alone⟩

theorem classifyRun_invalid (lmax : Nat) (a : Pair) (ahead : LookAhead) (stream : List (Pair × Bool)) :
    classifyRun lmax false a ahead stream = .long := by
  unfold classifyRun
  exact if_pos (Or.inl rfl)

/-- A run that ends at a good pair of the frame. -/
theorem classifyRun_ends {run : List (Pair × Bool)} (bad : ∀ p ∈ run, p.2 = false) (lmax : Nat) (a b : Pair) (ahead : LookAhead)
    (rest : List (Pair × Bool)) :
    classifyRun lmax true a ahead (run ++ (b, true) :: rest) = if run.length ≤ lmax then .short a b run.length 1 else .long := by
  unfold classifyRun
  simp only [(badLead_run bad b rest).1, List.drop_left, reduceCtorEq, false_or]
  by_cases few : run.length ≤ lmax
  · rw [if_pos few, if_neg (by omega)]
  · rw [if_neg few, if_pos (by omega)]

/-- A run up to the frame's end, nothing being seen behind it. -/
theorem classifyRun_nothing {run : List (Pair × Bool)} (bad : ∀ p ∈ run, p.2 = false) (lmax : Nat) (a : Pair) :
    classifyRun lmax true a .nothing run = .long := by
  unfold classifyRun
  simp only [(badLead_run bad a []).2, List.drop_length, ite_self]

/-- A run up to the frame's end whose successor has no good pair. -/
theorem classifyRun_unended {run next : List (Pair × Bool)} (bad : ∀ p ∈ run, p.2 = false) (badNext : ∀ p ∈ next, p.2 = false)
    (lmax : Nat) (a : Pair) : classifyRun lmax true a (.successor next) run = .long := by
  unfold classifyRun
  simp only [(badLead_run bad a []).2, (badLead_run badNext a []).2, List.drop_length, ite_self]

/-- A run that goes on in the successor and ends there. -/
theorem classifyRun_successor {run next : List (Pair × Bool)} (bad : ∀ p ∈ run, p.2 = false) (badNext : ∀ p ∈ next, p.2 = false)
    (lmax : Nat) (a b : Pair) (more : List (Pair × Bool)) : classifyRun lmax true a (.successor (next ++ (b, true) :: more)) run =
      if run.length + next.length ≤ lmax then .short a b (run.length + next.length) 1 else .long := by
  unfold classifyRun
  simp only [(badLead_run bad a []).2, (badLead_run badNext b more).1, List.drop_length, List.drop_left, reduceCtorEq, false_or]
  split
  · rw [if_neg (by omega)]
  · rfl

/-! ### Pairs (R85, R86) -/

theorem concealPairs_good (lmax : Nat) (step : Int) (ahead : LookAhead) (p : Pair) (rest : List (Pair × Bool)) (u : Conceal) :
    concealPairs lmax step ahead ((p, true) :: rest) u =
      { concealPairs lmax step ahead rest { gain := min 1024 (u.gain + step), held := p, heldValid := true, carried := none } with
        pairs := scalePair p (min 1024 (u.gain + step)) ::
          (concealPairs lmax step ahead rest { gain := min 1024 (u.gain + step), held := p, heldValid := true, carried := none }).pairs } :=
  rfl

/-- A bad pair of a SHORT run: the unit after it. -/
def Conceal.shorter (u : Conceal) (step : Int) (a b : Pair) (length i : Nat) : Conceal where
  gain := min 1024 (u.gain + step)
  held := interpolatePair a b length i
  heldValid := true
  carried := if i < length then some (.short a b length (i + 1)) else none

/-- A bad pair of a LONG run: the unit after it. -/
def Conceal.longer (u : Conceal) (step : Int) : Conceal where
  gain := max 0 (u.gain - step)
  held := u.held
  heldValid := u.heldValid && max 0 (u.gain - step) != 0
  carried := some .long

theorem concealPairs_short {lmax : Nat} {step : Int} {ahead : LookAhead} {p : Pair} {rest : List (Pair × Bool)} {u : Conceal}
    {a b : Pair} {length i : Nat}
    (kind : u.carried.getD (classifyRun lmax u.heldValid u.held ahead ((p, false) :: rest)) = .short a b length i) :
    concealPairs lmax step ahead ((p, false) :: rest) u =
      { concealPairs lmax step ahead rest (u.shorter step a b length i) with
        pairs := scalePair (interpolatePair a b length i) (min 1024 (u.gain + step)) ::
          (concealPairs lmax step ahead rest (u.shorter step a b length i)).pairs
        interpolated := (concealPairs lmax step ahead rest (u.shorter step a b length i)).interpolated + 1 } := by
  rw [concealPairs]
  simp only [kind] <;> rfl

theorem concealPairs_long {lmax : Nat} {step : Int} {ahead : LookAhead} {p : Pair} {rest : List (Pair × Bool)} {u : Conceal}
    (kind : u.carried.getD (classifyRun lmax u.heldValid u.held ahead ((p, false) :: rest)) = .long) :
    concealPairs lmax step ahead ((p, false) :: rest) u =
      { concealPairs lmax step ahead rest (u.longer step) with
        pairs := scalePair u.held (max 0 (u.gain - step)) :: (concealPairs lmax step ahead rest (u.longer step)).pairs
        gaps := (concealPairs lmax step ahead rest (u.longer step)).gaps + 1 } := by
  rw [concealPairs]
  simp only [kind] <;> rfl

/-- As many pairs come out as went in, and the bad ones are interpolated or gaps. -/
theorem concealPairs_counts (lmax : Nat) (step : Int) (ahead : LookAhead) (stream : List (Pair × Bool)) (u : Conceal) :
    (concealPairs lmax step ahead stream u).pairs.length = stream.length ∧
    (concealPairs lmax step ahead stream u).interpolated + (concealPairs lmax step ahead stream u).gaps =
      (stream.filter fun p => !p.2).length := by
  induction stream generalizing u with
  | nil => exact ⟨rfl, rfl⟩
  | cons p rest ih =>
    obtain ⟨p, good⟩ := p
    cases good with
    | true =>
      obtain ⟨length, counts⟩ := ih { gain := min 1024 (u.gain + step), held := p, heldValid := true, carried := none }
      rw [concealPairs_good]
      exact ⟨congrArg (· + 1) length, counts⟩
    | false =>
      cases kind : u.carried.getD (classifyRun lmax u.heldValid u.held ahead ((p, false) :: rest)) with
      | short a b n i =>
        obtain ⟨length, counts⟩ := ih (u.shorter step a b n i)
        rw [concealPairs_short kind]
        refine ⟨congrArg (· + 1) length, ?_⟩
        simp only [List.filter_cons, Bool.not_false, if_true, List.length_cons]
        omega
      | long =>
        obtain ⟨length, counts⟩ := ih (u.longer step)
        rw [concealPairs_long kind]
        refine ⟨congrArg (· + 1) length, ?_⟩
        simp only [List.filter_cons, Bool.not_false, if_true, List.length_cons]
        omega

/-- The bad pairs of a SHORT run, from index `i` on, no more of them than the run has. -/
theorem concealPairs_shortRun {lmax : Nat} {step : Int} {ahead : LookAhead} {run : List (Pair × Bool)} {u : Conceal} {a b : Pair}
    {length i : Nat} (bad : ∀ p ∈ run, p.2 = false) (some : run ≠ []) (up : 0 ≤ step)
    (kind : u.carried.getD (classifyRun lmax u.heldValid u.held ahead run) = .short a b length i) (fits : i + run.length ≤ length + 1) :
    (concealPairs lmax step ahead run u).interpolated = run.length ∧ (concealPairs lmax step ahead run u).gaps = 0 ∧
    (∀ k < run.length, (concealPairs lmax step ahead run u).pairs[k]? = Option.some (scalePair
      ⟨interpolate a.left b.left length (i + k), interpolate a.right b.right length (i + k)⟩ (min 1024 (u.gain + (k + 1) * step)))) ∧
    (concealPairs lmax step ahead run u).unit = { gain := min 1024 (u.gain + run.length * step), heldValid := true
                                                  held := ⟨interpolate a.left b.left length (i + run.length - 1),
                                                    interpolate a.right b.right length (i + run.length - 1)⟩
                                                  carried := if i + run.length ≤ length then
                                                    Option.some (.short a b length (i + run.length)) else none } := by
  induction run generalizing u i with
  | nil => exact absurd rfl some
  | cons p rest ih =>
    obtain ⟨p, good⟩ := p
    obtain rfl : good = false := bad (p, good) (List.mem_cons_self ..)
    rw [concealPairs_short kind]
    rcases rest with _ | ⟨q, rest⟩
    · refine ⟨rfl, rfl, fun k few => ?_, ?_⟩
      · obtain rfl : k = 0 := by simpa using few
        simp [interpolatePair]
      · simp [concealPairs, Conceal.shorter, interpolatePair]
    · have more : i < length := by simp only [List.length_cons] at fits; omega
      have carries : (u.shorter step a b length i).carried = Option.some (.short a b length (i + 1)) := if_pos more
      obtain ⟨interpolated, gaps, pairs, unit⟩ := ih (u := u.shorter step a b length i) (i := i + 1)
        (fun r hr => bad r (List.mem_cons_of_mem _ hr)) (by simp) (by rw [carries]; rfl)
        (by simp only [List.length_cons] at fits ⊢; omega)
      refine ⟨congrArg (· + 1) interpolated, gaps, fun k few => ?_, unit.trans ?_⟩
      · cases k with
        | zero => simp [interpolatePair]
        | succ k =>
          have gain : min 1024 ((u.shorter step a b length i).gain + (k + 1) * step) = min 1024 (u.gain + ((k + 1 : Nat) + 1) * step) := by
            show min (1024 : Int) (min 1024 (u.gain + step) + (k + 1) * step) = _
            have : 0 ≤ ((k : Int) + 1) * step := Int.mul_nonneg (by omega) up
            push_cast
            rw [show u.gain + ((k : Int) + 1 + 1) * step = u.gain + step + (k + 1) * step by ring]
            omega
          rw [List.getElem?_cons_succ, pairs k (by simpa using few), gain, show i + 1 + k = i + (k + 1) by omega]
      · have gain : min 1024 ((u.shorter step a b length i).gain + ((q :: rest).length : Nat) * step) =
            min 1024 (u.gain + (((p, false) :: q :: rest).length : Nat) * step) := by
          show min (1024 : Int) (min 1024 (u.gain + step) + _) = _
          have : 0 ≤ (((q :: rest).length : Nat) : Int) * step := Int.mul_nonneg (by omega) up
          rw [List.length_cons (a := (p, false)), Nat.cast_add, Nat.cast_one,
            show u.gain + ((((q :: rest).length : Nat) : Int) + 1) * step = u.gain + step + ((q :: rest).length : Nat) * step by ring]
          omega
        rw [gain, show i + 1 + (q :: rest).length = i + ((p, false) :: q :: rest).length by simp only [List.length_cons]; omega]

/-- The bad pairs of a LONG run. -/
theorem concealPairs_longRun {lmax : Nat} {step : Int} {ahead : LookAhead} {run : List (Pair × Bool)} {u : Conceal}
    (bad : ∀ p ∈ run, p.2 = false) (some : run ≠ []) (up : 0 ≤ step) (gain : 0 ≤ u.gain)
    (kind : u.carried.getD (classifyRun lmax u.heldValid u.held ahead run) = .long) :
    (concealPairs lmax step ahead run u).interpolated = 0 ∧ (concealPairs lmax step ahead run u).gaps = run.length ∧
    (∀ k < run.length, (concealPairs lmax step ahead run u).pairs[k]? =
      Option.some (scalePair u.held (max 0 (u.gain - (k + 1) * step)))) ∧
    (concealPairs lmax step ahead run u).unit = { gain := max 0 (u.gain - run.length * step), held := u.held
                                                  heldValid := u.heldValid && decide (0 < u.gain - run.length * step)
                                                  carried := Option.some .long } := by
  induction run generalizing u with
  | nil => exact absurd rfl some
  | cons p rest ih =>
    obtain ⟨p, good⟩ := p
    obtain rfl : good = false := bad (p, good) (List.mem_cons_self ..)
    rw [concealPairs_long kind]
    have positive : (max 0 (u.gain - step) != 0) = decide (0 < u.gain - step) := by
      by_cases left : 0 < u.gain - step
      · rw [decide_eq_true left, bne_iff_ne]; omega
      · rw [decide_eq_false left, bne_eq_false_iff_eq]; omega
    rcases rest with _ | ⟨q, rest⟩
    · refine ⟨rfl, rfl, fun k few => ?_, ?_⟩
      · obtain rfl : k = 0 := by simpa using few
        simp
      · simp [concealPairs, Conceal.longer, positive]
    · obtain ⟨interpolated, gaps, pairs, unit⟩ := ih (u := u.longer step)
        (fun r hr => bad r (List.mem_cons_of_mem _ hr)) (by simp) (le_max_left ..) rfl
      have falls (n : Nat) : max 0 ((u.longer step).gain - n * step) = max 0 (u.gain - ((n : Int) + 1) * step) ∧
          (0 < u.gain - step ∧ 0 < (u.longer step).gain - n * step ↔ 0 < u.gain - ((n : Int) + 1) * step) := by
        have : 0 ≤ (n : Int) * step := Int.mul_nonneg (by omega) up
        rw [show u.gain - ((n : Int) + 1) * step = u.gain - step - n * step by ring]
        show max 0 (max 0 (u.gain - step) - n * step) = _ ∧ (_ ∧ 0 < max 0 (u.gain - step) - n * step ↔ _)
        constructor <;> omega
      refine ⟨interpolated, congrArg (· + 1) gaps, fun k few => ?_, unit.trans ?_⟩
      · cases k with
        | zero => simp
        | succ k =>
          have scaled := (falls (k + 1)).1
          rw [List.getElem?_cons_succ, pairs k (by simpa using few)]
          push_cast at scaled ⊢
          rw [scaled] <;> rfl
      · obtain ⟨gain, valid⟩ := falls (q :: rest).length
        have held : ((u.longer step).heldValid && decide (0 < (u.longer step).gain - ((q :: rest).length : Nat) * step)) =
            (u.heldValid && decide (0 < u.gain - ((((q :: rest).length : Nat) : Int) + 1) * step)) := by
          show ((u.heldValid && max 0 (u.gain - step) != 0) && _) = _
          rw [positive, Bool.and_assoc, ← Bool.decide_and]
          exact congrArg (u.heldValid && ·) (decide_eq_decide.2 valid)
        rw [List.length_cons (a := (p, false)), Nat.cast_add, Nat.cast_one, gain, held] <;> rfl

/-! ### The take of a frame (R25, R38, R87) -/

/-- A change of the collections or roles that leaves W lets the trim follow Q. -/
theorem followsQ_withDepths {f : State → State} (transport : (f s).transport = s.transport) (trim : (f s).store.trim = s.store.trim)
    (source : (f s).output.source = s.output.source) (priming : (f s).output.priming = s.output.priming)
    (depthW : (f s).depthW = s.depthW) : s.followsQ (withDepths f s) := by
  have judges : (f s).judgesQ ↔ s.judgesQ := by simp only [State.judgesQ, transport, source, priming]
  by_cases same : (f s).depthQ = s.depthQ
  · rw [withDepths_still same depthW]
    exact ⟨fun _ changed => absurd same changed, fun _ => ⟨trim, by rw [transport]⟩⟩
  by_cases judged : s.judgesQ
  · have whole : withDepths f s = judgeQ (f s) := by
      unfold withDepths
      dsimp only
      have state : (judgeQ (f s)).transport.state ≠ .record := by
        unfold judgeQ
        rw [if_pos (show (f s).transport.state = .play ∧ (f s).output.source = .tape ∧ (f s).output.priming = false from judges.2 judged)]
        show (f s).transport.state ≠ .record
        rw [transport, judged.1]
        decide
      rw [if_neg same, judgeW_of_ne_record state, ite_self]
    have depth : (judgeQ (f s)).depthQ = (f s).depthQ := by unfold judgeQ; split <;> rfl
    rw [whole]
    refine ⟨fun _ _ => ?_, fun no => ?_⟩
    · rw [depth, ← trim]
      exact judgeQ_carries (judges.2 judged)
    · exact absurd (depth.symm.trans (no.resolve_left (not_not.2 judged))) same
  · rw [withDepths_unjudged (mt judges.1 judged) depthW]
    exact ⟨fun q => absurd q judged, fun _ => ⟨trim, by rw [transport]⟩⟩

/-- Freeing slots of the output queue alone lets the trim follow Q. -/
theorem followsQ_freeSlots {fs : List Nat} (unqueued : ∀ i ∈ fs, i ∉ s.store.writeQueue) : s.followsQ (freeSlots fs s) := by
  have frees := foldl_freeOne_frees fs s
  obtain ⟨transport, trim⟩ := transport_foldl_freeOne fs s
  refine followsQ_withDepths (f := fun t => fs.foldl freeOne t) transport trim ?_ ?_ ?_
  · rw [frees.work.output]
  · rw [frees.work.output]
  · show (fs.foldl freeOne s).depthW = s.depthW
    unfold State.depthW
    rw [frees.writeQueue, List.filter_eq_self.2 fun i queued => by simpa using fun freed => unqueued i freed queued]

/-- Slot `i` with its frame concealed. -/
def State.concealedSlot (s : State) (i : Nat) (r : TakeResult) : Slot :=
  { s.slot i with state := .concealed, pairs := r.pairs, interpolated := r.interpolated, gaps := r.gaps }

/-- The take of a frame as far as the counts: the unit, the slot, and what gap pairs record. -/
def State.frameTaken (s : State) (i : Nat) (r : TakeResult) : State :=
  let t := setSlot i (s.concealedSlot i r) { s with conceal := r.unit }
  if r.gaps = 0 then t else setCondition .conceal (count .framesMuted 1 t)

theorem takeFrame_eq (last i : Nat) (ahead : LookAhead) (s : State) : takeFrame last i ahead s = joinOutput last i (s.frameTaken i
    (concealPairs (s.slot i).closeLmax (rampStep (s.slot i).closeRamp) ahead (s.slot i).stream s.conceal)) := rfl

theorem frameTaken_leaves (s : State) (i : Nat) (r : TakeResult) : (s.frameTaken i r).store = (setSlot i (s.concealedSlot i r) s).store ∧
    (s.frameTaken i r).transport = s.transport ∧ (s.frameTaken i r).output = s.output ∧ (s.frameTaken i r).decoder = s.decoder ∧
    (s.frameTaken i r).mixer = s.mixer ∧ (s.frameTaken i r).conceal = r.unit ∧
    (s.frameTaken i r).reports = (if r.gaps = 0 then s else count .framesMuted 1 s).reports ∧
    (s.frameTaken i r).sequencer = (if r.gaps = 0 then s else setCondition .conceal s).sequencer := by
  unfold State.frameTaken
  dsimp only
  split <;> exact ⟨rfl, rfl, rfl, rfl, rfl, rfl, rfl, rfl⟩

/-- Slot `i` goes from the gather list to the tail of the output queue. -/
def State.joined (i : Nat) (s : State) : State := { s with store := { s.store with
  gatherList := s.store.gatherList.filter (· != i), outputQueue := s.store.outputQueue ++ [i] } }

/-- The PLAY slots of the output queue before a frame time. -/
def State.depthBefore (s : State) (f : Nat) : Nat :=
  (s.store.outputQueue.filter fun k => decide ((s.slot k).role = some .play ∧ (s.slot k).frameTime.getD 0 < f)).length

theorem joinOutput_play {last i f : Nat} (time : (s.slot i).frameTime.getD 0 = f) (role : (s.slot i).role = some .play)
    (notLate : i ∉ s.outOfOrder f) : joinOutput last i s =
      mixerJudge (withDepths (State.joined i) (count .framesDropped (s.outOfOrder f).length (freeSlots (s.outOfOrder f) s))) := by
  unfold joinOutput
  dsimp only
  rw [time]
  have frees := freeSlots_frees (s.outOfOrder f) s
  generalize freeSlots (s.outOfOrder f) s = u at frees ⊢
  obtain ⟨trim, demand, moved⟩ := withDepths_trimmed (State.joined i) (count .framesDropped (s.outOfOrder f).length u)
  have still : ((withDepths (State.joined i) (count .framesDropped (s.outOfOrder f).length u)).slot i).role = some .play := by
    rw [moved]
    show (u.slot i).role = _
    rw [frees.slot, if_neg notLate, role]
  refine congrArg mixerJudge (if_neg fun old => ?_)
  have isOld := still.symm.trans old.1
  cases isOld

/-- The slots at or after frame time `f` freed, Q is what stands before it. -/
theorem depthQ_outOfOrder (f : Nat) (h : Frees (s.outOfOrder f) s u) : u.depthQ = s.depthBefore f := by
  unfold State.depthQ State.depthBefore
  rw [h.outputQueue, List.filter_filter]
  refine congrArg List.length (List.filter_congr fun k hk => ?_)
  rw [h.slot]
  by_cases freed : k ∈ s.outOfOrder f
  · have after : f ≤ (s.slot k).frameTime.getD 0 := by simpa using (List.mem_filter.1 freed).2
    simp [freed, Nat.not_lt.2 after]
  · have before : (s.slot k).frameTime.getD 0 < f := by
      by_contra after
      exact freed (List.mem_filter.2 ⟨hk, by simpa using after⟩)
    simp only [freed, before, decide_true, if_false, not_false_eq_true, and_true, Bool.and_true]
    rw [Bool.eq_iff_iff]
    simp

theorem joined_followsQ (i : Nat) (s : State) : s.followsQ (withDepths (State.joined i) s) :=
  followsQ_withDepths rfl rfl rfl rfl rfl

theorem joined_depthQ {i : Nat} (role : (s.slot i).role = some .play) : (State.joined i s).depthQ = s.depthQ + 1 := by
  show ((s.store.outputQueue ++ [i]).filter fun k => (s.slot k).role == some .play).length = _
  rw [List.filter_append, List.length_append, List.filter_singleton, role] <;> rfl

/-- Two changes one after the other, the second of which moves Q. -/
theorem State.followsQ.andThen (h : s.followsQ t) (k : t.followsQ u) (judges : t.judgesQ ↔ s.judgesQ) (moved : u.depthQ ≠ t.depthQ) :
    (s.judgesQ → u.carries
      ((if t.depthQ = s.depthQ then s.store.trim else s.store.trim.afterQ t.depthQ).afterQ u.depthQ)) ∧
    (¬ s.judgesQ → s.keepsTrim u) := by
  refine ⟨fun judged => ?_, fun unjudged => ?_⟩
  · have second := k.1 (judges.2 judged) moved
    split
    · next same =>
      rw [← (h.2 (.inr same)).1]
      exact second
    · next other =>
      rw [← (h.1 judged other).1]
      exact second
  · obtain ⟨trim, demand⟩ := h.2 (.inl unjudged)
    obtain ⟨trim', demand'⟩ := k.2 (.inl (mt judges.1 unjudged))
    exact ⟨trim'.trans trim, demand'.trans demand⟩

/-- Where the oldest slot of the capture list is still being filled, the Edit Mixer takes none. -/
theorem mixerJudge_capturing (head : ∀ k ∈ s.store.captureList.head?, (s.slot k).state = .capturing) : mixerJudge s = s := by
  cases list : s.store.captureList with
  | nil => exact mixerJudge_empty list _
  | cons k rest => exact mixerJudge_stops list (.inl (by rw [head k (by rw [list]; rfl)]; decide)) _

/-- The take of a CORRECTED PLAY slot: the slot concealed, the late slots of the output queue freed, the slot moved there. -/
theorem takeFrame_play {last i f : Nat} {ahead : LookAhead} (sound : SoundWith l s) (hi : i < 16)
    (corrected : (s.slot i).state = .corrected) (role : (s.slot i).role = some .play) (time : (s.slot i).frameTime = some f)
    (head : ∀ k ∈ s.store.captureList.head?, (s.slot k).state = .capturing) (r : TakeResult)
    (result : concealPairs (s.slot i).closeLmax (rampStep (s.slot i).closeRamp) ahead (s.slot i).stream s.conceal = r) :
    ∃ u trim demand, Frees (s.outOfOrder f) (s.frameTaken i r) u ∧
      takeFrame last i ahead s = (State.joined i (count .framesDropped (s.outOfOrder f).length u)).trimmed trim demand ∧
      (∀ k, (s.frameTaken i r).slot k = if k = i then s.concealedSlot i r else s.slot k) ∧ (s.frameTaken i r).depthQ = s.depthQ ∧
      (s.frameTaken i r).followsQ u ∧ u.followsQ (takeFrame last i ahead s) ∧ u.depthQ = s.depthBefore f ∧
      (takeFrame last i ahead s).depthQ = s.depthBefore f + 1 := by
  obtain ⟨storeOf, -⟩ := frameTaken_leaves s i r
  have slot (k : Nat) : (s.frameTaken i r).slot k = if k = i then s.concealedSlot i r else s.slot k := by
    rw [← slot_setSlot_of sound.length hi (s.concealedSlot i r) k]
    simp only [State.slot, storeOf]
  have queue : (s.frameTaken i r).store.outputQueue = s.store.outputQueue := by rw [storeOf] <;> rfl
  have notQueued : i ∉ s.store.outputQueue := fun queued => by rw [sound.mem_outputQueue.1 queued] at corrected; cases corrected
  have other {k : Nat} (hk : k ∈ s.store.outputQueue) : (s.frameTaken i r).slot k = s.slot k := by
    rw [slot, if_neg]
    rintro rfl
    exact notQueued hk
  have late : (s.frameTaken i r).outOfOrder f = s.outOfOrder f := by
    unfold State.outOfOrder
    rw [queue]
    exact List.filter_congr fun k hk => by rw [other hk]
  have before : (s.frameTaken i r).depthBefore f = s.depthBefore f := by
    unfold State.depthBefore
    rw [queue]
    exact congrArg List.length (List.filter_congr fun k hk => by rw [other hk])
  have same : (s.frameTaken i r).depthQ = s.depthQ := by
    unfold State.depthQ
    rw [queue]
    exact congrArg List.length (List.filter_congr fun k hk => by rw [other hk])
  have concealed {k : Nat} (hk : k ∈ s.outOfOrder f) : (s.slot k).state = .concealed := sound.mem_outputQueue.1 (List.mem_filter.1 hk).1
  have notLate : i ∉ s.outOfOrder f := fun queued => notQueued (List.mem_filter.1 queued).1
  have atSlot : (s.frameTaken i r).slot i = s.concealedSlot i r := by rw [slot, if_pos rfl]
  have joins : takeFrame last i ahead s = _ := ((takeFrame_eq last i ahead s).trans (by rw [result])).trans (joinOutput_play
    (last := last) (s := s.frameTaken i r) (f := f) (by rw [atSlot]; exact congrArg (·.getD 0) time) (by rw [atSlot]; exact role) (by rw [late]; exact notLate))
  have frees := freeSlots_frees (s.outOfOrder f) (s.frameTaken i r)
  have freed : (s.frameTaken i r).followsQ (freeSlots (s.outOfOrder f) (s.frameTaken i r)) := followsQ_freeSlots fun k hk waits => by
    rw [storeOf] at waits
    rcases sound.mem_writeQueue.1 waits with e | e <;> rw [concealed hk] at e <;> cases e
  rw [late] at joins
  generalize freeSlots (s.outOfOrder f) (s.frameTaken i r) = u at joins frees freed
  obtain ⟨trim, demand, moved⟩ := withDepths_trimmed (State.joined i) (count .framesDropped (s.outOfOrder f).length u)
  have follows := joined_followsQ i (count .framesDropped (s.outOfOrder f).length u)
  rw [moved] at joins follows
  have list : u.store.captureList = s.store.captureList := by
    rw [frees.captureList, storeOf]
    refine List.filter_eq_self.2 fun k hk => ?_
    have waits := sound.mem_captureList.1 hk
    simpa using fun freed => by rcases waits with e | e <;> rw [concealed freed] at e <;> cases e
  rw [mixerJudge_capturing] at joins
  · have depth : u.depthQ = s.depthBefore f := (depthQ_outOfOrder f (late.symm ▸ frees)).trans before
    refine ⟨u, trim, demand, frees, joins, slot, same, freed, ?_, depth, ?_⟩
    · rw [joins]
      exact follows
    · rw [joins, ← depth]
      exact joined_depthQ (s := u) (by rw [frees.slot, if_neg notLate, atSlot]; exact role)
  · intro k hk
    have hk' : k ∈ s.store.captureList.head? := list ▸ hk
    have capturing := head k hk'
    show (u.slot k).state = .capturing
    rw [frees.slot, if_neg (fun freed => by rw [concealed freed] at capturing; cases capturing), slot, if_neg, capturing]
    rintro rfl
    rw [capturing] at corrected
    cases corrected

end
end Sys2Proof.Machine

namespace Sys2Proof.Proofs
open Sys2Proof.Machine

/-- Settles O51: the classification by its cases, the pairs of a run by induction along it, and the take as the freeing of the late
slots with the joining after it. -/
theorem framesAreConcealed : Obligations.FramesAreConcealed := by
  refine ⟨fun lmax a b ahead run next rest more bad badNext => ?_, fun lmax step ahead run u bad some up gain gainUp => ?_,
    fun lmax step ahead p rest stream u => ⟨concealPairs_good .., concealPairs_counts ..⟩, fun last i f ahead s store below corrected
      role time head => ?_⟩
  · exact ⟨classifyRun_invalid .., classifyRun_invalid .., classifyRun_ends bad .., classifyRun_nothing bad ..,
      classifyRun_unended bad badNext .., classifyRun_successor bad badNext ..⟩
  · intro r kind
    exact ⟨fun a b length i short first fits => concealPairs_shortRun bad some up short fits,
      fun long => concealPairs_longRun bad some up gain long⟩
  · obtain ⟨sound, -⟩ := storeSound_iff.1 store
    intro r late t dropped left cleared
    obtain ⟨u, trim, demand, frees, whole, slot, depth, clears, joins, depthLeft, depthJoined⟩ :=
      takeFrame_play (last := last) (ahead := ahead) sound below corrected role time head r rfl
    obtain ⟨storeOf, transport, output, decoder, -, conceal, reports, sequencer⟩ := frameTaken_leaves s i r
    have taken : t = takeFrame last i ahead s := rfl
    have resultOf : r = concealPairs (s.slot i).closeLmax (1024 / ((s.slot i).closeRamp : Int)) ahead (s.slot i).stream s.conceal := rfl
    have droppedOf : dropped = (s.outOfOrder f).length := rfl
    have leftOf : left = s.depthBefore f := rfl
    have clearedOf : cleared = if left = s.depthQ then s.store.trim else s.store.trim.afterQ left := rfl
    have lateOf (k : Nat) : late k ↔ k ∈ s.outOfOrder f := by
      unfold State.outOfOrder
      rw [List.mem_filter, decide_eq_true_iff]
    have notLate : ¬ late i := fun late => by rw [sound.mem_outputQueue.1 late.1] at corrected; cases corrected
    have concealed {k : Nat} (hk : k ∈ s.outOfOrder f) : (s.slot k).state = .concealed :=
      sound.mem_outputQueue.1 (List.mem_filter.1 hk).1
    clear_value t r dropped left cleared late
    rw [← taken] at whole joins depthJoined
    have judges : (s.frameTaken i r).judgesQ ↔ s.judgesQ := by simp only [State.judgesQ, transport, output]
    have judgesAfter : u.judgesQ ↔ (s.frameTaken i r).judgesQ := by
      have source : u.output.source = (s.frameTaken i r).output.source := by rw [frees.work.output]
      have priming : u.output.priming = (s.frameTaken i r).output.priming := by rw [frees.work.output]
      have state : u.transport.state = (s.frameTaken i r).transport.state := by rw [frees.work.transport]
      simp only [State.judgesQ, source, priming, state]
    obtain ⟨carries, keeps⟩ := clears.andThen joins judgesAfter (by rw [depthJoined, depthLeft]; omega)
    rw [depth, depthLeft, depthJoined, ← leftOf, show (s.frameTaken i r).store.trim = s.store.trim by rw [storeOf] <;> rfl,
      ← clearedOf] at carries
    have unlisted {a : List Nat} (waits : ∀ k ∈ a, (s.slot k).state ≠ .concealed) : a.filter (· ∉ s.outOfOrder f) = a :=
      List.filter_eq_self.2 fun k hk => by simpa using fun freed => waits k hk (concealed freed)
    have slotOf (k : Nat) : t.slot k = if k ∈ s.outOfOrder f then Slot.freed else (s.frameTaken i r).slot k := by
      rw [whole]
      exact frees.slot k
    refine ⟨fun judged => carries (judges.2 judged), fun unjudged => ?_, ?_, fun gaps => ?_, fun none => ?_, ?_, fun k ne => ⟨fun hk => ?_, fun hk => ?_⟩, ?_, ?_, ?_, ?_, ?_, ?_⟩
    · obtain ⟨trimOf, demandOf⟩ := keeps (mt judges.1 unjudged)
      exact ⟨trimOf.trans (by rw [storeOf] <;> rfl), demandOf.trans (by rw [transport])⟩
    · rw [whole]
      show u.conceal = _
      rw [frees.work.conceal, conceal]
    · rw [whole]
      show u.sequencer.conditions = _
      rw [frees.work.sequencer, sequencer, if_neg (by omega)] <;> rfl
    · rw [whole]
      show u.sequencer = _
      rw [frees.work.sequencer, sequencer, if_pos none]
    · rw [slotOf, if_neg (mt (lateOf i).2 notLate), slot, if_pos rfl] <;> rfl
    · rw [slotOf, if_pos ((lateOf k).1 hk)]
    · rw [slotOf, if_neg (mt (lateOf k).2 hk), slot, if_neg ne]
    · rw [whole]
      show u.store.gatherList.filter (· != i) = _
      rw [frees.gatherList, storeOf, unlisted]
      · exact List.filter_congr fun k _ => by by_cases e : k = i <;> simp [e]
      · intro k hk
        rcases sound.mem_gatherList.1 hk with e | e <;> rw [e] <;> decide
    · rw [whole]
      show u.store.outputQueue ++ [i] = _
      rw [frees.outputQueue, storeOf]
      refine congrArg (· ++ [i]) (List.filter_congr fun k hk => ?_)
      have queued : k ∈ s.store.outputQueue := hk
      simp [State.outOfOrder, queued]
    · rw [whole]
      show u.store.captureList = _
      rw [frees.captureList, storeOf]
      refine unlisted fun k hk => ?_
      rcases sound.mem_captureList.1 hk with e | e <;> rw [e] <;> decide
    · rw [whole]
      show u.store.writeQueue = _
      rw [frees.writeQueue, storeOf]
      refine unlisted fun k hk => ?_
      rcases sound.mem_writeQueue.1 hk with e | e <;> rw [e] <;> decide
    · rw [whole]
      show u.decoder = _
      rw [frees.work.decoder, decoder]
    · rw [whole, droppedOf]
      show (count .framesDropped _ u).reports = _
      simp only [count, frees.work.reports, reports]

end Sys2Proof.Proofs
end

section
/-!
The boundary of the output clock where no slot is taken for it: a gap after a frame cut short, an input frame, and an underrun with its
take under pressure (R33, R36, R89, R93 to R96). Settles O47.
-/

namespace Sys2Proof.Machine

section
variable {s t u : State} {l : List Nat} {i : Nat}

/-! ### Takes while no slot is being output -/

/-- What a take, under pressure or in its turn, leaves of a state in which no slot is being output. -/
structure Pressed (s t : State) : Prop where
  decoder : t.decoder = s.decoder
  mixer : t.mixer = s.mixer
  banks : t.banks = s.banks
  input : t.input = s.input
  output : s.output.playing = none → t.output = s.output
  sequencer : t.sequencer = { s.sequencer with conditions := t.sequencer.conditions }
  conditions : t.sequencer.conditions = s.sequencer.conditions ∨ t.sequencer.conditions = s.sequencer.conditions ||| 2#7
  underruns : ∀ port, (t.reports.port port).counters.underruns = (s.reports.port port).counters.underruns

theorem Pressed.refl (s : State) : Pressed s s := ⟨rfl, rfl, rfl, rfl, fun _ => rfl, rfl, .inl rfl, fun _ => rfl⟩

theorem Pressed.trans (h : Pressed s t) (k : Pressed t u) : Pressed s u where
  decoder := k.decoder.trans h.decoder
  mixer := k.mixer.trans h.mixer
  banks := k.banks.trans h.banks
  input := k.input.trans h.input
  output := fun silent => (k.output ((congrArg Output.playing (h.output silent)).trans silent)).trans (h.output silent)
  sequencer := by rw [k.sequencer, h.sequencer]
  conditions := by
    rcases h.conditions with same | set <;> rcases k.conditions with same' | set'
    · exact .inl (same'.trans same)
    · exact .inr (by rw [set', same])
    · exact .inr (same'.trans set)
    · exact .inr (by rw [set', set, BitVec.or_assoc, BitVec.or_self])
  underruns := fun port => (k.underruns port).trans (h.underruns port)

theorem SlotWork.pressed (h : SlotWork s t) (output : s.output.playing = none → t.output = s.output) : Pressed s t :=
  ⟨h.decoder, h.mixer, h.banks, h.input, output, by rw [h.sequencer], .inl (by rw [h.sequencer]), fun port => by rw [h.reports]⟩

theorem output_withDepths (f : State → State) (s : State) : (withDepths f s).output = (f s).output := by
  obtain ⟨trim, demand, whole⟩ := withDepths_trimmed f s
  rw [whole] <;> rfl

theorem output_foldl_freeOne (fs : List Nat) (silent : s.output.playing = none) : (fs.foldl freeOne s).output = s.output := by
  induction fs generalizing s with
  | nil => rfl
  | cons i fs ih =>
    have one : (freeOne s i).output = s.output := if_neg (show ¬ s.output.playing = some i by rw [silent]; simp)
    exact (ih (by rw [one, silent])).trans one

theorem pressed_freeSlots (fs : List Nat) (s : State) : Pressed s (freeSlots fs s) :=
  (slotWork_freeSlots fs s).pressed fun silent => (output_withDepths ..).trans (output_foldl_freeOne fs silent)

/-- The slot taken, before the OLD slot of its frame is freed. -/
def State.taken (s : State) (i : Nat) : State := { setSlot i (s.mixedSlot i) s with
  store := { (setSlot i (s.mixedSlot i) s).store with captureList := s.store.captureList.filter (· != i) }
  copy := { s.copy with inputFields := s.copy.inputFields.filter (·.1 != i) } }

theorem takeSlot_eq (i : Nat) (s : State) :
    takeSlot i s = freeSlots (s.oldSlot ((s.slot i).frameTime.getD 0)).toList (s.taken i) := rfl

theorem pressed_takeSlot (i : Nat) (s : State) : Pressed s (takeSlot i s) := by
  have marked : Pressed s (s.taken i) := by
    unfold State.taken
    generalize s.mixedSlot i = v
    exact ⟨rfl, rfl, rfl, rfl, fun _ => rfl, rfl, .inl rfl, fun _ => rfl⟩
  rw [takeSlot_eq]
  exact marked.trans (pressed_freeSlots ..)

theorem pressed_mixerRun (n : Nat) (s : State) : Pressed s (mixerRun n s) := by
  induction n generalizing s with
  | zero => exact .refl s
  | succ n ih =>
    unfold mixerRun
    split
    · exact .refl s
    · dsimp only
      split
      · exact (pressed_takeSlot ..).trans (ih _)
      · exact .refl s

theorem pressed_joinOutput (last i : Nat) (s : State) : Pressed s (joinOutput last i s) := by
  unfold joinOutput
  dsimp only
  generalize s.outOfOrder ((s.slot i).frameTime.getD 0) = late
  have counted (u : State) : Pressed u (count .framesDropped late.length u) :=
    ⟨rfl, rfl, rfl, rfl, fun _ => rfl, rfl, .inl rfl, fun port => by cases port <;> rfl⟩
  have moved (u : State) : Pressed u (withDepths (State.joined i) u) :=
    (slotWork_withDepths (by constructor <;> first | rfl | exact id)).pressed fun _ => output_withDepths ..
  have joined := (pressed_freeSlots late s).trans ((counted _).trans (moved _))
  refine Pressed.trans ?_ (pressed_mixerRun ..)
  split
  · exact joined.trans (pressed_freeSlots ..)
  · exact joined

theorem pressed_takeFrame (last i : Nat) (ahead : LookAhead) (s : State) : Pressed s (takeFrame last i ahead s) := by
  rw [takeFrame_eq]
  refine Pressed.trans ?_ (pressed_joinOutput ..)
  generalize concealPairs _ _ ahead _ _ = r
  unfold State.frameTaken
  dsimp only
  split
  · exact ⟨rfl, rfl, rfl, rfl, fun _ => rfl, rfl, .inl rfl, fun _ => rfl⟩
  · exact ⟨rfl, rfl, rfl, rfl, fun _ => rfl, rfl, .inr rfl, fun port => by cases port <;> rfl⟩

theorem pressed_takeReady (last n : Nat) (s : State) : Pressed s (takeReady last n s) := by
  induction n generalizing s with
  | zero => exact .refl s
  | succ n ih =>
    unfold takeReady
    split
    · split
      · exact (pressed_takeFrame ..).trans (ih _)
      · exact .refl s
    · exact .refl s

theorem pressed_takePressured (s : State) : Pressed s (takePressured s) := by
  unfold takePressured
  split
  · exact (pressed_takeFrame ..).trans (pressed_takeReady ..)
  · exact .refl s

/-! ### The take under pressure of the one slot there is (R36, R38) -/

/-- Slot `i` of role PLAY stands alone on the output queue, with `v` its record. -/
structure StandsAlone (i : Nat) (v : Slot) (s : State) : Prop where
  queue : s.store.outputQueue = [i]
  slot : s.slot i = v
  gather : s.store.gatherList = []

/-- The Edit Mixer has no OLD slot to take where one PLAY slot stands alone, and leaves it and the trim as they are. -/
theorem standsAlone_mixerRun {v : Slot} (h : StandsAlone i v s) (role : v.role = some .play) (state : v.state = .concealed) (n : Nat) :
    StandsAlone i v (mixerRun n s) ∧ s.keepsTrim (mixerRun n s) := by
  induction n generalizing s with
  | zero => exact ⟨h, rfl, rfl⟩
  | succ n ih =>
    unfold mixerRun
    split
    · exact ⟨h, rfl, rfl⟩
    · next k rest list =>
      dsimp only
      split
      · next ready =>
        have none : s.oldSlot ((s.slot k).frameTime.getD 0) = Option.none := by
          cases old : s.oldSlot ((s.slot k).frameTime.getD 0) with
          | none => rfl
          | some j =>
            obtain ⟨queued, roleOf, -⟩ := oldSlot_spec old
            rw [h.queue, List.mem_singleton] at queued
            rw [queued, h.slot, role] at roleOf
            cases roleOf
        have ne : i ≠ k := by
          rintro rfl
          have captured := ready.1
          rw [h.slot, state] at captured
          cases captured
        have toList : (s.oldSlot ((s.slot k).frameTime.getD 0)).toList = [] := by rw [none] <;> rfl
        have taken : takeSlot k s = s.taken k := by
          rw [takeSlot_eq, toList]
          exact freeSlots_nil _
        have alone : StandsAlone i v (takeSlot k s) := by
          rw [taken]
          refine ⟨h.queue, ?_, h.gather⟩
          refine Eq.trans ?_ h.slot
          show (setSlot k (s.mixedSlot k) s).slot i = _
          rw [slot_setSlot, if_neg fun e => ne e.1]
        obtain ⟨after, trim, demand⟩ := ih alone
        refine ⟨after, trim.trans ?_, demand.trans ?_⟩ <;> rw [taken] <;> rfl
      · exact ⟨h, rfl, rfl⟩

/-- The one CORRECTED PLAY slot is taken under pressure: it stands alone on the output queue, and with Q at 1 the trim is TRIM-FAST. -/
theorem takePressured_alone (queue : s.store.outputQueue = []) (gather : s.store.gatherList = [i]) (corrected : (s.slot i).state = .corrected)
    (role : (s.slot i).role = some .play) (hi : i < s.store.slots.length) (judged : s.judgesQ) : ∃ r : TakeResult,
    r.pairs.length = (s.slot i).pairs.length ∧ StandsAlone i (s.concealedSlot i r) (takePressured s) ∧ (takePressured s).carries .fast := by
  generalize result : concealPairs (s.slot i).closeLmax (rampStep (s.slot i).closeRamp) .nothing (s.slot i).stream s.conceal = r
  have length : r.pairs.length = (s.slot i).pairs.length := by
    rw [← result, (concealPairs_counts ..).1]
    exact List.length_mapIdx
  obtain ⟨storeOf, transport, output, -⟩ := frameTaken_leaves s i r
  have slot : (s.frameTaken i r).slot i = s.concealedSlot i r := by
    have written := slot_setSlot i i (s.concealedSlot i r) s
    rw [if_pos ⟨rfl, hi⟩] at written
    rw [← written]
    simp only [State.slot, storeOf]
  have queueOf : (s.frameTaken i r).store.outputQueue = [] := by rw [storeOf]; exact queue
  have none (f : Nat) : (s.frameTaken i r).outOfOrder f = [] := by
    unfold State.outOfOrder
    rw [queueOf] <;> rfl
  have joins := joinOutput_play (last := s.decoder.time) (s := s.frameTaken i r) (i := i) rfl (by rw [slot]; exact role)
    (by rw [none]; exact List.not_mem_nil)
  rw [none, freeSlots_nil] at joins
  generalize hu : count .framesDropped ([] : List Nat).length (s.frameTaken i r) = u at joins
  have slotOf : u.slot i = s.concealedSlot i r := by rw [← hu]; exact slot
  have queueBefore : u.store.outputQueue = [] := by rw [← hu]; exact queueOf
  have gatherBefore : u.store.gatherList = [i] := by rw [← hu]; show (s.frameTaken i r).store.gatherList = _; rw [storeOf]; exact gather
  have judges : u.judgesQ := by
    rw [← hu]
    simp only [State.judgesQ, count_transport, count_output, transport, output]
    exact judged
  have depth : (State.joined i u).depthQ = u.depthQ + 1 := joined_depthQ (by rw [slotOf]; exact role)
  have before : u.depthQ = 0 := by unfold State.depthQ; rw [queueBefore] <;> rfl
  have follows := joined_followsQ i u
  obtain ⟨trim, demand, moved⟩ := withDepths_trimmed (State.joined i) u
  have depthOf : (withDepths (State.joined i) u).depthQ = 1 := by
    rw [moved]
    exact depth.trans (by rw [before])
  have carries : (withDepths (State.joined i) u).carries .fast := by
    have table := follows.1 judges (by rw [depthOf, before]; decide)
    rw [depthOf] at table
    exact table
  have alone : StandsAlone i (s.concealedSlot i r) (withDepths (State.joined i) u) := by
    rw [moved]
    refine ⟨?_, slotOf, ?_⟩
    · show u.store.outputQueue ++ [i] = _
      rw [queueBefore] <;> rfl
    · show u.store.gatherList.filter _ = _
      rw [gatherBefore]
      simp
  obtain ⟨after, trimOf, demandOf⟩ := standsAlone_mixerRun alone role rfl Config.slotCount
  have taken : takePressured s = mixerRun Config.slotCount (withDepths (State.joined i) u) := by
    have head : s.correctedSlots = [i] := by
      unfold State.correctedSlots
      rw [gather, List.filter_singleton, corrected] <;> rfl
    have first : takeFrame s.decoder.time i .nothing s = mixerRun Config.slotCount (withDepths (State.joined i) u) :=
      (takeFrame_eq ..).trans ((by rw [result] : joinOutput .. = joinOutput s.decoder.time i (s.frameTaken i r)).trans joins)
    unfold takePressured
    rw [head]
    show takeFrames _ (takeFrame _ i .nothing s) = _
    rw [first, takeFrames_none]
    unfold State.correctedSlots
    rw [after.gather]
    exact Nat.zero_lt_two
  rw [taken]
  exact ⟨r, length, after, trimOf.trans carries.1, demandOf.trans carries.2⟩

/-! ### The boundary (R89, R93 to R96) -/

theorem underrunPairs_spec (step : Int) (n : Nat) (u : Conceal) :
    (underrunPairs step n u).2.length = n ∧ (underrunPairs step n u).1.held = u.held := by
  induction n generalizing u with
  | zero => exact ⟨rfl, rfl⟩
  | succ n ih =>
    obtain ⟨length, held⟩ := ih (mutedPair step u).1
    exact ⟨congrArg (· + 1) length, held⟩

/-- The state at a boundary before which nothing was output: the fade of an input frame has ended, and the word length is taken. -/
def State.fadeEnded (s : State) : State := { s with output := { s.output with
  fadeGain := if s.output.source = .input then 1024 else s.output.fadeGain
  fadesLeft := if s.output.source = .input then 0 else s.output.fadesLeft
  wordLength := s.activeBank.outputWordLength } }

theorem endOutputSlot_idle (h : s.output.playing = none) : endOutputSlot s = s := by
  unfold endOutputSlot
  rw [h]

theorem finishFrame_ended (frame : s.output.frame = []) (playing : s.output.playing = none) : finishFrame s = { s with
    output := { s.output with fadeGain := if s.output.source = .input then 1024 else s.output.fadeGain
                              fadesLeft := if s.output.source = .input then 0 else s.output.fadesLeft } } := by
  have left : s.output.frame.foldl (fun t item => leave item t) { s with output := { s.output with frame := [] } } = s := by
    rw [frame, List.foldl_nil, ← frame]
  unfold finishFrame
  dsimp only
  rw [left]
  by_cases input : s.output.source = .input
  · rw [if_pos input, if_pos input, if_pos input]
    exact endOutputSlot_idle (by exact playing)
  · rw [if_neg input, if_neg input, if_neg input]
    exact endOutputSlot_idle playing

/-- A boundary with no frame left and no slot being output. -/
theorem exec_boundary {begun : State × FrameKind × Bool} (frame : s.output.frame = []) (playing : s.output.playing = none)
    (begins : (if s.output.cut then cutBoundary s.fadeEnded else boundaryFrame s.fadeEnded) = begun) :
    exec .outputFrameBoundary s = .next (settle (sendStatus ⟨begun.1.activeBank.rate,
      frameField begun.2.2 s.previousField begun.2.1, begun.2.1.concealing⟩ begun.1)) := by
  have ended := finishFrame_ended frame playing
  show execOutputFrameBoundary s = _
  unfold execOutputFrameBoundary
  dsimp only
  rw [ended]
  have cut : s.fadeEnded.output.cut = s.output.cut := rfl
  rw [← cut] at begins
  subst begins
  rfl

theorem sendStatus_eq (r : OutputStatus) (s : State) : sendStatus r s = { s with output := { s.output with
    lastStatus := some r, statusByte := if s.output.lastStatus = some r then s.output.statusByte else some r.byte } } := by
  unfold sendStatus
  by_cases same : s.output.lastStatus = some r
  · rw [if_pos same, if_pos same, ← same]
  · rw [if_neg same, if_neg same]

theorem settle_sendStatus (r : OutputStatus) (quiet : s.quiet) : settle (sendStatus r s) = sendStatus r s := by
  rw [sendStatus_eq]
  exact settle_quiet quiet

/-- The boundary after a frame cut short: a gap, whatever the transport state. -/
theorem exec_boundary_cut (quiet : s.quiet) (frame : s.output.frame = []) (playing : s.output.playing = none) (cut : s.output.cut = true) :
    ∃ output : Output, exec .outputFrameBoundary s = .next { s with output := output } ∧ output.cut = false ∧
      output.source = s.output.source ∧ output.fadePair = s.output.heldPair ∧
      output.frame = List.replicate s.activeBank.ramp .down ++
        List.replicate (s.activeBank.rate.pairs - s.activeBank.ramp) (.plain ⟨0, 0⟩) ∧
      output.lastStatus = some ⟨s.activeBank.rate, s.previousField, true⟩ := by
  have begun := exec_boundary frame playing (if_pos cut)
  rw [settle_sendStatus _ (by exact quiet), sendStatus_eq] at begun
  exact ⟨_, begun, rfl, rfl, rfl, rfl, rfl⟩

theorem passOver_nil (s : State) : passOver [] s = s := rfl

/-- The frame of a boundary at which the source stays and no WRITING slot waits. -/
theorem boundaryFrame_steady (steady : s.transport.state.monitor = s.output.source) (unplayed : s.unplayed = []) :
    boundaryFrame s = ((beginFrame false s).1, (beginFrame false s).2, false) := by
  have same : decide (s.transport.state.monitor ≠ s.output.source) = false := by rw [steady]; simp
  unfold boundaryFrame
  dsimp only
  rw [same]
  simp only [Bool.false_eq_true, if_false, unplayed, passOver_nil, ite_self]

/-- An input frame that follows another. -/
theorem exec_boundary_input {field : CopyField} (quiet : s.quiet) (frame : s.output.frame = []) (playing : s.output.playing = none)
    (cut : s.output.cut = false) (unplayed : s.unplayed = []) (monitor : s.transport.state.monitor = .input)
    (source : s.output.source = .input) (fieldOf : s.inputFrameField = field) :
    exec .outputFrameBoundary s = .next { s with output := { s.output with
      fadeGain := 1024, fadesLeft := 0, wordLength := s.activeBank.outputWordLength
      lastStatus := some ⟨s.activeBank.rate, field, false⟩
      statusByte := if s.output.lastStatus = some ⟨s.activeBank.rate, field, false⟩ then s.output.statusByte
        else some (BitVec.ofNat 8 (s.activeBank.rate.code + 4 * field.code)) } } := by
  have input : beginFrame false s.fadeEnded = (({ s with output := { s.output with
      fadeGain := 1024, fadesLeft := 0, wordLength := s.activeBank.outputWordLength } } : State), ⟨some field, false⟩) := by
    have same : s.fadeEnded.inputFrameField = s.inputFrameField := rfl
    unfold beginFrame
    rw [show s.fadeEnded.output.source = .input from source]
    show beginInput false s.fadeEnded = _
    unfold beginInput
    rw [same, fieldOf]
    unfold State.fadeEnded
    simp only [source, if_true, ← frame] <;> rfl
  have begun := exec_boundary frame playing (begun := ((beginFrame false s.fadeEnded).1, (beginFrame false s.fadeEnded).2, false))
    ((if_neg (by rw [cut]; decide)).trans (boundaryFrame_steady (s := s.fadeEnded) (monitor.trans source.symm) unplayed))
  rw [input, settle_sendStatus _ (by exact quiet), sendStatus_eq] at begun
  exact begun

/-- An underrun with source TAPE. -/
theorem exec_boundary_underrun (quiet : s.quiet) (frame : s.output.frame = []) (playing : s.output.playing = none)
    (cut : s.output.cut = false) (unplayed : s.unplayed = []) (play : s.transport.state = .play) (source : s.output.source = .tape)
    (priming : s.output.priming = false) (empty : s.store.outputQueue = []) (u : State)
    (run : u = setFrame ((underrunPairs (rampStep s.activeBank.ramp) s.framePairs s.conceal).2.map .plain)
      { setCondition .conceal (count .underruns 1 s.fadeEnded) with
        conceal := (underrunPairs (rampStep s.activeBank.ramp) s.framePairs s.conceal).1 }) :
    ∃ output : Output, exec .outputFrameBoundary s = .next { takePressured u with output := output } ∧
      output.frame = u.output.frame ∧ output.lastStatus.map (·.concealing) = some true := by
  have input : beginFrame false s.fadeEnded = (takePressured u, ⟨none, true⟩) := by
    unfold beginFrame
    rw [show s.fadeEnded.output.source = .tape from source]
    show beginTape false s.fadeEnded = _
    unfold beginTape
    rw [if_neg (by decide), if_neg (by rw [show s.fadeEnded.output.priming = false from priming]; decide)]
    unfold beginTapeFrame State.playSlots
    rw [show s.fadeEnded.store.outputQueue = [] from empty, run] <;> rfl
  have begun := exec_boundary frame playing (begun := (takePressured u, ⟨none, true⟩, false))
    ((if_neg (by rw [cut]; decide)).trans ((boundaryFrame_steady (s := s.fadeEnded) (by
      show s.transport.state.monitor = s.output.source
      rw [play, source] <;> rfl) unplayed).trans (by rw [input])))
  have pressed := pressed_takePressured u
  have silent : u.output.playing = none := by rw [run]; exact playing
  have still : (takePressured u).quiet := by
    refine ⟨?_, ?_⟩
    · rw [pressed.sequencer, run]; exact quiet.1
    · rw [pressed.input, run]; exact quiet.2
  rw [settle_sendStatus _ still, sendStatus_eq] at begun
  exact ⟨_, begun, by rw [pressed.output silent], rfl⟩

end
end Sys2Proof.Machine

namespace Sys2Proof.Proofs
open Sys2Proof.Machine

/-- Settles O47. -/
theorem outputBoundary : Obligations.OutputBoundary := by
  intro s quiet idle frame playing
  refine ⟨fun cut => ?_, fun cut unplayed monitor source field analog digital => ?_, fun cut unplayed play source priming queue => ?_⟩
  · obtain ⟨output, begun, uncut, sourceOf, fade, frameOf, status⟩ := exec_boundary_cut quiet frame playing cut
    exact ⟨_, begun, uncut, sourceOf, fade, frameOf, status, rfl, rfl, rfl, rfl⟩
  · refine exec_boundary_input quiet frame playing cut unplayed monitor source ?_
    unfold State.inputFrameField
    cases selected : s.input.selected with
    | analog => exact (analog selected).symm
    | digital => exact (digital selected).symm
  · obtain ⟨output, begun, frameOf, status⟩ := exec_boundary_underrun quiet frame playing cut unplayed play source priming queue _ rfl
    generalize hu : setFrame _ _ = u at begun frameOf
    have pressed := pressed_takePressured u
    obtain ⟨length, held⟩ := underrunPairs_spec (rampStep s.activeBank.ramp) s.framePairs s.conceal
    refine ⟨_, begun, ?_, ?_, ?_, ?_, status, ?_, ?_, fun none => ?_, fun i alone corrected role hi => ?_⟩
    · rw [frameOf, ← hu]
      show (List.map _ _).length = _
      rw [List.length_map, length] <;> rfl
    · exact (pressed.underruns .system).trans (by rw [← hu] <;> rfl)
    · exact (pressed.underruns .link).trans (by rw [← hu] <;> rfl)
    · have set : u.sequencer.conditions = s.sequencer.conditions ||| 2#7 := by rw [← hu] <;> rfl
      rcases pressed.conditions with same | again
      · exact same.trans set
      · refine again.trans ?_
        rw [set, BitVec.or_assoc, BitVec.or_self]
    · exact pressed.decoder.trans (by rw [← hu] <;> rfl)
    · exact pressed.mixer.trans (by rw [← hu] <;> rfl)
    · have still : takePressured u = u := by
        have empty : u.correctedSlots = [] := by
          unfold State.correctedSlots
          rw [← hu]
          show s.store.gatherList.filter _ = []
          rw [none] <;> rfl
        unfold takePressured
        rw [empty]
      rw [still, ← hu]
      exact ⟨rfl, rfl, held⟩
    · have judged : u.judgesQ := by rw [← hu]; exact ⟨play, source, priming⟩
      obtain ⟨r, lengthOf, stands, carries⟩ := takePressured_alone (s := u) (i := i) (by rw [← hu]; exact queue)
        (by rw [← hu]; exact alone) (by rw [← hu]; exact corrected) (by rw [← hu]; exact role) (by rw [← hu]; exact hi) judged
      have same : u.slot i = s.slot i := by rw [← hu] <;> rfl
      have slotOf : (takePressured u).slot i = s.concealedSlot i r := stands.slot.trans (by rw [State.concealedSlot, same] <;> rfl)
      refine ⟨(congrArg Slot.state slotOf :), (congrArg Slot.frameTime slotOf :), ?_, stands.queue, stands.gather, carries⟩
      show ((takePressured u).slot i).pairs.length = _
      rw [slotOf, ← same]
      exact lengthOf

end Sys2Proof.Proofs
end

section
/-!
The boundary of the output clock with a slot taken for it, a frame of priming, or a change of source (R33, R37, R38, R91 to R96, R107,
R108). Settles O48.
-/

namespace Sys2Proof.Machine

section
variable {s t u d : State} {l : List Nat} {i : Nat}

/-! ### A boundary before the last pair (log entry 3) -/

/-- The fade of an input frame is over. -/
def State.faded (s : State) : State := { s with output := { s.output with fadeGain := 1024, fadesLeft := 0 } }

theorem judgeQ_faded (s : State) : judgeQ s.faded = (judgeQ s).faded := by
  by_cases h : s.judgesQ
  · have before : judgeQ s = setTrim (trimByQ s.store.trim s.depthQ) s := if_pos h
    have after : judgeQ s.faded = setTrim (trimByQ s.store.trim s.depthQ) s.faded := if_pos h
    rw [before, after] <;> rfl
  · rw [judgeQ_of_not_judgesQ h, judgeQ_of_not_judgesQ (s := s.faded) h]

theorem judgeW_faded (s : State) : judgeW s.faded = (judgeW s).faded := by
  by_cases h : s.transport.state = .record
  · have before : judgeW s = setTrim (trimByW s.store.trim s.depthW) s := if_pos h
    have after : judgeW s.faded = setTrim (trimByW s.store.trim s.depthW) s.faded := if_pos h
    rw [before, after] <;> rfl
  · rw [judgeW_of_ne_record h, judgeW_of_ne_record (s := s.faded) h]

theorem withDepths_faded {f : State → State} (comm : f s.faded = (f s).faded) : withDepths f s.faded = (withDepths f s).faded := by
  have q : (if (f s).faded.depthQ = s.faded.depthQ then (f s).faded else judgeQ (f s).faded) =
      (if (f s).depthQ = s.depthQ then f s else judgeQ (f s)).faded := by
    rw [judgeQ_faded]
    exact (apply_ite State.faded _ _ _).symm
  unfold withDepths
  dsimp only
  rw [comm, q, judgeW_faded]
  exact (apply_ite State.faded _ _ _).symm

theorem freeOne_faded (s : State) (i : Nat) : freeOne s.faded i = (freeOne s i).faded := by
  unfold freeOne
  dsimp only
  by_cases h : s.output.playing = some i
  · rw [if_pos (show (setSlot i Slot.freed s.faded).output.playing = some i from h),
      if_pos (show (setSlot i Slot.freed s).output.playing = some i from h)] <;> rfl
  · rw [if_neg (show ¬ (setSlot i Slot.freed s.faded).output.playing = some i from h),
      if_neg (show ¬ (setSlot i Slot.freed s).output.playing = some i from h)] <;> rfl

theorem freeSlots_faded (i : Nat) (s : State) : freeSlots [i] s.faded = (freeSlots [i] s).faded :=
  withDepths_faded (f := fun t => [i].foldl freeOne t) (freeOne_faded s i)

theorem monitorFinished_faded (i : Nat) (s : State) : monitorFinished i s.faded = (monitorFinished i s).faded := by
  unfold monitorFinished
  dsimp only
  rw [show updateSlot i (fun v => { v with monitor := .finished }) s.faded =
    (updateSlot i (fun v => { v with monitor := .finished }) s).faded from rfl, freeSlots_faded]
  exact (apply_ite State.faded _ _ _).symm

theorem endOutputSlot_faded (s : State) : endOutputSlot s.faded = (endOutputSlot s).faded := by
  cases playing : s.output.playing with
  | none => rw [endOutputSlot_idle playing, endOutputSlot_idle (s := s.faded) playing]
  | some i =>
    have out : ({ s.faded with output := { s.faded.output with playing := none } } : State) =
      ({ s with output := { s.output with playing := none } } : State).faded := rfl
    unfold endOutputSlot
    rw [playing, show s.faded.output.playing = some i from playing]
    dsimp only
    rw [out, freeSlots_faded, monitorFinished_faded, ← apply_ite State.faded]
    exact (apply_ite State.faded _ _ _).symm

/-- An item leaves whatever stands behind it. -/
theorem leave_frame (item : OutputItem) (a b : List OutputItem) (s : State) :
    ({ leave item { s with output := { s.output with frame := a } } with output :=
      { (leave item { s with output := { s.output with frame := a } }).output with frame := b } } : State) =
      leave item { s with output := { s.output with frame := b } } := by
  cases item <;> rfl

theorem leave_source (item : OutputItem) (s : State) : (leave item s).output.source = s.output.source ∧
    (leave item s).output.frame = s.output.frame ∧ (leave item s).output.playing = s.output.playing := by
  cases item <;> exact ⟨rfl, rfl, rfl⟩

/-- The end of the slot being output leaves an empty frame empty, and the source. -/
theorem endOutputSlot_frame (empty : s.output.frame = []) :
    (endOutputSlot s).output.frame = [] ∧ (endOutputSlot s).output.source = s.output.source := by
  have freed (i : Nat) (t : State) (e : t.output.frame = []) :
      (freeSlots [i] t).output.frame = [] ∧ (freeSlots [i] t).output.source = t.output.source := by
    have frees := freeSlots_frees [i] t
    refine ⟨?_, by rw [frees.work.output]⟩
    rw [frees.frame, e, ite_self]
  unfold endOutputSlot
  split
  · exact ⟨empty, rfl⟩
  · dsimp only
    split
    · exact freed _ _ empty
    · split
      · unfold monitorFinished
        dsimp only
        split
        · exact freed _ _ empty
        · exact ⟨empty, rfl⟩
      · exact ⟨empty, rfl⟩

/-- Items leave, and the fade of an input frame is over. -/
def leaveAll (items : List OutputItem) (s : State) : State :=
  let t := items.foldl (fun t item => leave item t) s
  if t.output.source = .input then t.faded else t

/-- What is left of a frame leaves. -/
def State.leftOver (s : State) : State := leaveAll s.output.frame { s with output := { s.output with frame := [] } }

theorem finishFrame_eq (s : State) : finishFrame s = endOutputSlot s.leftOver := rfl

/-- The slot that ends with the last pair has ended already where the boundary finds nothing left. -/
theorem finishFrame_tick {item : OutputItem} {rest : List OutputItem} (frame : s.output.frame = item :: rest) :
    finishFrame (if rest.isEmpty then endOutputSlot (leave item { s with output := { s.output with frame := rest } })
      else leave item { s with output := { s.output with frame := rest } }) = finishFrame s := by
  have leftOf : s.leftOver = leaveAll rest (leave item { s with output := { s.output with frame := [] } }) := by
    unfold State.leftOver
    rw [frame] <;> rfl
  cases rest with
  | nil =>
    rw [finishFrame_eq s, leftOf]
    generalize ht : leave item { s with output := { s.output with frame := [] } } = t
    have empty : t.output.frame = [] := by rw [← ht, (leave_source ..).2.1]
    show finishFrame (endOutputSlot t) = endOutputSlot (if t.output.source = .input then t.faded else t)
    have silent := endOutputSlot_silent t
    obtain ⟨frameOf, source⟩ := endOutputSlot_frame empty
    have ended : (endOutputSlot t).leftOver = if t.output.source = .input then (endOutputSlot t).faded else endOutputSlot t := by
      have same : ({ endOutputSlot t with output := { (endOutputSlot t).output with frame := [] } } : State) = endOutputSlot t := by
        rw [← frameOf]
      unfold State.leftOver
      rw [frameOf, same]
      exact congrArg (fun c => if c = MonitorSource.input then (endOutputSlot t).faded else endOutputSlot t) source
    rw [finishFrame_eq, ended]
    split
    · rw [endOutputSlot_faded, endOutputSlot_faded, endOutputSlot_idle silent]
    · exact endOutputSlot_idle silent
  | cons next rest =>
    rw [finishFrame_eq s, leftOf]
    show finishFrame (leave item { s with output := { s.output with frame := next :: rest } }) = _
    rw [finishFrame_eq]
    refine congrArg endOutputSlot ?_
    unfold State.leftOver
    rw [(leave_source ..).2.1, leave_frame]

/-! ### Slots freed and passed over (R37, R94) -/

/-- Concealed slots freed at a time when Q is not judged: their records and the output queue. -/
theorem foldl_freeOne_queued {fs : List Nat} (sound : SoundWith l s) (concealed : ∀ k ∈ fs, (s.slot k).state = .concealed) (nodup : fs.Nodup) :
    ∃ slots, fs.foldl freeOne s = { s with store := { s.store with
      slots := slots, outputQueue := s.store.outputQueue.filter (· ∉ fs) } } := by
  induction fs generalizing s with
  | nil => exact ⟨s.store.slots, by simp⟩
  | cons k fs ih =>
    obtain ⟨other, nodup⟩ := List.nodup_cons.1 nodup
    have one := sound.freeOne_queued (concealed k (List.mem_cons_self ..))
    have frees := freeOne_frees s k
    have still : SoundWith l (freeOne s k) := by
      have freed := sound.frees frees
      rwa [List.filter_eq_self.2 fun j hj => ?_] at freed
      have gathering := sound.mem_gathering.1 hj
      have : j ≠ k := by rintro rfl; rw [concealed j (List.mem_cons_self ..)] at gathering; cases gathering
      simpa using this
    obtain ⟨slots, whole⟩ := ih still (fun j hj => by
      have : j ≠ k := by rintro rfl; exact other hj
      rw [frees.slot, if_neg (by simpa using this)]
      exact concealed j (List.mem_cons_of_mem _ hj)) nodup
    refine ⟨slots, ?_⟩
    rw [List.foldl_cons, whole, one]
    dsimp only
    rw [List.filter_filter]
    have same : (s.store.outputQueue.filter fun a => decide (a ∉ fs) && (a != k)) = s.store.outputQueue.filter (· ∉ k :: fs) :=
      List.filter_congr fun j _ => by by_cases e : j = k <;> simp [e]
    rw [same]

theorem freeSlots_queued {fs : List Nat} (sound : SoundWith l s) (concealed : ∀ k ∈ fs, (s.slot k).state = .concealed) (nodup : fs.Nodup)
    (unjudged : ¬ s.judgesQ) : ∃ slots, freeSlots fs s = { s with store := { s.store with
      slots := slots, outputQueue := s.store.outputQueue.filter (· ∉ fs) } } ∧
      (∀ k, slots.getD k Slot.freed = if k ∈ fs then Slot.freed else s.slot k) ∧ SoundWith l (freeSlots fs s) := by
  obtain ⟨slots, one⟩ := foldl_freeOne_queued sound concealed nodup
  have frees := freeSlots_frees fs s
  have whole : freeSlots fs s = fs.foldl freeOne s := by
    refine withDepths_unjudged (f := fun t => fs.foldl freeOne t) ?_ ?_
    · rw [one]; exact unjudged
    · rw [one] <;> rfl
  rw [one] at whole
  refine ⟨slots, whole, fun k => ?_, sound.freeSlots fun k hk e => by rw [concealed k hk] at e; cases e⟩
  rw [← frees.slot k, whole] <;> rfl

/-- A WRITING slot passed over. -/
def Slot.ended (v : Slot) : Slot := if v.supplyDone then Slot.freed else { v with monitor := .finished }

/-- WRITING slots passed over while no slot is being output: their records, and the current write frame. -/
theorem passOver_spec {fs : List Nat} (sound : SoundWith l s) (silent : s.output.playing = none)
    (writing : ∀ k ∈ fs, (s.slot k).state = .writing) (nodup : fs.Nodup) : ∃ slots current, passOver fs s = { s with
      store := { s.store with slots := slots }, coder := { s.coder with current := current } } ∧
      (∀ k, slots.getD k Slot.freed = if k ∈ fs then (s.slot k).ended else s.slot k) ∧ SoundWith l (passOver fs s) := by
  induction fs generalizing s with
  | nil => exact ⟨s.store.slots, s.coder.current, rfl, fun k => by simp [State.slot], sound⟩
  | cons i fs ih =>
    obtain ⟨other, nodup⟩ := List.nodup_cons.1 nodup
    have state := writing i (List.mem_cons_self ..)
    have hi := sound.lt (i := i) (by rw [state]; decide)
    obtain ⟨current, one⟩ : ∃ current, monitorFinished i s = { s with
        store := { s.store with slots := s.store.slots.set i (s.slot i).ended }, coder := { s.coder with current := current } } := by
      rw [monitorFinished_eq sound state silent]
      unfold Slot.ended
      split
      · exact ⟨_, rfl⟩
      · exact ⟨s.coder.current, rfl⟩
    have slot (k : Nat) : (monitorFinished i s).slot k = if k = i then (s.slot i).ended else s.slot k := by
      rw [one]
      exact slot_setSlot_of sound.length hi (s.slot i).ended k
    have still : SoundWith l (monitorFinished i s) := (sane_monitorFinished state).sound l sound
    obtain ⟨slots, current', whole, slotOf, after⟩ := ih still (by rw [one]; exact silent) (fun k hk => by
      have : k ≠ i := by rintro rfl; exact other hk
      rw [slot, if_neg this]
      exact writing k (List.mem_cons_of_mem _ hk)) nodup
    refine ⟨slots, current', ?_, fun k => ?_, after⟩
    · show passOver fs (monitorFinished i s) = _
      rw [whole, one]
    · rw [slotOf, slot]
      by_cases e : k = i
      · subst e
        rw [if_neg other, if_pos rfl, if_pos (List.mem_cons_self ..)]
      · simp [e]

/-! ### The change of source (R37, R91, R92) -/

/-- The output after a change of source, or none. -/
def State.sourcedOutput (s : State) (changing : Bool) : Output := { s.output with
  source := s.transport.state.monitor
  priming := if changing then decide (s.transport.state.monitor = .tape) else s.output.priming
  fadePair := if changing then s.output.heldPair else s.output.fadePair
  fadeStep := if changing then rampStep s.activeBank.ramp else s.output.fadeStep }

/-- The state with the source that the transport state calls for. -/
def State.sourced (s : State) : State :=
  if decide (s.transport.state.monitor ≠ s.output.source) then changeSource s.transport.state.monitor s else s

theorem sourced_spec {changing : Bool} (sound : SoundWith l s) (changes : decide (s.transport.state.monitor ≠ s.output.source) = changing) :
    ∃ slots, s.sourced = { s with
      output := s.sourcedOutput changing
      store := { s.store with
        slots := slots
        outputQueue := if changing = true ∧ s.output.source = .tape then
            s.store.outputQueue.filter (fun k => decide ((s.slot k).role ≠ some .play))
          else s.store.outputQueue } } ∧
      (∀ k, slots.getD k Slot.freed = if changing = true ∧ s.output.source = .tape ∧ k ∈ s.store.outputQueue ∧
        (s.slot k).role = some .play then Slot.freed else s.slot k) ∧ SoundWith l s.sourced := by
  unfold State.sourced
  rw [changes]
  cases changing with
  | false =>
    have same : s.transport.state.monitor = s.output.source := by simpa using changes
    refine ⟨s.store.slots, ?_, fun k => by simp [State.slot], sound⟩
    simp only [State.sourcedOutput, Bool.false_eq_true, if_false, false_and, same]
  | true =>
    have differ : s.transport.state.monitor ≠ s.output.source := by simpa using changes
    have concealed : ∀ k ∈ s.playSlots, (s.slot k).state = .concealed := fun k hk => sound.mem_outputQueue.1 (List.mem_filter.1 hk).1
    have nodup : s.playSlots.Nodup := by
      obtain ⟨-, -, -, -, nodup, -⟩ := sound.collections
      exact nodup.filter _
    have mem (k : Nat) : k ∈ s.playSlots ↔ k ∈ s.store.outputQueue ∧ (s.slot k).role = some .play := by
      simp [State.playSlots]
    by_cases tape : s.output.source = .tape
    · have unjudged : ¬ s.judgesQ := fun judged => differ (by rw [tape, judged.1] <;> rfl)
      obtain ⟨slots, freed, slotOf, after⟩ := freeSlots_queued sound concealed nodup unjudged
      have changed : changeSource s.transport.state.monitor s = startFade { freeSlots s.playSlots s with
          output := { (freeSlots s.playSlots s).output with
            source := s.transport.state.monitor, priming := s.transport.state.monitor == .tape } } := by
        unfold changeSource
        dsimp only
        rw [if_pos tape]
      refine ⟨slots, ?_, fun k => ?_, ?_⟩
      · show changeSource _ s = _
        rw [changed, freed]
        have queue : s.store.outputQueue.filter (· ∉ s.playSlots) =
            s.store.outputQueue.filter (fun k => decide ((s.slot k).role ≠ some .play)) :=
          List.filter_congr fun k hk => by simp [mem, hk]
        rw [queue, if_pos ⟨rfl, tape⟩]
        simp only [startFade, State.sourcedOutput, if_true, beq_eq_decide] <;> rfl
      · rw [slotOf]
        simp [mem, tape]
      · show SoundWith l (changeSource _ s)
        rw [changed]
        exact after.of
    · have changed : changeSource s.transport.state.monitor s = startFade { s with output := { s.output with
            source := s.transport.state.monitor, priming := s.transport.state.monitor == .tape } } := by
        unfold changeSource
        dsimp only
        rw [if_neg tape]
      refine ⟨s.store.slots, ?_, fun k => ?_, ?_⟩
      · show changeSource _ s = _
        rw [changed, if_neg fun h => tape h.2]
        simp only [startFade, State.sourcedOutput, if_true, beq_eq_decide] <;> rfl
      · rw [if_neg fun h => tape h.2.1] <;> rfl
      · show SoundWith l (changeSource _ s)
        rw [changed]
        exact sound.of

/-! ### The state before the frame begins -/

/-- `d` is the state before the frame of a boundary begins: the source has changed if it must, and the slots `fs` are passed over. -/
structure Readied (l : List Nat) (changing : Bool) (fs : List Nat) (s d : State) : Prop where
  output : d.output = s.fadeEnded.sourcedOutput changing
  rest : d = { s with
    output := d.output, coder := { s.coder with current := d.coder.current }
    store := { s.store with slots := d.store.slots, outputQueue := d.store.outputQueue } }
  queue : d.store.outputQueue = if changing = true ∧ s.output.source = .tape then
    s.store.outputQueue.filter (fun k => decide ((s.slot k).role ≠ some .play)) else s.store.outputQueue
  slot : ∀ k, d.slot k = if k ∈ fs then (s.slot k).ended else
    if changing = true ∧ s.output.source = .tape ∧ k ∈ s.store.outputQueue ∧ (s.slot k).role = some .play then Slot.freed else s.slot k
  sound : SoundWith l d

theorem mem_unplayed_iff (sound : SoundWith l s) (k : Nat) :
    k ∈ s.unplayed ↔ (s.slot k).state = .writing ∧ (s.slot k).monitor = .notBegun := by
  unfold State.unplayed State.slotsWhere
  rw [List.mem_filter, List.mem_range]
  simp only [Bool.and_eq_true, beq_iff_eq]
  exact ⟨fun h => h.2, fun h => ⟨sound.lt (by rw [h.1]; decide), h⟩⟩

theorem sourced_slot {changing : Bool} (sound : SoundWith l s) (changes : decide (s.transport.state.monitor ≠ s.output.source) = changing)
    (k : Nat) : s.sourced.slot k = if changing = true ∧ s.output.source = .tape ∧ k ∈ s.store.outputQueue ∧
      (s.slot k).role = some .play then Slot.freed else s.slot k := by
  obtain ⟨slots, whole, slotOf, -⟩ := sourced_spec sound changes
  rw [← slotOf, whole] <;> rfl

theorem sourced_unplayed (sound : SoundWith l s) : s.sourced.unplayed = s.unplayed := by
  unfold State.unplayed State.slotsWhere
  refine List.filter_congr fun k _ => ?_
  rw [sourced_slot sound rfl]
  split
  · next freed =>
    have concealed := sound.mem_outputQueue.1 freed.2.2.1
    show (SlotState.free == .writing && Slot.freed.monitor == .notBegun) =
      ((s.slot k).state == .writing && (s.slot k).monitor == .notBegun)
    rw [concealed] <;> rfl
  · rfl

theorem readied_passOver {changing : Bool} {fs : List Nat} (sound : SoundWith l s) (silent : s.output.playing = none)
    (changes : decide (s.transport.state.monitor ≠ s.output.source) = changing) (waits : ∀ k ∈ fs, k ∈ s.unplayed) (nodup : fs.Nodup) :
    Readied l changing fs s (passOver fs s.fadeEnded.sourced) := by
  have sound' : SoundWith l s.fadeEnded := sound.of
  obtain ⟨slots, whole, slotOf, after⟩ := sourced_spec (changing := changing) sound' changes
  have writing : ∀ k ∈ fs, (s.fadeEnded.sourced.slot k).state = .writing := fun k hk =>
    mem_unplayed (s := s.fadeEnded.sourced) (by rw [sourced_unplayed sound']; exact waits k hk)
  obtain ⟨slots', current, passed, slotOf', after'⟩ := passOver_spec after (by rw [whole]; exact silent) writing nodup
  have sourced := sourced_slot (changing := changing) sound' changes
  refine ⟨?_, ?_, ?_, fun k => ?_, after'⟩
  · rw [passed, whole]
  · rw [passed, whole] <;> rfl
  · rw [passed, whole] <;> rfl
  · have at_k : (passOver fs s.fadeEnded.sourced).slot k =
        if k ∈ fs then (s.fadeEnded.sourced.slot k).ended else s.fadeEnded.sourced.slot k := by
      rw [← slotOf', passed] <;> rfl
    rw [at_k]
    by_cases hk : k ∈ fs
    · rw [if_pos hk, if_pos hk, sourced, if_neg]
      · rfl
      · rintro ⟨-, -, queued, -⟩
        have concealed := sound.mem_outputQueue.1 queued
        rw [mem_unplayed (waits k hk)] at concealed
        cases concealed
    · rw [if_neg hk, if_neg hk, sourced] <;> rfl

/-- The frame of a boundary begins on a readied state: with source RECORD nothing is passed over before it. -/
theorem boundaryFrame_readied {changing : Bool} (sound : SoundWith l s) (silent : s.output.playing = none)
    (changes : decide (s.transport.state.monitor ≠ s.output.source) = changing) : ∃ fs d, Readied l changing fs s d ∧
      fs = (if s.transport.state.monitor = .record then [] else s.unplayed) ∧
      boundaryFrame s.fadeEnded = ((beginFrame changing d).1, (beginFrame changing d).2, changing) := by
  have sound' : SoundWith l s.fadeEnded := sound.of
  have source : s.fadeEnded.sourced.output.source = s.transport.state.monitor := by
    obtain ⟨slots, whole, -⟩ := sourced_spec (changing := changing) sound' changes
    rw [whole] <;> rfl
  have begun (d : State) (ready : (if s.fadeEnded.sourced.output.source = .record then s.fadeEnded.sourced
      else passOver s.fadeEnded.sourced.unplayed s.fadeEnded.sourced) = d) :
      boundaryFrame s.fadeEnded = ((beginFrame changing d).1, (beginFrame changing d).2, changing) := by
    subst changes ready
    rfl
  by_cases record : s.transport.state.monitor = .record
  · refine ⟨[], passOver [] s.fadeEnded.sourced, readied_passOver sound silent changes (by simp) List.nodup_nil, (if_pos record).symm,
      begun _ (if_pos (source.trans record))⟩
  · refine ⟨s.unplayed, passOver s.unplayed s.fadeEnded.sourced, readied_passOver sound silent changes (fun _ h => h) (unplayed_nodup s),
      (if_neg record).symm, begun _ ?_⟩
    rw [if_neg (by rw [source]; exact record), sourced_unplayed sound'] <;> rfl

/-! ### The frame that begins -/

/-- `u` has begun a frame of the items `frame`, slot `playing` being output, as far as the status record. -/
structure Begun (changing : Bool) (frame : List OutputItem) (playing : Option Nat) (s u : State) : Prop where
  source : u.output.source = s.transport.state.monitor
  frame : u.output.frame = frame
  playing : u.output.playing = playing
  wordLength : u.output.wordLength = s.activeBank.outputWordLength
  heldPair : u.output.heldPair = s.output.heldPair
  lastStatus : u.output.lastStatus = s.output.lastStatus
  statusByte : u.output.statusByte = s.output.statusByte
  change : changing = true → u.output.fadePair = s.output.heldPair ∧ u.output.fadeStep = 1024 / (s.activeBank.ramp : Int) ∧
    u.output.priming = decide (s.transport.state.monitor = .tape)
  rest : u = { s with
    output := u.output, store := u.store, coder := { s.coder with current := u.coder.current }
    transport := { s.transport with demand := u.transport.demand } }
  captureList : u.store.captureList = s.store.captureList
  writeQueue : u.store.writeQueue = s.store.writeQueue
  gatherList : u.store.gatherList = s.store.gatherList

/-- The state with its status record formed. -/
def State.reporting (u : State) (r : OutputStatus) : State := { u with output := { u.output with
  lastStatus := some r, statusByte := if u.output.lastStatus = some r then u.output.statusByte else some r.byte } }

/-- A boundary under whose status record the frame begun is output. -/
theorem exec_begun {changing : Bool} {frame : List OutputItem} {playing : Option Nat} {kind : FrameKind} {copy : CopyField}
    (begun : Begun changing frame playing s u) (quiet : s.quiet) (ended : s.output.frame = []) (silent : s.output.playing = none)
    (cut : s.output.cut = false) (begins : boundaryFrame s.fadeEnded = (u, kind, changing))
    (field : frameField changing s.previousField kind = copy) :
    let r : OutputStatus := ⟨s.activeBank.rate, copy, kind.concealing⟩
    let t := u.reporting r
    exec .outputFrameBoundary s = .next t ∧ t.output.source = s.transport.state.monitor ∧ t.output.frame = frame ∧
      t.output.playing = playing ∧ t.output.wordLength = s.activeBank.outputWordLength ∧ t.output.heldPair = s.output.heldPair ∧
      t.output.lastStatus = some r ∧ t.output.statusByte = (if s.output.lastStatus = some r then s.output.statusByte
        else some (BitVec.ofNat 8 (r.rate.code + 4 * copy.code + 16 * kind.concealing.toNat))) ∧
      (changing = true → t.output.fadePair = s.output.heldPair ∧ t.output.fadeStep = 1024 / (s.activeBank.ramp : Int) ∧
        t.output.priming = decide (s.transport.state.monitor = .tape)) ∧
      t = { s with
        output := t.output, store := t.store, coder := { s.coder with current := t.coder.current }
        transport := { s.transport with demand := t.transport.demand } } ∧
      t.store.captureList = s.store.captureList ∧ t.store.writeQueue = s.store.writeQueue ∧
      t.store.gatherList = s.store.gatherList := by
  intro r t
  have bank : u.activeBank = s.activeBank := by rw [begun.rest] <;> rfl
  have still : u.quiet := by rw [begun.rest]; exact quiet
  have ran := exec_boundary ended silent ((if_neg (by rw [cut]; decide)).trans begins)
  rw [settle_sendStatus _ still, sendStatus_eq, bank, field] at ran
  refine ⟨ran, begun.source, begun.frame, begun.playing, begun.wordLength, begun.heldPair, rfl, ?_, begun.change, ?_,
    begun.captureList, begun.writeQueue, begun.gatherList⟩
  · show (if u.output.lastStatus = some r then u.output.statusByte else some r.byte) = _
    rw [begun.lastStatus, begun.statusByte] <;> rfl
  · exact congrArg (State.reporting · r) begun.rest

/-- A frame begins on a readied state: what its beginning writes of the output, and which collections it leaves. -/
theorem Readied.begun {changing : Bool} {fs : List Nat} {frame : List OutputItem} {playing : Option Nat} (ready : Readied l changing fs s d)
    (rest : u = { d with output := u.output, store := u.store, coder := { d.coder with current := u.coder.current }
                         transport := { d.transport with demand := u.transport.demand } })
    (frameOf : u.output.frame = frame) (playingOf : u.output.playing = playing)
    (source : u.output.source = d.output.source := by rfl) (wordLength : u.output.wordLength = d.output.wordLength := by rfl)
    (heldPair : u.output.heldPair = d.output.heldPair := by rfl) (lastStatus : u.output.lastStatus = d.output.lastStatus := by rfl)
    (statusByte : u.output.statusByte = d.output.statusByte := by rfl)
    (change : changing = true → u.output.fadePair = d.output.fadePair ∧ u.output.fadeStep = d.output.fadeStep ∧
      u.output.priming = d.output.priming := by exact fun _ => ⟨rfl, rfl, rfl⟩)
    (captureList : u.store.captureList = d.store.captureList := by rfl) (writeQueue : u.store.writeQueue = d.store.writeQueue := by rfl)
    (gatherList : u.store.gatherList = d.store.gatherList := by rfl) : Begun changing frame playing s u where
  source := source.trans (by rw [ready.output] <;> rfl)
  frame := frameOf
  playing := playingOf
  wordLength := wordLength.trans (by rw [ready.output] <;> rfl)
  heldPair := heldPair.trans (by rw [ready.output] <;> rfl)
  lastStatus := lastStatus.trans (by rw [ready.output] <;> rfl)
  statusByte := statusByte.trans (by rw [ready.output] <;> rfl)
  change := fun changes => by
    obtain ⟨pair, step, priming⟩ := change changes
    rw [pair, step, priming, ready.output]
    subst changes
    exact ⟨rfl, rfl, rfl⟩
  rest := rest.trans (by
    generalize u.output = output
    generalize u.store = store
    generalize u.coder.current = current
    generalize u.transport.demand = demand
    rw [ready.rest] <;> rfl)
  captureList := captureList.trans (by rw [ready.rest] <;> rfl)
  writeQueue := writeQueue.trans (by rw [ready.rest] <;> rfl)
  gatherList := gatherList.trans (by rw [ready.rest] <;> rfl)

/-- The trim and the demand are those of before, and the source the one called for. -/
theorem Readied.keeps {changing : Bool} {fs : List Nat} (ready : Readied l changing fs s d) :
    d.store.trim = s.store.trim ∧ d.transport = s.transport ∧ d.output.source = s.transport.state.monitor ∧ d.output.playing = s.output.playing ∧
    d.activeBank = s.activeBank ∧ d.copy = s.copy ∧ d.input = s.input := by
  rw [ready.rest, ready.output]
  exact ⟨rfl, rfl, rfl, rfl, rfl, rfl, rfl⟩

/-- The slots of the output queue are not passed over, and with the source unchanged none is freed. -/
theorem Readied.queued {changing : Bool} {fs : List Nat} (ready : Readied l changing fs s d) (still : changing = false)
    (sound : SoundWith l s) (waits : ∀ k ∈ fs, k ∈ s.unplayed) :
    d.store.outputQueue = s.store.outputQueue ∧ (∀ k ∈ s.store.outputQueue, d.slot k = s.slot k) ∧ d.depthQ = s.depthQ := by
  subst still
  have queue : d.store.outputQueue = s.store.outputQueue := ready.queue
  have slot : ∀ k ∈ s.store.outputQueue, d.slot k = s.slot k := fun k hk => by
    rw [ready.slot, if_neg, if_neg (by simp)]
    intro passed
    have writing := mem_unplayed (waits k passed)
    rw [sound.mem_outputQueue.1 hk] at writing
    cases writing
  refine ⟨queue, slot, ?_⟩
  unfold State.depthQ
  rw [queue]
  exact congrArg List.length (List.filter_congr fun k hk => by rw [slot k hk])

/-! ### Frames of each source (R33, R38, R92 to R94) -/

theorem beginFrame_primes {changing : Bool} (source : d.output.source = .tape)
    (primes : changing = true ∨ changing = false ∧ d.output.priming = true ∧ d.depthQ < 3) : beginFrame changing d =
      (setFrame (if changing then fadeToZero d.activeBank.ramp d.framePairs else zeroItems d.framePairs) d, ⟨none, false⟩) := by
  unfold beginFrame
  rw [source]
  show beginTape changing d = _
  unfold beginTape
  rcases primes with changes | ⟨still, priming, few⟩
  · rw [if_pos changes, if_pos changes]
  · subst still
    exact (if_neg Bool.false_ne_true).trans ((if_pos priming).trans (if_neg (by omega)))

/-- Priming over, where it was not before. -/
def State.primed (d : State) : State := if d.output.priming then endPriming d else d

theorem primed_eq (judged : d.transport.state = .play ∧ d.output.source = .tape) : ∃ trim demand, d.primed = { d with
    output := { d.output with priming := false }, store := { d.store with trim := trim }, transport := { d.transport with demand := demand } } ∧
    trim = if d.output.priming then d.store.trim.afterQ d.depthQ else d.store.trim := by
  unfold State.primed
  by_cases priming : d.output.priming = true
  · rw [if_pos priming]
    have carries := judgeQ_carries (s := { d with output := { d.output with priming := false } }) ⟨judged.1, judged.2, rfl⟩
    obtain ⟨trim, demand, whole⟩ := judgeQ_trimmed { d with output := { d.output with priming := false } }
    refine ⟨trim, demand, whole, ?_⟩
    rw [if_pos priming]
    rw [whole] at carries
    exact carries.1
  · rw [if_neg priming]
    have off : d.output.priming = false := by simpa using priming
    exact ⟨d.store.trim, d.transport.demand, by rw [← off], (if_neg priming).symm⟩

/-- The oldest PLAY slot of the output queue is played. -/
theorem beginFrame_plays {before after : List Nat} (play : d.transport.state = .play) (source : d.output.source = .tape)
    (enough : d.output.priming = true → 3 ≤ d.depthQ) (queue : d.store.outputQueue = before ++ i :: after)
    (others : ∀ k ∈ before, (d.slot k).role ≠ some .play) (role : (d.slot i).role = some .play) (nodup : d.store.outputQueue.Nodup)
    (hi : i < d.store.slots.length) :
    ∃ trim demand, beginFrame false d = ({ d with
      output := { d.output with priming := false, playing := some i, frame := (d.slot i).pairs.map .up }
      store := { d.store with
        trim := trim, outputQueue := before ++ after, slots := d.store.slots.set i { d.slot i with state := .playing } }
      transport := { d.transport with demand := demand } },
      ⟨some (((d.slot i).copyField.or d.copy.heldTape).getD .none), decide (1 ≤ (d.slot i).interpolated + (d.slot i).gaps)⟩) ∧
      trim = (if d.output.priming then d.store.trim.afterQ d.depthQ else d.store.trim).afterQ (d.depthQ - 1) ∧
      demand = .playSpeed trim := by
  obtain ⟨trim, demand, primed, trimOf⟩ := primed_eq ⟨play, source⟩
  have begun : beginFrame false d = beginTapeFrame d.primed := by
    unfold beginFrame
    rw [source]
    show beginTape false d = _
    unfold beginTape State.primed
    rw [if_neg (by decide)]
    split
    · next priming => rw [if_pos (enough priming)]
    · rfl
  have slots : d.primed.playSlots = i :: after.filter fun k => (d.slot k).role == some .play := by
    have none : before.filter (fun k => (d.slot k).role == some .play) = [] :=
      List.filter_eq_nil_iff.2 fun k hk => by simpa using others k hk
    have same : d.primed.playSlots = d.store.outputQueue.filter (fun k => (d.slot k).role == some .play) := by rw [primed] <;> rfl
    rw [same, queue, List.filter_append, none, List.nil_append, List.filter_cons_of_pos (by simp [role])]
  have rest : (before ++ i :: after).filter (· != i) = before ++ after := by
    rw [queue] at nodup
    obtain ⟨-, nodupAfter, apart⟩ := List.nodup_append.1 nodup
    rw [List.filter_append, filter_ne_of_notMem fun h => apart i h i (List.mem_cons_self ..) rfl, List.filter_cons_of_neg (by simp),
      filter_ne_of_notMem (List.nodup_cons.1 nodupAfter).1]
  generalize hp : d.primed = p at begun slots primed
  let move (t : State) : State :=
    let t := setSlot i { p.slot i with state := .playing } t
    { t with store := { t.store with outputQueue := t.store.outputQueue.filter (· != i) } }
  have played : beginTapeFrame p = ({ withDepths move p with output := { (withDepths move p).output with
      playing := some i, frame := (p.slot i).pairs.map .up } },
      ⟨some (((p.slot i).copyField.or p.copy.heldTape).getD .none), decide (1 ≤ (p.slot i).interpolated + (p.slot i).gaps)⟩) := by
    unfold beginTapeFrame
    rw [slots] <;> rfl
  have judged : p.judgesQ := by rw [primed]; exact ⟨play, source, rfl⟩
  have follows : p.followsQ (withDepths move p) := followsQ_withDepths rfl rfl rfl rfl rfl
  have depth : (move p).depthQ = d.depthQ - 1 := by
    have roleOf (k : Nat) : ((move p).slot k).role = (d.slot k).role := by
      have at_k := slot_setSlot i k { p.slot i with state := .playing } p
      have same (k : Nat) : p.slot k = d.slot k := by rw [primed] <;> rfl
      show ((setSlot i { p.slot i with state := .playing } p).slot k).role = _
      rw [at_k]
      split
      · next e => rw [e.1, same]
      · rw [same]
    have queueOf : (move p).store.outputQueue = before ++ after := by
      show p.store.outputQueue.filter (· != i) = _
      rw [primed]
      show d.store.outputQueue.filter (· != i) = _
      rw [queue, rest]
    unfold State.depthQ
    rw [queueOf, queue]
    simp only [roleOf, List.filter_append, List.length_append, List.filter_cons, role, beq_self_eq_true, if_true, List.length_cons]
    omega
  have depthP : p.depthQ = d.depthQ := by rw [primed] <;> rfl
  have positive : d.depthQ ≠ d.depthQ - 1 := by
    have : 0 < d.depthQ := by
      unfold State.depthQ
      rw [queue]
      simp [List.filter_append, List.filter_cons, role]
    omega
  obtain ⟨trim', demand', moved⟩ := withDepths_trimmed move p
  have depthAfter : (withDepths move p).depthQ = d.depthQ - 1 := by
    rw [moved]
    exact depth
  obtain ⟨trimAfter, demandAfter⟩ := follows.1 judged (by rw [depthAfter, depthP]; exact positive.symm)
  rw [depthAfter] at trimAfter demandAfter
  have trimEq : trim' = p.store.trim.afterQ (d.depthQ - 1) := by rw [moved] at trimAfter; exact trimAfter
  have demandEq : demand' = .playSpeed (p.store.trim.afterQ (d.depthQ - 1)) := by rw [moved] at demandAfter; exact demandAfter
  have trimP : p.store.trim = trim := by rw [primed] <;> rfl
  rw [trimP, trimOf] at trimEq demandEq
  refine ⟨trim', demand', ?_, trimEq, by rw [demandEq, trimEq]⟩
  rw [begun, played, moved]
  have whole : move p = { p with store := { p.store with
      outputQueue := before ++ after, slots := p.store.slots.set i { p.slot i with state := .playing } } } := by
    show ({ p with store := { p.store with slots := _, outputQueue := p.store.outputQueue.filter (· != i) } } : State) = _
    have : p.store.outputQueue.filter (· != i) = before ++ after := by
      rw [primed]
      show d.store.outputQueue.filter (· != i) = _
      rw [queue, rest]
    rw [this] <;> rfl
  rw [whole, primed] <;> rfl

theorem foldl_newer {a : Nat} {rest : List Nat} (mem : i ∈ a :: rest)
    (newest : ∀ k ∈ a :: rest, k ≠ i → (s.slot k).frameTime.getD 0 < (s.slot i).frameTime.getD 0) : rest.foldl s.newer a = i := by
  induction rest generalizing a with
  | nil => simpa using (List.mem_singleton.1 mem).symm
  | cons k rest ih =>
    have step : s.newer a k = a ∨ s.newer a k = k := by unfold State.newer; split <;> simp
    refine ih ?_ fun j hj ne => newest j ?_ ne
    · by_cases tail : i ∈ rest
      · exact List.mem_cons_of_mem _ tail
      · suffices s.newer a k = i by rw [this]; exact List.mem_cons_self ..
        have first : i = a ∨ i = k := by simpa [tail] using mem
        unfold State.newer
        rcases first with rfl | rfl
        · by_cases e : k = i
          · rw [e, ite_self]
          · have := newest k (by simp) e
            rw [if_neg (by omega)]
        · by_cases e : a = i
          · rw [e, ite_self]
          · have := newest a (by simp) e
            rw [if_pos (by omega)]
    · rcases List.mem_cons.1 hj with rfl | hj
      · rcases step with e | e <;> rw [e] <;> simp
      · simp [hj]

theorem newest_eq {fs : List Nat} (mem : i ∈ fs)
    (newest : ∀ k ∈ fs, k ≠ i → (s.slot k).frameTime.getD 0 < (s.slot i).frameTime.getD 0) : s.newest fs = some i := by
  cases fs with
  | nil => cases mem
  | cons a rest => exact congrArg some (foldl_newer mem newest)

/-- The items of a RECORD frame: at a change of source the fade stands in place of the first pairs. -/
def State.recordItems (s : State) (i : Nat) (changing : Bool) : List OutputItem :=
  if changing then List.replicate s.activeBank.ramp .down ++ ((s.slot i).pairs.drop s.activeBank.ramp).map .up
  else (s.slot i).pairs.map .up

/-- The newest WRITING slot not yet begun is played, and the others are passed over. -/
theorem beginFrame_records {changing : Bool} {fs : List Nat} (sound : SoundWith l d) (source : d.output.source = .record)
    (silent : d.output.playing = none) (unplayed : d.unplayed = fs) (mem : i ∈ fs)
    (newest : ∀ k ∈ fs, k ≠ i → (d.slot k).frameTime.getD 0 < (d.slot i).frameTime.getD 0) :
    ∃ slots current, beginFrame changing d = ({ d with
      output := { d.output with playing := some i, frame := d.recordItems i changing }
      store := { d.store with slots := slots }, coder := { d.coder with current := current } },
      ⟨some ((d.slot i).copyField.getD .none),
        (d.slot i).good.any (· == false) || decide ((d.slot i).good.length < (d.slot i).pairCount)⟩) ∧
      ∀ k, slots.getD k Slot.freed = if k = i then { d.slot i with monitor := .begun } else
        if k ∈ fs then (d.slot k).ended else d.slot k := by
  have writing : ∀ k ∈ fs.filter (· != i), (d.slot k).state = .writing := fun k hk =>
    mem_unplayed (s := d) (by rw [unplayed]; exact (List.mem_filter.1 hk).1)
  have nodup : (fs.filter (· != i)).Nodup := by rw [← unplayed]; exact (unplayed_nodup d).filter _
  obtain ⟨slots, current, passed, slotOf, after⟩ := passOver_spec sound silent writing nodup
  have hi : i < 16 := sound.lt (by rw [mem_unplayed (s := d) (by rw [unplayed]; exact mem)]; decide)
  have length : (passOver (fs.filter (· != i)) d).store.slots.length = 16 := after.length
  have slot := slot_setSlot_of length hi { d.slot i with monitor := .begun }
  refine ⟨slots.set i { d.slot i with monitor := .begun }, current, ?_, fun k => ?_⟩
  · unfold beginFrame
    rw [source]
    show beginRecord changing d = _
    unfold beginRecord
    rw [unplayed, newest_eq mem newest]
    dsimp only
    rw [passed] <;> rfl
  · have written : (slots.set i { d.slot i with monitor := .begun }).getD k Slot.freed =
        (setSlot i { d.slot i with monitor := .begun } (passOver (fs.filter (· != i)) d)).slot k := by rw [passed] <;> rfl
    rw [written, slot]
    have before : (passOver (fs.filter (· != i)) d).slot k = slots.getD k Slot.freed := by rw [passed] <;> rfl
    rw [before, slotOf]
    by_cases e : k = i
    · rw [if_pos e, if_pos e]
    · rw [if_neg e, if_neg e]
      simp [e]

/-- Without a WRITING slot not yet begun it is a gap frame. -/
theorem beginFrame_gap {changing : Bool} (source : d.output.source = .record) (unplayed : d.unplayed = []) :
    beginFrame changing d = beginGap d := by
  unfold beginFrame
  rw [source]
  show beginRecord changing d = _
  unfold beginRecord
  rw [unplayed] <;> rfl

theorem beginFrame_input {changing : Bool} (source : d.output.source = .input) : beginFrame changing d = beginInput changing d := by
  unfold beginFrame
  rw [source]

/-- A field at a change of source is the more restrictive of both. -/
theorem frameField_eq (changing : Bool) (previous new : CopyField) (concealing : Bool) : frameField changing previous ⟨some new, concealing⟩ =
    if changing = true ∧ new.code < previous.code then previous else new := by
  unfold frameField CopyField.most
  cases changing with
  | false => simp
  | true =>
    simp only [if_true, true_and]
    by_cases few : new.code < previous.code
    · rw [if_neg (by omega), if_pos few]
    · rw [if_pos (by omega), if_neg few]

end
end Sys2Proof.Machine

namespace Sys2Proof.Proofs
open Sys2Proof.Machine

/-- Settles O48: a boundary in a frame ends it as its ticks do; else the frame begins on the state with its source changed and the
WRITING slots passed over, for each source in turn. -/
theorem monitorFrames : Obligations.MonitorFrames := by
  refine ⟨fun s t pending frame ran => ?_, fun s quiet idle store frame silent cut => ?_⟩
  · obtain ⟨item, rest, items⟩ := List.exists_cons_of_ne_nil frame
    have ticked := finishFrame_tick items
    rw [step_tick pending items] at ran
    obtain rfl := Host.Outcome.next.inj ran
    show execOutputFrameBoundary s = execOutputFrameBoundary _
    unfold execOutputFrameBoundary
    rw [ticked]
  · obtain ⟨sound, -⟩ := storeSound_iff.1 store
    intro source changing ramp pairs zeros previous field inputField waits passed begins queued primed
    obtain ⟨fs, d, ready, fsOf, began⟩ := boundaryFrame_readied (changing := changing) sound silent rfl
    obtain ⟨trim, transport, sourceOf, playingOf, bank, copy, input⟩ := ready.keeps
    have waitsOf (k : Nat) : k ∈ s.unplayed ↔ waits k := mem_unplayed_iff sound k
    have passedOf {k : Nat} {v : Slot} (h : v = if k ∈ s.unplayed then (s.slot k).ended else
        if changing = true ∧ s.output.source = .tape ∧ k ∈ s.store.outputQueue ∧ (s.slot k).role = some .play then Slot.freed
        else s.slot k) : passed k v :=
      ⟨fun w => h.trans (if_pos ((waitsOf k).2 w)), fun w => h.trans (if_neg fun mem => w ((waitsOf k).1 mem))⟩
    have queuedOf {t : State} (trimOf : t.store.trim = d.store.trim) (demandOf : t.transport.demand = d.transport.demand)
        (queueOf : t.store.outputQueue = d.store.outputQueue) : queued t :=
      ⟨⟨trimOf.trans trim, demandOf.trans (by rw [transport])⟩, queueOf.trans ready.queue⟩
    have silentOf : d.output.playing = none := playingOf.trans silent
    have sub : ∀ k ∈ fs, k ∈ s.unplayed := by
      rw [fsOf]
      split
      · simp
      · exact fun _ h => h
    have notRecord (other : source ≠ .record) : fs = s.unplayed := fsOf.trans (if_neg other)
    have framePairsOf : d.framePairs = pairs := by
      show d.activeBank.rate.pairs = _
      rw [bank]
    have rampOf : d.activeBank.ramp = ramp := by rw [bank]
    refine ⟨fun tape still priming few => ?_, fun i before after tape still enough queue others role => ?_,
      fun i record below waiting newest => ?_, fun record none => ?_, fun inputs changes => ?_, fun tape changes => ?_⟩
    · obtain rfl := notRecord (by rw [tape]; decide)
      obtain ⟨queue, slot, depth⟩ := ready.queued still sound sub
      have primes : beginFrame changing d = (setFrame (zeros pairs) d, ⟨none, false⟩) := by
        refine (beginFrame_primes (sourceOf.trans tape)
          (.inr ⟨still, ?_, by rw [depth]; exact few⟩)).trans ?_
        · rw [ready.output, still]
          exact priming
        · rw [still, framePairsOf] <;> rfl
      have begun : Begun changing (zeros pairs) none s (setFrame (zeros pairs) d) := ready.begun rfl rfl silentOf
      have ran := exec_begun begun quiet frame silent cut (began.trans (by rw [primes])) rfl
      exact ⟨_, ran, queuedOf rfl rfl rfl, fun k => passedOf (ready.slot k), by
        show d.output.priming = true
        rw [ready.output, still]
        exact priming⟩
    · obtain rfl := notRecord (by rw [tape]; decide)
      obtain ⟨queueOf, slot, depth⟩ := ready.queued still sound sub
      have play : s.transport.state = .play := by
        cases state : s.transport.state <;> rw [show source = s.transport.state.monitor from rfl, state] at tape <;> cases tape <;> rfl
      have primingOf : d.output.priming = s.output.priming := by rw [ready.output, still] <;> rfl
      have mem : i ∈ s.store.outputQueue := by rw [queue]; simp
      have slotOf := slot i mem
      have hi : i < 16 := sound.lt (by rw [sound.mem_outputQueue.1 mem]; decide)
      obtain ⟨trim', demand, plays, trimEq, demandEq⟩ := beginFrame_plays (i := i) (before := before) (after := after)
        (by rw [transport]; exact play) (sourceOf.trans tape) (by rw [primingOf, depth]; exact enough) (queueOf.trans queue)
        (fun k hk => by rw [slot k (by rw [queue]; simp [hk])]; exact others k hk) (by rw [slotOf]; exact role)
        (by
          obtain ⟨-, -, -, -, nodup, -⟩ := sound.collections
          rw [queueOf]
          exact nodup)
        (by rw [ready.sound.length]; exact hi)
      rw [primingOf, trim, depth] at trimEq
      rw [slotOf] at plays
      obtain ⟨u, hu⟩ : ∃ u, ({ d with
        output := { d.output with priming := false, playing := some i, frame := (s.slot i).pairs.map .up }
        store := { d.store with
          trim := trim', outputQueue := before ++ after, slots := d.store.slots.set i { s.slot i with state := .playing } }
        transport := { d.transport with demand := demand } } : State) = u := ⟨_, rfl⟩
      have begins : beginFrame changing d = (u, ⟨some (((s.slot i).copyField.or s.copy.heldTape).getD .none),
          decide (1 ≤ (s.slot i).interpolated + (s.slot i).gaps)⟩) := by
        rw [← hu, ← copy]
        exact (congrArg (beginFrame · d) still).trans plays
      have begun : Begun changing ((s.slot i).pairs.map .up) (some i) s u := by
        subst hu
        exact ready.begun rfl rfl rfl (change := fun changes => by rw [still] at changes; cases changes)
      have ran := exec_begun begun quiet frame silent cut (began.trans (by rw [begins])) (frameField_eq ..)
      have slotAt (k : Nat) : u.slot k = if k = i then { s.slot i with state := .playing } else d.slot k := by
        rw [← hu]
        exact slot_setSlot_of ready.sound.length hi { s.slot i with state := .playing } k
      rw [if_neg (by rw [still]; simp)] at ran
      refine ⟨_, ran, ?_, ?_, ?_, ?_, fun k ne => passedOf ?_⟩
      · rw [← hu] <;> rfl
      · rw [← hu] <;> rfl
      · rw [← hu]
        exact ⟨trimEq, by rw [← trimEq]; exact demandEq⟩
      · exact (slotAt i).trans (if_pos rfl)
      · exact ((slotAt k).trans (if_neg ne)).trans (ready.slot k)
    · have none : fs = [] := fsOf.trans (if_pos record)
      subst none
      have slot (k : Nat) (w : waits k) : d.slot k = s.slot k := by
        rw [ready.slot, if_neg (by simp), if_neg]
        rintro ⟨-, -, queued, -⟩
        have concealed := sound.mem_outputQueue.1 queued
        rw [w.1] at concealed
        cases concealed
      have unplayed : d.unplayed = s.unplayed := by
        unfold State.unplayed State.slotsWhere
        refine List.filter_congr fun k _ => ?_
        rw [ready.slot, if_neg (by simp)]
        split
        · next freed =>
          have concealed := sound.mem_outputQueue.1 freed.2.2.1
          show (SlotState.free == .writing && Slot.freed.monitor == .notBegun) =
            ((s.slot k).state == .writing && (s.slot k).monitor == .notBegun)
          rw [concealed] <;> rfl
        · rfl
      obtain ⟨slots, current, records, slotOf⟩ := beginFrame_records (changing := changing) (i := i) ready.sound (sourceOf.trans record) silentOf unplayed
        ((waitsOf i).2 waiting) (fun k hk ne => by
          have w := (waitsOf k).1 hk
          rw [slot k w, slot i waiting]
          exact newest k (sound.lt (by rw [w.1]; decide)) ne w)
      have items : d.recordItems i changing = s.recordItems i changing := by
        unfold State.recordItems
        rw [slot i waiting, bank]
      rw [slot i waiting, items] at records
      generalize hu : ({ d with
        output := { d.output with playing := some i, frame := s.recordItems i changing }
        store := { d.store with slots := slots }, coder := { d.coder with current := current } } : State) = u at records
      have begun : Begun changing (s.recordItems i changing) (some i) s u := by
        subst hu
        exact ready.begun rfl rfl rfl
      have ran := exec_begun begun quiet frame silent cut (began.trans (by rw [records])) (frameField_eq ..)
      have slotAt (k : Nat) : u.slot k = _ := (by rw [← hu] <;> rfl : u.slot k = slots.getD k Slot.freed).trans (slotOf k)
      refine ⟨_, ran, ?_, ?_, fun k ne => passedOf ?_⟩
      · rw [← hu]
        exact queuedOf rfl rfl rfl
      · exact (slotAt i).trans ((if_pos rfl).trans (by rw [slot i waiting]))
      · refine ((slotAt k).trans (if_neg ne)).trans ?_
        by_cases hk : k ∈ s.unplayed
        · rw [if_pos hk, if_pos hk, slot k ((waitsOf k).1 hk)]
        · rw [if_neg hk, if_neg hk, ready.slot, if_neg (by simp)]
    · have empty : s.unplayed = [] := List.eq_nil_iff_forall_not_mem.2 fun k hk =>
        none k (sound.lt (by rw [((waitsOf k).1 hk).1]; decide)) ((waitsOf k).1 hk)
      have unplayed : d.unplayed = [] := by
        refine List.eq_nil_iff_forall_not_mem.2 fun k hk => ?_
        have w := (mem_unplayed_iff ready.sound k).1 hk
        rw [ready.slot, if_neg fun mem => by have := sub k mem; rw [empty] at this; cases this] at w
        split at w
        · cases w.1
        · have := (waitsOf k).2 w
          rw [empty] at this
          cases this
      have gap : beginFrame changing d = (setFrame (List.replicate ramp .down ++ zeros (pairs - ramp)) (startFade d), ⟨Option.none, true⟩) := by
        rw [beginFrame_gap (sourceOf.trans record) unplayed]
        show (setFrame (fadeToZero d.activeBank.ramp d.framePairs) (startFade d), _) = _
        rw [framePairsOf, rampOf] <;> rfl
      have begun : Begun changing (List.replicate ramp .down ++ zeros (pairs - ramp)) Option.none s
          (setFrame (List.replicate ramp .down ++ zeros (pairs - ramp)) (startFade d)) := by
        refine ready.begun rfl rfl silentOf (change := fun changes => ⟨?_, ?_, rfl⟩)
        · show d.output.heldPair = d.output.fadePair
          rw [ready.output, changes] <;> rfl
        · show rampStep d.activeBank.ramp = d.output.fadeStep
          rw [ready.output, changes, bank] <;> rfl
      have ran := exec_begun begun quiet frame silent cut (began.trans (by rw [gap])) rfl
      refine ⟨_, ran, queuedOf rfl rfl rfl, ?_, fun k => passedOf ?_⟩
      · show d.output.heldPair = _
        rw [ready.output] <;> rfl
      · refine (ready.slot k).trans ?_
        have none (mem : k ∈ s.unplayed) : False := by rw [empty] at mem; cases mem
        rw [if_neg fun mem => none (sub k mem), if_neg none]
    · obtain rfl := notRecord (by rw [inputs]; decide)
      have fieldOf : d.inputFrameField = inputField := by
        unfold State.inputFrameField
        rw [input, bank] <;> rfl
      have begins : beginFrame changing d = (({ d with output := { d.output with frame := [], fadesLeft := ramp } } : State),
          ⟨some inputField, false⟩) := by
        rw [beginFrame_input (sourceOf.trans inputs), ← fieldOf, ← rampOf]
        unfold beginInput
        rw [if_pos changes]
      have begun : Begun changing [] none s { d with output := { d.output with frame := [], fadesLeft := ramp } } :=
        ready.begun rfl rfl silentOf
      have ran := exec_begun begun quiet frame silent cut (began.trans (by rw [begins])) (frameField_eq ..)
      exact ⟨_, ran, queuedOf rfl rfl rfl, rfl, fun k => passedOf (ready.slot k)⟩
    · obtain rfl := notRecord (by rw [tape]; decide)
      have primes : beginFrame changing d = (setFrame (List.replicate ramp .down ++ zeros (pairs - ramp)) d, ⟨none, false⟩) := by
        refine (beginFrame_primes (sourceOf.trans tape) (.inl changes)).trans ?_
        rw [if_pos changes, framePairsOf, rampOf] <;> rfl
      have begun : Begun changing (List.replicate ramp .down ++ zeros (pairs - ramp)) none s
        (setFrame (List.replicate ramp .down ++ zeros (pairs - ramp)) d) := ready.begun rfl rfl silentOf
      have ran := exec_begun begun quiet frame silent cut (began.trans (by rw [primes])) rfl
      exact ⟨_, ran, queuedOf rfl rfl rfl, fun k => passedOf (ready.slot k)⟩

end Sys2Proof.Proofs
end

section
/-!
What the stages of a frame pulse leave alone: which log entries they make, which counters they count on, and that they raise flags and
conditions and take none back (R44, R52 to R55, R60, R68 to R71, R74, R144, R148, R149).
-/

namespace Sys2Proof.Machine

-- One theorem after another: each one elaborated at the same time would hold a stack of its own.
set_option Elab.async false

section
variable {s t u : State} {l : List Nat} {n m : Nat} {kinds kinds' : List LogKind} {counters counters' : List Counter}

/-! ### Entries, counts, flags and conditions -/

/-- The value of a counter. -/
def Counters.value (k : Counters) : Counter → Nat
  | .blocksRebuilt => k.blocksRebuilt
  | .framesMuted => k.framesMuted
  | .framesDropped => k.framesDropped
  | .underruns => k.underruns
  | .verifyFails => k.verifyFails
  | .copyRefusals => k.copyRefusals
  | .timeJumps => k.timeJumps
  | .linkErrors => k.linkErrors

theorem value_add (k : Counters) {c d : Counter} (n : Nat) (h : c ≠ d) : (k.add d n).value c = k.value c := by
  cases d <;> cases c <;> first | rfl | exact absurd rfl h

/-- From `s` to `t` no more than `n` log entries are made, each of the kinds given, and no counters counted on but those given; flags
and conditions are raised and none taken back. -/
structure Amends (kinds : List LogKind) (counters : List Counter) (n : Nat) (s t : State) : Prop where
  recent : ∀ m e, m + n ≤ 31 → Recent m e s.reports.log → Recent (m + n) e t.reports.log
  kinds : ∀ e ∈ t.reports.log, e.kind ∉ kinds → e ∈ s.reports.log
  counters : ∀ c ∉ counters, ∀ port, (t.reports.port port).counters.value c = (s.reports.port port).counters.value c
  flags : ∀ port b, (s.reports.port port).flags.getLsbD b = true → (t.reports.port port).flags.getLsbD b = true
  masks : ∀ port, (t.reports.port port).mask = (s.reports.port port).mask
  conditions : ∀ b, s.sequencer.conditions.getLsbD b = true → t.sequencer.conditions.getLsbD b = true

theorem Amends.of (reports : t.reports = s.reports := by rfl) (sequencer : t.sequencer.conditions = s.sequencer.conditions := by rfl) :
    Amends [] [] 0 s t := by
  refine ⟨fun m e _ h => ?_, fun e h _ => ?_, fun c _ port => ?_, fun port b h => ?_, fun port => ?_, fun b h => ?_⟩
  · rw [reports]; exact h
  · rw [reports] at h; exact h
  · rw [reports]
  · rw [reports]; exact h
  · rw [reports]
  · rw [sequencer]; exact h

theorem Amends.refl (s : State) : Amends [] [] 0 s s := .of

theorem Amends.trans (h : Amends kinds counters n s t) (k : Amends kinds' counters' m t u) :
    Amends (kinds ++ kinds') (counters ++ counters') (n + m) s u where
  recent := fun j e few recent => by
    have := k.recent (j + n) e (by omega) (h.recent j e (by omega) recent)
    rwa [Nat.add_assoc] at this
  kinds := fun e mem other => by
    rw [List.mem_append, not_or] at other
    exact h.kinds e (k.kinds e mem other.2) other.1
  counters := fun c other port => by
    rw [List.mem_append, not_or] at other
    exact (k.counters c other.2 port).trans (h.counters c other.1 port)
  flags := fun port b set => k.flags port b (h.flags port b set)
  masks := fun port => (k.masks port).trans (h.masks port)
  conditions := fun b set => k.conditions b (h.conditions b set)

theorem Recent.mono {e : LogEntry} {log : List LogEntry} (h : Recent n e log) (le : n ≤ m) : Recent m e log := by
  obtain ⟨a, b, whole, few⟩ := h
  exact ⟨a, b, whole, few.trans le⟩

theorem Amends.mono (h : Amends kinds counters n s t) (more : n ≤ m) (kindsMore : ∀ k ∈ kinds, k ∈ kinds')
    (countersMore : ∀ c ∈ counters, c ∈ counters') : Amends kinds' counters' m s t where
  recent := fun j e few recent => (h.recent j e (by omega) recent).mono (by omega)
  kinds := fun e mem other => h.kinds e mem fun k => other (kindsMore _ k)
  counters := fun c other => h.counters c fun k => other (countersMore _ k)
  flags := h.flags
  masks := h.masks
  conditions := h.conditions

theorem Amends.lift (h : Amends [] [] 0 s t) : Amends kinds counters n s t := h.mono (Nat.zero_le n) (by simp) (by simp)

theorem Amends.then (h : Amends kinds counters n s t) (k : Amends [] [] 0 t u) : Amends kinds counters n s u :=
  (h.trans k).mono le_rfl (by simp) (by simp)

theorem amends_logEntry (kind : LogKind) (time : Option Nat) (origin : Origin) (argument : Nat) (s : State) :
    Amends [kind] [] 1 s (logEntry kind time origin argument s) where
  recent := fun m e few recent => recent.addEntry (by omega) ..
  kinds := fun e mem other => by
    have split : e ∈ (if s.reports.log.length < Config.logLimit then s.reports.log
        else s.reports.log.drop (s.reports.log.length + 1 - Config.logLimit)) ++ [⟨s.reports.nextSequence, kind, time, origin, argument⟩] := mem
    rcases List.mem_append.1 split with old | new
    · split at old
      · exact old
      · exact List.mem_of_mem_drop old
    · obtain rfl := List.mem_singleton.1 new
      exact absurd (List.mem_singleton_self _) other
  counters := fun c _ port => by cases port <;> rfl
  flags := fun port b set => by cases port <;> exact set
  masks := fun port => by cases port <;> rfl
  conditions := fun b set => set

theorem recent_logEntry (kind : LogKind) (time : Option Nat) (origin : Origin) (argument : Nat) (s : State) :
    Recent 0 ⟨s.reports.nextSequence, kind, time, origin, argument⟩ (logEntry kind time origin argument s).reports.log :=
  recent_addEntry ..

theorem amends_count (c : Counter) (n : Nat) (s : State) : Amends [] [c] 0 s (count c n s) where
  recent := fun m e _ recent => recent
  kinds := fun e mem _ => mem
  counters := fun d other port => by
    have ne : d ≠ c := by simpa using other
    cases port
    · exact value_add _ n ne
    · exact value_add _ n ne
  flags := fun port b set => by cases port <;> exact set
  masks := fun port => by cases port <;> rfl
  conditions := fun b set => set

theorem amends_raiseFlag (f : Flag) (s : State) : Amends [] [] 0 s (raiseFlag f s) where
  recent := fun m e _ recent => recent
  kinds := fun e mem _ => mem
  counters := fun d _ port => by cases port <;> rfl
  flags := fun port b set => by
    have kept (r : PortReport) (set : r.flags.getLsbD b = true) : (r.raise f).flags.getLsbD b = true := by
      simp [PortReport.raise, set]
    cases port
    · exact kept _ set
    · exact kept _ set
  masks := fun port => by cases port <;> rfl
  conditions := fun b set => set

/-- A flag that the mask does not hide is set when it is raised. -/
theorem flags_raiseFlag (f : Flag) (s : State) (port : Port) {b : Nat} (bit : f.bit.getLsbD b = true)
    (shown : (s.reports.port port).mask.getLsbD b = false) : ((raiseFlag f s).reports.port port).flags.getLsbD b = true := by
  have set (r : PortReport) (shown : r.mask.getLsbD b = false) : (r.raise f).flags.getLsbD b = true := by
    have inside := BitVec.lt_of_getLsbD bit
    show (r.flags ||| (f.bit &&& ~~~ r.mask)).getLsbD b = true
    rw [BitVec.getLsbD_or, BitVec.getLsbD_and, BitVec.getLsbD_not, bit, shown, decide_eq_true inside]
    simp
  cases port
  · exact set _ shown
  · exact set _ shown

theorem amends_setCondition (c : Condition) (s : State) : Amends [] [] 0 s (setCondition c s) where
  recent := fun m e _ recent => recent
  kinds := fun e mem _ => mem
  counters := fun d _ port => rfl
  flags := fun port b set => set
  masks := fun port => rfl
  conditions := fun b set => by simp [setCondition, set]

theorem amends_handOffIf (c : Bool) (h : Handoff) (s : State) : Amends [] [] 0 s (handOffIf c h s) := by
  cases c
  · exact .of
  · exact .of

theorem SlotWork.amends (h : SlotWork s t) : Amends [] [] 0 s t := .of h.reports (by rw [h.sequencer])

theorem amends_cancelPunch (reason : CancelReason) (s : State) : Amends [.punchCancelled] [] 1 s (cancelPunch reason s) := by
  unfold cancelPunch
  split
  · split
    · exact (Amends.refl s).lift
    · have cleared : Amends [] [] 0 s (spanChanged (clearPunches s)) :=
        (Amends.of (t := clearPunches s)).then (slotWork_spanChanged _).1.amends
      exact ((cleared.trans (amends_logEntry ..)).then (amends_handOffIf ..)).mono le_rfl (by simp) (by simp)
  · exact (Amends.refl s).lift

theorem amends_withdrawPunchOut (s : State) : Amends [.punchCancelled] [] 1 s (withdrawPunchOut s) := by
  unfold withdrawPunchOut
  split
  · split
    · have withdrawn : Amends [] [] 0 s (spanChanged { s with mixer := { s.mixer with punchOut := none, committed := false } }) :=
        (Amends.of (t := { s with mixer := { s.mixer with punchOut := none, committed := false } })).then (slotWork_spanChanged _).1.amends
      exact ((withdrawn.trans (amends_logEntry ..)).then (amends_handOffIf ..)).mono le_rfl (by simp) (by simp)
    · exact (Amends.refl s).lift
  · exact (Amends.refl s).lift

/-! ### Stages that leave the tracker, the punches and the transport state alone -/

/-- The tape time, the lead-in, the time status and the holdover count are those of before. -/
def State.sameTime (s t : State) : Prop :=
  t.decoder.time = s.decoder.time ∧ t.decoder.leadIn = s.decoder.leadIn ∧ t.decoder.status = s.decoder.status ∧
  t.decoder.holdover = s.decoder.holdover

theorem State.sameTime.trans (h : s.sameTime t) (k : t.sameTime u) : s.sameTime u := by
  obtain ⟨time, leadIn, status, holdover⟩ := h
  obtain ⟨time', leadIn', status', holdover'⟩ := k
  exact ⟨time'.trans time, leadIn'.trans leadIn, status'.trans status, holdover'.trans holdover⟩

theorem State.sameTime.of (decoder : t.decoder = s.decoder) : s.sameTime t := by
  unfold State.sameTime
  rw [decoder]
  exact ⟨rfl, rfl, rfl, rfl⟩

/-- A stage of a pulse that changes neither the tape time, the punches nor the transport state. -/
structure Stage (kinds : List LogKind) (counters : List Counter) (n : Nat) (s t : State) : Prop extends
    Amends kinds counters n s t where
  time : s.sameTime t
  gathering : t.decoder.gathering = s.decoder.gathering
  mixer : t.mixer = s.mixer
  state : t.transport.state = s.transport.state
  latched : t.copy.latched = true → s.copy.latched = true
  input : t.input = s.input
  banks : t.banks = s.banks
  sequencer : t.sequencer = { s.sequencer with conditions := t.sequencer.conditions }
  verify : s.coder.verify.length ≤ 3 → t.coder.verify.length ≤ 3

theorem Stage.trans (h : Stage kinds counters n s t) (k : Stage kinds' counters' m t u) :
    Stage (kinds ++ kinds') (counters ++ counters') (n + m) s u where
  toAmends := h.toAmends.trans k.toAmends
  time := h.time.trans k.time
  gathering := k.gathering.trans h.gathering
  mixer := k.mixer.trans h.mixer
  state := k.state.trans h.state
  latched := fun latched => h.latched (k.latched latched)
  input := k.input.trans h.input
  banks := k.banks.trans h.banks
  sequencer := by rw [k.sequencer, h.sequencer]
  verify := fun few => k.verify (h.verify few)

theorem Stage.mono (h : Stage kinds counters n s t) (more : n ≤ m) (kindsMore : ∀ k ∈ kinds, k ∈ kinds')
    (countersMore : ∀ c ∈ counters, c ∈ counters') : Stage kinds' counters' m s t :=
  { h with toAmends := h.toAmends.mono more kindsMore countersMore }

theorem Stage.lift (h : Stage [] [] 0 s t) : Stage kinds counters n s t := h.mono (Nat.zero_le n) (by simp) (by simp)

theorem Stage.then (h : Stage kinds counters n s t) (k : Stage [] [] 0 t u) : Stage kinds counters n s u :=
  (h.trans k).mono le_rfl (by simp) (by simp)

/-- What is amended, and the rest as it was. -/
theorem Amends.stage (h : Amends kinds counters n s t) (decoder : t.decoder = s.decoder := by rfl) (mixer : t.mixer = s.mixer := by rfl)
    (state : t.transport.state = s.transport.state := by rfl) (copy : t.copy.latched = s.copy.latched := by rfl)
    (input : t.input = s.input := by rfl) (banks : t.banks = s.banks := by rfl)
    (sequencer : t.sequencer = { s.sequencer with conditions := t.sequencer.conditions } := by rfl)
    (verify : t.coder.verify = s.coder.verify := by rfl) : Stage kinds counters n s t :=
  { h with
    time := .of decoder, gathering := by rw [decoder], mixer := mixer, state := state, latched := fun latched => copy ▸ latched
    input := input, banks := banks, sequencer := sequencer, verify := fun few => by rw [verify]; exact few }

theorem Stage.refl (s : State) : Stage [] [] 0 s s := (Amends.refl s).stage

theorem SlotWork.stage (h : SlotWork s t) : Stage [] [] 0 s t :=
  { h.amends with
    time := .of h.decoder, gathering := by rw [h.decoder], mixer := h.mixer, state := h.state, latched := h.latched
    input := h.input, banks := h.banks, sequencer := by rw [h.sequencer], verify := fun few => by rw [h.coder]; exact few }

/-! ### The decoder's stages (R65, R67 to R71, R74, R87) -/

theorem stage_takeMarker (time number : Nat) (s : State) : Stage [.cueTableFull] [] 1 s (takeMarker time number s) := by
  have cues (c : CueTable) : Stage [.cueTableFull] [] 1 s { s with cues := c } :=
    ((Amends.of : Amends [] [] 0 s { s with cues := c }).stage).lift
  unfold takeMarker
  dsimp only
  split
  · exact cues _
  · split
    · exact (Stage.refl s).lift
    · split
      · exact (amends_logEntry ..).stage
      · exact cues _

/-- Fields of the decoder beside the tracker. -/
theorem stage_marks (mismatch : Option Rate) (startRun : Option Nat) (closedLast : Bool) (s : State) : Stage [] [] 0 s { s with
    decoder := { s.decoder with mismatch := mismatch, startRun := startRun, closedLast := closedLast } } :=
  { Amends.of (s := s) (t := { s with
      decoder := { s.decoder with mismatch := mismatch, startRun := startRun, closedLast := closedLast } }) with
    time := ⟨rfl, rfl, rfl, rfl⟩, gathering := rfl, mixer := rfl, state := rfl, latched := fun latched => latched, input := rfl, banks := rfl
    sequencer := rfl, verify := fun few => few }

theorem stage_judgeMismatch (r : Subcode) (s : State) : Stage [.formatMismatch] [] 1 s (judgeMismatch r s) := by
  unfold judgeMismatch
  split
  · exact (stage_marks _ _ _ s).lift
  · split
    · exact (Stage.refl s).lift
    · exact ((stage_marks (some r.rate) _ _ s).trans (amends_logEntry ..).stage).mono le_rfl (by simp) (by simp)

theorem stage_offerMarker (allowed : Bool) (r : Subcode) (s : State) : Stage [.cueTableFull] [] 1 s (offerMarker allowed r s) := by
  unfold offerMarker
  dsimp only
  have offered : Stage [.cueTableFull] [] 1 s
      (if r.start = true ∧ s.decoder.startRun ≠ some r.program ∧ allowed = true then takeMarker r.time r.program s else s) := by
    split
    · exact stage_takeMarker ..
    · exact (Stage.refl s).lift
  exact offered.then (stage_marks ..)

theorem stage_handOnSubcode (r : Subcode) (s : State) : Stage [.cueTableFull] [] 1 s (handOnSubcode r s) := by
  have held : Stage [] [] 0 s { s with copy := { s.copy with heldTape := some r.copyField } } := (Amends.of ..).stage
  exact (held.trans (stage_offerMarker ..)).mono le_rfl (by simp) (by simp)

theorem stage_closeFrame (g : GatherFrame) (s : State) :
    Stage [.formatMismatch, .cueTableFull] [.blocksRebuilt] 2 s (closeFrame g s) := by
  unfold closeFrame
  split
  · next i _ =>
    unfold closeSlot
    dsimp only
    have marked : Stage [] [] 0 s (markSuccessor s) := (slotWork_markSuccessor s).stage
    generalize markSuccessor s = a at marked ⊢
    generalize a.closedSlot g (a.slot i) = v
    have written : Stage [] [] 0 s { setSlot i v a with decoder := { (setSlot i v a).decoder with closedLast := true } } :=
      (marked.then (slotWork_setSlot i v a).stage).then (stage_marks ..)
    generalize ({ setSlot i v a with decoder := { (setSlot i v a).decoder with closedLast := true } } : State) = b at written ⊢
    have counted : Stage [] [.blocksRebuilt] 0 s (if v.tally.rebuilt = 0 then b else count .blocksRebuilt v.tally.rebuilt b) := by
      split
      · exact written.lift
      · exact (written.trans (amends_count ..).stage).mono le_rfl (by simp) (by simp)
    generalize (if v.tally.rebuilt = 0 then b else count .blocksRebuilt v.tally.rebuilt b) = c at counted ⊢
    split
    · exact counted.mono (Nat.zero_le 2) (by simp) (by simp)
    · exact (counted.trans ((stage_judgeMismatch ..).trans (stage_handOnSubcode ..))).mono le_rfl (by simp) (by simp)
  · exact (stage_marks _ _ false s).lift

theorem stage_lostSeen (s : State) : Stage [] [] 0 s (lostSeen s) := by
  unfold lostSeen
  split
  · exact (amends_setCondition ..).stage
  · exact .refl s

theorem stage_aim (s : State) : Stage [] [] 0 s (aim s) := by
  obtain ⟨next, -, e⟩ := aim_eq s
  rw [e]
  have freed : SlotWork s (freeOption s.staleSlot s) := by
    cases s.staleSlot with
    | none => exact .refl s
    | some i => exact slotWork_freeSlots ..
  generalize freeOption s.staleSlot s = u at freed ⊢
  have timed : SlotWork u (timeSlot s.aimedFrame.slot s.decoder.expected u) := by
    cases s.aimedFrame.slot with
    | none => exact .refl u
    | some i => exact slotWork_updateSlot i (fun v => { v with frameTime := some s.decoder.expected }) u
  generalize timeSlot s.aimedFrame.slot s.decoder.expected u = w at timed ⊢
  exact (freed.trans timed).stage.then { Amends.of (s := w) (t := { w with
      decoder := { w.decoder with current := some s.aimedFrame, next := next } }) with
    time := ⟨rfl, rfl, rfl, rfl⟩, gathering := rfl, mixer := rfl, state := rfl, latched := fun latched => latched, input := rfl, banks := rfl
    sequencer := rfl, verify := fun few => few }

theorem stage_takeFrame (last i : Nat) (ahead : LookAhead) (s : State) :
    Stage [] [.framesDropped, .framesMuted] 0 s (takeFrame last i ahead s) := by
  rw [takeFrame_eq]
  generalize concealPairs _ _ ahead _ _ = r
  obtain ⟨n, joined⟩ := slotWork_joinOutput last i (s.frameTaken i r)
  have taken : Stage [] [.framesDropped, .framesMuted] 0 s (s.frameTaken i r) := by
    have written : Stage [] [] 0 s (setSlot i (s.concealedSlot i r) { s with conceal := r.unit }) :=
      ((Amends.of : Amends [] [] 0 s { s with conceal := r.unit }).stage).then (slotWork_setSlot ..).stage
    unfold State.frameTaken
    dsimp only
    split
    · exact written.lift
    · exact ((written.trans (amends_count ..).stage).then (amends_setCondition ..).stage).mono le_rfl (by simp) (by simp)
  exact ((taken.trans (amends_count .framesDropped n _).stage).then joined.stage).mono le_rfl (by simp) (by simp)

theorem stage_takeReady (last n : Nat) (s : State) : Stage [] [.framesDropped, .framesMuted] 0 s (takeReady last n s) := by
  induction n generalizing s with
  | zero => exact (Stage.refl s).lift
  | succ n ih =>
    unfold takeReady
    split
    · split
      · exact ((stage_takeFrame ..).trans (ih _)).mono le_rfl (by simp) (by simp)
      · exact (Stage.refl s).lift
    · exact (Stage.refl s).lift

/-! ### The heads' stages (R29, R44, R52 to R55, R60, R104) -/

theorem stage_pulseCut (s : State) : Stage [.writeLate] [] 1 s (pulseCut s) := by
  unfold pulseCut
  split
  · next w _ =>
    split
    · have cut : Stage [] [] 0 s { s with coder := { s.coder with current := none } } := (Amends.of ..).stage
      exact ((cut.then (slotWork_supplyFinished w.slot _).stage).trans (amends_logEntry ..).stage).mono le_rfl (by simp) (by simp)
    · exact (Stage.refl s).lift
  · exact (Stage.refl s).lift

theorem stage_closeVerify (e : VerifyEntry) (s : State) : Stage [.verify] [.verifyFails] 1 s (closeVerify e s) := by
  have counted := (amends_count .verifyFails (e.supplied - e.passed) s).stage
  unfold closeVerify
  dsimp only
  split
  · exact ((counted.then ((amends_setCondition ..).stage.then (amends_raiseFlag ..).stage)).trans (amends_logEntry ..).stage).mono le_rfl
      (by simp) (by simp)
  · exact counted.mono (Nat.zero_le 1) (by simp) (by simp)

theorem stage_closeVerifies (es : List VerifyEntry) (s : State) :
    Stage [.verify] [.verifyFails] es.length s (es.foldl (fun s e => closeVerify e s) s) := by
  induction es generalizing s with
  | nil => exact (Stage.refl s).lift
  | cons e es ih => exact ((stage_closeVerify e s).trans (ih _)).mono (by simp; omega) (by simp) (by simp)

theorem stage_pulseVerify (q : Nat) (s : State) : Stage [.verify] [.verifyFails] s.coder.verify.length s (pulseVerify q s) := by
  unfold pulseVerify
  dsimp only
  have kept : Stage [] [] 0 s { s with coder := { s.coder with verify := s.coder.verify.filter fun e => e.frameTime + 2 != q } } :=
    { Amends.of (s := s) (t := { s with coder := { s.coder with verify := s.coder.verify.filter fun e => e.frameTime + 2 != q } }) with
      time := ⟨rfl, rfl, rfl, rfl⟩, gathering := rfl, mixer := rfl, state := rfl, latched := fun latched => latched, input := rfl, banks := rfl
      sequencer := rfl, verify := fun few => (List.length_filter_le ..).trans few }
  exact (kept.trans (stage_closeVerifies ..)).mono (by
    have := List.length_filter_le (fun e : VerifyEntry => e.frameTime + 2 == q) s.coder.verify
    omega) (by simp) (by simp)

theorem stage_lateWindow (s : State) : Stage [.writeLate] [] 1 s (lateWindow s) := by
  unfold lateWindow
  dsimp only
  generalize s.slotsWhere _ = waiting
  have freed := (slotWork_freeSlots waiting s).stage
  generalize freeSlots waiting s = t at freed ⊢
  have cleared : Stage [] [] 0 t { t with coder := { t.coder with current := none, writeOn := false } } := (Amends.of ..).stage
  exact ((freed.then cleared).trans (amends_logEntry ..).stage).mono le_rfl (by simp) (by simp)

theorem stage_takeWindow (i : Nat) (s : State) : Stage [] [] 0 s (takeWindow i s) := by
  unfold takeWindow
  dsimp only
  generalize { s.slot i with state := SlotState.writing, start := (s.cues.mark.window s.decoder.time).1.isSome } = v
  have written : SlotWork s (withDepths (fun t =>
      { setSlot i v t with store := { (setSlot i v t).store with writeQueue := (setSlot i v t).store.writeQueue.filter (· != i) } }) s) :=
    slotWork_withDepths ((slotWork_setSlot i v s).trans (by constructor <;> first | rfl | exact id))
  generalize withDepths _ s = w at written ⊢
  exact written.stage.then { Amends.of (s := w) with
    time := ⟨rfl, rfl, rfl, rfl⟩, gathering := rfl, mixer := rfl, state := rfl, latched := fun latched => latched, input := rfl, banks := rfl
    sequencer := rfl, verify := fun _ => (addVerify_spec ..).1 }

/-- The window with the trim judged: the frame's slot is taken, or it is write-late. -/
def State.windowed (s : State) : State :=
  match s.windowSlot s.decoder.time with
  | some i => if (s.slot i).state = .mixed then takeWindow i s else lateWindow s
  | none => lateWindow s

theorem pulseWindow_open (gate : s.mixer.gateOpen = true) : pulseWindow s =
    freeSlots ((windowTrim s).windowed.oldSlots (windowTrim s).windowed.decoder.time) (windowTrim s).windowed := by
  unfold pulseWindow
  exact if_pos gate

theorem stage_windowed (s : State) : Stage [.writeLate] [] 1 s s.windowed := by
  unfold State.windowed
  split
  · split
    · exact (stage_takeWindow ..).lift
    · exact stage_lateWindow s
  · exact stage_lateWindow s

theorem stage_pulseWindow (s : State) : Stage [.writeLate] [] 1 s (pulseWindow s) := by
  by_cases gate : s.mixer.gateOpen = true
  · rw [pulseWindow_open gate]
    have trimmed := (slotWork_windowTrim s).stage
    generalize windowTrim s = a at trimmed ⊢
    have opened := stage_windowed a
    generalize a.windowed = b at opened ⊢
    exact ((trimmed.trans opened).then (slotWork_freeSlots ..).stage).mono le_rfl (by simp) (by simp)
  · rw [show pulseWindow s = { s with coder := { s.coder with writeOn := false } } from if_neg gate]
    exact ((Amends.of : Amends [] [] 0 s { s with coder := { s.coder with writeOn := false } }).stage).lift

theorem stage_pulseCapture (s : State) : Stage [] [] 0 s (pulseCapture s) := by
  unfold pulseCapture
  dsimp only
  split
  · split
    · next i _ =>
      have opened := (slotWork_setSlot i (Slot.opened .capturing .input (s.decoder.time + 2) s.activeFormat) s).stage
      exact opened.then (Amends.of ..).stage
    · exact .refl s
  · exact .refl s

theorem stage_pulseConditions (s : State) : Stage [] [] 0 s (pulseConditions s) := by
  unfold pulseConditions
  dsimp only
  have lost : Stage [] [] 0 s (if s.input.lost.isSome = true then setCondition .sourceLost s else s) := by
    split
    · exact (amends_setCondition ..).stage
    · exact .refl s
  generalize (if s.input.lost.isSome = true then setCondition .sourceLost s else s) = t at lost ⊢
  split
  · exact lost.then (amends_setCondition ..).stage
  · exact lost

/-! ### Stages that may change the punches, the transport state or the tape time -/

/-- A stage of a pulse: a pending selection and the list stay, the conditions and the hand-offs aside. -/
structure Stroke (kinds : List LogKind) (counters : List Counter) (n : Nat) (s t : State) : Prop extends
    Amends kinds counters n s t where
  selection : t.input.pendingSelect = s.input.pendingSelect
  sequencer : t.sequencer = { s.sequencer with conditions := t.sequencer.conditions, handoffs := t.sequencer.handoffs }
  banks : t.banks = s.banks
  verify : s.coder.verify.length ≤ 3 → t.coder.verify.length ≤ 3

theorem Stroke.trans (h : Stroke kinds counters n s t) (k : Stroke kinds' counters' m t u) :
    Stroke (kinds ++ kinds') (counters ++ counters') (n + m) s u where
  toAmends := h.toAmends.trans k.toAmends
  selection := k.selection.trans h.selection
  sequencer := by rw [k.sequencer, h.sequencer]
  banks := k.banks.trans h.banks
  verify := fun few => k.verify (h.verify few)

theorem Stroke.mono (h : Stroke kinds counters n s t) (more : n ≤ m) (kindsMore : ∀ k ∈ kinds, k ∈ kinds')
    (countersMore : ∀ c ∈ counters, c ∈ counters') : Stroke kinds' counters' m s t :=
  { h with toAmends := h.toAmends.mono more kindsMore countersMore }

theorem Stroke.lift (h : Stroke [] [] 0 s t) : Stroke kinds counters n s t := h.mono (Nat.zero_le n) (by simp) (by simp)

theorem Stroke.then (h : Stroke kinds counters n s t) (k : Stroke [] [] 0 t u) : Stroke kinds counters n s u :=
  (h.trans k).mono le_rfl (by simp) (by simp)

theorem Stage.stroke (h : Stage kinds counters n s t) : Stroke kinds counters n s t :=
  { h with selection := by rw [h.input], sequencer := by rw [h.sequencer] }

theorem Amends.stroke (h : Amends kinds counters n s t)
    (selection : t.input.pendingSelect = s.input.pendingSelect := by rfl)
    (sequencer : t.sequencer = { s.sequencer with conditions := t.sequencer.conditions, handoffs := t.sequencer.handoffs } := by rfl)
    (banks : t.banks = s.banks := by rfl) (verify : t.coder.verify = s.coder.verify := by rfl) : Stroke kinds counters n s t :=
  { h with selection := selection, sequencer := sequencer, banks := banks, verify := fun few => by rw [verify]; exact few }

theorem Stroke.refl (s : State) : Stroke [] [] 0 s s := (Stage.refl s).stroke

theorem Stroke.of (reports : t.reports = s.reports := by rfl) (selection : t.input.pendingSelect = s.input.pendingSelect := by rfl)
    (sequencer : t.sequencer = s.sequencer := by rfl) (banks : t.banks = s.banks := by rfl)
    (verify : t.coder.verify = s.coder.verify := by rfl) : Stroke [] [] 0 s t :=
  (Amends.of reports (by rw [sequencer])).stroke selection (by rw [sequencer]) banks verify

theorem stroke_logEntry (kind : LogKind) (time : Option Nat) (origin : Origin) (argument : Nat) (s : State) :
    Stroke [kind] [] 1 s (logEntry kind time origin argument s) := (amends_logEntry ..).stroke

theorem stroke_raiseFlag (f : Flag) (s : State) : Stroke [] [] 0 s (raiseFlag f s) := (amends_raiseFlag f s).stroke

theorem stroke_handOffIf (c : Bool) (x : Handoff) (s : State) : Stroke [] [] 0 s (handOffIf c x s) := by
  cases c
  · exact (amends_handOffIf false x s).stroke
  · exact (amends_handOffIf true x s).stroke

theorem stroke_cancelPunch (reason : CancelReason) (s : State) : Stroke [.punchCancelled] [] 1 s (cancelPunch reason s) := by
  obtain ⟨_, _, _, _, _, _, _, _, _, cancelled⟩ := cancelPunch_leaves reason s
  exact (amends_cancelPunch reason s).stroke (by rw [cancelled]) (by rw [cancelled]) (by rw [cancelled]) (by rw [cancelled])

theorem stroke_withdrawPunchOut (s : State) : Stroke [.punchCancelled] [] 1 s (withdrawPunchOut s) := by
  unfold withdrawPunchOut
  split
  · split
    · have withdrawn : Stroke [] [] 0 s { s with mixer := { s.mixer with punchOut := none, committed := false } } := .of
      exact (((withdrawn.then (slotWork_spanChanged _).1.stage.stroke).trans (stroke_logEntry ..)).then (stroke_handOffIf ..)).mono
        le_rfl (by simp) (by simp)
    · exact (Stroke.refl s).lift
  · exact (Stroke.refl s).lift

/-- The punches and the transport state change within play speed. -/
theorem stroke_entered (new : TransportState) (demand : Demand) (s : State) : Stroke [] [] 0 s (entered new demand s) := .of

theorem stroke_openGate (p : Punch) (rolling : s.transport.state.rolling = true) : Stroke [.punchIn] [] 1 s (openGate p s) := by
  unfold openGate
  dsimp only
  rw [enterState_steady (by exact rolling)]
  have opened : Stroke [] [] 0 s { s with mixer := { s.mixer with taken := true, gateOpen := true } } := .of
  have entered := opened.then ((stroke_entered .record (.playSpeed .normal) _).then (slotWork_spanChanged _).1.stage.stroke)
  exact (((entered.then (stroke_raiseFlag ..)).trans (stroke_logEntry ..)).then (stroke_handOffIf ..)).mono
    le_rfl (by simp) (by simp)

theorem stroke_closeOnPulse (o : Punch) (last : Nat) (rolling : s.transport.state.rolling = true) :
    Stroke [.punchOut] [] 1 s (closeOnPulse o last s) := by
  have closed : Stroke [] [] 0 s (clearPunches s) := .of
  have work := (slotWork_spanChanged (clearPunches s)).1
  unfold closeOnPulse
  dsimp only
  rw [enterState_steady (by rw [work.state]; exact rolling)]
  have entered := closed.then (work.stage.stroke.then (stroke_entered .play (.playSpeed .normal) _))
  exact (((entered.then (stroke_raiseFlag ..)).trans (stroke_logEntry ..)).then (stroke_handOffIf ..)).mono
    le_rfl (by simp) (by simp)

theorem stroke_pulseCommit (s : State) : Stroke [] [] 0 s (pulseCommit s) := by
  unfold pulseCommit
  split
  · split
    · exact .of
    · exact .refl s
  · exact .refl s

theorem stroke_pulseGate (rolling : s.transport.state.rolling = true) : Stroke [.punchIn, .punchOut] [] 1 s (pulseGate s) := by
  unfold pulseGate
  split
  · split
    · dsimp only
      split
      · exact (stroke_closeOnPulse _ _ rolling).mono le_rfl (by simp) (by simp)
      · exact (Stroke.refl s).lift
    · exact (Stroke.refl s).lift
  · split
    · split
      · exact (stroke_openGate _ rolling).mono le_rfl (by simp) (by simp)
      · exact (Stroke.refl s).lift
    · exact (Stroke.refl s).lift

end
end Sys2Proof.Machine
end

section
/-! What no stage of the edit list or of Copy Control touches: the tape time and its status, the TIME-JUMPS counter and the masks; and
that flags are raised and none taken back (R151 to R170, R44, R98, R104). -/

namespace Sys2Proof.Machine

-- One theorem after another: each one elaborated at the same time would hold a stack of its own.
set_option Elab.async false

section
variable {s t u : State} {n : Nat} {kinds : List LogKind} {counters : List Counter}

/-- The tracker's time, status and count and the TIME-JUMPS counters stay, and flags are raised and none taken back. -/
structure Ensues (s t : State) : Prop where
  time : s.sameTime t
  jumps : ∀ port, (t.reports.port port).counters.timeJumps = (s.reports.port port).counters.timeJumps
  flags : ∀ port b, (s.reports.port port).flags.getLsbD b = true → (t.reports.port port).flags.getLsbD b = true
  masks : ∀ port, (t.reports.port port).mask = (s.reports.port port).mask

theorem Ensues.of (time : s.sameTime t := by exact ⟨rfl, rfl, rfl, rfl⟩) (reports : t.reports = s.reports := by rfl) : Ensues s t := by
  refine ⟨time, ?_, ?_, ?_⟩ <;> rw [reports]
  · exact fun _ => rfl
  · exact fun _ _ set => set
  · exact fun _ => rfl

theorem Ensues.refl (s : State) : Ensues s s := .of

theorem Ensues.trans (h : Ensues s t) (k : Ensues t u) : Ensues s u where
  time := h.time.trans k.time
  jumps := fun port => (k.jumps port).trans (h.jumps port)
  flags := fun port b set => k.flags port b (h.flags port b set)
  masks := fun port => (k.masks port).trans (h.masks port)

theorem Amends.ensues (h : Amends kinds counters n s t) (time : s.sameTime t) (others : Counter.timeJumps ∉ counters := by decide) :
    Ensues s t where
  time := time
  jumps := h.counters .timeJumps others
  flags := h.flags
  masks := h.masks

theorem Stage.ensues (h : Stage kinds counters n s t) (others : Counter.timeJumps ∉ counters := by decide) : Ensues s t :=
  h.toAmends.ensues h.time others

theorem SlotWork.ensues (h : SlotWork s t) : Ensues s t := h.stage.ensues

/-- The list and a pending selection stay, the conditions and the hand-offs aside. -/
structure Listed (s t : State) : Prop where
  list : t.sequencer = { s.sequencer with conditions := t.sequencer.conditions, handoffs := t.sequencer.handoffs }
  selection : t.input.pendingSelect = s.input.pendingSelect

theorem Listed.trans (h : Listed s t) (k : Listed t u) : Listed s u := ⟨by rw [k.list, h.list], k.selection.trans h.selection⟩

theorem Stroke.listed (h : Stroke kinds counters n s t) : Listed s t := ⟨h.sequencer, h.selection⟩

/-- Both: what the motions, the punches and the refusals of the other blocks leave alone. -/
structure Moves (s t : State) : Prop extends Ensues s t, Listed s t

theorem Moves.of (time : s.sameTime t := by exact ⟨rfl, rfl, rfl, rfl⟩) (reports : t.reports = s.reports := by rfl)
    (list : t.sequencer = { s.sequencer with conditions := t.sequencer.conditions, handoffs := t.sequencer.handoffs } := by rfl)
    (selection : t.input.pendingSelect = s.input.pendingSelect := by rfl) : Moves s t :=
  { Ensues.of time reports with list := list, selection := selection }

theorem Moves.refl (s : State) : Moves s s := .of

theorem Moves.trans (h : Moves s t) (k : Moves t u) : Moves s u :=
  { h.toEnsues.trans k.toEnsues, h.toListed.trans k.toListed with }

theorem Stroke.moves (h : Stroke kinds counters n s t) (time : s.sameTime t) (others : Counter.timeJumps ∉ counters := by decide) :
    Moves s t := { h.toAmends.ensues time others, h.listed with }

theorem Stage.moves (h : Stage kinds counters n s t) (others : Counter.timeJumps ∉ counters := by decide) : Moves s t :=
  h.stroke.moves h.time others

theorem SlotWork.moves (h : SlotWork s t) : Moves s t := h.stage.moves

theorem moves_logEntry (kind : LogKind) (time : Option Nat) (origin : Origin) (argument : Nat) (s : State) :
    Moves s (logEntry kind time origin argument s) := (stroke_logEntry ..).moves ⟨rfl, rfl, rfl, rfl⟩

theorem moves_raiseFlag (f : Flag) (s : State) : Moves s (raiseFlag f s) := (stroke_raiseFlag f s).moves ⟨rfl, rfl, rfl, rfl⟩

theorem moves_handOffIf (c : Bool) (x : Handoff) (s : State) : Moves s (handOffIf c x s) :=
  (stroke_handOffIf c x s).moves (.of (by cases c <;> rfl))

theorem moves_cancelPunch (reason : CancelReason) (s : State) : Moves s (cancelPunch reason s) := by
  obtain ⟨_, _, _, _, _, _, _, _, _, cancelled⟩ := cancelPunch_leaves reason s
  exact (stroke_cancelPunch reason s).moves (.of (by rw [cancelled]))

/-! ### The transport (R115 to R124) -/

theorem moves_entered (new : TransportState) (demand : Demand) (s : State) : Moves s (entered new demand s) := .of

theorem moves_leaveRolling (s : State) : Moves s (leaveRolling s) := by
  rw [leaveRolling_eq]
  generalize s.slotsWhere Slot.leaves = l
  have left := (slotWork_freeSlots l s).moves.trans (moves_cancelPunch .motion (freeSlots l s))
  generalize cancelPunch .motion (freeSlots l s) = u at left ⊢
  exact left.trans .of

theorem moves_enterState (new : TransportState) (demand : Demand) (s : State) : Moves s (enterState new demand s) := by
  have changed := moves_entered new demand s
  by_cases leaves : s.transport.state.rolling = true ∧ new.rolling = false
  · rw [enterState_leave leaves.1 leaves.2]
    exact changed.trans (moves_leaveRolling _)
  · by_cases starts : s.transport.state.rolling = false ∧ new.rolling = true
    · rw [enterState_start starts.1 starts.2]
      exact changed.trans .of
    · have steady : s.transport.state.rolling = new.rolling := by
        revert leaves starts
        cases s.transport.state.rolling <;> cases new.rolling <;> simp
      rw [enterState_steady steady]
      exact changed

theorem moves_closeAtOnce (event : ClosingEvent) (origin : Origin) (s : State) : Moves s (closeAtOnce event origin s) := by
  by_cases gate : s.mixer.gateOpen = true
  · obtain ⟨_, _, _, _, _, _, _, _, closed⟩ := closeAtOnce_leaves event origin gate
    rw [closed]
    exact ((moves_raiseFlag .punchOut s).trans (moves_logEntry .punchOut s.timeNow origin event.code _)).trans .of
  · rw [closeAtOnce_closed (by simpa using gate)]
    exact .refl s

theorem moves_endLocate (outcome : LocateOutcome) (s : State) : Moves s (endLocate outcome s) := by
  obtain ⟨h, ended⟩ := endLocate_eq outcome s
  rw [ended]
  exact .of

theorem moves_arrive (s : State) : Moves s (raiseFlag .motionDone (setLateReads (enterState .cued .hold s))) := by
  have entered := moves_enterState .cued .hold s
  generalize enterState .cued .hold s = u at entered ⊢
  have late : Moves u (setLateReads u) := .of
  exact (entered.trans late).trans (moves_raiseFlag ..)

theorem moves_startLocate (origin : Origin) (kind : TargetKind) (target preroll : Nat) (s : State) :
    Moves s (startLocate origin kind target preroll s) := by
  have ended := moves_endLocate .superseded s
  unfold startLocate
  dsimp only
  generalize endLocate .superseded s = u at ended ⊢
  split
  · exact ended.trans (Moves.trans .of (moves_arrive _))
  · exact ended.trans (Moves.trans .of (moves_enterState ..))

theorem moves_locateMotion (origin : Origin) (code arg preroll : Nat) (s : State) :
    Moves s (locateMotion origin code arg preroll s).1 := by
  unfold locateMotion
  split
  · exact .refl s
  · split
    · exact .refl s
    · split
      · exact .refl s
      · split
        · exact .refl s
        · exact moves_startLocate ..

theorem moves_playMotion (s : State) : Moves s (playMotion s).1 := by
  have started := (moves_endLocate .superseded s).trans (moves_enterState .starting (.playSpeed .normal) _)
  unfold playMotion
  split
  all_goals first | exact started | exact .refl s

theorem moves_stopMotion (origin : Origin) (s : State) : Moves s (stopMotion origin s) := by
  have closed := moves_closeAtOnce .stop origin s
  have stopped (u : State) : Moves u (enterState .stop .stop (endLocate .stopped u)) :=
    (moves_endLocate ..).trans (moves_enterState ..)
  unfold stopMotion
  dsimp only
  generalize closeAtOnce .stop origin s = u at closed ⊢
  split
  all_goals first | exact closed | exact closed.trans (stopped u)

/-! ### Copy Control and the Edit Mixer (R44, R98, R104, R106, R139 to R142) -/

theorem moves_recordRefusal (origin : Origin) (s : State) : Moves s (recordRefusal origin s) :=
  (((amends_count .copyRefusals 1 s).stroke.moves ⟨rfl, rfl, rfl, rfl⟩).trans .of).trans
    ((moves_raiseFlag .copyRefused _).trans (moves_logEntry ..))

theorem moves_refusalEvent (s : State) : Moves s (refusalEvent s) := by
  unfold refusalEvent
  split
  · split
    · exact .refl s
    · have latched : Moves s { s with copy := { s.copy with latched := true } } := .of
      exact latched.trans (moves_recordRefusal ..)
  · split
    · exact (moves_cancelPunch .copy s).trans (moves_recordRefusal ..)
    · exact .refl s

theorem moves_deriveField (s : State) : Moves s (deriveField s) := by
  obtain ⟨fields, -, derived⟩ := deriveField_eq s
  rw [derived]
  split
  · exact Moves.trans .of (moves_refusalEvent _)
  · exact .of

theorem moves_judgeLost (s : State) : Moves s (judgeLost s) := by
  have judged : Moves s s.lossJudged := by
    unfold State.lossJudged
    dsimp only
    split
    · exact Moves.trans .of (moves_logEntry ..)
    · exact Moves.trans .of (moves_logEntry ..)
    · exact .of
  rw [judgeLost_eq]
  exact judged.trans (moves_deriveField _)

theorem ensues_takeSelection (s : State) : Ensues s (takeSelection s) := by
  unfold takeSelection
  split
  · split
    · exact Ensues.trans .of (moves_judgeLost _).toEnsues
    · exact .refl s
  · exact .refl s

theorem moves_scheduled (s : State) (m : Mixer) : Moves s (spanChanged { s with mixer := m }) := by
  have scheduled : Moves s { s with mixer := m } := .of
  exact scheduled.trans (slotWork_spanChanged _).1.moves

theorem moves_schedulePunchIn (origin : Origin) (p : Punch) (o : Option Punch) (s : State) :
    Moves s (schedulePunchIn origin p o s).1 := by
  unfold schedulePunchIn judgeCopy
  split
  · exact .refl s
  · by_cases refuse : s.copy.current = .refuse
    · rw [if_pos refuse]
      exact moves_recordRefusal origin s
    · rw [if_neg refuse]
      dsimp only
      exact moves_scheduled s { s.mixer with punchIn := some p, taken := false, punchOut := o, committed := false }

theorem moves_schedulePunchOut (time : Nat) (cross : Option Nat) (s : State) : Moves s (schedulePunchOut time cross s).1 := by
  unfold schedulePunchOut
  split
  · exact .refl s
  · dsimp only
    split
    · exact .refl s
    · split
      · exact .refl s
      · repeat' split
        case isFalse =>
          dsimp only
          exact moves_scheduled s _
        all_goals exact .refl s

/-! ### The edit list (R153 to R168) -/

theorem ensues_markAt (time : Nat) (label : List Nat) (origin : Origin) (s : State) : Ensues s (markAt time label origin s).1 := by
  unfold markAt
  dsimp only
  split
  · split
    · exact .refl s
    · exact Ensues.trans .of (moves_logEntry ..).toEnsues
  · split
    · exact .refl s
    · exact Ensues.trans .of (moves_logEntry ..).toEnsues

theorem ensues_writeFailed (i reason : Nat) (s : State) : Ensues s (writeFailed i reason s) := Ensues.trans .of (moves_logEntry ..).toEnsues

theorem ensues_endList (reason : EndReason) (origin : Origin) (extra : Nat) (s : State) : Ensues s (endList reason origin extra s) :=
  (Ensues.trans .of (moves_raiseFlag ..).toEnsues).trans (moves_logEntry ..).toEnsues

theorem ensues_endBad (cause : BadCause) (outcome : EntryOutcome) (i : Nat) (s : State) : Ensues s (endBad cause outcome i s) :=
  Ensues.trans .of (ensues_endList ..)

theorem ensues_runEntry (i : Nat) (s : State) : Ensues s (runEntry i s).1 := by
  have failed (reason : Nat) {u : State} (h : Ensues s u) : Ensues s (fails i reason u).1 := h.trans (ensues_writeFailed ..)
  have done (outcome : EntryOutcome) {u : State} (h : Ensues s u) : Ensues s (completes i outcome u).1 := h.trans .of
  have same := Ensues.refl s
  unfold runEntry
  dsimp only
  split_ifs
  · exact ensues_endBad ..
  · exact ensues_endBad ..
  · split
    · exact Ensues.trans .of (ensues_endList ..)
    · unfold runWaitTime
      split
      · exact failed _ same
      · exact done _ same
      · exact same
    · unfold runWaitFrames
      split
      · exact done _ same
      · exact .of
    · have moved := (moves_locateMotion .list (s.entry i).choice (s.entry i).time (min 250 (s.entry i).count) s).toEnsues
      unfold runLocate
      generalize locateMotion .list _ _ _ s = r at moved
      split
      · exact done _ moved
      · exact moved
      · exact failed _ moved
    · unfold runRoll
      split
      · exact (moves_playMotion s).toEnsues
      · exact same
      · exact done _ same
      all_goals exact failed _ same
    · unfold runPunchIn
      split
      · exact failed _ same
      · split
        · exact failed _ same
        · have set (p : Punch) (r : State × Status) (h : schedulePunchIn .list p none s = r) : Ensues s r.1 :=
            h ▸ (moves_schedulePunchIn .list p none s).toEnsues
          split
          · next h =>
            have ran := set _ _ h
            exact ran
          · next h => exact failed _ (set _ _ h)
    · have set := (moves_schedulePunchOut (s.entry i).time (crossfadeOfChoice s.activeBank.crossfade (s.entry i).choice) s).toEnsues
      unfold runPunchOut
      generalize schedulePunchOut _ _ s = r at set
      split
      · exact set
      · exact failed _ set
    · have marked := ensues_markAt (s.entry i).time [] .list s
      unfold runMark
      split
      · exact failed _ same
      · generalize markAt _ _ _ s = r at marked
        split
        · exact done _ marked
        · exact failed _ marked
    · exact .of
    · unfold runJumpIf
      split <;> exact .of
    · unfold runCall
      split
      · exact ensues_endBad ..
      · exact .of
    · unfold runReturn
      split
      · exact ensues_endBad ..
      · exact .of
    · unfold runRepeatIf
      dsimp only
      split <;> exact .of
    · exact done _ (moves_logEntry ..).toEnsues
    · exact done _ (moves_stopMotion .list s).toEnsues

theorem ensues_chainFrom (fuel i : Nat) (s : State) : Ensues s (chainFrom fuel i s) := by
  induction fuel generalizing i s with
  | zero => exact Ensues.trans .of (ensues_endBad ..)
  | succ fuel ih =>
    have counted : Ensues s { s with sequencer := { s.sequencer with current := i, chainCount := s.sequencer.chainCount + 1 } } := .of
    have ran := counted.trans (ensues_runEntry i _)
    unfold chainFrom
    dsimp only
    split
    · next t h => rw [h] at ran; exact ran
    · next t _ h => rw [h] at ran; exact ran.trans .of
    · next t k h =>
      rw [h] at ran
      split
      · exact ran.trans (ih k t)
      · exact ran.trans (ensues_endList ..)

theorem ensues_beginChain (i : Nat) (s : State) : Ensues s (beginChain i s) := by
  have begun : Ensues s { s with sequencer := { s.sequencer with state := .running, chainCount := 0 } } := .of
  have emptied (u : State) : Ensues u { u with sequencer := { u.sequencer with handoffs := [] } } := .of
  unfold beginChain
  dsimp only
  split
  · exact (begun.trans (ensues_chainFrom ..)).trans (emptied _)
  · exact (begun.trans (ensues_endList ..)).trans (emptied _)

theorem ensues_endEntry (ending : Ending) (s : State) : Ensues s (endEntry ending s) := by
  have emptied (u : State) : Ensues u { u with sequencer := { u.sequencer with handoffs := [] } } := .of
  have passesOn (t : State) (written : Ensues s t) : Ensues s (if s.sequencer.state = .halting then
      { endList .byRequest s.sequencer.haltPort.origin 0 t with
        sequencer := { (endList .byRequest s.sequencer.haltPort.origin 0 t).sequencer with handoffs := [] } }
      else beginChain (s.sequencer.current + 1) t) := by
    split
    · exact (written.trans (ensues_endList ..)).trans (emptied _)
    · exact written.trans (ensues_beginChain ..)
  rcases ending with (_ | time) | reason
  · exact passesOn (writeNow s.sequencer.current .done s) .of
  · exact passesOn (writeResult s.sequencer.current .done s.sequencer.conditions (some time) s) .of
  · exact passesOn (writeFailed s.sequencer.current reason s) (ensues_writeFailed ..)

theorem ensues_settle (s : State) : Ensues s (settle s) := by
  have selected := ensues_takeSelection s
  unfold settle
  generalize takeSelection s = u at selected ⊢
  unfold takeHandoffs
  dsimp only
  split
  · exact selected.trans .of
  · split
    · exact selected.trans (Ensues.trans .of (ensues_endEntry ..))
    · exact selected.trans .of

theorem ensues_judgeWaitTime (s : State) : Ensues s (judgeWaitTime s) := by
  unfold judgeWaitTime
  split
  · split
    · exact ensues_endEntry ..
    · exact ensues_endEntry ..
    · exact .refl s
  · exact .refl s

theorem ensues_stepWaitFrames (s : State) : Ensues s (stepWaitFrames s) := by
  unfold stepWaitFrames
  dsimp only
  split
  · split
    · exact Ensues.trans .of (ensues_endEntry ..)
    · exact .of
  · exact .refl s

/-- After the work of the blocks a pulse leaves the tracker alone, whatever the list does. -/
theorem exec_framePulse_ensues (s : State) : ∃ t, exec .framePulse s = .next t ∧ Ensues (pulseWork s) t := by
  refine ⟨_, rfl, ?_⟩
  have stepped : Ensues (pulseWork s) (if s.decoder.gathering then stepWaitFrames (pulseWork s) else pulseWork s) := by
    split
    · exact ensues_stepWaitFrames _
    · exact .refl _
  exact stepped.trans ((ensues_judgeWaitTime _).trans (ensues_settle _))

end
end Sys2Proof.Machine
end

section
/-! A frame pulse with gathering on, cut at the judgement of the closed frame and at the record gate; and the judgement itself, case by
case (R64, R72 to R75). Settles O35. -/

namespace Sys2Proof.Machine

-- One theorem after another: each one elaborated at the same time would hold a stack of its own.
set_option Elab.async false

section
variable {s t u : State} {g : GatherFrame}

/-! ### The parts of a pulse -/

/-- The pulse has stepped the tape time and closed the current frame (R64 steps 1 and 2). -/
def State.closing (s : State) : State := match s.decoder.current with
  | none => { s with decoder := s.decoder.stepTime }
  | some g => closeFrame g { s with decoder := s.decoder.stepTime }

/-- It has judged the closed frame (R64 step 3). -/
def State.judging (s : State) : State := match s.decoder.current with
  | none => s.closing
  | some g => judgeFrame g.subcodeTime s.closing

/-- It stands before the record gate (R64 step 4, R32). -/
def State.aimed (s : State) : State := takeFrames s.decoder.time (aim (lostSeen (judgeHoldover s.judging)))

/-- It has passed the record gate (R142, R148, R149). -/
def State.gated (s : State) : State := pulseGate (pulseCommit s.aimed)

/-- The work of a pulse that ends the period of `q`, after the record gate. -/
def afterGate (q : Nat) (s : State) : State :=
  let s := pulseWindow (pulseVerify q (pulseCut s))
  mixerJudge (pulseConditions (pulseCapture { s with cues := { s.cues with mark := s.cues.mark.check s.decoder.time } }))

theorem closeCurrent_stepped (s : State) : closeCurrent { s with decoder := s.decoder.stepTime } = s.judging := by
  have still : s.decoder.stepTime.current = s.decoder.current := by
    unfold Decoder.stepTime
    split <;> rfl
  unfold closeCurrent State.judging State.closing
  rw [show ({ s with decoder := s.decoder.stepTime } : State).decoder.current = s.decoder.current from still]
  cases s.decoder.current <;> rfl

theorem pulseWork_gathering (gathering : s.decoder.gathering = true) (pending : s.banks.pendingSwitch = none) :
    pulseWork s = afterGate s.decoder.time s.gated := by
  have gathered : pulseGather s = aim (lostSeen (judgeHoldover s.judging)) := by
    rw [← closeCurrent_stepped]
    exact if_pos gathering
  rw [pulseWork_eq, pulseBanks_none pending, gathered, gathering]
  rfl

/-- The tape time after the step (R72). -/
def State.steppedTime (s : State) : Nat := if 0 < s.decoder.leadIn then 0 else min 359999 (s.decoder.time + 1)

/-- The time predicted of the frame closed at the pulse (R72). -/
def State.predictedTime (s : State) : Nat := min 359999 (s.steppedTime + 2 - (s.decoder.leadIn - 1))

/-- The subcode time of the frame closed at the pulse. -/
def State.foundTime (s : State) : Option Nat := s.decoder.current.bind GatherFrame.subcodeTime

theorem stage_closing (s : State) :
    Stage [.formatMismatch, .cueTableFull] [.blocksRebuilt] 2 { s with decoder := s.decoder.stepTime } s.closing := by
  unfold State.closing
  split
  · exact (Stage.refl _).lift
  · exact stage_closeFrame ..

theorem stepTime_spec (d : Decoder) : d.stepTime.time = (if 0 < d.leadIn then 0 else min 359999 (d.time + 1)) ∧
    d.stepTime.leadIn = d.leadIn - 1 ∧ d.stepTime.status = d.status ∧ d.stepTime.holdover = d.holdover ∧
    d.stepTime.gathering = d.gathering := by
  unfold Decoder.stepTime
  split
  · exact ⟨rfl, rfl, rfl, rfl, rfl⟩
  · next none => exact ⟨rfl, by show d.leadIn = d.leadIn - 1; omega, rfl, rfl, rfl⟩

theorem closing_time (s : State) : s.closing.decoder.time = s.steppedTime ∧ s.closing.decoder.leadIn = s.decoder.leadIn - 1 ∧
    s.closing.decoder.status = s.decoder.status ∧ s.closing.decoder.holdover = s.decoder.holdover := by
  obtain ⟨time, leadIn, status, holdover⟩ := (stage_closing s).time
  obtain ⟨time', leadIn', status', holdover', -⟩ := stepTime_spec s.decoder
  exact ⟨time.trans time', leadIn.trans leadIn', status.trans status', holdover.trans holdover'⟩

theorem closing_predicted (s : State) : s.closing.decoder.predicted = s.predictedTime := by
  obtain ⟨time, leadIn, -, -⟩ := closing_time s
  unfold Decoder.predicted State.predictedTime
  rw [time, leadIn] <;> rfl

theorem activeBank_of (h : t.banks = s.banks) : t.activeBank = s.activeBank := by
  unfold State.activeBank
  rw [h]

/-! ### The judgement of the closed frame (R73 to R75) -/

theorem judging_none (h : s.decoder.current = none) : s.judging = s.closing := by
  unfold State.judging
  rw [h]

theorem judging_some (h : s.decoder.current.isSome = true) : s.judging = judgeFrame s.foundTime s.closing := by
  obtain ⟨g, current⟩ := Option.isSome_iff_exists.1 h
  unfold State.judging State.foundTime
  rw [current] <;> rfl

theorem current_of_found {v : Nat} (h : s.foundTime = some v) : s.decoder.current.isSome = true := by
  unfold State.foundTime at h
  cases current : s.decoder.current with
  | none => rw [current] at h; cases h
  | some g => rfl

theorem judging_confirmed (h : s.foundTime = some s.predictedTime) : s.judging = setStatus .locked 0 s.closing := by
  rw [judging_some (current_of_found h), h]
  exact if_pos (closing_predicted s).symm

/-- The frame closed is invalid or missing, or invalid in RECORD for its time. -/
def State.closesInvalid (s : State) : Prop := s.decoder.current.isSome = true ∧
  (s.foundTime = none ∨ s.transport.state = .record ∧ s.foundTime ≠ some s.predictedTime)

theorem judging_invalid (h : s.closesInvalid) : s.judging = judgeInvalid s.closing := by
  obtain ⟨current, found⟩ := h
  rw [judging_some current]
  cases time : s.foundTime with
  | none => rfl
  | some v =>
    rw [time] at found
    obtain ⟨record, other⟩ := found.resolve_left (Option.some_ne_none v)
    have ne : v ≠ s.closing.decoder.predicted := fun same => other (by rw [same, closing_predicted])
    exact (if_neg ne).trans (if_pos ((stage_closing s).state.trans record))

theorem judging_jump {v : Nat} (h : s.foundTime = some v) (other : v ≠ s.predictedTime) (state : s.transport.state ≠ .record) :
    s.judging = jumpTo v s.predictedTime s.closing := by
  have ne : v ≠ s.closing.decoder.predicted := by rw [closing_predicted]; exact other
  have still : s.closing.transport.state ≠ .record := by rw [(stage_closing s).state]; exact state
  rw [judging_some (current_of_found h), h, ← closing_predicted s]
  exact (if_neg ne).trans (if_neg still)

theorem judgeInvalid_stays (h : s.decoder.status = .unknown ∨ s.decoder.status = .lost) : judgeInvalid s = s := by
  unfold judgeInvalid
  rcases h with h | h <;> rw [h]

theorem judgeInvalid_holds (h : s.decoder.status = .locked ∨ s.decoder.status = .holdover)
    (within : s.decoder.holdover < s.activeBank.holdover) : judgeInvalid s = setStatus .holdover (s.decoder.holdover + 1) s := by
  unfold judgeInvalid
  rcases h with h | h <;> rw [h] <;> exact if_pos within

theorem judgeInvalid_loses (h : s.decoder.status = .locked ∨ s.decoder.status = .holdover)
    (limit : ¬ s.decoder.holdover < s.activeBank.holdover) : judgeInvalid s = enterLost s := by
  unfold judgeInvalid
  rcases h with h | h <;> rw [h] <;> exact if_neg limit

/-! ### The loss of tape time, and a time jump (R73, R74, R144, R145) -/

/-- The status is LOST, with the condition, the flag and the entry of the loss. -/
def State.lossSeen (s : State) : State :=
  logEntry .timeLost (some s.decoder.time) .internal s.activeBank.holdover
    (raiseFlag .timeLost (setCondition .timeLost (setStatus .lost s.activeBank.holdover s)))

theorem stroke_setStatus (status : TimeStatus) (holdover : Nat) (s : State) : Stroke [] [] 0 s (setStatus status holdover s) := .of

theorem stroke_setCondition (c : Condition) (s : State) : Stroke [] [] 0 s (setCondition c s) := (amends_setCondition c s).stroke

theorem stroke_lossSeen (s : State) : Stroke [.timeLost] [] 1 s s.lossSeen :=
  (((stroke_setStatus ..).then ((stroke_setCondition ..).then (stroke_raiseFlag ..))).trans (stroke_logEntry ..)).mono le_rfl
    (by simp) (by simp)

/-- The punches go with the time: a scheduled timed punch-in, and a timed punch-out that is not committed. -/
def withdrawPunches (s : State) : State :=
  withdrawPunchOut (match s.mixer.punchIn with
    | some p => if p.timed then cancelPunch .time s else s
    | none => s)

theorem enterLost_eq (s : State) : enterLost s = withdrawPunches s.lossSeen := rfl

theorem stroke_withdrawPunches (s : State) : Stroke [.punchCancelled] [] 2 s (withdrawPunches s) := by
  have cancelled : Stroke [.punchCancelled] [] 1 s (match s.mixer.punchIn with
      | some p => if p.timed then cancelPunch .time s else s
      | none => s) := by
    split
    · split
      · exact stroke_cancelPunch ..
      · exact (Stroke.refl s).lift
    · exact (Stroke.refl s).lift
  exact (cancelled.trans (stroke_withdrawPunchOut _)).mono le_rfl (by simp) (by simp)

theorem moves_withdrawPunches (s : State) : Moves s (withdrawPunches s) := by
  have cancelled : Moves s (match s.mixer.punchIn with
      | some p => if p.timed then cancelPunch .time s else s
      | none => s) := by
    split
    · split
      · exact moves_cancelPunch ..
      · exact .refl s
    · exact .refl s
  unfold withdrawPunches withdrawPunchOut
  generalize (match s.mixer.punchIn with
      | some p => if p.timed then cancelPunch .time s else s
      | none => s) = t at cancelled ⊢
  split
  · split
    · exact ((cancelled.trans (moves_scheduled t { t.mixer with punchOut := none, committed := false })).trans
        (moves_logEntry ..)).trans (moves_handOffIf ..)
    · exact cancelled
  · exact cancelled

/-- The tape time as a jump sets it, counted and logged. -/
def State.jumped (v c : Nat) (s : State) : State :=
  logEntry .timeJump (some v) .internal c (count .timeJumps 1 (setStatus .locked 0 { s with decoder := s.decoder.setFrom v }))

theorem jumpTo_eq (v c : Nat) (s : State) : jumpTo v c s = cancelPunch .time (s.jumped v c) := rfl

theorem stroke_jumped (v c : Nat) (s : State) : Stroke [.timeJump] [.timeJumps] 1 s (s.jumped v c) := by
  have set : Stroke [] [] 0 s (setStatus .locked 0 { s with decoder := s.decoder.setFrom v }) := .of
  exact ((set.trans (amends_count .timeJumps 1 _).stroke).trans (stroke_logEntry ..)).mono le_rfl (by simp) (by simp)

/-- The judgement makes three entries at most. -/
theorem stroke_judging (s : State) : Stroke [.timeLost, .timeJump, .punchCancelled] [.timeJumps] 3 s.closing s.judging := by
  have invalid (u : State) : Stroke [.timeLost, .timeJump, .punchCancelled] [.timeJumps] 3 u (judgeInvalid u) := by
    by_cases known : u.decoder.status = .locked ∨ u.decoder.status = .holdover
    · by_cases within : u.decoder.holdover < u.activeBank.holdover
      · rw [judgeInvalid_holds known within]
        exact (stroke_setStatus ..).lift
      · rw [judgeInvalid_loses known within, enterLost_eq]
        exact ((stroke_lossSeen u).trans (stroke_withdrawPunches _)).mono le_rfl (by simp) (by simp)
    · rw [judgeInvalid_stays (by cases h : u.decoder.status <;> simp_all)]
      exact (Stroke.refl u).lift
  by_cases current : s.decoder.current.isSome = true
  · rw [judging_some current]
    unfold judgeFrame
    dsimp only
    split
    · exact invalid _
    · split
      · exact (stroke_setStatus ..).lift
      · split
        · exact invalid _
        · rw [jumpTo_eq]
          exact ((stroke_jumped ..).trans (stroke_cancelPunch ..)).mono (by decide) (by simp) (by simp)
  · rw [judging_none (by simpa using current)]
    exact (Stroke.refl _).lift

/-- The judgement leaves the holdover count within the limit, and the bank as it was. -/
theorem judging_within (h : s.decoder.holdover ≤ s.activeBank.holdover) : s.judging.decoder.holdover ≤ s.judging.activeBank.holdover := by
  obtain ⟨-, -, -, holdover⟩ := closing_time s
  have bank : s.closing.activeBank = s.activeBank := activeBank_of (stage_closing s).banks
  have same : s.judging.activeBank = s.activeBank := (activeBank_of (stroke_judging s).banks).trans bank
  have invalid : (judgeInvalid s.closing).decoder.holdover ≤ s.activeBank.holdover := by
    by_cases known : s.closing.decoder.status = .locked ∨ s.closing.decoder.status = .holdover
    · by_cases within : s.closing.decoder.holdover < s.closing.activeBank.holdover
      · rw [judgeInvalid_holds known within]
        rw [bank] at within
        exact within
      · obtain ⟨-, -, -, kept⟩ := (moves_withdrawPunches s.closing.lossSeen).time
        rw [judgeInvalid_loses known within, enterLost_eq, kept, ← bank]
        exact le_rfl
    · rw [judgeInvalid_stays (by cases h : s.closing.decoder.status <;> simp_all), holdover]
      exact h
  rw [same]
  by_cases current : s.decoder.current.isSome = true
  · rw [judging_some current]
    unfold judgeFrame
    dsimp only
    split
    · exact invalid
    · split
      · exact Nat.zero_le _
      · split
        · exact invalid
        · obtain ⟨-, -, -, kept⟩ := (moves_cancelPunch .time (s.closing.jumped _ _)).time
          rw [jumpTo_eq, kept]
          exact Nat.zero_le _
  · rw [judging_none (by simpa using current), holdover]
    exact h

theorem cancelPunch_state (reason : CancelReason) (s : State) : (cancelPunch reason s).transport.state = s.transport.state := by
  obtain ⟨_, _, _, _, _, _, _, _, _, cancelled⟩ := cancelPunch_leaves reason s
  rw [cancelled]

theorem withdrawPunches_state (s : State) : (withdrawPunches s).transport.state = s.transport.state := by
  have cancelled : (match s.mixer.punchIn with
      | some p => if p.timed then cancelPunch .time s else s
      | none => s).transport.state = s.transport.state := by
    split
    · split
      · exact cancelPunch_state ..
      · rfl
    · rfl
  unfold withdrawPunches withdrawPunchOut
  generalize (match s.mixer.punchIn with
      | some p => if p.timed then cancelPunch .time s else s
      | none => s) = t at cancelled ⊢
  have work := (slotWork_spanChanged { t with mixer := { t.mixer with punchOut := none, committed := false } }).1.state
  split
  · split
    · dsimp only
      rw [handOffIf_transport]
      generalize spanChanged { t with mixer := { t.mixer with punchOut := none, committed := false } } = w at work ⊢
      exact work.trans cancelled
    · exact cancelled
  · exact cancelled

/-- The judgement leaves the transport state. -/
theorem judging_state (s : State) : s.judging.transport.state = s.transport.state := by
  have closing := (stage_closing s).state
  have invalid (u : State) : (judgeInvalid u).transport.state = u.transport.state := by
    unfold judgeInvalid
    split
    all_goals first
      | rfl
      | (split
         · rfl
         · exact withdrawPunches_state u.lossSeen)
  by_cases current : s.decoder.current.isSome = true
  · rw [judging_some current]
    unfold judgeFrame
    dsimp only
    split
    · exact (invalid _).trans closing
    · split
      · exact closing
      · split
        · exact (invalid _).trans closing
        · exact (cancelPunch_state .time (s.closing.jumped _ _)).trans closing
  · rw [judging_none (by simpa using current)]
    exact closing

/-! ### From the judgement to the end of the pulse -/

theorem stage_aimed (h : s.decoder.holdover ≤ s.activeBank.holdover) : Stage [] [.framesDropped, .framesMuted] 0 s.judging s.aimed := by
  unfold State.aimed
  rw [judgeHoldover_within (judging_within h)]
  exact (((stage_lostSeen s.judging).trans (stage_aim _)).trans (stage_takeReady ..)).mono le_rfl (by simp) (by simp)

theorem stage_afterGate (q : Nat) (s : State) : ∃ n, Stage [.writeLate, .verify] [.verifyFails] n s (afterGate q s) ∧
    (s.coder.verify.length ≤ 3 → n ≤ 5) := by
  have cut := stage_pulseCut s
  have verified := stage_pulseVerify q (pulseCut s)
  have windowed := stage_pulseWindow (pulseVerify q (pulseCut s))
  unfold afterGate
  dsimp only
  generalize pulseWindow (pulseVerify q (pulseCut s)) = u at windowed ⊢
  have checked : Stage [] [] 0 u { u with cues := { u.cues with mark := u.cues.mark.check u.decoder.time } } := (Amends.of ..).stage
  have captured := checked.then ((stage_pulseCapture _).then ((stage_pulseConditions _).then (slotWork_mixerJudge _).stage))
  exact ⟨_, (((cut.trans verified).trans windowed).then captured).mono le_rfl (by simp) (by simp), fun few => by
    have := cut.verify few
    omega⟩

theorem moves_pulseGate (s : State) : Moves s (pulseGate (pulseCommit s)) := by
  have committed : Moves s (pulseCommit s) := by
    unfold pulseCommit
    split
    · split
      · exact .of
      · exact .refl s
    · exact .refl s
  generalize pulseCommit s = u at committed ⊢
  have opened (p : Punch) : Moves u (openGate p u) := by
    have taken : Moves u { u with mixer := { u.mixer with taken := true, gateOpen := true } } := .of
    exact ((taken.trans (moves_enterState ..)).trans (slotWork_spanChanged _).1.moves).trans
      ((moves_raiseFlag .punchIn _).trans ((moves_logEntry ..).trans (moves_handOffIf ..)))
  have closed (o : Punch) (last : Nat) : Moves u (closeOnPulse o last u) := by
    have cleared : Moves u (clearPunches u) := .of
    exact ((cleared.trans (slotWork_spanChanged _).1.moves).trans (moves_enterState ..)).trans
      ((moves_raiseFlag .punchOut _).trans ((moves_logEntry ..).trans (moves_handOffIf ..)))
  unfold pulseGate
  split
  · split
    · dsimp only
      split
      · exact committed.trans (closed ..)
      · exact committed
    · exact committed
  · split
    · split
      · exact committed.trans (opened _)
      · exact committed
    · exact committed

/-- After the judgement of the closed frame the tracker stays, whatever the blocks and the list do. -/
theorem exec_framePulse_judged (gathering : s.decoder.gathering = true) (pending : s.banks.pendingSwitch = none)
    (within : s.decoder.holdover ≤ s.activeBank.holdover) : ∃ t, exec .framePulse s = .next t ∧ Ensues s.judging t := by
  obtain ⟨t, run, worked⟩ := exec_framePulse_ensues s
  obtain ⟨n, after, -⟩ := stage_afterGate s.decoder.time s.gated
  rw [pulseWork_gathering gathering pending] at worked
  exact ⟨t, run, (((stage_aimed within).ensues.trans (moves_pulseGate _).toEnsues).trans after.ensues).trans worked⟩

/-- With no list running and nothing pending the pulse is the work of the blocks, which makes six entries at most after the judgement. -/
theorem exec_framePulse_gathers (quiet : s.quiet) (idle : s.sequencer.state = .idle) (gathering : s.decoder.gathering = true)
    (pending : s.banks.pendingSwitch = none) (within : s.decoder.holdover ≤ s.activeBank.holdover)
    (rolling : s.transport.state.rolling = true) :
    exec .framePulse s = .next { pulseWork s with sequencer := { (pulseWork s).sequencer with handoffs := [] } } ∧
    ∃ n, Stroke [.punchIn, .punchOut, .writeLate, .verify] [.framesDropped, .framesMuted, .verifyFails] n s.judging
      { pulseWork s with sequencer := { (pulseWork s).sequencer with handoffs := [] } } ∧ (s.coder.verify.length ≤ 3 → n ≤ 6) := by
  obtain ⟨-, selection⟩ := quiet
  have begun : Stroke [] [] 0 s { s with decoder := s.decoder.stepTime } := .of
  have judged := (begun.trans (stage_closing s).stroke).trans (stroke_judging s)
  have aimed := stage_aimed within
  have rolls : (pulseCommit s.aimed).transport.state.rolling = true := by
    have kept : (pulseCommit s.aimed).transport = s.aimed.transport := by
      unfold pulseCommit
      split
      · split <;> rfl
      · rfl
    rw [kept, aimed.state, judging_state]
    exact rolling
  have gated : Stroke _ _ _ s.judging s.gated := (aimed.stroke.trans (stroke_pulseCommit _)).trans (stroke_pulseGate rolls)
  obtain ⟨n, after, five⟩ := stage_afterGate s.decoder.time s.gated
  have worked := gated.trans after.stroke
  rw [← pulseWork_gathering gathering pending] at worked
  have whole := judged.trans worked
  have still : (pulseWork s).sequencer.state = .idle := by rw [whole.sequencer]; exact idle
  have none : (pulseWork s).input.pendingSelect = none := whole.selection.trans selection
  refine ⟨?_, ?_⟩
  · rw [exec_framePulse_idle still, settle_idle still none]
  · have emptied : Stroke [] [] 0 (pulseWork s) { pulseWork s with sequencer := { (pulseWork s).sequencer with handoffs := [] } } :=
      (Amends.of ..).stroke
    refine ⟨_, (worked.then emptied).mono le_rfl (by simp) (by simp), fun few => ?_⟩
    have five := five (gated.verify (judged.verify few))
    omega

/-! ### What the judgement leaves of the tracker (R72 to R75) -/

theorem judgeInvalid_time (s : State) : (judgeInvalid s).decoder.time = s.decoder.time ∧ (judgeInvalid s).decoder.leadIn = s.decoder.leadIn := by
  have lost : (enterLost s).decoder.time = s.decoder.time ∧ (enterLost s).decoder.leadIn = s.decoder.leadIn := by
    obtain ⟨time, leadIn, -, -⟩ := (moves_withdrawPunches s.lossSeen).time
    exact ⟨time, leadIn⟩
  unfold judgeInvalid
  split
  all_goals first
    | exact ⟨rfl, rfl⟩
    | (split
       · exact ⟨rfl, rfl⟩
       · exact lost)

theorem setFrom_spec (d : Decoder) (v : Nat) : (d.setFrom v).time = v - 2 ∧ (d.setFrom v).leadIn = 2 - v := by
  unfold Decoder.setFrom
  split
  · exact ⟨rfl, by show 0 = 2 - v; omega⟩
  · exact ⟨by show 0 = v - 2; omega, rfl⟩

/-- But for a time jump the tape time is the one stepped to. -/
theorem judging_time (h : s.foundTime = none ∨ s.transport.state = .record) :
    s.judging.decoder.time = s.steppedTime ∧ s.judging.decoder.leadIn = s.decoder.leadIn - 1 := by
  obtain ⟨time, leadIn, -, -⟩ := closing_time s
  by_cases confirmed : s.foundTime = some s.predictedTime
  · rw [judging_confirmed confirmed]
    exact ⟨time, leadIn⟩
  · by_cases current : s.decoder.current.isSome = true
    · obtain ⟨time', leadIn'⟩ := judgeInvalid_time s.closing
      rw [judging_invalid ⟨current, h.imp_right fun record => ⟨record, confirmed⟩⟩]
      exact ⟨time'.trans time, leadIn'.trans leadIn⟩
    · rw [judging_none (by simpa using current)]
      exact ⟨time, leadIn⟩

/-- A time jump in PLAY: T, the count on both ports and the entry (R73). -/
theorem judging_jumps {v : Nat} (h : s.foundTime = some v) (other : v ≠ s.predictedTime) (state : s.transport.state ≠ .record) :
    s.judging.decoder.time = v - 2 ∧ s.judging.decoder.leadIn = 2 - v ∧ s.judging.decoder.status = .locked ∧
    s.judging.decoder.holdover = 0 ∧
    (∀ port, (s.judging.reports.port port).counters.timeJumps = min 255 ((s.reports.port port).counters.timeJumps + 1)) ∧
    ∃ n, Recent 1 ⟨n, .timeJump, some v, .internal, s.predictedTime⟩ s.judging.reports.log := by
  rw [judging_jump h other state, jumpTo_eq]
  have cancelled := moves_cancelPunch .time (s.closing.jumped v s.predictedTime)
  obtain ⟨time, leadIn, status, holdover⟩ := cancelled.time
  obtain ⟨time', leadIn'⟩ := setFrom_spec s.closing.decoder v
  refine ⟨time.trans time', leadIn.trans leadIn', status, holdover, fun port => ?_, _,
    (amends_cancelPunch ..).recent 0 _ (by decide) (recent_logEntry ..)⟩
  have before : (s.closing.reports.port port).counters.timeJumps = (s.reports.port port).counters.timeJumps :=
    (stage_closing s).counters .timeJumps (by decide) port
  rw [cancelled.jumps port, ← before]
  cases port <;> rfl

theorem conditions_setCondition (c : Condition) (s : State) {b : Nat} (bit : c.bit.getLsbD b = true) :
    (setCondition c s).sequencer.conditions.getLsbD b = true := by
  show (s.sequencer.conditions ||| c.bit).getLsbD b = true
  rw [BitVec.getLsbD_or, bit, Bool.or_true]

/-- The loss of tape time: the status, the flag on each port, the condition and the entry (R74). -/
theorem judging_loses (h : s.closesInvalid) (known : s.decoder.status = .locked ∨ s.decoder.status = .holdover)
    (limit : s.decoder.holdover = s.activeBank.holdover) :
    s.judging.decoder.status = .lost ∧ s.judging.decoder.holdover = s.activeBank.holdover ∧
    (∀ port, (s.reports.port port).mask.getLsbD 6 = false → (s.judging.reports.port port).flags.getLsbD 6 = true) ∧
    s.judging.sequencer.conditions.getLsbD 4 = true ∧
    ∃ n, Recent 2 ⟨n, .timeLost, some s.steppedTime, .internal, s.activeBank.holdover⟩ s.judging.reports.log := by
  obtain ⟨time, -, status, holdover⟩ := closing_time s
  have bank : s.closing.activeBank = s.activeBank := activeBank_of (stage_closing s).banks
  rw [judging_invalid h, judgeInvalid_loses (by rw [status]; exact known) (by rw [holdover, bank, limit]; exact lt_irrefl _), enterLost_eq]
  have withdrawn := moves_withdrawPunches s.closing.lossSeen
  have amended := (stroke_withdrawPunches s.closing.lossSeen).toAmends
  obtain ⟨-, -, lost, count⟩ := withdrawn.time
  refine ⟨lost, count.trans (congrArg Bank.holdover bank), fun port shown => ?_, ?_, s.closing.reports.nextSequence, ?_⟩
  · refine withdrawn.flags port 6 ((amends_logEntry ..).flags port 6 (flags_raiseFlag _ _ port (by decide) ?_))
    exact (congrArg (·.getLsbD 6) ((stage_closing s).masks port)).trans shown
  · exact amended.conditions 4 (conditions_setCondition .timeLost _ (by decide))
  · have entry : Recent 0 ⟨s.closing.reports.nextSequence, .timeLost, some s.closing.decoder.time, .internal, s.closing.activeBank.holdover⟩
        s.closing.lossSeen.reports.log := recent_logEntry ..
    rw [← time, ← bank]
    exact amended.recent 0 _ (by decide) entry

/-- With no list running, no selection taking effect at the end of the command schedules a punch-in. -/
theorem settle_unpunched (idle : s.sequencer.state = .idle) (gate : s.mixer.gateOpen = false) (punch : s.mixer.punchIn = none) :
    (settle s).mixer = s.mixer := by
  have selected : (takeSelection s).mixer = s.mixer ∧ (takeSelection s).sequencer.state = .idle := by
    unfold takeSelection
    split
    · split
      · next source _ _ =>
        obtain ⟨fields, -, judged⟩ := judgeLost_untroubled (s := { s with input := { s.input with selected := source, pendingSelect := none } })
          (.inr (.inl ⟨gate, punch⟩))
        obtain ⟨c, r, lost⟩ := lossJudged_leaves { s with input := { s.input with selected := source, pendingSelect := none } }
        unfold applySelection
        rw [judged]
        unfold State.fieldJudged
        rw [lost]
        exact ⟨rfl, idle⟩
      · exact ⟨rfl, idle⟩
    · exact ⟨rfl, idle⟩
  obtain ⟨mixer, still⟩ := selected
  unfold settle
  rw [takeHandoffs_idle still]
  exact mixer

/-- A scheduled punch-in that is cancelled leaves the punch records none. -/
theorem cancelPunch_clears (reason : CancelReason) (taken : s.mixer.taken = false) (gate : s.mixer.gateOpen = false) :
    (cancelPunch reason s).mixer.punchIn = none ∧ (cancelPunch reason s).mixer.gateOpen = false := by
  cases punch : s.mixer.punchIn with
  | none =>
    rw [cancelPunch_same reason (.inl punch)]
    exact ⟨punch, gate⟩
  | some p =>
    rw [(cancelPunch_cancels reason punch taken).mixer, (slotWork_spanChanged (clearPunches s)).1.mixer]
    exact ⟨rfl, rfl⟩

/-- A time jump with no list running leaves no punch-in scheduled (R144). -/
theorem exec_framePulse_unpunched (idle : s.sequencer.state = .idle) (gathering : s.decoder.gathering = true)
    (pending : s.banks.pendingSwitch = none) (within : s.decoder.holdover ≤ s.activeBank.holdover)
    (judged : s.judging.mixer.punchIn = none ∧ s.judging.mixer.gateOpen = false) :
    ∃ t, exec .framePulse s = .next t ∧ t.mixer.punchIn = none := by
  obtain ⟨punch, gate⟩ := judged
  have aimed := stage_aimed within
  have committed : (pulseCommit s.aimed).mixer.punchIn = none ∧ (pulseCommit s.aimed).mixer.gateOpen = false ∧
      (pulseCommit s.aimed).sequencer = s.aimed.sequencer := by
    rw [← aimed.mixer] at punch gate
    unfold pulseCommit
    split
    · split <;> exact ⟨punch, gate, rfl⟩
    · exact ⟨punch, gate, rfl⟩
  obtain ⟨punch', gate', list⟩ := committed
  have gated : s.gated = pulseCommit s.aimed := pulseGate_closed gate' punch'
  obtain ⟨n, after, -⟩ := stage_afterGate s.decoder.time s.gated
  rw [← pulseWork_gathering gathering pending] at after
  have begun : Stroke [] [] 0 s { s with decoder := s.decoder.stepTime } := .of
  have judged := (begun.trans (stage_closing s).stroke).trans (stroke_judging s)
  have still : (pulseWork s).sequencer.state = .idle := by
    rw [after.sequencer, gated, list, aimed.sequencer, judged.sequencer]
    exact idle
  have mixer : (pulseWork s).mixer = (pulseCommit s.aimed).mixer := by rw [after.mixer, gated]
  refine ⟨_, exec_framePulse_idle still, ?_⟩
  rw [settle_unpunched still (by rw [mixer]; exact gate') (by rw [mixer]; exact punch'), mixer]
  exact punch'

end
end Sys2Proof.Machine

namespace Sys2Proof.Proofs
open Sys2Proof.Machine

/-- Settles O35. -/
theorem tapeTimeAtPulse : Obligations.TapeTimeAtPulse := by
  intro s gathering pending within state stepped leadIn predicted found invalid
  have rolling : s.transport.state.rolling = true := by
    rcases state with h | h <;> rw [h] <;> rfl
  obtain ⟨t, run, worked⟩ := exec_framePulse_judged gathering pending within
  obtain ⟨time, lead, status, holdover⟩ := worked.time
  obtain ⟨closeTime, closeLead, closeStatus, closeHoldover⟩ := closing_time s
  have gathers (q : s.quiet) (idle : s.sequencer.state = .idle) :
      ∃ n, Stroke [.punchIn, .punchOut, .writeLate, .verify] [.framesDropped, .framesMuted, .verifyFails] n s.judging t ∧
        (s.coder.verify.length ≤ 3 → n ≤ 6) := by
    obtain ⟨run', stroke⟩ := exec_framePulse_gathers q idle gathering pending within rolling
    obtain rfl : t = _ := Host.Outcome.next.inj (run.symm.trans run')
    exact stroke
  refine ⟨t, run, fun confirmed => ?_, fun none => ?_, fun v jumps other play => ?_, fun stays => ?_, fun fails known => ⟨fun below => ?_,
    fun limit => ?_⟩⟩
  · have judged := judging_confirmed (s := s) confirmed
    rw [judged] at time lead status holdover
    exact ⟨time.trans closeTime, lead.trans closeLead, status, holdover⟩
  · obtain ⟨time', lead'⟩ := judging_time (s := s) none
    exact ⟨time.trans time', lead.trans lead'⟩
  · have moves : s.transport.state ≠ .record := by rw [play]; decide
    obtain ⟨time', lead', status', holdover', counts, n, entry⟩ := judging_jumps (s := s) jumps other moves
    refine ⟨time.trans time', lead.trans lead', status.trans status', holdover.trans holdover',
      fun port => (worked.jumps port).trans (counts port), fun idle gate taken => ?_, fun q idle few => ?_⟩
    · have cancelled : s.judging.mixer.punchIn = none ∧ s.judging.mixer.gateOpen = false := by
        have before : (s.closing.jumped v s.predictedTime).mixer = s.mixer := (stage_closing s).mixer
        rw [judging_jump jumps other moves, jumpTo_eq]
        exact cancelPunch_clears .time (by rw [before]; exact taken) (by rw [before]; exact gate)
      obtain ⟨t', run', punch⟩ := exec_framePulse_unpunched idle gathering pending within cancelled
      obtain rfl : t = t' := Host.Outcome.next.inj (run.symm.trans run')
      exact punch
    · obtain ⟨m, gathered, short⟩ := gathers q idle
      exact ⟨_, (gathered.recent 1 _ (by have := short few; omega) entry).mem, rfl, rfl, rfl, rfl⟩
  · have judged : s.judging.decoder.status = s.decoder.status ∧ s.judging.decoder.holdover = s.decoder.holdover := by
      rcases stays with none | ⟨fails, unknown⟩
      · rw [judging_none none]
        exact ⟨closeStatus, closeHoldover⟩
      · rw [judging_invalid fails, judgeInvalid_stays (by rw [closeStatus]; exact unknown)]
        exact ⟨closeStatus, closeHoldover⟩
    exact ⟨status.trans judged.1, holdover.trans judged.2⟩
  · have bank : s.closing.activeBank = s.activeBank := activeBank_of (stage_closing s).banks
    have judged := (judging_invalid (s := s) fails).trans
      (judgeInvalid_holds (by rw [closeStatus]; exact known) (by rw [closeHoldover, bank]; exact below))
    rw [judged] at status holdover
    exact ⟨status, holdover.trans (congrArg (· + 1) closeHoldover)⟩
  · obtain ⟨status', holdover', flags, condition, n, entry⟩ := judging_loses (s := s) fails known limit
    refine ⟨status.trans status', holdover.trans holdover', fun port shown => worked.flags port 6 (flags port shown), fun q idle => ?_⟩
    obtain ⟨m, gathered, short⟩ := gathers q idle
    exact ⟨gathered.conditions 4 condition, fun few => ⟨_, (gathered.recent 2 _ (by have := short few; omega) entry).mem, rfl, rfl, rfl, rfl⟩⟩

end Sys2Proof.Proofs
end

section
/-! The record gate at a frame pulse: it opens, closes or stays, and a punch-out becomes committed or is withdrawn (R74, R120, R142, R145,
R148, R149). Settles O36. -/

namespace Sys2Proof.Machine

-- One theorem after another: each one elaborated at the same time would hold a stack of its own.
set_option Elab.async false

section
variable {s t u : State} {p o : Punch}

/-! ### The gate (R120, R148, R149) -/

theorem logEntry_last (kind : LogKind) (time : Option Nat) (origin : Origin) (argument : Nat) (s : State) :
    (logEntry kind time origin argument s).reports.log.getLast? = some ⟨s.reports.nextSequence, kind, time, origin, argument⟩ :=
  List.getLast?_concat ..

/-- The gate opens: its flag and its entry, on a state that differs by work on slots from the transport in RECORD. -/
theorem openGate_eq (p : Punch) (rolling : s.transport.state.rolling = true) : ∃ w handoffs,
    SlotWork (entered .record (.playSpeed .normal) { s with mixer := { s.mixer with taken := true, gateOpen := true } }) w ∧
    openGate p s = { logEntry .punchIn (some p.time) p.origin p.cross (raiseFlag .punchIn w) with
      sequencer := { w.sequencer with handoffs := handoffs } } := by
  have work := (slotWork_spanChanged (entered .record (.playSpeed .normal)
    { s with mixer := { s.mixer with taken := true, gateOpen := true } })).1
  unfold openGate
  dsimp only
  rw [enterState_steady (by exact rolling)]
  generalize spanChanged (entered .record (.playSpeed .normal) { s with mixer := { s.mixer with taken := true, gateOpen := true } }) = w
    at work ⊢
  obtain ⟨h, handed⟩ := handOffIf_eq (p.origin == .list) (.gateOpened p.time)
    (logEntry .punchIn (some p.time) p.origin p.cross (raiseFlag .punchIn w))
  exact ⟨w, h, work, handed⟩

/-- The gate closes at its pulse: its flag and its entry, with the transport in PLAY, on a state that differs by work on slots from the
one with the punch records none. -/
theorem closeOnPulse_eq (o : Punch) (last : Nat) (rolling : s.transport.state.rolling = true) : ∃ w handoffs,
    SlotWork (clearPunches s) w ∧ w.copy.latched = false ∧
    closeOnPulse o last s = { logEntry .punchOut (some last) o.origin 0 (raiseFlag .punchOut (entered .play (.playSpeed .normal) w)) with
      sequencer := { w.sequencer with handoffs := handoffs } } := by
  obtain ⟨work, unlatched⟩ := slotWork_spanChanged (clearPunches s)
  have opens := unlatched rfl
  unfold closeOnPulse
  dsimp only
  generalize spanChanged (clearPunches s) = w at work opens ⊢
  rw [enterState_steady (by rw [work.state]; exact rolling)]
  obtain ⟨h, handed⟩ := handOffIf_eq (o.origin == .list) (.punchOutDone last)
    (logEntry .punchOut (some last) o.origin 0 (raiseFlag .punchOut (entered .play (.playSpeed .normal) w)))
  exact ⟨w, h, work, opens, handed⟩

/-- What the opening leaves: the punch-in taken, RECORD, T, the entry last in the log and the flag. -/
theorem openGate_spec (p : Punch) (rolling : s.transport.state.rolling = true) :
    (openGate p s).mixer = { s.mixer with taken := true, gateOpen := true } ∧ (openGate p s).transport.state = .record ∧
    (openGate p s).decoder.time = s.decoder.time ∧
    (openGate p s).reports.log.getLast? = some ⟨s.reports.nextSequence, .punchIn, some p.time, p.origin, p.cross⟩ ∧
    ∀ port, (s.reports.port port).mask.getLsbD 2 = false → ((openGate p s).reports.port port).flags.getLsbD 2 = true := by
  obtain ⟨w, h, work, opened⟩ := openGate_eq p rolling
  have reports : w.reports = s.reports := work.reports
  have time : w.decoder.time = s.decoder.time := by rw [work.decoder] <;> rfl
  rw [opened]
  refine ⟨work.mixer, work.state, time, ?_, fun port shown => ?_⟩
  · rw [← reports]
    exact logEntry_last ..
  · exact (amends_logEntry ..).flags port 2 (flags_raiseFlag .punchIn w port (by decide) (by rw [reports]; exact shown))

/-- What the closing leaves: the punch records none, PLAY, gathering on, the copy gate open, the entry last in the log and the flag. -/
theorem closeOnPulse_spec (o : Punch) (last : Nat) (rolling : s.transport.state.rolling = true) :
    (closeOnPulse o last s).mixer = { s.mixer with
      punchIn := none, taken := false, punchOut := none, committed := false, gateOpen := false } ∧
    (closeOnPulse o last s).transport.state = .play ∧ (closeOnPulse o last s).decoder.gathering = s.decoder.gathering ∧
    (closeOnPulse o last s).copy.latched = false ∧
    (closeOnPulse o last s).reports.log.getLast? = some ⟨s.reports.nextSequence, .punchOut, some last, o.origin, 0⟩ ∧
    ∀ port, (s.reports.port port).mask.getLsbD 3 = false → ((closeOnPulse o last s).reports.port port).flags.getLsbD 3 = true := by
  obtain ⟨w, h, work, opens, closed⟩ := closeOnPulse_eq o last rolling
  have reports : w.reports = s.reports := work.reports
  have gathering : w.decoder.gathering = s.decoder.gathering := congrArg Decoder.gathering work.decoder
  rw [closed]
  refine ⟨work.mixer, rfl, gathering, opens, ?_, fun port shown => ?_⟩
  · rw [← reports]
    exact logEntry_last ..
  · exact (amends_logEntry ..).flags port 3
      (flags_raiseFlag .punchOut (entered .play (.playSpeed .normal) w) port (by decide) (by
        show (w.reports.port port).mask.getLsbD 3 = false
        rw [reports]; exact shown))

theorem pulseGate_shut (gate : s.mixer.gateOpen = false) (punch : s.mixer.punchIn = some p) :
    pulseGate s = if s.transport.state = .play ∧ s.decoder.time = p.time then openGate p s else s := by
  unfold pulseGate
  rw [gate, punch] <;> rfl

theorem pulseGate_open (gate : s.mixer.gateOpen = true) (punch : s.mixer.punchOut = some o) :
    pulseGate s = if s.decoder.time = o.lastOut s.framePairs + 1 then closeOnPulse o (o.lastOut s.framePairs) s else s := by
  unfold pulseGate
  rw [gate, punch] <;> rfl

theorem pulseGate_endless (gate : s.mixer.gateOpen = true) (punch : s.mixer.punchOut = none) : pulseGate s = s := by
  unfold pulseGate
  rw [gate, punch] <;> rfl

/-! ### The committing (R142) -/

/-- The punch-out falls due for committing at tape time `time`. -/
def State.due (s : State) (time : Nat) : Prop := ∃ o ∈ s.mixer.punchOut, o.time ≤ time + 2

theorem pulseCommit_due (h : s.due s.decoder.time) : pulseCommit s = { s with mixer := { s.mixer with committed := true } } := by
  obtain ⟨o, punch, due⟩ := h
  unfold pulseCommit
  rw [punch]
  exact if_pos due

theorem pulseCommit_early (h : ¬ s.due s.decoder.time) : pulseCommit s = s := by
  unfold pulseCommit
  split
  · next o punch => exact if_neg fun due => h ⟨o, punch, due⟩
  · rfl

/-! ### The judgement and the punches (R73, R74, R145) -/

theorem withdrawPunches_taken (taken : s.mixer.taken = true) : withdrawPunches s = withdrawPunchOut s := by
  unfold withdrawPunches
  split
  · split
    · rw [cancelPunch_same .time (.inr taken)]
    · rfl
  · rfl

/-- A timed punch-out that is not committed and ends the take more than two frames on. -/
def State.withdrawable (s : State) (o : Punch) (time : Nat) : Prop := o.timed = true ∧ s.mixer.committed = false ∧ time + 2 < o.time

theorem withdrawPunchOut_stays (h : ∀ o, s.mixer.punchOut = some o → ¬ s.withdrawable o s.decoder.time) : withdrawPunchOut s = s := by
  unfold withdrawPunchOut
  split
  · next o punch =>
    exact if_neg fun ⟨_, withdrawable⟩ => h o punch withdrawable
  · rfl

theorem withdrawPunchOut_withdraws (gate : s.mixer.gateOpen = true) (punch : s.mixer.punchOut = some o)
    (h : s.withdrawable o s.decoder.time) : (withdrawPunchOut s).mixer = { s.mixer with punchOut := none, committed := false } ∧
    ∃ n, Recent 0 ⟨n, .punchCancelled, s.timeNow, o.origin, 22⟩ (withdrawPunchOut s).reports.log := by
  have work := (slotWork_spanChanged { s with mixer := { s.mixer with punchOut := none, committed := false } }).1
  have withdrawn : withdrawPunchOut s = handOffIf (o.origin == .list) (.punchFailed .time)
      (logEntry .punchCancelled (spanChanged { s with mixer := { s.mixer with punchOut := none, committed := false } }).timeNow o.origin 22
        (spanChanged { s with mixer := { s.mixer with punchOut := none, committed := false } })) := by
    unfold withdrawPunchOut
    rw [punch]
    exact if_pos ⟨gate, h⟩
  generalize spanChanged { s with mixer := { s.mixer with punchOut := none, committed := false } } = w at work withdrawn
  have time : w.timeNow = s.timeNow := work.timeNow
  obtain ⟨x, handed⟩ := handOffIf_eq (o.origin == .list) (.punchFailed .time) (logEntry .punchCancelled w.timeNow o.origin 22 w)
  rw [withdrawn, handed, time]
  exact ⟨work.mixer, _, recent_logEntry ..⟩

/-- The time is lost at this pulse. -/
def State.losesTime (s : State) : Prop := s.decoder.current.isSome = true ∧ s.foundTime ≠ some s.predictedTime ∧
  (s.decoder.status = .locked ∨ s.decoder.status = .holdover) ∧ s.decoder.holdover = s.activeBank.holdover

/-- Where the time is neither lost nor set anew the judgement leaves the punches. -/
theorem judging_mixer (within : s.decoder.holdover ≤ s.activeBank.holdover)
    (h : s.foundTime = some s.predictedTime ∨ s.foundTime = none ∨ s.transport.state = .record) (keeps : ¬ s.losesTime) :
    s.judging.mixer = s.mixer := by
  obtain ⟨-, -, status, holdover⟩ := closing_time s
  have bank : s.closing.activeBank = s.activeBank := activeBank_of (stage_closing s).banks
  have closing : s.closing.mixer = s.mixer := (stage_closing s).mixer
  by_cases confirmed : s.foundTime = some s.predictedTime
  · rw [judging_confirmed confirmed]
    exact closing
  by_cases current : s.decoder.current.isSome = true
  · rw [judging_invalid ⟨current, (h.resolve_left confirmed).imp_right fun record => ⟨record, confirmed⟩⟩]
    by_cases known : s.decoder.status = .locked ∨ s.decoder.status = .holdover
    · have below : s.decoder.holdover < s.activeBank.holdover :=
        lt_of_le_of_ne within fun limit => keeps ⟨current, confirmed, known, limit⟩
      rw [judgeInvalid_holds (by rw [status]; exact known) (by rw [holdover, bank]; exact below)]
      exact closing
    · rw [judgeInvalid_stays (by rw [status]; cases known' : s.decoder.status <;> simp_all)]
      exact closing
  · rw [judging_none (by simpa using current)]
    exact closing

/-- In a take a loss of time leaves the punches, but for a punch-out that it withdraws. -/
theorem judging_take (taken : s.mixer.taken = true) (gate : s.mixer.gateOpen = true) (record : s.transport.state = .record)
    (loses : s.losesTime) :
    ((∀ o, s.mixer.punchOut = some o → ¬ s.withdrawable o s.steppedTime) → s.judging.mixer = s.mixer) ∧
    ∀ o, s.mixer.punchOut = some o → s.withdrawable o s.steppedTime →
      s.judging.mixer = { s.mixer with punchOut := none } ∧
      ∃ n, Recent 0 ⟨n, .punchCancelled, some s.steppedTime, o.origin, 22⟩ s.judging.reports.log := by
  obtain ⟨current, other, known, limit⟩ := loses
  obtain ⟨time, -, status, holdover⟩ := closing_time s
  have bank : s.closing.activeBank = s.activeBank := activeBank_of (stage_closing s).banks
  have mixer : s.closing.lossSeen.mixer = s.mixer := (stage_closing s).mixer
  have seen : s.closing.lossSeen.decoder.time = s.steppedTime := time
  have now : s.closing.lossSeen.timeNow = some s.steppedTime := congrArg some time
  have judged : s.judging = withdrawPunchOut s.closing.lossSeen := by
    rw [judging_invalid ⟨current, .inr ⟨record, other⟩⟩,
      judgeInvalid_loses (by rw [status]; exact known) (by rw [holdover, bank, limit]; exact lt_irrefl _), enterLost_eq,
      withdrawPunches_taken (by rw [mixer]; exact taken)]
  rw [judged]
  unfold State.withdrawable
  refine ⟨fun stays => ?_, fun o punch withdrawable => ?_⟩
  · rw [withdrawPunchOut_stays fun o punch h => ?_]
    · exact mixer
    · unfold State.withdrawable at h
      rw [mixer] at punch h
      rw [seen] at h
      exact stays o punch h
  · obtain ⟨after, n, entry⟩ := withdrawPunchOut_withdraws (s := s.closing.lossSeen) (o := o) (by rw [mixer]; exact gate)
      (by rw [mixer]; exact punch) (by
        unfold State.withdrawable
        rw [mixer, seen]
        exact withdrawable)
    rw [now] at entry
    have cleared : { s.mixer with punchOut := none, committed := false } = { s.mixer with punchOut := none } := by
      rw [← withdrawable.2.1]
    rw [after, mixer, cleared]
    exact ⟨rfl, n, entry⟩

/-! ### The pulse, seen from the record gate -/

theorem exec_framePulse_agreed (h : exec .framePulse s = .next t) : Agreed s t := by
  obtain ⟨u, before, after⟩ := execFramePulse_parts h
  exact ((agreed_pulseBanks s).trans (agreed_pulseGather _)).trans (before.agreed.trans ((agreed_pulseCapture u).trans after.agreed))

/-- What a pulse finds as it comes to the record gate. -/
theorem aimed_spec (within : s.decoder.holdover ≤ s.activeBank.holdover) :
    s.aimed.mixer = s.judging.mixer ∧ s.aimed.transport.state = s.transport.state ∧ s.aimed.decoder.time = s.judging.decoder.time ∧
    s.aimed.framePairs = s.framePairs ∧ (∀ port, (s.aimed.reports.port port).mask = (s.reports.port port).mask) := by
  have aimed := stage_aimed within
  have begun : Stroke [] [] 0 s { s with decoder := s.decoder.stepTime } := .of
  have whole := (begun.trans (stage_closing s).stroke).trans ((stroke_judging s).trans aimed.stroke)
  obtain ⟨time, -, -, -⟩ := aimed.time
  exact ⟨aimed.mixer, aimed.state.trans (judging_state s), time, congrArg (fun b : Bank => b.rate.pairs) (activeBank_of whole.banks),
    whole.masks⟩

/-- A pulse with no list running and nothing pending: after the record gate neither the punches nor the transport state change, flags
stay, and five entries at most are made. -/
theorem exec_framePulse_gated (quiet : s.quiet) (idle : s.sequencer.state = .idle) (reading : s.readingAgrees)
    (pending : s.banks.pendingSwitch = none) (within : s.decoder.holdover ≤ s.activeBank.holdover)
    (few : s.coder.verify.length ≤ 3) (rolling : s.transport.state.rolling = true) :
    ∃ t, exec .framePulse s = .next t ∧ t.mixer = s.gated.mixer ∧ t.transport.state = s.gated.transport.state ∧
      t.decoder.time = s.judging.decoder.time ∧ (∀ m e, m ≤ 26 → Recent m e s.gated.reports.log → e ∈ t.reports.log) ∧
      ∀ port b, (s.gated.reports.port port).flags.getLsbD b = true → (t.reports.port port).flags.getLsbD b = true := by
  have gathering : s.decoder.gathering = true := reading.1.trans rolling
  obtain ⟨run, -⟩ := exec_framePulse_gathers quiet idle gathering pending within rolling
  have begun : Stroke [] [] 0 s { s with decoder := s.decoder.stepTime } := .of
  have aimed := stage_aimed within
  have before := (begun.trans (stage_closing s).stroke).trans ((stroke_judging s).trans (aimed.stroke.trans (stroke_pulseCommit _)))
  have rolls : (pulseCommit s.aimed).transport.state.rolling = true := by
    have kept : (pulseCommit s.aimed).transport = s.aimed.transport := by
      unfold pulseCommit
      split
      · split <;> rfl
      · rfl
    rw [kept, aimed.state, judging_state]
    exact rolling
  have gated : Stroke _ _ _ s s.gated := before.trans (stroke_pulseGate rolls)
  obtain ⟨n, after, five⟩ := stage_afterGate s.decoder.time s.gated
  have five := five (gated.verify few)
  rw [← pulseWork_gathering gathering pending] at after
  obtain ⟨t, run', worked⟩ := exec_framePulse_judged gathering pending within
  obtain rfl := Host.Outcome.next.inj (run.symm.trans run')
  obtain ⟨time, -, -, -⟩ := worked.time
  exact ⟨_, run, after.mixer, after.state, time, fun m e short recent => (after.recent m e (by omega) recent).mem, after.flags⟩

/-- The mixer as the committing of a punch-out leaves it. -/
theorem pulseCommit_spec (s : State) : (s.due s.decoder.time → (pulseCommit s).mixer = { s.mixer with committed := true }) ∧
    (¬ s.due s.decoder.time → (pulseCommit s).mixer = s.mixer) ∧
    pulseCommit s = { s with mixer := { s.mixer with committed := (pulseCommit s).mixer.committed } } := by
  by_cases due : s.due s.decoder.time
  · rw [pulseCommit_due due]
    exact ⟨fun _ => rfl, fun early => absurd due early, rfl⟩
  · rw [pulseCommit_early due]
    exact ⟨fun late => absurd late due, fun _ => rfl, rfl⟩

/-- The record gate on its own: R148 and R149. -/
theorem recordGate_opens_and_closes (s : State) :
    (∀ p, s.mixer.gateOpen = false → s.mixer.punchIn = some p → s.transport.state = .play →
      (s.decoder.time ≠ p.time → pulseGate s = s) ∧ (s.decoder.time = p.time → pulseGate s = openGate p s)) ∧
    (∀ o, s.mixer.gateOpen = true → s.mixer.punchOut = some o →
      (s.decoder.time ≠ o.lastOut s.framePairs + 1 → pulseGate s = s) ∧
      (s.decoder.time = o.lastOut s.framePairs + 1 → pulseGate s = closeOnPulse o (o.lastOut s.framePairs) s)) :=
  ⟨fun _ shut punch play => ⟨fun other => (pulseGate_shut shut punch).trans (if_neg fun h => other h.2),
    fun time => (pulseGate_shut shut punch).trans (if_pos ⟨play, time⟩)⟩,
   fun _ opened punch => ⟨fun other => (pulseGate_open opened punch).trans (if_neg other),
    fun time => (pulseGate_open opened punch).trans (if_pos time)⟩⟩

theorem recent_of_last {e : LogEntry} {log : List LogEntry} (h : log.getLast? = some e) : Recent 0 e log := by
  obtain ⟨before, rfl⟩ := List.getLast?_eq_some_iff.1 h
  exact ⟨before, [], rfl, le_rfl⟩

/-- But for a time jump the tape time is the one stepped to. -/
theorem judging_stepped (h : s.foundTime = some s.predictedTime ∨ s.foundTime = none ∨ s.transport.state = .record) :
    s.judging.decoder.time = s.steppedTime := by
  rcases h with confirmed | h
  · obtain ⟨time, -⟩ := closing_time s
    rw [judging_confirmed confirmed]
    exact time
  · exact (judging_time h).1

/-- A pulse comes to the record gate with the punches that the judgement left, and a punch-out committed where it falls due. -/
theorem gated_spec (within : s.decoder.holdover ≤ s.activeBank.holdover)
    (stepped : s.judging.decoder.time = s.steppedTime) : ∃ c, s.gated = pulseGate c ∧
      (s.judging.due s.steppedTime → c.mixer = { s.judging.mixer with committed := true }) ∧
      (¬ s.judging.due s.steppedTime → c.mixer = s.judging.mixer) ∧
      c.mixer = { s.judging.mixer with committed := c.mixer.committed } ∧
      c.transport.state = s.transport.state ∧ c.decoder.time = s.steppedTime ∧ c.framePairs = s.framePairs ∧
      c.reports = s.aimed.reports ∧ ∀ port, (c.reports.port port).mask = (s.reports.port port).mask := by
  obtain ⟨mixer, state, time, pairs, masks⟩ := aimed_spec within
  obtain ⟨late, early, committed⟩ := pulseCommit_spec s.aimed
  have due : s.aimed.due s.aimed.decoder.time ↔ s.judging.due s.steppedTime := by
    unfold State.due
    rw [mixer, time, stepped]
  rw [mixer] at late early
  refine ⟨pulseCommit s.aimed, rfl, fun h => late (due.2 h), fun h => early (mt due.1 h), ?_, ?_, ?_, ?_, ?_, ?_⟩
  all_goals rw [committed]
  · rw [← mixer]
  · exact state
  · exact time.trans stepped
  · exact pairs
  · exact masks

end
end Sys2Proof.Machine

namespace Sys2Proof.Proofs
open Sys2Proof.Machine

/-- Settles O36. -/
theorem recordGateAtPulse : Obligations.RecordGateAtPulse := by
  refine ⟨fun s => ?_, ?_⟩
  · obtain ⟨opens, closes⟩ := recordGate_opens_and_closes s
    refine ⟨fun p shut punch play => ?_, fun o opened punch record => ?_⟩
    · obtain ⟨stays, now⟩ := opens p shut punch play
      exact ⟨stays, fun time => now time ▸ openGate_spec p (by rw [play]; rfl)⟩
    · obtain ⟨stays, now⟩ := closes o opened punch
      exact ⟨stays, fun time => now time ▸ closeOnPulse_spec o _ (by rw [record]; rfl)⟩
  · intro s quiet idle gate reading pending within few stepped predicted found logged due stays
    obtain ⟨record_iff, taken_eq, -, -⟩ := id gate
    refine ⟨fun p play punch confirmed => ?_, fun o record punch => ?_, fun record punch => ?_⟩
    · have shut : s.mixer.gateOpen = false := by
        by_contra opened
        have record := record_iff.1 (by simpa using opened)
        rw [play] at record
        cases record
      have same : s.judging.mixer = s.mixer := by
        refine judging_mixer within (confirmed.imp_right fun h => .inl h.1) fun loses => ?_
        obtain ⟨-, other, -, limit⟩ := loses
        rcases confirmed with h | h
        · exact other h
        · exact absurd limit (Nat.ne_of_lt h.2)
      obtain ⟨t, run, mixer, state, time, entries, flags⟩ :=
        exec_framePulse_gated quiet idle reading pending within few (by rw [play]; rfl)
      obtain ⟨c, gated, late, early, committed, cState, cTime, -, -, masks⟩ :=
        gated_spec within (judging_stepped (confirmed.imp_right fun h => .inl h.1))
      rw [same] at late early committed
      have dueOf : s.judging.due s.steppedTime ↔ due :=
        iff_of_eq (congrArg (fun m : Mixer => ∃ o ∈ m.punchOut, o.time ≤ s.steppedTime + 2) same)
      obtain ⟨holds, opens⟩ := (recordGate_opens_and_closes c).1 p (by rw [committed]; exact shut) (by rw [committed]; exact punch)
        (by rw [cState]; exact play)
      rw [cTime] at holds opens
      rw [dueOf] at late early
      refine ⟨t, run, fun other => ?_, fun now => ?_⟩
      · rw [gated, holds other] at mixer state
        refine ⟨⟨fun h => mixer.trans (late h), fun h => mixer.trans (early h)⟩, ?_, state.trans (cState.trans play)⟩
        rw [mixer, committed]
        exact shut
      · obtain ⟨openMixer, openState, -, last, flag⟩ := openGate_spec (s := c) p (by rw [cState, play]; rfl)
        rw [gated, opens now] at mixer state entries flags
        refine ⟨fun h => ?_, fun h => ?_, state.trans openState, time.trans ((judging_stepped (confirmed.imp_right fun h => .inl h.1)).trans now),
          ⟨_, entries 0 _ (by decide) (recent_of_last last), rfl, rfl, rfl, rfl⟩, fun port shown =>
          flags port 2 (flag port (by rw [masks port]; exact shown))⟩
        · rw [mixer, openMixer, late h]
        · rw [mixer, openMixer, early h]
    · have opened : s.mixer.gateOpen = true := record_iff.2 record
      have taken : s.mixer.taken = true := taken_eq.trans opened
      intro loses withdrawn
      obtain ⟨t, run, mixer, state, time, entries, flags⟩ :=
        exec_framePulse_gated quiet idle reading pending within few (by rw [record]; rfl)
      obtain ⟨c, gated, late, early, committed, cState, cTime, pairs, reports, masks⟩ :=
        gated_spec within (judging_stepped (.inr (.inr record)))
      have kept : ¬ withdrawn → s.judging.mixer = s.mixer := fun keeps => by
        by_cases lost : s.losesTime
        · refine (judging_take taken opened record lost).1 fun o' punch' h => keeps ⟨lost, ?_⟩
          obtain rfl : o = o' := Option.some.inj (punch.symm.trans punch')
          exact h
        · exact judging_mixer within (.inr (.inr record)) lost
      refine ⟨t, run, ?_, fun away => ?_, fun keeps other => ?_, fun now => ?_⟩
      · exact time.trans (judging_stepped (.inr (.inr record)))
      · obtain ⟨lost, withdrawable⟩ := away
        obtain ⟨gone, n, entry⟩ := (judging_take taken opened record lost).2 o punch withdrawable
        have still : c.mixer = { s.mixer with punchOut := none } := by
          have none : ¬ s.judging.due s.steppedTime := fun ⟨_, h, _⟩ => by
            rw [gone] at h
            cases h
          rw [early none, gone]
        have stays : s.gated = c := gated.trans (pulseGate_endless (by rw [still]; exact opened) (by rw [still]))
        rw [stays] at mixer state entries
        refine ⟨mixer.trans still, state.trans (cState.trans record), ⟨n, .punchCancelled, some s.steppedTime, o.origin, 22⟩,
          entries 0 _ (by decide) ?_, rfl, rfl, rfl, rfl⟩
        rw [reports]
        exact (stage_aimed within).recent 0 _ (by decide) entry
      · have same := kept keeps
        rw [same] at late early committed
        have dueOf : s.judging.due s.steppedTime ↔ due :=
          iff_of_eq (congrArg (fun m : Mixer => ∃ o ∈ m.punchOut, o.time ≤ s.steppedTime + 2) same)
        rw [dueOf] at late early
        obtain ⟨holds, -⟩ := (recordGate_opens_and_closes c).2 o (by rw [committed]; exact opened) (by rw [committed]; exact punch)
        rw [cTime, pairs] at holds
        rw [gated, holds other] at mixer state
        refine ⟨⟨fun h => mixer.trans (late h), fun h => mixer.trans (early h)⟩, ?_, state.trans (cState.trans record)⟩
        rw [mixer, committed]
        exact opened
      · have same := kept fun away => by
          have ends := lastOut_ge o s.framePairs
          have beyond : s.steppedTime + 2 < o.time := away.2.2.2
          have now : s.steppedTime = o.lastOut s.framePairs + 1 := now
          omega
        rw [same] at committed
        obtain ⟨-, closes⟩ := (recordGate_opens_and_closes c).2 o (by rw [committed]; exact opened) (by rw [committed]; exact punch)
        rw [cTime, pairs] at closes
        obtain ⟨closedMixer, closedState, -, -, last, flag⟩ :=
          closeOnPulse_spec (s := c) o (o.lastOut s.framePairs) (by rw [cState, record]; rfl)
        rw [gated, closes now] at mixer state entries flags
        have agreed := exec_framePulse_agreed run
        have play : t.transport.state = .play := state.trans closedState
        have shut : t.mixer.gateOpen = false := by rw [mixer, closedMixer]
        refine ⟨?_, play, ?_, ?_, ⟨_, entries 0 _ (by decide) (recent_of_last last), rfl, rfl, rfl, rfl⟩, fun port shown =>
          flags port 3 (flag port (by rw [masks port]; exact shown))⟩
        · rw [mixer, closedMixer, committed]
        · rw [(agreed.reading reading).1, play] <;> rfl
        · by_contra latched
          obtain ⟨-, -, -, opens⟩ := agreed.gate gate
          rw [opens (by simpa using latched)] at shut
          cases shut
    · have opened : s.mixer.gateOpen = true := record_iff.2 record
      have taken : s.mixer.taken = true := taken_eq.trans opened
      have same : s.judging.mixer = s.mixer := by
        by_cases loses : s.losesTime
        · exact (judging_take taken opened record loses).1 fun o h => by rw [punch] at h; cases h
        · exact judging_mixer within (.inr (.inr record)) loses
      obtain ⟨t, run, mixer, state, -⟩ := exec_framePulse_gated quiet idle reading pending within few (by rw [record]; rfl)
      obtain ⟨c, gated, -, early, -, cState, -⟩ := gated_spec within (judging_stepped (.inr (.inr record)))
      rw [same] at early
      have kept : c.mixer = s.mixer := early fun ⟨o, h, _⟩ => by
        rw [same, punch] at h
        cases h
      rw [gated, pulseGate_endless (by rw [kept]; exact opened) (by rw [kept]; exact punch)] at mixer state
      exact ⟨t, run, mixer.trans kept, by rw [mixer, kept]; exact opened, state.trans (cState.trans record)⟩

end Sys2Proof.Proofs
end

section
/-! The edit list across a frame pulse: what the blocks' work leaves of it, and what an entry that ends in it leaves to be judged
(R74, R144, R153, R156, R157, R164). Settles O45. -/

namespace Sys2Proof.Machine

-- One theorem after another: each one elaborated at the same time would hold a stack of its own.
set_option Elab.async false

section
variable {s t u : State} {i : Nat}

/-! ### The work of the blocks and the list -/

theorem Listed.refl (s : State) : Listed s s := ⟨rfl, rfl⟩

theorem listed_judgeHoldover (s : State) : Listed s (judgeHoldover s) := by
  have lost : Listed s (enterLost s) := (stroke_lossSeen s).listed.trans (stroke_withdrawPunches _).listed
  unfold judgeHoldover
  split
  · split
    · exact lost
    · exact lost
    · exact ⟨rfl, rfl⟩
    · exact ⟨rfl, rfl⟩
  · exact .refl s

theorem listed_pulseBanks (s : State) : Listed s (pulseBanks s) := by
  unfold pulseBanks
  split
  · exact .refl s
  · next port _ =>
    dsimp only
    refine Listed.trans ?_ (moves_deriveField _).toListed
    generalize logged : logEntry _ _ _ _ { s with banks := { s.banks with active := s.banks.active.other, pendingSwitch := none } } = u
    have switched : Listed s u := logged ▸ ⟨rfl, rfl⟩
    split
    · exact switched
    · exact switched.trans (moves_judgeLost _).toListed

theorem listed_pulseGather (s : State) : Listed s (pulseGather s) := by
  unfold pulseGather
  split
  · rw [gatherPulse_eq, closeCurrent_stepped]
    have begun : Listed s { s with decoder := s.decoder.stepTime } := ⟨rfl, rfl⟩
    have judged := (begun.trans (stage_closing s).stroke.listed).trans (stroke_judging s).listed
    exact (judged.trans (listed_judgeHoldover _)).trans ((stage_lostSeen _).stroke.listed.trans (stage_aim _).stroke.listed)
  · exact listed_judgeHoldover s

theorem listed_pulseHeads (q : Nat) (gathering : Bool) (s : State) : Listed s (pulseHeads q gathering s) := by
  have gated := (stage_takeReady q Config.slotCount s).stroke.listed.trans (moves_pulseGate _).toListed
  have worked := gated.trans ((stage_pulseCut _).stroke.listed.trans
    ((stage_pulseVerify q _).stroke.listed.trans (stage_pulseWindow _).stroke.listed))
  unfold pulseHeads
  dsimp only
  split
  · exact worked.trans ⟨rfl, rfl⟩
  · exact worked

/-- The blocks work at a pulse without a hand on the list, its conditions and hand-offs aside (R151, R159). -/
theorem listed_pulseWork (s : State) : Listed s (pulseWork s) := by
  rw [pulseWork_eq]
  exact ((listed_pulseBanks s).trans ((listed_pulseGather _).trans (listed_pulseHeads ..))).trans
    ((stage_pulseCapture _).stroke.listed.trans ((stage_pulseConditions _).stroke.listed.trans (slotWork_mixerJudge _).stage.stroke.listed))

theorem Listed.entry (h : Listed s t) (i : Nat) : t.entry i = s.entry i := by
  unfold State.entry
  rw [h.list]

theorem Listed.sameEntry (h : Listed s t) : SameEntry s t := by
  unfold SameEntry
  rw [h.list]
  exact ⟨rfl, rfl, rfl⟩

theorem Listed.kindInProgress (h : Listed s t) : t.kindInProgress = s.kindInProgress := by
  unfold State.kindInProgress State.entry
  rw [h.list]

/-! ### What a chain leaves in progress (R156, R164) -/

/-- A WAIT-TIME entry in progress has been judged and waits. -/
def State.waitSettled (s : State) : Prop := s.kindInProgress = some 1 → s.waitVerdict (s.entry s.sequencer.current) = .waits

theorem judgeWaitTime_settled (h : s.waitSettled) : judgeWaitTime s = s := by
  unfold judgeWaitTime
  split
  · next kind => rw [h kind]
  · rfl

theorem waitSettled_idle (h : s.sequencer.state = .idle) : s.waitSettled := fun kind => by
  unfold State.kindInProgress at kind
  rw [if_pos h] at kind
  cases kind

/-- Where entry `i` leaves the sequencer: the list over, or the entry in progress, with a WAIT-TIME entry judged. -/
def State.leaves (i : Nat) (s : State) : State × Advance → Prop
  | (_, .goto _) => True
  | (t, .ended) => t.sequencer.state = .idle
  | (t, .inProgress _) => (t.sequencer.entries = s.sequencer.entries ∧ t.sequencer.current = s.sequencer.current) ∧
      ((s.entry i).kind = 1 → t = s ∧ s.waitVerdict (s.entry i) = .waits)

theorem runEntry_leaves (i : Nat) (s : State) : s.leaves i (runEntry i s) := by
  unfold runEntry
  dsimp only
  split_ifs
  · exact rfl
  · exact rfl
  · split
    · exact rfl
    · unfold runWaitTime
      split
      · exact trivial
      · exact trivial
      · next waits => exact ⟨⟨rfl, rfl⟩, fun _ => ⟨rfl, waits⟩⟩
    · next kind =>
      unfold runWaitFrames
      split
      · exact trivial
      · exact ⟨⟨rfl, rfl⟩, fun time => by omega⟩
    · next kind =>
      have moved := (moves_locateMotion .list (s.entry i).choice (s.entry i).time (min 250 (s.entry i).count) s).toListed
      unfold runLocate
      generalize locateMotion .list _ _ _ s = r at moved
      split
      · exact trivial
      · exact ⟨⟨by rw [moved.list], by rw [moved.list]⟩, fun time => by omega⟩
      · exact trivial
    · next kind =>
      unfold runRoll
      split
      · have moved := (moves_playMotion s).toListed
        exact ⟨⟨by rw [moved.list], by rw [moved.list]⟩, fun time => by omega⟩
      · exact ⟨⟨rfl, rfl⟩, fun time => by omega⟩
      all_goals exact trivial
    · next kind =>
      unfold runPunchIn
      split
      · exact trivial
      · split
        · exact trivial
        · have schedules (p : Punch) (r : State × Status) (h : schedulePunchIn .list p none s = r) : Listed s r.1 :=
            h ▸ (moves_schedulePunchIn .list p none s).toListed
          split
          · next t set =>
            have moved := schedules _ _ set
            exact ⟨⟨by rw [moved.list], by rw [moved.list]⟩, fun time => by omega⟩
          · exact trivial
    · next kind =>
      have moved := (moves_schedulePunchOut (s.entry i).time (crossfadeOfChoice s.activeBank.crossfade (s.entry i).choice) s).toListed
      unfold runPunchOut
      generalize schedulePunchOut _ _ s = r at moved
      split
      · exact ⟨⟨by rw [moved.list], by rw [moved.list]⟩, fun time => by omega⟩
      · exact trivial
    · unfold runMark
      split
      · exact trivial
      · split <;> exact trivial
    · exact trivial
    · unfold runJumpIf
      split <;> exact trivial
    · unfold runCall
      split
      · exact rfl
      · exact trivial
    · unfold runReturn
      split
      · exact rfl
      · exact trivial
    · unfold runRepeatIf
      dsimp only
      split <;> exact trivial
    · exact trivial
    · exact trivial

theorem chainFrom_settled (fuel i : Nat) (s : State) : (chainFrom fuel i s).waitSettled := by
  induction fuel generalizing i s with
  | zero => exact waitSettled_idle rfl
  | succ fuel ih =>
    have left := runEntry_leaves i { s with sequencer := { s.sequencer with current := i, chainCount := s.sequencer.chainCount + 1 } }
    unfold chainFrom
    dsimp only
    split
    · next t h => rw [h] at left; exact waitSettled_idle left
    · next t state h =>
      rw [h] at left
      obtain ⟨⟨entries, current⟩, waits⟩ := left
      intro inProgress
      have kind : (s.entry i).kind = 1 := by
        unfold State.kindInProgress State.entry at inProgress
        split at inProgress
        · cases inProgress
        · have same := Option.some.inj inProgress
          dsimp only at same
          rw [entries, current] at same
          exact same
      obtain ⟨rfl, verdict⟩ := waits kind
      exact verdict
    · next t k h =>
      split
      · exact ih k t
      · exact waitSettled_idle rfl

theorem beginChain_settled (i : Nat) (s : State) : (beginChain i s).waitSettled := by
  have emptied (u : State) (h : u.waitSettled) : ({ u with sequencer := { u.sequencer with handoffs := [] } } : State).waitSettled := h
  unfold beginChain
  dsimp only
  split
  · exact emptied _ (chainFrom_settled _ i _)
  · exact waitSettled_idle rfl

/-- Where an entry in progress ends: the list HALTING is over, or the chain begun at the next index. -/
theorem endEntry_leads (ending : Ending) (s : State) : ∃ t, t.input = s.input ∧
    (endEntry ending s = { endList .byRequest s.sequencer.haltPort.origin 0 t with
      sequencer := { (endList .byRequest s.sequencer.haltPort.origin 0 t).sequencer with handoffs := [] } } ∨
    endEntry ending s = beginChain (s.sequencer.current + 1) t) := by
  have leads (t : State) (input : t.input = s.input) (ends : endEntry ending s = if s.sequencer.state = .halting then
      { endList .byRequest s.sequencer.haltPort.origin 0 t with
        sequencer := { (endList .byRequest s.sequencer.haltPort.origin 0 t).sequencer with handoffs := [] } }
      else beginChain (s.sequencer.current + 1) t) : ∃ t, t.input = s.input ∧
        (endEntry ending s = { endList .byRequest s.sequencer.haltPort.origin 0 t with
          sequencer := { (endList .byRequest s.sequencer.haltPort.origin 0 t).sequencer with handoffs := [] } } ∨
        endEntry ending s = beginChain (s.sequencer.current + 1) t) := by
    by_cases halting : s.sequencer.state = .halting
    · exact ⟨t, input, .inl (ends.trans (if_pos halting))⟩
    · exact ⟨t, input, .inr (ends.trans (if_neg halting))⟩
  rcases ending with (_ | time) | reason
  · exact leads (writeNow s.sequencer.current .done s) rfl rfl
  · exact leads (writeResult s.sequencer.current .done s.sequencer.conditions (some time) s) rfl rfl
  · exact leads (writeFailed s.sequencer.current reason s) rfl rfl

theorem endEntry_settled (ending : Ending) (s : State) : (endEntry ending s).waitSettled := by
  obtain ⟨t, -, ended | begun⟩ := endEntry_leads ending s
  · rw [ended]
    exact waitSettled_idle rfl
  · rw [begun]
    exact beginChain_settled _ t

theorem endEntry_quiet (ending : Ending) (selection : s.input.pendingSelect = none) : (endEntry ending s).quiet := by
  obtain ⟨t, input, ended | begun⟩ := endEntry_leads ending s
  · rw [ended]
    exact ⟨rfl, (congrArg InputPort.pendingSelect input).trans selection⟩
  · rw [begun]
    exact beginChain_quiet _ ((congrArg InputPort.pendingSelect input).trans selection)

/-- An entry that has ended, its chain begun, is settled. -/
theorem settle_endEntry (ending : Ending) (selection : s.input.pendingSelect = none) :
    settle (endEntry ending s) = endEntry ending s ∧ settle (judgeWaitTime (endEntry ending s)) = endEntry ending s := by
  have settled := settle_quiet (endEntry_quiet ending selection)
  exact ⟨settled, by rw [judgeWaitTime_settled (endEntry_settled ending s), settled]⟩

/-! ### A loss of tape time on its own (R74, R144) -/

theorem exec_timeLost_known (h : s.decoder.status = .unknown ∨ s.decoder.status = .lost) : exec .timeLost s = .next s := by
  refine congrArg Host.Outcome.next (if_neg ?_)
  rintro ⟨known | known, -⟩ <;> rw [known] at h <;> rcases h with h | h <;> cases h

theorem exec_timeLost_loses (status : s.decoder.status = .holdover) (limit : s.decoder.holdover = s.activeBank.holdover) :
    exec .timeLost s = .next (settle (judgeWaitTime (withdrawPunches s.lossSeen))) :=
  congrArg Host.Outcome.next (if_pos ⟨.inr status, limit.ge⟩)

/-- At the limit the loss leaves the count as it is. -/
theorem lossSeen_limit (limit : s.decoder.holdover = s.activeBank.holdover) : s.lossSeen =
    logEntry .timeLost (some s.decoder.time) .internal s.activeBank.holdover (raiseFlag .timeLost (setCondition .timeLost
      { s with decoder := { s.decoder with status := .lost } })) := by
  unfold State.lossSeen setStatus
  rw [← limit]

theorem withdrawPunches_none (punchIn : s.mixer.punchIn = none) (punchOut : s.mixer.punchOut = none) : withdrawPunches s = s := by
  unfold withdrawPunches
  rw [punchIn]
  exact withdrawPunchOut_stays fun o h => by rw [punchOut] at h; cases h

/-- A scheduled timed punch-in goes with the time, and its punch-out with it. -/
theorem withdrawPunches_timed {p : Punch} (punch : s.mixer.punchIn = some p) (timed : p.timed = true) (taken : s.mixer.taken = false) :
    withdrawPunches s = cancelPunch .time s := by
  have cancelled : (cancelPunch .time s).mixer.punchOut = none := by
    rw [(cancelPunch_cancels .time punch taken).mixer, (slotWork_spanChanged (clearPunches s)).1.mixer] <;> rfl
  unfold withdrawPunches
  rw [punch]
  dsimp only
  rw [if_pos timed]
  exact withdrawPunchOut_stays fun o h => by rw [cancelled] at h; cases h

/-- What the cancelling leaves last in the log, after the entry of the loss. -/
theorem withdrawPunches_lost {p : Punch} (punch : s.mixer.punchIn = some p) (timed : p.timed = true) (taken : s.mixer.taken = false) :
    (withdrawPunches s.lossSeen).decoder.status = .lost ∧ (withdrawPunches s.lossSeen).mixer.punchIn = none ∧
    (withdrawPunches s.lossSeen).mixer.punchOut = none ∧
    (withdrawPunches s.lossSeen).reports.log.getLast? =
      some ⟨(s.reports.nextSequence + 1) % 65536, .punchCancelled, some s.decoder.time, p.origin, 22⟩ := by
  have mixer := (cancelPunch_cancels (s := s.lossSeen) .time punch taken).mixer
  rw [(slotWork_spanChanged (clearPunches s.lossSeen)).1.mixer] at mixer
  obtain ⟨-, -, status, -⟩ := (moves_cancelPunch .time s.lossSeen).time
  obtain ⟨_, _, _, _, _, _, _, _, _, cancelled⟩ := cancelPunch_leaves .time s.lossSeen
  have reports : (cancelPunch .time s.lossSeen).reports = s.lossSeen.cancelledReports .time := by rw [cancelled]
  have made : s.lossSeen.cancelledReports .time =
      s.lossSeen.reports.addEntry .punchCancelled (some s.decoder.time) p.origin 22 := by
    unfold State.cancelledReports
    rw [show s.lossSeen.mixer.punchIn = some p from punch]
    exact if_neg (by rw [show s.lossSeen.mixer.taken = false from taken]; decide)
  rw [withdrawPunches_timed (s := s.lossSeen) punch timed taken]
  refine ⟨status, by rw [mixer] <;> rfl, by rw [mixer] <;> rfl, ?_⟩
  rw [reports, made]
  exact List.getLast?_concat ..

/-! ### An entry that waits for the clock (R164) -/

theorem waitVerdict_beyond {e : ListEntry} (h : 359999 < e.time) : s.waitVerdict e = .failed 6 := if_pos h

theorem waitVerdict_lost {e : ListEntry} (h : e.time ≤ 359999) (lost : s.decoder.status = .lost) : s.waitVerdict e = .failed 24 :=
  (if_neg (not_lt.2 h)).trans (if_pos lost)

theorem waitVerdict_done {e : ListEntry} (h : e.time ≤ 359999) (known : s.decoder.status ≠ .lost) (come : e.time ≤ s.decoder.time) :
    s.waitVerdict e = .done := (if_neg (not_lt.2 h)).trans ((if_neg known).trans (if_pos come))

theorem waitVerdict_waits {e : ListEntry} (h : e.time ≤ 359999) (known : s.decoder.status ≠ .lost) (early : s.decoder.time < e.time) :
    s.waitVerdict e = .waits := (if_neg (not_lt.2 h)).trans ((if_neg known).trans (if_neg (not_le.2 early)))

/-- A WAIT-TIME entry of `s` in progress is judged in `u`, a state that has left the list alone: it fails, is done, or waits on. -/
theorem settle_waitTime (listed : Listed s u) (running : s.sequencer.state ≠ .idle) (selection : s.input.pendingSelect = none)
    (kind : (s.entry s.sequencer.current).kind = 1) :
    (∀ reason, u.waitVerdict (s.entry s.sequencer.current) = .failed reason →
      settle (judgeWaitTime u) = s.entryFailed reason u) ∧
    (u.waitVerdict (s.entry s.sequencer.current) = .done → settle (judgeWaitTime u) = s.entryDone u.timeNow u) ∧
    (u.waitVerdict (s.entry s.sequencer.current) = .waits →
      settle (judgeWaitTime u) = { u with sequencer := { u.sequencer with handoffs := [] } }) := by
  have none : u.input.pendingSelect = none := listed.selection.trans selection
  have current : u.sequencer.current = s.sequencer.current := by rw [listed.list]
  have state : u.sequencer.state = s.sequencer.state := by rw [listed.list]
  have entry : u.entry u.sequencer.current = s.entry s.sequencer.current := by rw [listed.entry, current]
  have inProgress : u.kindInProgress = some 1 := by
    rw [listed.kindInProgress]
    unfold State.kindInProgress
    rw [if_neg running, kind]
  unfold judgeWaitTime
  rw [if_pos inProgress, entry]
  refine ⟨fun reason verdict => ?_, fun verdict => ?_, fun verdict => ?_⟩
  all_goals rw [verdict]
  · exact (settle_endEntry _ none).1.trans (endEntry_failed listed.sameEntry reason)
  · exact (settle_endEntry _ none).1.trans (endEntry_done listed.sameEntry)
  · exact settle_heedless (.inr (.inl (by rw [entry]; exact kind))) none

theorem judgeWaitTime_other (h : s.kindInProgress ≠ some 1) : judgeWaitTime s = s := if_neg h

/-- A WAIT-FRAMES entry of `s` in progress, with one frame more gone in `u`. -/
theorem stepWaitFrames_steps (listed : Listed s u) (running : s.sequencer.state ≠ .idle) (kind : (s.entry s.sequencer.current).kind = 2) :
    stepWaitFrames u = if s.sequencer.waitRemainder - 1 = 0 then
      s.entryDone u.timeNow { u with sequencer := { u.sequencer with waitRemainder := s.sequencer.waitRemainder - 1 } }
    else { u with sequencer := { u.sequencer with waitRemainder := s.sequencer.waitRemainder - 1 } } := by
  have inProgress : u.kindInProgress = some 2 := by
    rw [listed.kindInProgress]
    unfold State.kindInProgress
    rw [if_neg running, kind]
  have remainder : u.sequencer.waitRemainder = s.sequencer.waitRemainder := by rw [listed.list]
  have same : SameEntry s { u with sequencer := { u.sequencer with waitRemainder := s.sequencer.waitRemainder - 1 } } := listed.sameEntry
  have ended := endEntry_done same
  unfold stepWaitFrames
  rw [if_pos inProgress, remainder]
  dsimp only
  split
  · exact ended
  · rfl

end
end Sys2Proof.Machine

namespace Sys2Proof.Proofs
open Sys2Proof.Machine

/-- Settles O45. -/
theorem timeLostAndWaitExpiry : Obligations.TimeLostAndWaitExpiry := by
  refine ⟨fun s quiet idle => ⟨exec_timeLost_known, fun status limit punchIn punchOut => ?_, fun p status limit punch timed taken => ?_⟩,
    ?_⟩
  · have same : withdrawPunches s.lossSeen = s.lossSeen := withdrawPunches_none (s := s.lossSeen) punchIn punchOut
    rw [exec_timeLost_loses status limit, same, settle_steady (s := s.lossSeen) quiet idle, lossSeen_limit limit]
  · have listed := (stroke_lossSeen s).listed.trans (stroke_withdrawPunches _).listed
    have idleOf : (withdrawPunches s.lossSeen).sequencer.state = .idle := by rw [listed.list]; exact idle
    have settled := settle_idle idleOf (listed.selection.trans quiet.2)
    refine ⟨_, (exec_timeLost_loses status limit).trans (congrArg Host.Outcome.next
      ((congrArg settle (judgeWaitTime_idle idleOf)).trans settled)), withdrawPunches_lost punch timed taken⟩
  · intro s quiet running gate reading e remaining u waits
    obtain ⟨-, selection⟩ := id quiet
    have listed : Listed s u := listed_pulseWork s
    have none : u.input.pendingSelect = none := listed.selection.trans selection
    have run : exec .framePulse s = .next (settle (judgeWaitTime (if s.decoder.gathering then stepWaitFrames u else u))) := rfl
    refine ⟨?_, listed.list, fun kind => ?_, fun kind => ?_⟩
    · obtain ⟨t, run, worked⟩ := exec_framePulse_ensues s
      obtain ⟨time, -, status, -⟩ := worked.time
      exact ⟨t, run, time, status⟩
    · have inProgress : s.kindInProgress = some 2 := (if_neg running).trans (congrArg some kind)
      have notTime : u.kindInProgress ≠ some 1 := by
        rw [listed.kindInProgress, inProgress]
        decide
      have heedless : u.heedless := by
        refine .inr (.inr ?_)
        rw [listed.entry, show u.sequencer.current = s.sequencer.current by rw [listed.list]]
        exact kind
      have waitsOn (n : Nat) : settle (judgeWaitTime (remaining n u)) = remaining n waits :=
        (congrArg settle (judgeWaitTime_other (s := remaining n u) notTime)).trans (settle_heedless (s := remaining n u) heedless none)
      have stepped := stepWaitFrames_steps listed running kind
      have steppedOwn := stepWaitFrames_steps (Listed.refl s) running kind
      have expires (few : s.sequencer.waitRemainder ≤ 1) : exec .waitFramesExpiry s = .next (settle (stepWaitFrames s)) :=
        congrArg Host.Outcome.next (if_pos ⟨inProgress, few⟩)
      refine ⟨fun last => ⟨?_, fun gathering => ?_⟩, fun more => ⟨?_, fun gathering => ?_⟩, fun off => ?_⟩
      · have ended : stepWaitFrames s = s.entryDone s.timeNow (remaining 0 s) := by
          rw [steppedOwn, last] <;> rfl
        have settled := (settle_endEntry (s := remaining 0 s) (.done Option.none) selection).1
        rw [endEntry_done (s := s) (u := remaining 0 s) ⟨rfl, rfl, rfl⟩] at settled
        rw [expires last.le, ended]
        exact congrArg Host.Outcome.next settled
      · have ended : stepWaitFrames u = s.entryDone u.timeNow (remaining 0 u) := by
          rw [stepped, last] <;> rfl
        have settled := (settle_endEntry (s := remaining 0 u) (.done Option.none) none).2
        rw [endEntry_done (s := s) (u := remaining 0 u) listed.sameEntry] at settled
        rw [run, gathering, if_pos rfl, ended]
        exact congrArg Host.Outcome.next settled
      · exact congrArg Host.Outcome.next (if_neg fun h => by omega)
      · have stays : stepWaitFrames u = remaining (s.sequencer.waitRemainder - 1) u := stepped.trans (if_neg (by omega))
        rw [run, gathering, if_pos rfl, stays]
        exact congrArg Host.Outcome.next (waitsOn _)
      · have same : remaining s.sequencer.waitRemainder u = u := by
          simp only [remaining]
          rw [show s.sequencer.waitRemainder = u.sequencer.waitRemainder by rw [listed.list]]
        have settled := waitsOn s.sequencer.waitRemainder
        rw [run, off, if_neg (by decide)]
        refine congrArg Host.Outcome.next ?_
        rw [same] at settled
        rw [settled]
        exact congrArg (fun v : State => { v with sequencer := { v.sequencer with handoffs := [] } }) same
    · have notFrames : u.kindInProgress ≠ some 2 := by
        rw [listed.kindInProgress, show s.kindInProgress = some 1 from (if_neg running).trans (congrArg some kind)]
        decide
      have step : (if s.decoder.gathering then stepWaitFrames u else u) = u := by
        rw [show stepWaitFrames u = u from if_neg notFrames, ite_self]
      rw [step] at run
      obtain ⟨fails, done, stays⟩ := settle_waitTime listed running selection kind
      refine ⟨fun beyond => run.trans (congrArg Host.Outcome.next (fails 6 (waitVerdict_beyond beyond))), fun inTime =>
        ⟨fun lost => run.trans (congrArg Host.Outcome.next (fails 24 (waitVerdict_lost inTime lost))),
         fun known come => run.trans (congrArg Host.Outcome.next (done (waitVerdict_done inTime known come))),
         fun known early => run.trans (congrArg Host.Outcome.next (stays (waitVerdict_waits inTime known early))),
         ?_, fun status limit punchIn punchOut => ?_⟩⟩
      · intro bytes r mode moves given unmarked read
        have received : received r s = read := by
          simp only [Machine.received, unmarked, read]
          simp
        have known : read.decoder.status ≠ .lost := TimeStatus.noConfusion
        have away : steer r.time read = read := steer_rests moves
        obtain ⟨-, done, stays⟩ := settle_waitTime (u := read) ⟨rfl, rfl⟩ running selection kind
        rw [exec_subcodeBlock_reads mode given, readSubcode_eq, received, away]
        refine ⟨fun come => congrArg Host.Outcome.next (done (waitVerdict_done inTime known come)), fun early => ?_⟩
        rw [stays (waitVerdict_waits inTime known early)]
        refine congrArg Host.Outcome.next ?_
        show { read with sequencer := { s.sequencer with handoffs := [] } } = read
        rw [← quiet.1]
      · have same : withdrawPunches s.lossSeen = s.lossSeen := withdrawPunches_none (s := s.lossSeen) punchIn punchOut
        obtain ⟨fails, -, -⟩ := settle_waitTime (stroke_lossSeen s).listed running selection kind
        rw [exec_timeLost_loses status limit, same, fails 24 (waitVerdict_lost inTime rfl), lossSeen_limit limit]

end Sys2Proof.Proofs
end

section
/-! The hand-offs of the blocks that work for an entry of the edit list, and how they end it (R151, R165 to R168). Settles O46. -/

namespace Sys2Proof.Machine

-- One theorem after another: each one elaborated at the same time would hold a stack of its own.
set_option Elab.async false

section
variable {s t u : State} {p o : Punch}

/-! ### A hand-off that the entry in progress heeds (R151, R158) -/

/-- The one hand-off under way ends the entry in progress. -/
theorem settle_heard {y : Handoff} {ending : Ending} (unhanded : u.sequencer.handoffs = []) (selection : u.input.pendingSelect = none)
    (running : u.sequencer.state ≠ .idle) (heard : endingOf (u.entry u.sequencer.current).kind y = some ending) :
    settle (u.handing [y]) = endEntry ending u := by
  have same : (u.handing [y]).handing [] = u := by
    show { u with sequencer := { u.sequencer with handoffs := [] } } = u
    rw [← unhanded]
  have kept : takeSelection (u.handing [y]) = u.handing [y] := takeSelection_none selection
  have kind : (u.handing [y]).kindInProgress = some (u.entry u.sequencer.current).kind := if_neg running
  have found : (u.handing [y]).sequencer.handoffs.findSome? (endingOf (u.entry u.sequencer.current).kind) = some ending := by
    show [y].findSome? _ = _
    rw [List.findSome?_cons, heard]
  unfold settle takeHandoffs
  rw [kept, kind]
  dsimp only
  rw [found]
  exact congrArg (endEntry ending) same

/-- How the entry in progress of `s` ends by a hand-off in `u`, a state that has left the list alone. -/
theorem settle_ends (listed : Listed s u) (unhanded : u.sequencer.handoffs = []) (quiet : s.quiet) (running : s.sequencer.state ≠ .idle)
    (y : Handoff) :
    (∀ reason, endingOf (s.entry s.sequencer.current).kind y = some (.failed reason) →
      settle (u.handing [y]) = s.entryFailed reason u) ∧
    (endingOf (s.entry s.sequencer.current).kind y = some (.done none) → settle (u.handing [y]) = s.entryDone u.timeNow u) ∧
    (∀ time, endingOf (s.entry s.sequencer.current).kind y = some (.done (some time)) →
      settle (u.handing [y]) = s.entryDone (some time) u) := by
  have selection : u.input.pendingSelect = none := listed.selection.trans quiet.2
  have current : u.sequencer.current = s.sequencer.current := by rw [listed.list]
  have runs : u.sequencer.state ≠ .idle := by rw [listed.list]; exact running
  have hears {ending : Ending} (heard : endingOf (s.entry s.sequencer.current).kind y = some ending) :
      settle (u.handing [y]) = endEntry ending u :=
    settle_heard unhanded selection runs (by rw [listed.entry, current]; exact heard)
  exact ⟨fun reason heard => (hears heard).trans (endEntry_failed listed.sameEntry reason),
    fun heard => (hears heard).trans (endEntry_done listed.sameEntry),
    fun time heard => (hears heard).trans (endEntry_at listed.sameEntry time)⟩

/-- An entry that does not wait for the clock is not judged for it. -/
theorem judgeWaitTime_heeding (listed : Listed s u) (kind : (s.entry s.sequencer.current).kind ≠ 1) : judgeWaitTime u = u := by
  refine judgeWaitTime_other ?_
  rw [listed.kindInProgress]
  unfold State.kindInProgress
  split
  · exact fun h => nomatch h
  · exact fun h => kind (Option.some.inj h)

/-! ### A locate that the list began (R124, R165) -/

theorem endLocate_list (outcome : LocateOutcome) (locates : s.transport.state = .locate) (list : s.transport.locate.origin = .list) :
    endLocate outcome s = (s.locateEnded outcome).handing (s.sequencer.handoffs ++ [.locateEnded outcome]) := by
  have locating : s.locating = true := by simp [State.locating, locates]
  unfold endLocate State.locateEnded
  rw [if_pos locating, if_pos locates, list]
  rfl

theorem failLocate_list (outcome : LocateOutcome) (locates : s.transport.state = .locate) (list : s.transport.locate.origin = .list)
    (unhanded : s.sequencer.handoffs = []) : failLocate outcome s = (locateFailedRecords outcome s).handing [.locateEnded outcome] := by
  have steady : enterState .stop .stop ((s.locateEnded outcome).handing [.locateEnded outcome]) =
      (entered .stop .stop (s.locateEnded outcome)).handing [.locateEnded outcome] :=
    enterState_steady (s := (s.locateEnded outcome).handing [.locateEnded outcome]) (by
      show s.transport.state.rolling = _
      rw [locates] <;> rfl)
  unfold failLocate
  rw [endLocate_list outcome locates list, unhanded, List.nil_append, steady] <;> rfl

theorem arrive_list (locates : s.transport.state = .locate) (list : s.transport.locate.origin = .list)
    (unhanded : s.sequencer.handoffs = []) :
    arrive s = (raiseFlag .motionDone (setLateReads (entered .cued .hold (s.locateEnded .arrived)))).handing [.locateEnded .arrived] := by
  have steady : enterState .cued .hold ((s.locateEnded .arrived).handing [.locateEnded .arrived]) =
      (entered .cued .hold (s.locateEnded .arrived)).handing [.locateEnded .arrived] :=
    enterState_steady (s := (s.locateEnded .arrived).handing [.locateEnded .arrived]) (by
      show s.transport.state.rolling = _
      rw [locates] <;> rfl)
  unfold arrive
  rw [endLocate_list .arrived locates list, unhanded, List.nil_append, steady] <;> rfl

/-- A LOCATE entry in progress. -/
def State.locatesForList (s : State) : Prop := (s.entry s.sequencer.current).kind = 3 ∧ s.transport.state = .locate ∧
  s.transport.locate.origin = .list

/-- A locate of the list that fails ends its entry FAILED with the code of the outcome. -/
theorem settle_locateFails (h : s.locatesForList) (quiet : s.quiet) (running : s.sequencer.state ≠ .idle) {outcome : LocateOutcome}
    {reason : Nat} (heard : endingOf 3 (.locateEnded outcome) = some (.failed reason)) :
    settle (failLocate outcome s) = s.entryFailed reason (locateFailedRecords outcome s) ∧
    settle (judgeWaitTime (failLocate outcome s)) = s.entryFailed reason (locateFailedRecords outcome s) := by
  obtain ⟨kind, locates, list⟩ := h
  have listed : Listed s (locateFailedRecords outcome s) := ⟨rfl, rfl⟩
  have ended : settle (failLocate outcome s) = s.entryFailed reason (locateFailedRecords outcome s) := by
    rw [failLocate_list outcome locates list quiet.1]
    exact (settle_ends listed quiet.1 quiet running _).1 reason (by rw [kind]; exact heard)
  have unjudged : judgeWaitTime (failLocate outcome s) = failLocate outcome s := by
    refine judgeWaitTime_heeding ?_ (by rw [kind]; decide)
    rw [failLocate_list outcome locates list quiet.1]
    exact ⟨rfl, rfl⟩
  exact ⟨ended, by rw [unjudged, ended]⟩

/-- A locate of the list that arrives ends its entry DONE at T. -/
theorem settle_locateArrives (h : s.locatesForList) (quiet : s.quiet) (running : s.sequencer.state ≠ .idle) :
    settle (judgeWaitTime (arrive s)) = s.entryDone s.timeNow
      (raiseFlag .motionDone (setLateReads (entered .cued .hold (s.locateEnded .arrived)))) := by
  obtain ⟨kind, locates, list⟩ := h
  have arrived := arrive_list locates list quiet.1
  have listed : Listed s (raiseFlag .motionDone (setLateReads (entered .cued .hold (s.locateEnded .arrived)))) := ⟨rfl, rfl⟩
  have unjudged : judgeWaitTime (arrive s) = arrive s := by
    refine judgeWaitTime_heeding ?_ (by rw [kind]; decide)
    rw [arrived]
    exact ⟨rfl, rfl⟩
  rw [unjudged, arrived]
  exact (settle_ends listed quiet.1 quiet running _).2.1 (by rw [kind]; rfl)

/-- A record read without START, or in reverse, changes the tracker and the START run alone. -/
theorem received_unmarked {r : Subcode} (unmarked : r.start = false) : received r s = { s with decoder := { s.decoder with
    time := r.time, leadIn := 0, status := .locked, holdover := 0, startRun := none } } := by
  unfold received
  rw [unmarked]
  simp

/-- `s` with the tracker set from a record read. -/
def State.readAt (s : State) (time : Nat) : State := { s with decoder := { s.decoder with
  time := time, leadIn := 0, status := .locked, holdover := 0, startRun := none } }

theorem exec_locateTimers (h : s.locatesForList) (quiet : s.quiet) (running : s.sequencer.state ≠ .idle) :
    (s.transport.locate.elapsedRunning = true →
      exec .locateTimeout s = .next (s.entryFailed 17 (locateFailedRecords .timeout s))) ∧
    (s.transport.locate.noTimeRunning = true →
      exec .noTimeExpiry s = .next (s.entryFailed 19 (locateFailedRecords .noTime s))) := by
  have locating : s.locating = true := by simp [State.locating, h.2.1]
  refine ⟨fun elapsed => ?_, fun timing => ?_⟩
  · exact (congrArg Host.Outcome.next (if_pos ⟨locating, elapsed⟩)).trans
      (congrArg Host.Outcome.next (settle_locateFails h quiet running (outcome := .timeout) rfl).1)
  · exact (congrArg Host.Outcome.next (if_pos ⟨locating, timing⟩)).trans
      (congrArg Host.Outcome.next (settle_locateFails h quiet running (outcome := .noTime) rfl).1)

theorem settle_tapeEnd_locate (h : s.locatesForList) (quiet : s.quiet) (running : s.sequencer.state ≠ .idle) (argument : Nat) :
    settle (tapeEnd argument s) = s.entryFailed 18 (tapeEndRecords argument (locateFailedRecords .tapeEnd s)) := by
  obtain ⟨kind, locates, list⟩ := h
  have listed : Listed s (tapeEndRecords argument (locateFailedRecords .tapeEnd s)) := ⟨rfl, rfl⟩
  have heard : endingOf (s.entry s.sequencer.current).kind (.locateEnded .tapeEnd) = some (.failed 18) := by rw [kind] <;> rfl
  rw [tapeEnd_locates argument locates, failLocate_list .tapeEnd locates list quiet.1, tapeEndRecords_handing]
  exact (settle_ends listed quiet.1 quiet running _).1 18 heard

theorem exec_subcodeBlock_list {bytes : List Byte} {r : Subcode} (h : s.locatesForList) (quiet : s.quiet)
    (running : s.sequencer.state ≠ .idle) (mode : s.decoder.readMode = .subcode)
    (given : (blockOfBytes bytes).bind (·.subcode) = some r) (unmarked : r.start = false) :
    (r.time = s.transport.locate.aim → exec (.subcodeBlock bytes) s = .next (s.entryDone (some r.time)
      (raiseFlag .motionDone (setLateReads (entered .cued .hold ((s.readAt r.time).locateEnded .arrived)))))) ∧
    (r.time ≠ s.transport.locate.aim → 8 ≤ s.transport.locate.reversals →
      chooseDirection r.time s.transport.locate.aim ≠ s.transport.locate.direction →
      exec (.hunting bytes) s = .next (s.entryFailed 16 (locateFailedRecords .hunting (s.readAt r.time)))) := by
  have received : received r s = s.readAt r.time := received_unmarked unmarked
  obtain ⟨kind, locates, list⟩ := id h
  have locating : s.locating = true := by simp [State.locating, locates]
  have working : (s.readAt r.time).locatesForList := h
  refine ⟨fun there => ?_, fun away many opposite => ?_⟩
  · have steered : steer r.time (s.readAt r.time) = arrive (s.readAt r.time) := steer_arrives (s := s.readAt r.time) locates there
    rw [exec_subcodeBlock_reads mode given, readSubcode_eq, received, steered]
    exact congrArg Host.Outcome.next (settle_locateArrives working quiet running)
  · have hunts : s.huntingRead r.time = true := by simp [State.huntingRead, locating, away, many, opposite]
    have steered : steer r.time (s.readAt r.time) = failLocate .hunting (s.readAt r.time) :=
      steer_hunts (s := s.readAt r.time) locates away opposite many
    rw [exec_hunting_reads mode given hunts, readSubcode_eq, received, steered]
    exact congrArg Host.Outcome.next (settle_locateFails working quiet running (outcome := .hunting) rfl).2

/-! ### A spin-up (R111, R140, R166) -/

/-- A ROLL entry in progress ends DONE at AT-SPEED, in what the punch-in asked for there leaves. -/
theorem settle_spunUp (kind : (s.entry s.sequencer.current).kind = 4) (quiet : s.quiet) (running : s.sequencer.state ≠ .idle)
    (listed : Listed s u) (unhanded : u.sequencer.handoffs = []) (now : u.timeNow = s.timeNow) :
    settle (u.handing [.spunUp]) = s.entryDone s.timeNow u := by
  rw [← now]
  exact (settle_ends listed unhanded quiet running _).2.1 (by rw [kind]; rfl)

theorem settle_tapeEnd_starting (kind : (s.entry s.sequencer.current).kind = 4) (starting : s.transport.state = .starting) (quiet : s.quiet)
    (running : s.sequencer.state ≠ .idle) (argument : Nat) :
    settle (tapeEnd argument s) = s.entryFailed 18 (tapeEndRecords argument (entered .stop .stop s)) := by
  have steady : enterState .stop .stop s = entered .stop .stop s := enterState_steady (by rw [starting] <;> rfl)
  have ends : tapeEnd argument s = (tapeEndRecords argument (entered .stop .stop s)).handing (s.sequencer.handoffs ++ [.spinUpTapeEnd]) := by
    unfold tapeEnd
    rw [steady, starting]
    rfl
  have listed : Listed s (tapeEndRecords argument (entered .stop .stop s)) := ⟨rfl, rfl⟩
  have heard : endingOf (s.entry s.sequencer.current).kind .spinUpTapeEnd = some (.failed 18) := by rw [kind] <;> rfl
  rw [ends, quiet.1]
  exact (settle_ends listed quiet.1 quiet running _).1 18 heard

/-! ### Punches of the list (R167, R168) -/

/-- How the entry in progress of `s` ends by the one hand-off that stands in `u`. -/
theorem settle_handed {y : Handoff} (listed : Listed s u) (handed : u.sequencer.handoffs = [y]) (quiet : s.quiet)
    (running : s.sequencer.state ≠ .idle) :
    (∀ reason, endingOf (s.entry s.sequencer.current).kind y = some (.failed reason) →
      settle u = s.entryFailed reason (u.handing [])) ∧
    (∀ time, endingOf (s.entry s.sequencer.current).kind y = some (.done (some time)) →
      settle u = s.entryDone (some time) (u.handing [])) := by
  have same : u = (u.handing []).handing [y] := by
    show u = { u with sequencer := { u.sequencer with handoffs := [y] } }
    rw [← handed]
  have listedOf : Listed s (u.handing []) := listed.trans ⟨rfl, rfl⟩
  obtain ⟨failed, -, done⟩ := settle_ends listedOf rfl quiet running y
  exact ⟨fun reason heard => (congrArg settle same).trans (failed reason heard),
    fun time heard => (congrArg settle same).trans (done time heard)⟩

theorem cancelPunch_hands (reason : CancelReason) (punch : s.mixer.punchIn = some p) (taken : s.mixer.taken = false)
    (list : s.listPunch = true) : (cancelPunch reason s).sequencer.handoffs = s.sequencer.handoffs ++ [.punchFailed reason] := by
  rw [cancelPunch_eq reason punch taken, list]
  have work := (slotWork_spanChanged (clearPunches s)).1.sequencer
  generalize spanChanged (clearPunches s) = w at work ⊢
  show w.sequencer.handoffs ++ _ = _
  rw [work] <;> rfl

theorem closeAtOnce_hands (event : ClosingEvent) (origin : Origin) (gate : s.mixer.gateOpen = true) (list : s.listPunch = true) :
    (closeAtOnce event origin s).sequencer.handoffs = s.sequencer.handoffs ++ [.closedEarly] := by
  obtain ⟨_, _, _, _, _, _, _, closed⟩ := closeGate_leaves s
  unfold closeAtOnce
  rw [if_pos gate, list]
  dsimp only
  rw [closed] <;> rfl

theorem leaveRolling_hands (s : State) : (leaveRolling s).sequencer.handoffs =
    (cancelPunch .motion (freeSlots (s.slotsWhere Slot.leaves) s)).sequencer.handoffs := by
  rw [leaveRolling_eq]

/-- A tape end in PLAY cancels the punch-in of the list. -/
theorem stop_hands_play (play : s.transport.state = .play) (gate : s.gateAgrees) (punch : s.mixer.punchIn = some p)
    (list : s.listPunch = true) (event : ClosingEvent) (origin : Origin) :
    (enterState .stop .stop (closeAtOnce event origin s)).sequencer.handoffs = s.sequencer.handoffs ++ [.punchFailed .motion] := by
  have closed := gate.closed (by rw [play]; decide)
  have taken : s.mixer.taken = false := gate.2.1.trans closed
  rw [closeAtOnce_closed closed, enterState_leave (by rw [play] <;> rfl) rfl, leaveRolling_hands]
  have work := (slotWork_freeSlots ((entered .stop .stop s).slotsWhere Slot.leaves) (entered .stop .stop s)).eq
  generalize freeSlots ((entered .stop .stop s).slotsWhere Slot.leaves) (entered .stop .stop s) = w at work ⊢
  have mixer : w.mixer = s.mixer := by rw [work] <;> rfl
  rw [cancelPunch_hands .motion (by rw [mixer, punch]) (by rw [mixer, taken]) (by unfold State.listPunch; rw [mixer]; exact list), work] <;> rfl

/-- A tape end in RECORD closes the gate over the list's take. -/
theorem stop_hands_record (record : s.transport.state = .record) (gate : s.gateAgrees) (list : s.listPunch = true)
    (event : ClosingEvent) (origin : Origin) :
    (enterState .stop .stop (closeAtOnce event origin s)).sequencer.handoffs = s.sequencer.handoffs ++ [.closedEarly] := by
  have isOpen := gate.1.2 record
  have handed := closeAtOnce_hands event origin isOpen list
  obtain ⟨_, _, _, _, _, _, _, _, closed⟩ := closeAtOnce_leaves event origin isOpen
  have state : (closeAtOnce event origin s).transport.state = .record := by rw [closed, ← record]
  have unpunched : (closeAtOnce event origin s).mixer.punchIn = none := by rw [closed]
  clear closed
  generalize closeAtOnce event origin s = t at handed state unpunched ⊢
  rw [enterState_leave (by rw [state] <;> rfl) rfl, leaveRolling_hands]
  have work := (slotWork_freeSlots ((entered .stop .stop t).slotsWhere Slot.leaves) (entered .stop .stop t)).eq
  generalize freeSlots ((entered .stop .stop t).slotsWhere Slot.leaves) (entered .stop .stop t) = w at work ⊢
  rw [cancelPunch_same .motion (.inl (by rw [work]; exact unpunched)), work]
  exact handed

/-- A punch-in, or its punch-out, is the list's. -/
theorem listPunch_in (punch : s.mixer.punchIn = some p) (h : p.origin = .list ∨ ∃ o, s.mixer.punchOut = some o ∧ o.origin = .list) :
    s.listPunch = true := by
  unfold State.listPunch
  rw [punch]
  rcases h with list | ⟨o, punchOut, list⟩
  · simp [list]
  · rw [punchOut]
    simp [list]

theorem listPunch_out (punch : s.mixer.punchOut = some o) (list : o.origin = .list) : s.listPunch = true := by
  unfold State.listPunch
  rw [punch]
  simp [list]

theorem handOffIf_list (x : Handoff) (unhanded : s.sequencer.handoffs = []) : handOffIf true x s = s.handing [x] := by
  show s.handing (s.sequencer.handoffs ++ [x]) = _
  rw [unhanded, List.nil_append]

/-- Work on slots and the records that go with it, for a punch record of the list that goes. -/
theorem punchGone_list {w : State} {m : Mixer} (work : SlotWork { s with mixer := m } w) (unhanded : s.sequencer.handoffs = [])
    (reason : CancelReason) (origin : Origin) : ∃ demand store current playing frame latched inputFields,
    handOffIf true (.punchFailed reason) (logEntry .punchCancelled s.timeNow origin reason.code w) =
      State.handing [.punchFailed reason] { s with
        transport := { s.transport with demand := demand }, store := store, coder := { s.coder with current := current }
        output := { s.output with playing := playing, frame := frame }, mixer := m
        copy := { s.copy with latched := latched, inputFields := inputFields }
        reports := (logEntry .punchCancelled s.timeNow origin reason.code s).reports } := by
  have written := work.eq
  rw [handOffIf_list _ (by show w.sequencer.handoffs = []; rw [work.sequencer]; exact unhanded), written]
  exact ⟨_, _, _, _, _, _, _, rfl⟩

/-- The cancelling of the list's punch-in, written out. -/
theorem cancelPunch_list (reason : CancelReason) (punch : s.mixer.punchIn = some p) (taken : s.mixer.taken = false)
    (list : s.listPunch = true) (unhanded : s.sequencer.handoffs = []) : ∃ demand store current playing frame latched inputFields,
    cancelPunch reason s = State.handing [.punchFailed reason] { s with
      transport := { s.transport with demand := demand }, store := store, coder := { s.coder with current := current }
      output := { s.output with playing := playing, frame := frame }
      mixer := { s.mixer with punchIn := none, taken := false, punchOut := none, committed := false, gateOpen := false }
      copy := { s.copy with latched := latched, inputFields := inputFields }
      reports := (logEntry .punchCancelled s.timeNow p.origin reason.code s).reports } := by
  rw [cancelPunch_eq reason punch taken, list]
  exact punchGone_list (slotWork_spanChanged (clearPunches s)).1 unhanded reason p.origin

/-- The withdrawal of the list's punch-out, written out. -/
theorem withdrawPunchOut_list (gate : s.mixer.gateOpen = true) (punch : s.mixer.punchOut = some o) (list : o.origin = .list)
    (h : s.withdrawable o s.decoder.time) (unhanded : s.sequencer.handoffs = []) :
    ∃ demand store current playing frame latched inputFields, withdrawPunchOut s = State.handing [.punchFailed .time] { s with
      transport := { s.transport with demand := demand }, store := store, coder := { s.coder with current := current }
      output := { s.output with playing := playing, frame := frame }, mixer := { s.mixer with punchOut := none, committed := false }
      copy := { s.copy with latched := latched, inputFields := inputFields }
      reports := (logEntry .punchCancelled s.timeNow .list 22 s).reports } := by
  have work := (slotWork_spanChanged { s with mixer := { s.mixer with punchOut := none, committed := false } }).1
  have withdrawn : withdrawPunchOut s = handOffIf true (.punchFailed .time)
      (logEntry .punchCancelled s.timeNow .list CancelReason.time.code
        (spanChanged { s with mixer := { s.mixer with punchOut := none, committed := false } })) := by
    unfold withdrawPunchOut
    rw [punch]
    refine (if_pos ⟨gate, h⟩).trans ?_
    dsimp only
    rw [list, work.timeNow] <;> rfl
  rw [withdrawn]
  exact punchGone_list work unhanded .time .list

theorem sourceStatusOf_invalid {b : Byte} (valid : b.getLsbD 1 = false) : (sourceStatusOf b).valid = false := by
  show (b.getLsbD 1 && _) = false
  rw [valid, Bool.false_and]

/-- A record without a valid field, of a source that is not lost, makes the field REFUSE. -/
theorem judgeLost_invalid {b : Byte} (digital : s.input.selected = .digital) (found : s.input.lost = none) (unrefused : s.copy.current ≠ .refuse)
    (lock : b.getLsbD 0 = true) (valid : b.getLsbD 1 = false) (rate : Rate.ofCode (b.toNat / 4 % 4) = some s.activeBank.rate) :
    ∃ fields, judgeLost { s with input := { s.input with status := sourceStatusOf b } } = refusalEvent { s with
      input := { s.input with status := sourceStatusOf b }
      copy := { s.copy with current := .refuse, inputFields := fields } } := by
  obtain ⟨v, turned⟩ : ∃ v, ({ s with input := { s.input with status := sourceStatusOf b } } : State) = v := ⟨_, rfl⟩
  have input : v.input = { s.input with status := sourceStatusOf b } := by rw [← turned]
  have copy : v.copy = s.copy := by rw [← turned]
  have cause : v.lostCause = none := by
    rw [lostCause_digital (by rw [input]; exact digital), show v.activeBank = s.activeBank by rw [← turned] <;> rfl]
    have locks : v.input.status.lock = true := by rw [input]; exact lock
    have rates : v.input.status.rate = some s.activeBank.rate := by rw [input]; exact rate
    rw [locks, rates]
    simp
  have field : v.judgedField = .refuse := by
    rw [judgedField_digital (by rw [input]; exact digital) cause]
    refine if_neg ?_
    rw [input]
    exact fun h => Bool.false_ne_true ((sourceStatusOf_invalid valid).symm.trans h)
  have lost : v.input.lost = none := by rw [input]; exact found
  have judged : v.lossJudged = v := by
    rw [lossJudged_steady (by rw [lost, cause]), cause]
    show { v with input := { v.input with lost := none } } = v
    rw [← lost]
  obtain ⟨fields, -, -, becomes⟩ := judgeLost_cases v
  have refused := becomes ⟨field, by rw [copy]; exact unrefused⟩
  unfold State.fieldJudged at refused
  rw [judged, field, ← turned] at refused
  rw [turned, ← turned]
  exact ⟨fields, refused⟩

/-- A refusal that calls off the list's punch-in. -/
theorem refusalEvent_list (gate : s.mixer.gateOpen = false) (punch : s.mixer.punchIn = some p) (taken : s.mixer.taken = false)
    (list : s.listPunch = true) (unhanded : s.sequencer.handoffs = []) : ∃ demand store current playing frame latched inputFields,
    refusalEvent s = State.handing [.punchFailed .copy] { s with
      transport := { s.transport with demand := demand }, store := store, coder := { s.coder with current := current }
      output := { s.output with playing := playing, frame := frame }
      mixer := { s.mixer with punchIn := none, taken := false, punchOut := none, committed := false, gateOpen := false }
      copy := { s.copy with latched := latched, inputFields := inputFields }
      sequencer := (setCondition .copy s).sequencer
      reports := (recordRefusal .internal (logEntry .punchCancelled s.timeNow p.origin 21 s)).reports } := by
  obtain ⟨_, _, _, _, _, _, _, cancelled⟩ := cancelPunch_list .copy punch taken list unhanded
  rw [refusalEvent_cancels gate punch, cancelled]
  exact ⟨_, _, _, _, _, _, _, rfl⟩

/-! ### A pulse, with the hand-offs of its blocks (R64, R148, R149) -/

theorem exec_framePulse_heeds (kind : (s.entry s.sequencer.current).kind ≠ 1 ∧ (s.entry s.sequencer.current).kind ≠ 2) :
    exec .framePulse s = .next (settle (pulseWork s)) := by
  have listed := listed_pulseWork s
  have frames : stepWaitFrames (pulseWork s) = pulseWork s := by
    refine if_neg ?_
    rw [listed.kindInProgress]
    unfold State.kindInProgress
    split
    · exact fun h => nomatch h
    · exact fun h => kind.2 (Option.some.inj h)
  show Host.Outcome.next (settle (judgeWaitTime (if s.decoder.gathering then stepWaitFrames (pulseWork s) else pulseWork s))) = _
  rw [frames, ite_self, judgeWaitTime_heeding listed kind.1]

/-- The closing of a frame hands nothing on. -/
theorem closing_handoffs (s : State) : s.closing.sequencer.handoffs = s.sequencer.handoffs := by
  rw [(stage_closing s).sequencer]

/-- Where the judgement sets no time anew and withdraws nothing, it hands nothing on. -/
theorem judging_handoffs (h : s.foundTime = some s.predictedTime ∨ s.foundTime = none ∨ s.transport.state = .record)
    (within : s.decoder.holdover ≤ s.activeBank.holdover)
    (keeps : s.losesTime → s.mixer.taken = true ∧ ∀ o, s.mixer.punchOut = some o → ¬ s.withdrawable o s.steppedTime) :
    s.judging.sequencer.handoffs = s.sequencer.handoffs := by
  obtain ⟨time, -, status, holdover⟩ := closing_time s
  have bank : s.closing.activeBank = s.activeBank := activeBank_of (stage_closing s).banks
  have closing := closing_handoffs s
  by_cases confirmed : s.foundTime = some s.predictedTime
  · rw [judging_confirmed confirmed]
    exact closing
  by_cases current : s.decoder.current.isSome = true
  · rw [judging_invalid ⟨current, (h.resolve_left confirmed).imp_right fun record => ⟨record, confirmed⟩⟩]
    by_cases known : s.decoder.status = .locked ∨ s.decoder.status = .holdover
    · by_cases below : s.decoder.holdover < s.activeBank.holdover
      · rw [judgeInvalid_holds (by rw [status]; exact known) (by rw [holdover, bank]; exact below)]
        exact closing
      · have mixer : s.closing.lossSeen.mixer = s.mixer := (stage_closing s).mixer
        have seen : s.closing.lossSeen.decoder.time = s.steppedTime := time
        obtain ⟨taken, stays⟩ := keeps ⟨current, confirmed, known, by omega⟩
        rw [judgeInvalid_loses (by rw [status]; exact known) (by rw [holdover, bank]; exact below), enterLost_eq,
          withdrawPunches_taken (by rw [mixer]; exact taken), withdrawPunchOut_stays]
        · exact closing
        · intro o punch
          unfold State.withdrawable
          rw [mixer] at punch ⊢
          rw [seen]
          exact stays o punch
    · rw [judgeInvalid_stays (by rw [status]; cases known' : s.decoder.status <;> simp_all)]
      exact closing
  · rw [judging_none (by simpa using current)]
    exact closing

/-- What the record gate finds at a pulse. -/
structure GateFinds (s c : State) : Prop where
  gated : s.gated = pulseGate c
  mixer : c.mixer = { s.judging.mixer with committed := c.mixer.committed }
  state : c.transport.state = s.transport.state
  time : c.decoder.time = s.judging.decoder.time
  pairs : c.framePairs = s.framePairs
  handoffs : c.sequencer.handoffs = s.judging.sequencer.handoffs

theorem gateFinds (within : s.decoder.holdover ≤ s.activeBank.holdover) : GateFinds s (pulseCommit s.aimed) := by
  obtain ⟨mixer, state, time, pairs, -⟩ := aimed_spec within
  have list := (stage_aimed within).sequencer
  obtain ⟨-, -, committed⟩ := pulseCommit_spec s.aimed
  rw [mixer] at committed
  constructor
  case gated => rfl
  all_goals rw [committed]
  · exact state
  · exact time
  · exact pairs
  · show s.aimed.sequencer.handoffs = _
    rw [list]

/-- What a pulse leaves of the record gate's work. -/
theorem pulseWork_gate (gathering : s.decoder.gathering = true) (pending : s.banks.pendingSwitch = none)
    (within : s.decoder.holdover ≤ s.activeBank.holdover) : (pulseWork s).mixer = s.gated.mixer ∧
    (pulseWork s).transport.state = s.gated.transport.state ∧ (pulseWork s).decoder.time = s.judging.decoder.time ∧
    (pulseWork s).sequencer.handoffs = s.gated.sequencer.handoffs := by
  obtain ⟨n, after, -⟩ := stage_afterGate s.decoder.time s.gated
  obtain ⟨time, -⟩ := (((stage_aimed within).ensues.trans (moves_pulseGate _).toEnsues).trans after.ensues).time
  rw [pulseWork_gathering gathering pending]
  exact ⟨after.mixer, after.state, time, by rw [after.sequencer]⟩

theorem openGate_hands (rolling : s.transport.state.rolling = true) (list : p.origin = .list) :
    (openGate p s).sequencer.handoffs = s.sequencer.handoffs ++ [.gateOpened p.time] := by
  have work := (slotWork_spanChanged (entered .record (.playSpeed .normal)
    { s with mixer := { s.mixer with taken := true, gateOpen := true } })).1.sequencer
  unfold openGate
  dsimp only
  rw [enterState_steady (by exact rolling), list]
  generalize spanChanged (entered .record (.playSpeed .normal) { s with mixer := { s.mixer with taken := true, gateOpen := true } }) = w
    at work ⊢
  show w.sequencer.handoffs ++ _ = _
  rw [work] <;> rfl

theorem closeOnPulse_hands (rolling : s.transport.state.rolling = true) (list : o.origin = .list) (last : Nat) :
    (closeOnPulse o last s).sequencer.handoffs = s.sequencer.handoffs ++ [.punchOutDone last] := by
  have work := (slotWork_spanChanged (clearPunches s)).1
  unfold closeOnPulse
  dsimp only
  rw [list]
  generalize spanChanged (clearPunches s) = w at work ⊢
  rw [enterState_steady (by rw [work.state]; exact rolling)]
  show w.sequencer.handoffs ++ _ = _
  rw [work.sequencer] <;> rfl

end
end Sys2Proof.Machine

namespace Sys2Proof.Proofs
open Sys2Proof.Machine

/-- Settles O46. -/
theorem entryEndsByHandOff : Obligations.EntryEndsByHandOff := by
  intro s quiet running gate reading sized kind left ended moved read tapeEnds ends stopped lostLog loses pulse worked steady stepped
    predicted found
  have stops (c : Instr) (argument : Nat) (hc : exec c s = .next (settle (tapeEnd argument s)))
      (rolls : s.transport.state = .play ∨ s.transport.state = .record) {y : Handoff} {reason : Nat}
      (handed : (enterState .stop .stop (closeAtOnce .tapeEnd .internal s)).sequencer.handoffs = [y])
      (heard : endingOf (s.entry s.sequencer.current).kind y = some (.failed reason)) : stopped c argument reason := by
    have play := leaving (new := .stop) (demand := .stop) .tapeEnd .internal rolls gate sized.1 rfl
    have listed : Listed s (enterState .stop .stop (closeAtOnce .tapeEnd .internal s)) :=
      ((moves_closeAtOnce .tapeEnd .internal s).trans (moves_enterState .stop .stop _)).toListed
    rw [tapeEnd_rolls argument rolls] at hc
    generalize enterState .stop .stop (closeAtOnce .tapeEnd .internal s) = t at play listed handed hc
    obtain ⟨leaves, transport, decoder, cues, ⟨h, sequencer⟩, heldTape, reports, system, link⟩ := play.halted
    have recorded : Listed t (tapeEndRecords argument t) := ⟨rfl, rfl⟩
    have ended := (settle_handed (listed.trans recorded) handed quiet running).1 reason heard
    have time : t.timeNow = s.timeNow := by simp [State.timeNow, decoder, entered]
    rw [entered_stop (.inl rfl)] at transport decoder
    refine ⟨_, hc.trans (congrArg Host.Outcome.next ended), leaves, transport.trans ?_, decoder.trans ?_, ?_, ?_⟩
    · simp [left, not_locate_of rolls]
    · simp
    · show { (setCondition .tapeEnd t).sequencer with handoffs := [] } = _
      simp [setCondition, sequencer, quiet.1]
    · show (logEntry .tapeEnd t.timeNow .internal argument (raiseFlag .tape (setCondition .tapeEnd t))).reports = _
      rw [time]
      exact logEntry_reports_of reports
  refine ⟨fun locate locates list => ?_, fun roll starting => ?_, fun punches play p punch fromList => ?_,
    fun punchIn play p punch fromList steady confirmed now => ?_, fun punchOut record o punch fromList => ?_⟩
  · have working : s.locatesForList := ⟨locate, locates, list⟩
    have mode : s.decoder.readMode = .subcode := by
      rw [reading.2.1, locates] <;> rfl
    intro failed
    have locatesAt (outcome : LocateOutcome) (d : Decoder) :
        locateFailedRecords outcome { s with decoder := d } = failed outcome outcome.reason d := by
      rw [locateFailedRecords, show ({ s with decoder := d } : State).transport.locate.origin = .list from list, entered_stop (.inl rfl)]
      simp [failed, moved, left, ended, locates, State.timeNow, State.locateEnded, LocateRecord.ended, setLateReads]
    have tape (argument : Nat) : settle (tapeEnd argument s) = s.entryFailed 18 (tapeEnds argument (failed .tapeEnd 18 s.decoder)) := by
      rw [settle_tapeEnd_locate working quiet running argument]
      refine congrArg (s.entryFailed 18) ?_
      rw [show locateFailedRecords .tapeEnd s = failed .tapeEnd 18 s.decoder from locatesAt .tapeEnd s.decoder]
      rfl
    obtain ⟨timeout, noTime⟩ := exec_locateTimers working quiet running
    refine ⟨fun elapsed => ?_, fun timing => ?_, ⟨congrArg Host.Outcome.next (tape 0), congrArg Host.Outcome.next (tape 1)⟩,
      fun bytes r given unmarked => ⟨fun there => ?_, fun away many turned => ?_⟩⟩
    · exact (timeout elapsed).trans (congrArg (fun u => Host.Outcome.next (s.entryFailed 17 u)) (locatesAt .timeout s.decoder))
    · exact (noTime timing).trans (congrArg (fun u => Host.Outcome.next (s.entryFailed 19 u)) (locatesAt .noTime s.decoder))
    · refine ((exec_subcodeBlock_list working quiet running mode given unmarked).1 there).trans ?_
      refine congrArg (fun u => Host.Outcome.next (s.entryDone (some r.time) u)) ?_
      simp [moved, left, ended, read, entered, State.readAt, locates, State.locateEnded, LocateRecord.ended, setLateReads,
        TransportState.rolling, TransportState.readMode, startRunCleared, show (TransportState.cued == .starting) = false from rfl]
    · have opposite : chooseDirection r.time s.transport.locate.aim ≠ s.transport.locate.direction := by
        unfold chooseDirection
        cases direction : s.transport.locate.direction <;> simp [direction] at turned ⊢ <;> omega
      refine ((exec_subcodeBlock_list working quiet running mode given unmarked).2 away many.ge opposite).trans ?_
      exact congrArg (fun u => Host.Outcome.next (s.entryFailed 16 u)) (locatesAt .hunting (read s.decoder r.time))
  · intro rolls p locks last rolled
    have same : rolls = s.rolled := rfl
    clear_value rolls
    subst same
    have done := exec_atSpeed starting
    rw [quiet.1, List.nil_append] at done
    have closed : s.mixer.gateOpen = false := gate.closed (by rw [starting]; decide)
    have spun {u : State} (listed : Listed s u) (unhanded : u.sequencer.handoffs = []) (now : u.timeNow = s.timeNow) :=
      settle_spunUp roll quiet running listed unhanded now
    refine ⟨fun unasked => ?_, fun asked unset => ?_, ?_⟩
    · rw [if_neg (by rw [unasked]; decide)] at done
      exact done.trans (congrArg Host.Outcome.next (spun (u := s.rolled) ⟨rfl, rfl⟩ quiet.1 rfl))
    · have able : State.punchable (s.rolled.handing [.spunUp]) p := by
        refine ⟨fun pends => ?_, rfl, fun timed => by cases timed.1⟩
        rcases pends with isOpen | scheduled | pending
        · change s.mixer.gateOpen = true at isOpen
          rw [closed] at isOpen; cases isOpen
        · change s.mixer.punchIn.isSome = true at scheduled
          rw [unset] at scheduled; cases scheduled
        · cases pending
      have timely : ¬ p.time < s.decoder.time + 4 := lt_irrefl _
      have passes (unlocked : ¬ locks) (fits : last ≤ 359999) : State.punchInTests (s.rolled.handing [.spunUp]) p none = none :=
        punchInTests_none able unlocked timely (by simp) (fun past => absurd fits (not_le_of_gt (past.resolve_right (by simp))))
      rw [if_pos asked] at done
      have meets {u : State} (h : settle (punchAtSpeed (s.rolled.handing [.spunUp])) = s.entryDone s.timeNow u) : rolled u :=
        done.trans (congrArg Host.Outcome.next h)
      have refusals {status : Status} (h : State.punchInTests (s.rolled.handing [.spunUp]) p none = some status) (other : status ≠ .accepted)
          (notCopy : status ≠ .copy) {n : Nat} (code : status.code = n) :
          rolled (logEntry .punchCancelled s.timeNow .internal n s.rolled) := by
        subst code
        refine meets ?_
        rw [punchAtSpeed_refused h other notCopy]
        exact spun (u := logEntry .punchCancelled s.timeNow .internal status.code s.rolled) ⟨rfl, rfl⟩ quiet.1 rfl
      refine ⟨fun locked => ?_, fun unlocked past => ?_, fun unlocked fits refuse => ?_, fun unlocked fits copies => ?_⟩
      · exact refusals (punchInTests_locked able locked) (by decide) (by decide) rfl
      · exact refusals (punchInTests_past able unlocked timely (by simp) (.inl past)) (by decide) (by decide) rfl
      · refine meets ?_
        rw [punchAtSpeed_copy (s := s.rolled.handing [.spunUp]) (passes unlocked fits) refuse]
        exact spun (u := recordRefusal .internal s.rolled) ⟨rfl, rfl⟩ quiet.1 rfl
      · have set := punchAtSpeed_sets (s := s.rolled.handing [.spunUp]) (passes unlocked fits) copies rfl
        generalize punchAtSpeed (s.rolled.handing [.spunUp]) = t at set done
        have sequencer : (t.handing []).sequencer = s.sequencer := by
          show { t.sequencer with handoffs := [] } = s.sequencer
          rw [set.sequencer]
          exact quiet.handoffs_nil
        have handed : t = (t.handing []).handing [.spunUp] := by
          show t = { t with sequencer := { t.sequencer with handoffs := [.spunUp] } }
          have same : { t.sequencer with handoffs := [.spunUp] } = t.sequencer := by rw [set.sequencer] <;> rfl
          rw [same]
        have listed : Listed s (t.handing []) := by
          refine ⟨by rw [sequencer], ?_⟩
          show t.input.pendingSelect = _
          rw [set.input] <;> rfl
        have now : (t.handing []).timeNow = s.timeNow := by
          show (if t.decoder.status = .unknown then none else some t.decoder.time) = _
          rw [set.decoder] <;> rfl
        rw [handed, spun listed rfl now] at done
        refine ⟨t.handing [], done, set.transport, set.decoder, sequencer, set.reports, fun store record => ?_, set.mixer⟩
        have off : s.transport.state.rolling = false := by rw [starting]; rfl
        obtain ⟨storeOf, recordOf⟩ := rolled_sound (x := [.spunUp]) off unset store record
        exact set.follows storeOf recordOf
    · have tape (argument : Nat) : settle (tapeEnd argument s) = s.entryFailed 18 (tapeEnds argument
          (moved (left .stop .stop s.transport.locate) { s.decoder with readMode := .off })) := by
        rw [settle_tapeEnd_starting roll starting quiet running argument, entered_stop (.inl rfl)]
        simp [tapeEndRecords, tapeEnds, moved, left, State.timeNow]
      exact ⟨congrArg Host.Outcome.next (tape 0), congrArg Host.Outcome.next (tape 1)⟩
  · have closed : s.mixer.gateOpen = false := gate.closed (by rw [play]; decide)
    have taken : s.mixer.taken = false := gate.2.1.trans closed
    have list : s.listPunch = true := listPunch_in punch fromList
    have fails (reason : CancelReason) :
        endingOf (s.entry s.sequencer.current).kind (.punchFailed reason) = some (.failed reason.code) := by
      rcases punches with k | k <;> rw [show (s.entry s.sequencer.current).kind = _ from k] <;> rfl
    have heeds : (s.entry s.sequencer.current).kind ≠ 1 := by
      rcases punches with k | k <;> rw [show (s.entry s.sequencer.current).kind = _ from k] <;> decide
    have waitless : (s.entry s.sequencer.current).kind ≠ 2 := by
      rcases punches with k | k <;> rw [show (s.entry s.sequencer.current).kind = _ from k] <;> decide
    refine ⟨?_, fun lossy timed => ?_, fun v steady read other => ?_, fun b digital found unrefused lock valid rate => ?_⟩
    · have handed := stop_hands_play play gate punch list .tapeEnd .internal
      rw [quiet.1] at handed
      exact ⟨stops _ 0 rfl (.inl play) handed (fails .motion), stops _ 1 rfl (.inl play) handed (fails .motion)⟩
    · obtain ⟨status, limit⟩ := lossy
      obtain ⟨demand, store, current, playing, frame, latched, fields, cancelled⟩ :=
        cancelPunch_list (s := s.lossSeen) .time punch taken list quiet.1
      have withdrawn := (withdrawPunches_timed (s := s.lossSeen) punch timed taken).trans cancelled
      have listed : Listed s (withdrawPunches s.lossSeen) := ((stroke_lossSeen s).listed.trans (stroke_withdrawPunches _).listed)
      have run := exec_timeLost_loses status limit
      rw [judgeWaitTime_heeding listed heeds] at run
      have handed : (withdrawPunches s.lossSeen).sequencer.handoffs = [.punchFailed .time] := by rw [withdrawn] <;> rfl
      refine ⟨_, run.trans (congrArg Host.Outcome.next ((settle_handed listed handed quiet running).1 22 (fails .time))), ?_⟩
      rw [withdrawn, lossSeen_limit limit]
      exact ⟨rfl, rfl, rfl, play, State.quiet.handoffs_nil (s := setCondition .timeLost s) quiet, rfl⟩
    · obtain ⟨pending, within⟩ := steady
      have gathering : s.decoder.gathering = true := reading.1.trans (by rw [play] <;> rfl)
      obtain ⟨time, -⟩ := judging_jumps read other (by rw [play]; decide)
      have mixer : (s.closing.jumped v s.predictedTime).mixer = s.mixer := (stage_closing s).mixer
      have judged : s.judging = cancelPunch .time (s.closing.jumped v s.predictedTime) :=
        judging_jump read other (by rw [play]; decide)
      have cleared := cancelPunch_clears (s := s.closing.jumped v s.predictedTime) .time (by rw [mixer]; exact taken)
        (by rw [mixer]; exact closed)
      have handed := cancelPunch_hands (s := s.closing.jumped v s.predictedTime) .time (by rw [mixer]; exact punch)
        (by rw [mixer]; exact taken) (by unfold State.listPunch; rw [mixer]; exact list)
      rw [← judged] at cleared handed
      have found := gateFinds within
      have passes : s.gated = pulseCommit s.aimed := found.gated.trans
        (pulseGate_closed (by rw [found.mixer]; exact cleared.2) (by rw [found.mixer]; exact cleared.1))
      obtain ⟨gateMixer, -, gateTime, gateHands⟩ := pulseWork_gate gathering pending within
      rw [passes, found.handoffs, handed] at gateHands
      have first : (s.closing.jumped v s.predictedTime).sequencer.handoffs = [] := (closing_handoffs s).trans quiet.1
      rw [first] at gateHands
      refine ⟨(exec_framePulse_heeds ⟨heeds, waitless⟩).trans (congrArg Host.Outcome.next
        ((settle_handed (listed_pulseWork s) gateHands quiet running).1 22 (fails .time))), gateTime.trans time, ?_⟩
      rw [show pulse.mixer = _ from gateMixer, passes, found.mixer]
      exact cleared.1
    · obtain ⟨inputFields, judged⟩ := judgeLost_invalid digital found unrefused lock valid rate
      obtain ⟨demand, store, current, playing, frame, latched, fields, refused⟩ := refusalEvent_list (s := { s with
        input := { s.input with status := sourceStatusOf b }
        copy := { s.copy with current := .refuse, inputFields := inputFields } }) closed punch taken list quiet.1
      rw [refused] at judged
      have run : exec (.sourceStatusRecord b) s = .next (settle (judgeLost { s with
        input := { s.input with status := sourceStatusOf b } })) := rfl
      generalize judgeLost { s with input := { s.input with status := sourceStatusOf b } } = w at judged run
      have listed : Listed s w := by rw [judged]; exact ⟨rfl, rfl⟩
      have handed : w.sequencer.handoffs = [.punchFailed .copy] := by rw [judged] <;> rfl
      refine ⟨_, run.trans (congrArg Host.Outcome.next ((settle_handed listed handed quiet running).1 21 (fails .copy))), ?_⟩
      rw [judged]
      refine ⟨rfl, rfl, rfl, play, rfl, State.quiet.handoffs_nil (s := setCondition .copy s) quiet, ?_⟩
      show (logEntry .copyRefused s.timeNow .internal (if (sourceStatusOf b).valid then 1 else 0) _).reports = _
      rw [sourceStatusOf_invalid valid] <;> rfl
  · obtain ⟨pending, within⟩ := steady
    have gathering : s.decoder.gathering = true := reading.1.trans (by rw [play] <;> rfl)
    have closed : s.mixer.gateOpen = false := gate.closed (by rw [play]; decide)
    have keeps : ¬ s.losesTime := by
      rintro ⟨-, other, -, limit⟩
      rcases confirmed with h | h
      · exact other h
      · exact absurd limit (Nat.ne_of_lt h.2)
    have foundOf : s.foundTime = some s.predictedTime ∨ s.foundTime = none ∨ s.transport.state = .record :=
      confirmed.imp_right fun h => .inl h.1
    have same := judging_mixer within foundOf keeps
    have stepped : s.judging.decoder.time = p.time := (judging_stepped foundOf).trans now
    have unhanded := (judging_handoffs foundOf within (fun loses => absurd loses keeps)).trans quiet.1
    have found := gateFinds within
    have rolls : (pulseCommit s.aimed).transport.state.rolling = true := by rw [found.state, play] <;> rfl
    have opens : s.gated = openGate p (pulseCommit s.aimed) := found.gated.trans
      (((recordGate_opens_and_closes (pulseCommit s.aimed)).1 p (by rw [found.mixer, same]; exact closed)
        (by rw [found.mixer, same]; exact punch) (found.state.trans play)).2 (found.time.trans stepped))
    obtain ⟨gateMixer, gateState, gateTime, gateHands⟩ := pulseWork_gate gathering pending within
    obtain ⟨openMixer, openState, -⟩ := openGate_spec p rolls
    rw [opens, openGate_hands rolls fromList, found.handoffs, unhanded] at gateHands
    rw [opens] at gateMixer gateState
    refine ⟨(exec_framePulse_heeds ?_).trans (congrArg Host.Outcome.next
      ((settle_handed (listed_pulseWork s) gateHands quiet running).2 p.time ?_)), ?_, gateState.trans openState, gateTime.trans stepped⟩
    · rw [show (s.entry s.sequencer.current).kind = 5 from punchIn]
      decide
    · rw [show (s.entry s.sequencer.current).kind = 5 from punchIn] <;> rfl
    · rw [show pulse.mixer = _ from gateMixer, openMixer]
  · have isOpen : s.mixer.gateOpen = true := gate.1.2 record
    have taken : s.mixer.taken = true := gate.2.1.trans isOpen
    have list : s.listPunch = true := listPunch_out punch fromList
    have kindOf : (s.entry s.sequencer.current).kind = 6 := punchOut
    refine ⟨?_, fun lossy timed uncommitted early => ?_, fun steady now => ?_⟩
    · have handed := stop_hands_record record gate list .tapeEnd .internal
      rw [quiet.1] at handed
      have fails : endingOf (s.entry s.sequencer.current).kind .closedEarly = some (.failed 18) := by rw [kindOf] <;> rfl
      exact ⟨stops _ 0 rfl (.inr record) handed fails, stops _ 1 rfl (.inr record) handed fails⟩
    · obtain ⟨status, limit⟩ := lossy
      obtain ⟨demand, store, current, playing, frame, latched, fields, cancelled⟩ :=
        withdrawPunchOut_list (s := s.lossSeen) isOpen punch fromList ⟨timed, uncommitted, early⟩ quiet.1
      have withdrawn := (withdrawPunches_taken (s := s.lossSeen) taken).trans cancelled
      have listed : Listed s (withdrawPunches s.lossSeen) := ((stroke_lossSeen s).listed.trans (stroke_withdrawPunches _).listed)
      have run := exec_timeLost_loses status limit
      rw [judgeWaitTime_heeding listed (by rw [kindOf]; decide)] at run
      have handed : (withdrawPunches s.lossSeen).sequencer.handoffs = [.punchFailed .time] := by rw [withdrawn] <;> rfl
      have fails : endingOf (s.entry s.sequencer.current).kind (.punchFailed .time) = some (.failed 22) := by rw [kindOf] <;> rfl
      refine ⟨_, run.trans (congrArg Host.Outcome.next ((settle_handed listed handed quiet running).1 22 fails)), ?_⟩
      rw [withdrawn, lossSeen_limit limit]
      refine ⟨rfl, ?_, record, State.quiet.handoffs_nil (s := setCondition .timeLost s) quiet, rfl⟩
      show { s.mixer with punchOut := none, committed := false } = { s.mixer with punchOut := none }
      rw [← uncommitted]
    · obtain ⟨pending, within⟩ := steady
      have gathering : s.decoder.gathering = true := reading.1.trans (by rw [record] <;> rfl)
      have stays (q : Punch) (h : s.mixer.punchOut = some q) : ¬ s.withdrawable q s.steppedTime := by
        rintro ⟨-, -, beyond⟩
        obtain rfl : o = q := Option.some.inj (punch.symm.trans h)
        have ends := lastOut_ge o s.framePairs
        have now : s.steppedTime = o.lastOut s.framePairs + 1 := now
        omega
      have foundOf : s.foundTime = some s.predictedTime ∨ s.foundTime = none ∨ s.transport.state = .record := .inr (.inr record)
      have same : s.judging.mixer = s.mixer := by
        by_cases loses : s.losesTime
        · exact (judging_take taken isOpen record loses).1 stays
        · exact judging_mixer within foundOf loses
      have stepped : s.judging.decoder.time = o.lastOut s.framePairs + 1 := (judging_stepped foundOf).trans now
      have unhanded := (judging_handoffs foundOf within (fun _ => ⟨taken, stays⟩)).trans quiet.1
      have found := gateFinds within
      have rolls : (pulseCommit s.aimed).transport.state.rolling = true := by rw [found.state, record] <;> rfl
      have closes : s.gated = closeOnPulse o (o.lastOut s.framePairs) (pulseCommit s.aimed) := by
        have closes := ((recordGate_opens_and_closes (pulseCommit s.aimed)).2 o (by rw [found.mixer, same]; exact isOpen)
          (by rw [found.mixer, same]; exact punch)).2
        rw [found.pairs] at closes
        exact found.gated.trans (closes (found.time.trans stepped))
      obtain ⟨gateMixer, gateState, gateTime, gateHands⟩ := pulseWork_gate gathering pending within
      obtain ⟨closeMixer, closeState, -⟩ := closeOnPulse_spec o (o.lastOut s.framePairs) rolls
      rw [closes, closeOnPulse_hands rolls fromList, found.handoffs, unhanded] at gateHands
      rw [closes] at gateMixer gateState
      refine ⟨(exec_framePulse_heeds ?_).trans (congrArg Host.Outcome.next
        ((settle_handed (listed_pulseWork s) gateHands quiet running).2 (o.lastOut s.framePairs) ?_)), ?_, gateState.trans closeState,
        gateTime.trans stepped⟩
      · rw [kindOf]
        decide
      · rw [kindOf] <;> rfl
      · rw [show pulse.mixer = _ from gateMixer, closeMixer]

end Sys2Proof.Proofs
end

section
/-! The reading of a frame from the blocks held of it (R68 to R70). -/

namespace Sys2Proof.Machine

-- One theorem after another: each one elaborated at the same time would hold a stack of its own.
set_option Elab.async false

section
variable {tag : Nat} {held : List HeldBlock} {track : Track} {g j : Nat}

/-! ### The subcode (R68) -/

/-- The first value found in a range. -/
theorem findSome?_range {α : Type} {f : Nat → Option α} {n k : Nat} {r : α} (below : k < n) (found : f k = some r)
    (none : ∀ l < k, f l = none) : (List.range n).findSome? f = some r := by
  obtain ⟨m, rfl⟩ : ∃ m, n = k + (m + 1) := ⟨n - k - 1, by omega⟩
  rw [List.range_add, List.findSome?_append, List.findSome?_eq_none_iff.2 fun l hl => none l (List.mem_range.1 hl),
    Option.none_or, List.range_succ_eq_map, List.map_cons, List.findSome?_cons]
  simp only [Nat.add_zero, found]

/-- The subcode is looked for in the copies A72 to A75, then B72 to B75. -/
theorem selectSubcode_eq : selectSubcode tag held = (List.range 8).findSome? fun k =>
    (heldPayload held (if k < 4 then .a else .b) (72 + k % 4)).bind (subcodeOf tag) := rfl

/-! ### The tally of a group (R69) -/

/-- The block `j` of a group that is held. -/
def groupBlock (tag : Nat) (held : List HeldBlock) (track : Track) (g j : Nat) : Option (List Byte) :=
  heldPayload held track (8 * j + (g + tag) % 8)

theorem groupPayloads_eq : groupPayloads tag held track g = (List.range 9).map (groupBlock tag held track g) := rfl

theorem length_filter_eq_sum {α : Type} (p : α → Bool) (l : List α) : (l.filter p).length = (l.map fun x => (p x).toNat).sum := by
  induction l with
  | nil => rfl
  | cons x l ih => cases h : p x <;> simp [h, ih] <;> omega

/-- A group with one data block missing is rebuilt. -/
def groupRebuilt (tag : Nat) (held : List HeldBlock) (track : Track) (g : Nat) : Bool :=
  (groupBlock tag held track g 8).isSome && decide (((List.range 8).filter fun j => (groupBlock tag held track g j).isNone).length = 1)

def groupHeld (tag : Nat) (held : List HeldBlock) (track : Track) (g : Nat) : Nat :=
  ((List.range 9).filter fun j => (groupBlock tag held track g j).isSome).length

theorem filterMap_id_length (l : List (Option (List Byte))) : (l.filterMap id).length = (l.filter (·.isSome)).length := by
  induction l with
  | nil => rfl
  | cons x l ih =>
    rw [List.filterMap_cons, List.filter_cons]
    cases x with
    | none => exact ih
    | some v => exact congrArg (· + 1) ih

/-- The blocks held of a group and those missing, the parity block aside. -/
theorem groupHeld_eq : groupHeld tag held track g = ((List.range 8).filter fun j => (groupBlock tag held track g j).isSome).length +
    (groupBlock tag held track g 8).isSome.toNat := by
  unfold groupHeld
  rw [length_filter_eq_sum, length_filter_eq_sum, List.range_succ, List.map_append, List.sum_append]
  simp

theorem length_filter_add (p : Nat → Option (List Byte)) (l : List Nat) :
    (l.filter fun j => (p j).isSome).length + (l.filter fun j => (p j).isNone).length = l.length := by
  induction l with
  | nil => rfl
  | cons x l ih => cases h : p x <;> simp [h] <;> omega

/-- A group is corrected as it lacks one data block alone. -/
theorem correctGroup_groupPayloads : correctGroup (groupPayloads tag held track g) =
    if groupRebuilt tag held track g = true then
      ((List.range 8).map fun j => some ((groupBlock tag held track g j).getD
        (xorPayloads ((List.range 9).filterMap (groupBlock tag held track g)))), ⟨8, 1, 0⟩)
    else ((List.range 8).map (groupBlock tag held track g), ⟨groupHeld tag held track g, 0, 9 - groupHeld tag held track g⟩) := by
  have present : ((groupPayloads tag held track g).filterMap id).length = groupHeld tag held track g := by
    rw [filterMap_id_length, groupPayloads_eq, List.filter_map, List.length_map]
    rfl
  have xors : (groupPayloads tag held track g).filterMap id = (List.range 9).filterMap (groupBlock tag held track g) := by
    rw [groupPayloads_eq, List.filterMap_map]
    rfl
  have parity : (groupPayloads tag held track g).getD 8 none = groupBlock tag held track g 8 := rfl
  have data : (groupPayloads tag held track g).take 8 = (List.range 8).map (groupBlock tag held track g) := rfl
  have length : (groupPayloads tag held track g).length = 9 := rfl
  have split := groupHeld_eq (tag := tag) (held := held) (track := track) (g := g)
  have missing := length_filter_add (groupBlock tag held track g) (List.range 8)
  rw [List.length_range] at missing
  have test : (9 - groupHeld tag held track g = 1 ∧ (groupBlock tag held track g 8).isNone = false) ↔
      groupRebuilt tag held track g = true := by
    unfold groupRebuilt
    cases block : groupBlock tag held track g 8 with
    | none => simp
    | some payload =>
      rw [block] at split
      simp only [Option.isSome_some, Bool.toNat_true, Option.isNone_some, and_true, Bool.true_and, decide_eq_true_eq] at split ⊢
      omega
  unfold correctGroup
  dsimp only
  rw [present, xors, parity, data, length]
  by_cases rebuilt : groupRebuilt tag held track g = true
  · rw [if_pos (test.2 rebuilt), if_pos rebuilt, List.map_map] <;> rfl
  · rw [if_neg (mt test.1 rebuilt), if_neg rebuilt]

/-- The share of a group in the tally. -/
theorem correctGroup_tally : (correctGroup (groupPayloads tag held track g)).2 = ⟨groupHeld tag held track g,
    (groupRebuilt tag held track g).toNat, 9 - groupHeld tag held track g - (groupRebuilt tag held track g).toNat⟩ ∧
    groupHeld tag held track g + (groupRebuilt tag held track g).toNat ≤ 9 := by
  have split := groupHeld_eq (tag := tag) (held := held) (track := track) (g := g)
  have missing := length_filter_add (groupBlock tag held track g) (List.range 8)
  have least : (groupBlock tag held track g 8).isSome.toNat ≤ 1 := by cases (groupBlock tag held track g 8).isSome <;> decide
  rw [List.length_range] at missing
  rw [correctGroup_groupPayloads]
  cases rebuilt : groupRebuilt tag held track g with
  | false =>
    refine ⟨rfl, ?_⟩
    rw [Bool.toNat_false]
    omega
  | true =>
    unfold groupRebuilt at rebuilt
    rw [Bool.and_eq_true, decide_eq_true_eq] at rebuilt
    obtain ⟨parity, one⟩ := rebuilt
    rw [parity] at split
    have eight : groupHeld tag held track g = 8 := by
      rw [split, Bool.toNat_true]
      omega
    rw [eight]
    exact ⟨rfl, le_rfl⟩

/-! ### The tally of a frame (R69) -/

theorem foldl_add_tally (l : List (List (Option (List Byte)) × Tally)) (x : Tally) : l.foldl (fun acc g => acc.add g.2) x =
    ⟨x.good + (l.map (·.2.good)).sum, x.rebuilt + (l.map (·.2.rebuilt)).sum, x.lost + (l.map (·.2.lost)).sum⟩ := by
  induction l generalizing x with
  | nil => rfl
  | cons y l ih =>
    rw [List.foldl_cons, ih]
    simp only [Tally.add, List.map_cons, List.sum_cons, Nat.add_assoc]

/-- The main blocks of a track, group by group. -/
theorem sum_groupHeld (track : Track) : ((List.range 8).map (groupHeld tag held track)).sum =
    ((List.range 72).filter fun p => (heldPayload held track p).isSome).length := by
  have count (p : Nat → Bool) (n : Nat) : ((List.range n).filter p).length = ∑ k ∈ Finset.range n, (p k).toNat := by
    rw [length_filter_eq_sum]
    rfl
  have groups : ((List.range 8).map (groupHeld tag held track)).sum =
      ∑ g ∈ Finset.range 8, ∑ j ∈ Finset.range 9, (heldPayload held track (8 * j + (g + tag) % 8)).isSome.toNat := by
    show (∑ g ∈ Finset.range 8, groupHeld tag held track g) = _
    exact Finset.sum_congr rfl fun g _ => count ..
  rw [groups, count, ← Finset.sum_product']
  refine Finset.sum_nbij' (fun x => 8 * x.2 + (x.1 + tag) % 8) (fun p => ((p % 8 + 8 - tag % 8) % 8, p / 8)) ?_ ?_ ?_ ?_ fun _ _ => rfl
  · rintro ⟨g, j⟩ h
    simp only [Finset.mem_product, Finset.mem_range] at h ⊢
    omega
  · intro p h
    simp only [Finset.mem_product, Finset.mem_range] at h ⊢
    omega
  · rintro ⟨g, j⟩ h
    simp only [Finset.mem_product, Finset.mem_range, Prod.mk.injEq] at h ⊢
    omega
  · intro p h
    simp only [Finset.mem_range] at h ⊢
    omega

/-- The blocks held of a track. -/
def trackHeld (held : List HeldBlock) (track : Track) : Nat := ((List.range 76).filter fun p => (heldPayload held track p).isSome).length

/-- The groups rebuilt of a track. -/
def trackRebuilt (tag : Nat) (held : List HeldBlock) (track : Track) : Nat :=
  ((List.range 8).filter fun g => groupRebuilt tag held track g).length

/-- The copies held of a track's subcode. -/
def copiesHeld (held : List HeldBlock) (track : Track) : Nat :=
  ((List.range' 72 4).filter fun p => (heldPayload held track p).isSome).length

theorem trackHeld_eq (track : Track) : trackHeld held track =
    ((List.range 8).map (groupHeld tag held track)).sum + copiesHeld held track := by
  have split : List.range 76 = List.range 72 ++ List.range' 72 4 := by decide
  unfold trackHeld copiesHeld
  rw [sum_groupHeld, split, List.filter_append, List.length_append]

theorem copies_eq : (subcodePlaces.filter fun (track, p) => (heldPayload held track p).isSome).length =
    copiesHeld held .a + copiesHeld held .b := by
  have split : subcodePlaces = (List.range' 72 4).map (Prod.mk Track.a) ++ (List.range' 72 4).map (Prod.mk Track.b) := rfl
  rw [split, List.filter_append, List.length_append, List.filter_map, List.filter_map, List.length_map, List.length_map]
  rfl

theorem sum_groupLost (track : Track) : ((List.range 8).map fun g =>
    9 - groupHeld tag held track g - (groupRebuilt tag held track g).toNat).sum =
      72 - ((List.range 8).map (groupHeld tag held track)).sum - trackRebuilt tag held track ∧
    ((List.range 8).map (groupHeld tag held track)).sum + trackRebuilt tag held track ≤ 72 := by
  have most (l : List Nat) : (l.map fun g => 9 - groupHeld tag held track g - (groupRebuilt tag held track g).toNat).sum +
      ((l.map (groupHeld tag held track)).sum + (l.map fun g => (groupRebuilt tag held track g).toNat).sum) = 9 * l.length := by
    induction l with
    | nil => rfl
    | cons g l ih =>
      obtain ⟨-, bound⟩ := correctGroup_tally (tag := tag) (held := held) (track := track) (g := g)
      simp only [List.map_cons, List.sum_cons, List.length_cons]
      omega
  have whole := most (List.range 8)
  rw [List.length_range] at whole
  unfold trackRebuilt
  rw [length_filter_eq_sum]
  omega

theorem frameTally_eq : frameTally tag held = ⟨trackHeld held .a + trackHeld held .b,
    trackRebuilt tag held .a + trackRebuilt tag held .b,
    152 - (trackHeld held .a + trackHeld held .b) - (trackRebuilt tag held .a + trackRebuilt tag held .b)⟩ := by
  have sums (f : Tally → Nat) : ((correctedGroups tag held).map fun g => f g.2).sum =
      ((List.range 8).map fun g => f (correctGroup (groupPayloads tag held .a g)).2).sum +
      ((List.range 8).map fun g => f (correctGroup (groupPayloads tag held .b g)).2).sum := by
    unfold correctedGroups
    rw [List.flatMap_cons, List.flatMap_singleton, List.map_append, List.sum_append, List.map_map, List.map_map]
    rfl
  have tally (track : Track) (g : Nat) := (correctGroup_tally (tag := tag) (held := held) (track := track) (g := g)).1
  obtain ⟨lostA, boundA⟩ := sum_groupLost (tag := tag) (held := held) .a
  obtain ⟨lostB, boundB⟩ := sum_groupLost (tag := tag) (held := held) .b
  have heldA := trackHeld_eq (tag := tag) (held := held) .a
  have heldB := trackHeld_eq (tag := tag) (held := held) .b
  have few (track : Track) : copiesHeld held track ≤ 4 := List.length_filter_le _ _
  have fewA := few .a
  have fewB := few .b
  have rebuilt (track : Track) : ((List.range 8).map fun g => (groupRebuilt tag held track g).toNat).sum = trackRebuilt tag held track :=
    (length_filter_eq_sum ..).symm
  generalize sumA : ((List.range 8).map (groupHeld tag held .a)).sum = a at lostA boundA heldA
  generalize sumB : ((List.range 8).map (groupHeld tag held .b)).sum = b at lostB boundB heldB
  change ((List.range 8).map fun g => groupHeld tag held .a g).sum = a at sumA
  change ((List.range 8).map fun g => groupHeld tag held .b g).sum = b at sumB
  unfold frameTally
  rw [copies_eq, foldl_add_tally, sums (·.good), sums (·.rebuilt), sums (·.lost)]
  simp only [tally, rebuilt, Tally.add, lostA, lostB, sumA, sumB, Tally.mk.injEq]
  omega

/-! ### The pairs of a frame (R12, R69, R70) -/

/-- A data block as it stands after correction: held, or rebuilt from the rest of its group. -/
def groupData (tag : Nat) (held : List HeldBlock) (track : Track) (g j : Nat) : Option (List Byte) :=
  match groupBlock tag held track g j with
  | some payload => some payload
  | none => if (List.range 9).all fun l => l == j || (groupBlock tag held track g l).isSome then
      some (xorPayloads ((List.range 9).filterMap (groupBlock tag held track g))) else none

/-- A group that lacks the data block `j` is rebuilt as it has all the others. -/
theorem groupRebuilt_iff (data : j < 8) (missing : groupBlock tag held track g j = none) : groupRebuilt tag held track g = true ↔
    ((List.range 9).all fun l => l == j || (groupBlock tag held track g l).isSome) = true := by
  have one : ((List.range 8).filter fun l => l == j).length = 1 := by interval_cases j <;> rfl
  unfold groupRebuilt
  rw [Bool.and_eq_true, decide_eq_true_eq, List.all_eq_true]
  constructor
  · rintro ⟨parity, alone⟩ l hl
    rw [Bool.or_eq_true, beq_iff_eq]
    by_cases same : l = j
    · exact .inl same
    · refine .inr ?_
      by_cases last : l = 8
      · rw [last]
        exact parity
      · by_contra absent
        obtain ⟨k, only⟩ := List.length_eq_one_iff.1 alone
        have both (m : Nat) (below : m < 8) (none : (groupBlock tag held track g m).isNone = true) : m = k := by
          have mem : m ∈ (List.range 8).filter fun j => (groupBlock tag held track g j).isNone :=
            List.mem_filter.2 ⟨List.mem_range.2 below, none⟩
          rw [only] at mem
          exact List.mem_singleton.1 mem
        have below : l < 9 := List.mem_range.1 hl
        exact same ((both l (by omega) (by simpa using absent)).trans (both j data (by simp [missing])).symm)
  · intro rest
    have present (l : Nat) (below : l < 9) (other : l ≠ j) : (groupBlock tag held track g l).isSome = true := by
      have h := rest l (List.mem_range.2 below)
      rw [Bool.or_eq_true, beq_iff_eq] at h
      exact h.resolve_left other
    refine ⟨present 8 (by decide) (by omega), ?_⟩
    rw [← one]
    refine congrArg List.length (List.filter_congr fun l hl => ?_)
    by_cases same : l = j
    · simp [same, missing]
    · have some := present l (by have := List.mem_range.1 hl; omega) same
      rw [Option.isNone_eq_false_iff.2 some, beq_eq_false_iff_ne.2 same]

theorem correctGroup_data (data : j < 8) : (correctGroup (groupPayloads tag held track g)).1.getD j none = groupData tag held track g j := by
  have at_j {α : Type} (f : Nat → Option α) : ((List.range 8).map f).getD j none = f j := by
    rw [List.getD_eq_getElem?_getD, List.getElem?_map, List.getElem?_range data]
    rfl
  rw [correctGroup_groupPayloads]
  unfold groupData
  by_cases rebuilt : groupRebuilt tag held track g = true
  · rw [if_pos rebuilt]
    dsimp only
    rw [at_j]
    cases block : groupBlock tag held track g j with
    | some payload => rfl
    | none => exact (if_pos ((groupRebuilt_iff data block).1 rebuilt)).symm
  · rw [if_neg rebuilt]
    dsimp only
    rw [at_j]
    cases block : groupBlock tag held track g j with
    | some payload => rfl
    | none => exact (if_neg (mt (groupRebuilt_iff data block).2 rebuilt)).symm

/-- Pair `n` of a frame: of its data block, or a flagged zero pair. -/
theorem framePair_eq {w : WordLength} {n : Nat} (below : n < 1920) : framePair w (correctedGroups tag held) n =
    match groupData tag held (if n % 2 = 0 then .a else .b) (n / 2 % 8) (n / 16 / w.pairsPerBlock) with
    | some payload => (pairOfPayload w payload (n / 16 % w.pairsPerBlock * w.pairBytes), true)
    | none => (⟨0, 0⟩, false) := by
  have block : n / 16 / w.pairsPerBlock < 8 := by cases w <;> simp only [WordLength.pairsPerBlock] <;> omega
  have group : (correctedGroups tag held).getD (n % 2 * 8 + n / 2 % 8) ([], ⟨0, 0, 0⟩) =
      correctGroup (groupPayloads tag held (if n % 2 = 0 then .a else .b) (n / 2 % 8)) := by
    have small : n / 2 % 8 < 8 := Nat.mod_lt _ (by decide)
    generalize n / 2 % 8 = g at small
    rcases Nat.mod_two_eq_zero_or_one n with even | odd
    · rw [even]
      interval_cases g <;> rfl
    · rw [odd]
      interval_cases g <;> rfl
  have place : n / 2 / 8 = n / 16 := by omega
  unfold framePair
  dsimp only
  rw [group, place, correctGroup_data block] <;> rfl

end
end Sys2Proof.Machine
end

section
/-! What the work of a pulse leaves of the frames being gathered and of those closed and not yet taken: they stand as they are, but for
the roles, which follow the take span (R23, R25, R31). -/

namespace Sys2Proof.Machine

-- One theorem after another: each one elaborated at the same time would hold a stack of its own.
set_option Elab.async false

/-- A slot of a frame being gathered, or closed and not yet taken. -/
def Slot.gathered (v : Slot) : Prop := v.state = .gathering ∨ v.state = .corrected

/-- A slot of one of the roles that R23 sets. -/
def Slot.spanRole (v : Slot) : Prop := v.role = some .play ∨ v.role = some .old

/-- How far a take is: none is set, set to open, open with a punch-out, open without. Each change of the take span in a pulse goes
one way. -/
def Mixer.ahead (m : Mixer) : Nat := if m.punchIn.isNone then 0 else if m.gateOpen then (if m.punchOut.isNone then 1 else 2) else 3

/-- The punches and the gate stand as they are. -/
def State.samePunches (s t : State) : Prop :=
  t.mixer.punchIn = s.mixer.punchIn ∧ t.mixer.punchOut = s.mixer.punchOut ∧ t.mixer.gateOpen = s.mixer.gateOpen

section
variable {s t u : State} {gone gone' : List Nat}

theorem State.samePunches.ahead (h : s.samePunches t) : t.mixer.ahead = s.mixer.ahead := by
  obtain ⟨punchIn, punchOut, gate⟩ := h
  unfold Mixer.ahead
  rw [punchIn, punchOut, gate]

theorem State.samePunches.roleFor (h : s.samePunches t) (banks : t.banks = s.banks) (f : Nat) : t.roleFor f = s.roleFor f := by
  obtain ⟨punchIn, punchOut, -⟩ := h
  have pairs : t.framePairs = s.framePairs := congrArg (fun b : Bank => b.rate.pairs) (activeBank_of banks)
  unfold State.roleFor State.inSpan
  rw [punchIn, punchOut, pairs]

/-- A slot stands as it is, but for a role that follows a change of the take span (R23). -/
structure Follows (i : Nat) (s t : State) : Prop where
  slot : t.slot i = { s.slot i with role := (t.slot i).role }
  roles : s.samePunches t ∧ (t.slot i).role = (s.slot i).role ∨
    t.mixer.ahead < s.mixer.ahead ∧ ((s.slot i).mixed = false → (s.slot i).spanRole →
      (t.slot i).role = some (t.roleFor ((s.slot i).frameTime.getD 0)))

theorem Follows.same {i : Nat} (slot : t.slot i = s.slot i) (punches : s.samePunches t) : Follows i s t :=
  ⟨by rw [slot], .inl ⟨punches, by rw [slot]⟩⟩

theorem Follows.trans {i : Nat} (h : Follows i s t) (k : Follows i t u) (banks : u.banks = t.banks) : Follows i s u := by
  have first := h.slot
  refine ⟨by rw [k.slot, first], ?_⟩
  rcases h.roles with ⟨same, role⟩ | ⟨less, role⟩
  · rcases k.roles with ⟨same', role'⟩ | ⟨less', role'⟩
    · exact .inl ⟨⟨same'.1.trans same.1, same'.2.1.trans same.2.1, same'.2.2.trans same.2.2⟩, role'.trans role⟩
    · refine .inr ⟨by rw [← same.ahead]; exact less', fun mixed spans => ?_⟩
      have time : (t.slot i).frameTime = (s.slot i).frameTime := by rw [first]
      rw [← time]
      exact role' (by rw [first]; exact mixed) (by unfold Slot.spanRole; rw [role]; exact spans)
  · rcases k.roles with ⟨same', role'⟩ | ⟨less', role'⟩
    · refine .inr ⟨by rw [same'.ahead]; exact less, fun mixed spans => ?_⟩
      rw [role', same'.roleFor banks]
      exact role mixed spans
    · refine .inr ⟨less'.trans less, fun mixed spans => ?_⟩
      have time : (t.slot i).frameTime = (s.slot i).frameTime := by rw [first]
      rw [← time]
      refine role' (by rw [first]; exact mixed) ?_
      unfold Slot.spanRole
      rw [role mixed spans]
      unfold State.roleFor
      split
      · exact .inr rfl
      · exact .inl rfl

/-- The frames gathered, those in `gone` aside, stand as they are, but for roles that follow a change of the take span; and so do the
held tape field, the marks of the decoder and the cue table. -/
structure Grips (gone : List Nat) (s t : State) : Prop where
  banks : t.banks = s.banks
  list : t.store.gatherList = s.store.gatherList.filter (· ∉ gone)
  follows : ∀ i ∉ gone, (s.slot i).gathered → Follows i s t
  heldTape : t.copy.heldTape = s.copy.heldTape
  decoder : t.decoder = { s.decoder with
    time := t.decoder.time, leadIn := t.decoder.leadIn, status := t.decoder.status, holdover := t.decoder.holdover
    readMode := t.decoder.readMode, lateReads := t.decoder.lateReads }
  entries : t.cues.entries = s.cues.entries

theorem Grips.slot (h : Grips gone s t) {i : Nat} (stays : i ∉ gone) (gathered : (s.slot i).gathered) :
    t.slot i = { s.slot i with role := (t.slot i).role } := (h.follows i stays gathered).slot

theorem Grips.gathered (h : Grips gone s t) {i : Nat} (stays : i ∉ gone) (gathered : (s.slot i).gathered) : (t.slot i).gathered := by
  rw [h.slot stays gathered]
  exact gathered

theorem Grips.trans (h : Grips gone s t) (k : Grips gone' t u) : Grips (gone ++ gone') s u where
  banks := k.banks.trans h.banks
  list := by
    rw [k.list, h.list, List.filter_filter]
    exact List.filter_congr fun i _ => by simp [Bool.and_comm]
  follows := fun i stays gathered => by
    rw [List.mem_append, not_or] at stays
    exact (h.follows i stays.1 gathered).trans (k.follows i stays.2 (h.gathered stays.1 gathered)) k.banks
  heldTape := k.heldTape.trans h.heldTape
  decoder := by rw [k.decoder, h.decoder]
  entries := k.entries.trans h.entries

/-- A stage that leaves the slots and the punches alone. -/
theorem Grips.of (banks : t.banks = s.banks := by rfl) (list : t.store.gatherList = s.store.gatherList := by rfl)
    (slots : t.store.slots = s.store.slots := by rfl)
    (punches : s.samePunches t := by exact ⟨rfl, rfl, rfl⟩) (heldTape : t.copy.heldTape = s.copy.heldTape := by rfl)
    (decoder : t.decoder = { s.decoder with
      time := t.decoder.time, leadIn := t.decoder.leadIn, status := t.decoder.status, holdover := t.decoder.holdover
      readMode := t.decoder.readMode, lateReads := t.decoder.lateReads } := by rfl)
    (entries : t.cues.entries = s.cues.entries := by rfl) : Grips [] s t := by
  have slot (i : Nat) : t.slot i = s.slot i := by
    unfold State.slot
    rw [slots]
  exact ⟨banks, by rw [list]; simp, fun i _ _ => .same (slot i) punches, heldTape, decoder, entries⟩

theorem Grips.refl (s : State) : Grips [] s s := .of

theorem Grips.then (h : Grips gone s t) (k : Grips [] t u) : Grips gone s u := by
  have both := h.trans k
  rwa [List.append_nil] at both

/-- Work on slots that leaves the slots gathered alone. -/
theorem SlotWork.grips (h : SlotWork s t) (list : t.store.gatherList = s.store.gatherList.filter (· ∉ gone))
    (slot : ∀ i ∉ gone, (s.slot i).gathered → t.slot i = s.slot i) : Grips gone s t where
  banks := h.banks
  list := list
  follows := fun i stays gathered => .same (slot i stays gathered) (by unfold State.samePunches; rw [h.mixer]; exact ⟨rfl, rfl, rfl⟩)
  heldTape := h.heldTape
  decoder := by rw [h.decoder]
  entries := by rw [h.cues]

theorem grips_freeSlots (l : List Nat) (s : State) : Grips l s (freeSlots l s) :=
  (freeSlots_frees l s).work.grips (freeSlots_frees l s).gatherList fun i stays _ => by rw [(freeSlots_frees l s).slot, if_neg stays]

/-- The gather list holds slots of frames gathered. -/
def State.gathersSound (s : State) : Prop := ∀ i ∈ s.store.gatherList, (s.slot i).gathered

theorem Grips.sound (h : Grips gone s t) (sound : s.gathersSound) : t.gathersSound := fun i hi => by
  rw [h.list, List.mem_filter, decide_eq_true_eq] at hi
  exact h.gathered hi.2 (sound i hi.1)

/-- Slots freed that are none of those gathered. -/
theorem grips_freeSlots_aside {l : List Nat} (sound : s.gathersSound) (aside : ∀ i ∈ l, ¬ (s.slot i).gathered) :
    Grips [] s (freeSlots l s) := by
  have frees := freeSlots_frees l s
  refine frees.work.grips ?_ fun i _ gathered => by rw [frees.slot, if_neg fun freed => aside i freed gathered]
  rw [frees.gatherList]
  exact List.filter_congr fun i hi => by
    have stays : i ∉ l := fun freed => aside i freed (sound i hi)
    simp [stays]

/-- A slot written that is none of those gathered. -/
theorem slot_setSlot_gathered {k i : Nat} {v : Slot} (aside : ¬ (s.slot k).gathered) (gathered : (s.slot i).gathered) :
    (setSlot k v s).slot i = s.slot i := by
  rw [slot_setSlot, if_neg]
  rintro ⟨rfl, -⟩
  exact aside gathered

/-! ### The Edit Mixer's work (R28, R146) -/

theorem grips_takeSlot {i : Nat} (sound : s.gathersSound) (captured : (s.slot i).state = .captured) : Grips [] s (takeSlot i s) := by
  have aside : ¬ (s.slot i).gathered := by
    rintro (h | h) <;> rw [captured] at h <;> cases h
  have old : ∀ k ∈ (s.oldSlot ((s.slot i).frameTime.getD 0)).toList, (s.slot k).state = .concealed := fun k hk => by
    have found := List.find?_some (Option.mem_toList.1 hk)
    simp only [Bool.and_eq_true, beq_iff_eq] at found
    exact found.1.2
  unfold takeSlot
  dsimp only
  generalize s.oldSlot ((s.slot i).frameTime.getD 0) = o at old ⊢
  generalize hv : ({ s.slot i with state := .mixed, copyField := _, pairs := _, mixed := _ } : Slot) = v
  have written : Grips [] s { setSlot i v s with
      store := { (setSlot i v s).store with captureList := (setSlot i v s).store.captureList.filter (· != i) }
      copy := { (setSlot i v s).copy with inputFields := (setSlot i v s).copy.inputFields.filter (·.1 != i) } } := by
    exact ⟨rfl, by simp [setSlot], fun k _ gathered => .same (slot_setSlot_gathered aside gathered) ⟨rfl, rfl, rfl⟩, rfl, rfl, rfl⟩
  refine written.then (grips_freeSlots_aside (written.sound sound) fun k hk => ?_)
  have waits := old k hk
  rintro h
  have still : ({ setSlot i v s with
      store := { (setSlot i v s).store with captureList := (setSlot i v s).store.captureList.filter (· != i) }
      copy := { (setSlot i v s).copy with inputFields := (setSlot i v s).copy.inputFields.filter (·.1 != i) } } : State).slot k =
        s.slot k := by
    show (setSlot i v s).slot k = _
    rw [slot_setSlot, if_neg]
    rintro ⟨rfl, -⟩
    rw [captured] at waits
    cases waits
  rw [still] at h
  rcases h with h | h <;> rw [waits] at h <;> cases h

theorem grips_mixerRun (n : Nat) (sound : s.gathersSound) : Grips [] s (mixerRun n s) := by
  induction n generalizing s with
  | zero => exact .refl s
  | succ n ih =>
    unfold mixerRun
    split
    · exact .refl s
    · dsimp only
      split
      · next takes =>
        have taken := grips_takeSlot sound takes.1
        exact taken.then (ih (taken.sound sound))
      · exact .refl s

theorem grips_mixerJudge (sound : s.gathersSound) : Grips [] s (mixerJudge s) := grips_mixerRun _ sound

/-! ### A change of the take span (R23) -/

/-- The roles follow a change of the take span that goes one way. -/
theorem grips_spanChanged {u : State} (sound : s.gathersSound) (ahead : u.mixer.ahead < s.mixer.ahead)
    (slots : u.store.slots = s.store.slots := by rfl) (list : u.store.gatherList = s.store.gatherList := by rfl)
    (banks : u.banks = s.banks := by rfl) (heldTape : u.copy.heldTape = s.copy.heldTape := by rfl)
    (decoder : u.decoder = { s.decoder with
      time := u.decoder.time, leadIn := u.decoder.leadIn, status := u.decoder.status, holdover := u.decoder.holdover
      readMode := u.decoder.readMode, lateReads := u.decoder.lateReads } := by rfl)
    (entries : u.cues.entries = s.cues.entries := by rfl) : Grips [] s (spanChanged u) := by
  have slotOf (i : Nat) : u.slot i = s.slot i := by
    unfold State.slot
    rw [slots]
  have work := slotWork_setRoles u
  have roles : Grips [] s (setRoles u) := by
    have lists : (setRoles u).store.gatherList = u.store.gatherList := by
      obtain ⟨trim, demand, same⟩ := withDepths_trimmed (fun t => { t with store := { t.store with
        slots := t.store.slots.map fun v => if v.rolesAgain then { v with role := some (t.roleFor (v.frameTime.getD 0)) } else v } }) u
      have written : setRoles u = _ := same
      rw [written] <;> rfl
    have still : (setRoles u).roleFor = u.roleFor := funext fun f => State.samePunches.roleFor
      ⟨congrArg Mixer.punchIn work.mixer, congrArg Mixer.punchOut work.mixer, congrArg Mixer.gateOpen work.mixer⟩ work.banks f
    refine ⟨work.banks.trans banks, by rw [lists, list]; simp, fun i _ gathered => ⟨?_, .inr ⟨by rw [work.mixer]; exact ahead,
      fun mixed role => ?_⟩⟩, work.heldTape.trans heldTape, by rw [work.decoder]; exact decoder,
      (congrArg CueTable.entries work.cues).trans entries⟩
    · rw [slot_setRoles, slotOf]
      split <;> rfl
    · have again : (s.slot i).rolesAgain = true := by
        unfold Slot.rolesAgain
        unfold Slot.spanRole at role
        unfold Slot.gathered at gathered
        simp only [mixed, Bool.not_false, Bool.true_and, Bool.and_eq_true, Bool.or_eq_true, beq_iff_eq]
        exact ⟨role.symm, .inl gathered⟩
      rw [still, slot_setRoles, slotOf, if_pos again]
  unfold spanChanged
  dsimp only
  generalize setRoles u = v at roles ⊢
  have sound' := roles.sound sound
  have freed : Grips [] v (freeSlots (v.slotsWhere v.outsideSpan) v) := grips_freeSlots_aside sound' fun i hi h => by
    have outside := (List.mem_filter.1 hi).2
    unfold State.outsideSpan at outside
    rcases h with h | h <;> rw [h] at outside <;> simp at outside
  have both := roles.then freed
  generalize freeSlots (v.slotsWhere v.outsideSpan) v = w at both ⊢
  split
  · have opened : Grips [] w { w with copy := { w.copy with latched := false } } := .of
    exact (both.then opened).then (grips_mixerJudge ((both.then opened).sound sound))
  · exact both.then (grips_mixerJudge (both.sound sound))

/-! ### The punches (R144, R145, R148, R149) -/

/-- An open gate has its punch-in. -/
def State.punched (s : State) : Prop := s.mixer.gateOpen = true → s.mixer.punchIn.isSome = true

theorem grips_cancelPunch (reason : CancelReason) (sound : s.gathersSound) : Grips [] s (cancelPunch reason s) := by
  by_cases same : s.mixer.punchIn = none ∨ s.mixer.taken = true
  · rw [cancelPunch_same reason same]
    exact .refl s
  · obtain ⟨scheduled, taken⟩ := not_or.1 same
    obtain ⟨p, punch⟩ := Option.ne_none_iff_exists'.1 scheduled
    rw [cancelPunch_eq reason punch (by simpa using taken)]
    have cleared : Grips [] s (spanChanged (clearPunches s)) := grips_spanChanged sound (by
      unfold clearPunches Mixer.ahead
      rw [punch]
      cases s.mixer.gateOpen <;> cases s.mixer.punchOut <;> simp)
    generalize spanChanged (clearPunches s) = w at cleared ⊢
    obtain ⟨x, handed⟩ := handOffIf_eq s.listPunch (.punchFailed reason) (logEntry .punchCancelled s.timeNow p.origin reason.code w)
    rw [handed]
    exact cleared.then .of

theorem grips_withdrawPunchOut (sound : s.gathersSound) (punched : s.punched) : Grips [] s (withdrawPunchOut s) := by
  unfold withdrawPunchOut
  split
  · next o punch =>
    split
    · next due =>
      obtain ⟨p, scheduled⟩ := Option.isSome_iff_exists.1 (punched due.1)
      have gone : Grips [] s (spanChanged { s with mixer := { s.mixer with punchOut := none, committed := false } }) :=
        grips_spanChanged sound (by
          unfold Mixer.ahead
          simp [due.1, scheduled, punch])
      dsimp only
      generalize spanChanged { s with mixer := { s.mixer with punchOut := none, committed := false } } = w at gone ⊢
      obtain ⟨x, handed⟩ := handOffIf_eq (o.origin == .list) (.punchFailed .time)
        (logEntry .punchCancelled w.timeNow o.origin CancelReason.time.code w)
      rw [handed]
      exact gone.then .of
    · exact .refl s
  · exact .refl s

/-- The cancelling of a punch-in closes the gate with it. -/
theorem cancelPunch_punched (reason : CancelReason) (punched : s.punched) : (cancelPunch reason s).punched := by
  by_cases same : s.mixer.punchIn = none ∨ s.mixer.taken = true
  · rw [cancelPunch_same reason same]
    exact punched
  · obtain ⟨scheduled, taken⟩ := not_or.1 same
    obtain ⟨p, punch⟩ := Option.ne_none_iff_exists'.1 scheduled
    unfold State.punched
    rw [(cancelPunch_cancels reason punch (by simpa using taken)).mixer, spanChanged_mixer]
    exact fun gate => by cases gate

theorem grips_withdrawPunches (sound : s.gathersSound) (punched : s.punched) : Grips [] s (withdrawPunches s) := by
  have cancelled : Grips [] s (match s.mixer.punchIn with
      | some p => if p.timed then cancelPunch .time s else s
      | none => s) ∧ State.punched (match s.mixer.punchIn with
      | some p => if p.timed then cancelPunch .time s else s
      | none => s) := by
    split
    · split
      · exact ⟨grips_cancelPunch .time sound, cancelPunch_punched .time punched⟩
      · exact ⟨.refl s, punched⟩
    · exact ⟨.refl s, punched⟩
  exact cancelled.1.then (grips_withdrawPunchOut (cancelled.1.sound sound) cancelled.2)

/-! ### The judgement of the closed frame (R73 to R75) -/

theorem grips_lossSeen (s : State) : Grips [] s s.lossSeen := .of

theorem grips_enterLost (sound : s.gathersSound) (punched : s.punched) : Grips [] s (enterLost s) :=
  (grips_lossSeen s).then (grips_withdrawPunches (s := s.lossSeen) sound punched)

theorem grips_judgeInvalid (sound : s.gathersSound) (punched : s.punched) : Grips [] s (judgeInvalid s) := by
  have invalid : Grips [] s (if s.decoder.holdover < s.activeBank.holdover then setStatus .holdover (s.decoder.holdover + 1) s
      else enterLost s) := by
    split
    · exact .of
    · exact grips_enterLost sound punched
  unfold judgeInvalid
  split
  · exact invalid
  · exact invalid
  · exact .refl s
  · exact .refl s

theorem grips_judgeFrame (v : Option Nat) (sound : s.gathersSound) (punched : s.punched) : Grips [] s (judgeFrame v s) := by
  unfold judgeFrame
  dsimp only
  split
  · exact grips_judgeInvalid sound punched
  · next v =>
    split
    · exact .of
    · split
      · exact grips_judgeInvalid sound punched
      · rw [jumpTo_eq]
        have jumped : Grips [] s (s.jumped v s.decoder.predicted) := by
          refine .of (decoder := ?_)
          have set : (s.jumped v s.decoder.predicted).decoder = { s.decoder.setFrom v with status := .locked, holdover := 0 } := rfl
          rw [set]
          unfold Decoder.setFrom
          split <;> rfl
        exact jumped.then (grips_cancelPunch .time (jumped.sound sound))

theorem grips_judgeHoldover (sound : s.gathersSound) (punched : s.punched) : Grips [] s (judgeHoldover s) := by
  unfold judgeHoldover
  split
  · split
    · exact grips_enterLost sound punched
    · exact grips_enterLost sound punched
    · exact .of
    · exact .of
  · exact .refl s

theorem grips_lostSeen (s : State) : Grips [] s (lostSeen s) := by
  unfold lostSeen
  split
  · exact .of
  · exact .refl s


/-! ### A refusal, and the switch of the banks (R98, R104, R105, R177) -/

theorem grips_refusalEvent (sound : s.gathersSound) : Grips [] s (refusalEvent s) := by
  unfold refusalEvent
  split
  · split
    · exact .refl s
    · exact .of
  · split
    · exact (grips_cancelPunch .copy sound).then .of
    · exact .refl s

theorem grips_deriveField (sound : s.gathersSound) : Grips [] s (deriveField s) := by
  obtain ⟨fields, -, derived⟩ := deriveField_eq s
  have written : Grips [] s { s with copy := { s.copy with current := s.sourceField, inputFields := fields } } := .of
  dsimp only at derived
  rw [derived]
  split
  · exact written.then (grips_refusalEvent (written.sound sound))
  · exact written

theorem grips_judgeLost (sound : s.gathersSound) : Grips [] s (judgeLost s) := by
  obtain ⟨c, r, judged⟩ := lossJudged_leaves s
  have first : Grips [] s s.lossJudged := by
    rw [judged]
    exact .of
  rw [judgeLost_eq]
  exact first.then (grips_deriveField (first.sound sound))

/-- After the switch the source is judged again, and the field derived. -/
theorem grips_pulseBanks (sound : s.gathersSound) :
    ∃ banks, banks.pendingSwitch = none ∧ Grips [] { s with banks := banks } (pulseBanks s) := by
  unfold pulseBanks
  split
  · next still => exact ⟨s.banks, still, .refl s⟩
  · next port _ =>
    refine ⟨{ s.banks with active := s.banks.active.other, pendingSwitch := none }, rfl, ?_⟩
    dsimp only
    generalize logged : logEntry _ _ _ _ { s with banks := { s.banks with active := s.banks.active.other, pendingSwitch := none } } = u
    have switched : Grips [] { s with banks := { s.banks with active := s.banks.active.other, pendingSwitch := none } } u :=
      logged ▸ .of
    have soundOf : u.gathersSound := switched.sound sound
    split
    · exact switched.then (grips_deriveField soundOf)
    · have judged := grips_judgeLost soundOf
      exact (switched.then judged).then (grips_deriveField (judged.sound soundOf))

/-! ### The record gate (R142, R148, R149) -/

theorem grips_pulseCommit (s : State) : Grips [] s (pulseCommit s) := by
  obtain ⟨-, -, committed⟩ := pulseCommit_spec s
  rw [committed]
  exact .of

theorem entered_decoder {new : TransportState} {demand : Demand} (rolling : s.transport.state.rolling = true) :
    (entered new demand s).decoder = { s.decoder with
      readMode := (entered new demand s).decoder.readMode, lateReads := (entered new demand s).decoder.lateReads } := by
  have rolls : s.transport.state = .play ∨ s.transport.state = .record := by
    by_contra off
    rw [rolling_of_not off] at rolling
    cases rolling
  have kept : startRunCleared s.transport.state new = false := by
    unfold startRunCleared
    rcases rolls with e | e <;> rw [e] <;> simp
  unfold entered
  rw [kept] <;> rfl

theorem grips_openGate {p : Punch} (rolling : s.transport.state.rolling = true) (shut : s.mixer.gateOpen = false)
    (punch : s.mixer.punchIn = some p) (sound : s.gathersSound) : Grips [] s (openGate p s) := by
  have opened : Grips [] s (spanChanged (entered .record (.playSpeed .normal)
      { s with mixer := { s.mixer with taken := true, gateOpen := true } })) := grips_spanChanged sound (by
    show Mixer.ahead { s.mixer with taken := true, gateOpen := true } < _
    unfold Mixer.ahead
    rw [shut, punch]
    cases s.mixer.punchOut <;> simp) (decoder := by
    exact entered_decoder (s := { s with mixer := { s.mixer with taken := true, gateOpen := true } }) rolling)
  unfold openGate
  dsimp only
  rw [enterState_steady (by exact rolling)]
  generalize spanChanged (entered .record (.playSpeed .normal) { s with mixer := { s.mixer with taken := true, gateOpen := true } }) = w
    at opened ⊢
  obtain ⟨h, handed⟩ := handOffIf_eq (p.origin == .list) (.gateOpened p.time)
    (logEntry .punchIn (some p.time) p.origin p.cross (raiseFlag .punchIn w))
  rw [handed]
  exact opened.then .of

theorem grips_closeOnPulse {o : Punch} {last : Nat} (rolling : s.transport.state.rolling = true) (gate : s.mixer.gateOpen = true)
    (punched : s.punched) (sound : s.gathersSound) : Grips [] s (closeOnPulse o last s) := by
  obtain ⟨p, punch⟩ := Option.isSome_iff_exists.1 (punched gate)
  have cleared : Grips [] s (spanChanged (clearPunches s)) := grips_spanChanged sound (by
    unfold clearPunches Mixer.ahead
    rw [gate, punch]
    cases s.mixer.punchOut <;> simp)
  have state := spanChanged_state (clearPunches s)
  unfold closeOnPulse
  dsimp only
  generalize spanChanged (clearPunches s) = w at cleared state ⊢
  have rolls : w.transport.state.rolling = true := by rw [state]; exact rolling
  have entered : Grips [] w (entered .play (.playSpeed .normal) w) := .of (decoder := by rw [entered_decoder rolls] <;> rfl)
  rw [enterState_steady (by rw [rolls] <;> rfl)]
  obtain ⟨h, handed⟩ := handOffIf_eq (o.origin == .list) (.punchOutDone last)
    (logEntry .punchOut (some last) o.origin 0 (raiseFlag .punchOut (Machine.entered .play (.playSpeed .normal) w)))
  rw [handed]
  exact (cleared.then entered).then .of

theorem grips_pulseGate (rolling : s.transport.state.rolling = true) (punched : s.punched) (sound : s.gathersSound) :
    Grips [] s (pulseGate s) := by
  unfold pulseGate
  split
  · next gate =>
    split
    · dsimp only
      split
      · exact grips_closeOnPulse rolling gate punched sound
      · exact .refl s
    · exact .refl s
  · next shut =>
    split
    · next p punch =>
      split
      · exact grips_openGate rolling (by simpa using shut) punch sound
      · exact .refl s
    · exact .refl s

/-! ### The write window and the capture slot (R26, R29, R55) -/

/-- Work on one slot that is none of those gathered. -/
theorem grips_setSlot {k : Nat} {v : Slot} (aside : ¬ (s.slot k).gathered) : Grips [] s (setSlot k v s) :=
  (slotWork_setSlot k v s).grips (by simp [setSlot]) fun i _ gathered => slot_setSlot_gathered aside gathered

theorem not_gathered {v : Slot} {x : SlotState} (h : v.state = x) (other : x ≠ .gathering ∧ x ≠ .corrected := by decide) :
    ¬ v.gathered := by
  rintro (e | e) <;> rw [h] at e
  · exact other.1 e
  · exact other.2 e

theorem grips_supplyFinished {i : Nat} (aside : ¬ (s.slot i).gathered) (sound : s.gathersSound) : Grips [] s (supplyFinished i s) := by
  have written : Grips [] s (updateSlot i (fun v => { v with supplyDone := true }) s) := grips_setSlot aside
  unfold supplyFinished
  dsimp only
  split
  · refine written.then (grips_freeSlots_aside (written.sound sound) fun k hk gathered => ?_)
    obtain rfl := List.mem_singleton.1 hk
    have still : ((updateSlot k (fun v => { v with supplyDone := true }) s).slot k).state = (s.slot k).state := by
      show ((setSlot k _ s).slot k).state = _
      rw [slot_setSlot]
      split <;> rfl
    unfold Slot.gathered at gathered
    rw [still] at gathered
    exact aside gathered
  · exact written

theorem grips_pulseCut (sound : s.gathersSound) (writing : ∀ w ∈ s.coder.current, (s.slot w.slot).state = .writing) :
    Grips [] s (pulseCut s) := by
  unfold pulseCut
  split
  · next w current =>
    split
    · have cleared : Grips [] s { s with coder := { s.coder with current := none } } := .of
      exact (cleared.then (grips_supplyFinished (not_gathered (x := .writing) (writing w current)) (cleared.sound sound))).then .of
    · exact .refl s
  · exact .refl s

theorem grips_closeVerify (e : VerifyEntry) (s : State) : Grips [] s (closeVerify e s) := by
  unfold closeVerify
  dsimp only
  split <;> exact .of

theorem grips_pulseVerify (q : Nat) (s : State) : Grips [] s (pulseVerify q s) := by
  have all (l : List VerifyEntry) (u : State) : Grips [] u (l.foldl (fun s e => closeVerify e s) u) := by
    induction l generalizing u with
    | nil => exact .refl u
    | cons e l ih => exact (grips_closeVerify e u).then (ih _)
  unfold pulseVerify
  dsimp only
  exact Grips.then .of (all _ _)

theorem grips_lateWindow (sound : s.gathersSound) : Grips [] s (lateWindow s) := by
  unfold lateWindow
  dsimp only
  have freed : Grips [] s (freeSlots (s.slotsWhere fun v => (v.state == .capturing || v.state == .captured) &&
      v.frameTime == some s.decoder.time) s) := grips_freeSlots_aside sound fun i hi h => by
    have waits := (List.mem_filter.1 hi).2
    rcases h with h | h <;> simp [h] at waits
  generalize freeSlots _ s = u at freed ⊢
  exact freed.then .of

theorem grips_takeWindow {i : Nat} (mixed : (s.slot i).state = .mixed) (sound : s.gathersSound) : Grips [] s (takeWindow i s) := by
  have work : Grips [] s (withDepths (fun t =>
      let t := setSlot i { s.slot i with state := .writing, start := (s.cues.mark.window s.decoder.time).1.isSome } t
      { t with store := { t.store with writeQueue := t.store.writeQueue.filter (· != i) } }) s) := by
    obtain ⟨trim, demand, same⟩ := withDepths_trimmed (fun t =>
      let t := setSlot i { s.slot i with state := .writing, start := (s.cues.mark.window s.decoder.time).1.isSome } t
      { t with store := { t.store with writeQueue := t.store.writeQueue.filter (· != i) } }) s
    rw [same]
    exact (grips_setSlot (not_gathered mixed)).then .of
  unfold takeWindow
  dsimp only at work ⊢
  generalize withDepths _ s = u at work ⊢
  exact work.then .of

theorem windowTrim_trimmed (s : State) : ∃ trim demand, windowTrim s = s.trimmed trim demand := by
  unfold windowTrim
  split
  · exact ⟨_, _, rfl⟩
  · exact judgeW_trimmed s

theorem grips_windowed (sound : s.gathersSound) : Grips [] s s.windowed := by
  unfold State.windowed
  split
  · split
    · next mixed => exact grips_takeWindow mixed sound
    · exact grips_lateWindow sound
  · exact grips_lateWindow sound

/-- The output queue holds none of the slots gathered. -/
def State.queueSound (s : State) : Prop := ∀ i ∈ s.store.outputQueue, ¬ (s.slot i).gathered

theorem lateWindow_queueSound (queued : s.queueSound) : (lateWindow s).queueSound := by
  unfold lateWindow
  dsimp only
  generalize s.slotsWhere _ = l
  have frees := freeSlots_frees l s
  generalize freeSlots l s = u at frees ⊢
  intro i hi
  have hi : i ∈ u.store.outputQueue := hi
  rw [frees.outputQueue, List.mem_filter, decide_eq_true_eq] at hi
  show ¬ (u.slot i).gathered
  rw [frees.slot, if_neg hi.2]
  exact queued i hi.1

theorem takeWindow_queueSound {i : Nat} (queued : s.queueSound) : (takeWindow i s).queueSound := by
  obtain ⟨trim, demand, same⟩ := withDepths_trimmed (fun t =>
    let t := setSlot i { s.slot i with state := .writing, start := (s.cues.mark.window s.decoder.time).1.isSome } t
    { t with store := { t.store with writeQueue := t.store.writeQueue.filter (· != i) } }) s
  unfold takeWindow
  dsimp only at same ⊢
  rw [same]
  intro k hk
  have hk : k ∈ s.store.outputQueue := hk
  show ¬ ((setSlot i _ s).slot k).gathered
  rw [slot_setSlot]
  split
  · exact not_gathered (x := .writing) rfl
  · exact queued k hk

theorem windowed_queueSound (queued : s.queueSound) : s.windowed.queueSound := by
  unfold State.windowed
  split
  · split
    · exact takeWindow_queueSound queued
    · exact lateWindow_queueSound queued
  · exact lateWindow_queueSound queued

theorem grips_pulseWindow (sound : s.gathersSound) (queued : s.queueSound) : Grips [] s (pulseWindow s) := by
  by_cases gate : s.mixer.gateOpen = true
  · rw [pulseWindow_open gate]
    obtain ⟨trim, demand, same⟩ := windowTrim_trimmed s
    rw [same]
    have trimmed : Grips [] s (s.trimmed trim demand) := .of
    have soundOf := trimmed.sound sound
    have opened := trimmed.then (grips_windowed soundOf)
    have queuedOf : (s.trimmed trim demand).windowed.queueSound := windowed_queueSound queued
    generalize (s.trimmed trim demand).windowed = b at opened queuedOf ⊢
    exact opened.then (grips_freeSlots_aside (opened.sound sound) fun i hi => queuedOf i (List.mem_filter.1 hi).1)
  · rw [show pulseWindow s = { s with coder := { s.coder with writeOn := false } } from if_neg gate]
    exact .of

theorem grips_pulseCapture (sound : s.gathersSound) : Grips [] s (pulseCapture s) := by
  unfold pulseCapture
  dsimp only
  split
  · split
    · next i lowest =>
      obtain ⟨-, free⟩ := lowestFree_some lowest
      exact (grips_setSlot (not_gathered free)).then .of
    · exact .refl s
  · exact .refl s

theorem grips_pulseConditions (s : State) : Grips [] s (pulseConditions s) := by
  unfold pulseConditions
  dsimp only
  split <;> split <;> exact .of

theorem gathersSound_of (sound : s.storeSound) : s.gathersSound := fun i hi => by
  obtain ⟨⟨-, -, -, -, -, within, agrees, -⟩, -⟩ := sound
  obtain ⟨-, -, -, -, -, gather, -⟩ := agrees i (within i (by simp [hi]))
  exact gather.1 hi

theorem queueSound_of (sound : s.storeSound) : s.queueSound := fun i hi => by
  obtain ⟨⟨-, -, -, -, -, within, agrees, -⟩, -⟩ := sound
  obtain ⟨-, -, -, -, -, -, output, -⟩ := agrees i (within i (by simp [hi]))
  exact not_gathered (output.1 hi)

/-- What a pulse does once the record gate is passed. -/
theorem grips_afterGate (q : Nat) (reading : s.readingAgrees) (sound : s.storeSound) : Grips [] s (afterGate q s) := by
  obtain ⟨-, -, -, writing, -⟩ := id sound
  have cut := grips_pulseCut (gathersSound_of sound) fun w hw => (writing w hw).1
  have verified := cut.then (grips_pulseVerify q (pulseCut s))
  have soundOf := Acts.storeSound ((acts_pulseCut s).trans (acts_pulseVerify q (pulseCut s))) reading sound
  have windowed := verified.then (grips_pulseWindow (gathersSound_of soundOf) (queueSound_of soundOf))
  unfold afterGate
  dsimp only
  generalize pulseWindow (pulseVerify q (pulseCut s)) = u at windowed ⊢
  have checked : Grips [] u { u with cues := { u.cues with mark := u.cues.mark.check u.decoder.time } } := .of
  have gathers := windowed.then checked
  have captured := gathers.then (grips_pulseCapture (gathers.sound (gathersSound_of sound)))
  have told := captured.then (grips_pulseConditions _)
  exact told.then (grips_mixerJudge (told.sound (gathersSound_of sound)))

/-! ### The takes (R32) -/

/-- The take of the oldest CORRECTED slot leaves the others. -/
theorem grips_takeFrame {last i : Nat} {ahead : LookAhead} (sound : s.storeSound) (head : s.correctedSlots.head? = some i) :
    Grips [i] s (takeFrame last i ahead s) := by
  have corrected : (s.slot i).state = .corrected := by
    have listed := List.mem_filter.1 (List.mem_of_mem_head? head)
    exact beq_iff_eq.1 listed.2
  obtain ⟨⟨length, -⟩, -⟩ := id sound
  have inside : i < 16 := lt_of_state length (by rw [corrected]; decide)
  rw [takeFrame_eq]
  generalize concealPairs _ _ ahead _ _ = r
  obtain ⟨store, -, -, decoder, mixer, -⟩ := frameTaken_leaves s i r
  have still : (s.frameTaken i r).banks = s.banks ∧ (s.frameTaken i r).copy = s.copy ∧ (s.frameTaken i r).cues = s.cues := by
    unfold State.frameTaken
    dsimp only
    split <;> exact ⟨rfl, rfl, rfl⟩
  obtain ⟨banks, copy, cues⟩ := still
  generalize s.frameTaken i r = w at store decoder mixer banks copy cues ⊢
  have slotOf (k : Nat) : w.slot k = if k = i then s.concealedSlot i r else s.slot k := by
    rw [← slot_setSlot_of length inside]
    unfold State.slot
    rw [store]
  have queue : w.store.outputQueue = s.store.outputQueue := by rw [store] <;> rfl
  have gathers : w.store.gatherList = s.store.gatherList := by rw [store] <;> rfl
  have aside : ∀ k ∈ w.outOfOrder ((w.slot i).frameTime.getD 0), ¬ (s.slot k).gathered := fun k hk =>
    queueSound_of sound k (by rw [← queue]; exact (List.mem_filter.1 hk).1)
  unfold joinOutput
  dsimp only
  generalize w.outOfOrder ((w.slot i).frameTime.getD 0) = late at aside ⊢
  have frees := freeSlots_frees late w
  generalize freeSlots late w = x at frees ⊢
  obtain ⟨trim, demand, joined⟩ := withDepths_trimmed (State.joined i) (count .framesDropped late.length x)
  have joins : Grips [i] s (withDepths (State.joined i) (count .framesDropped late.length x)) := by
    have slot (k : Nat) (other : k ∉ [i]) (gathered : (s.slot k).gathered) : x.slot k = s.slot k := by
      rw [frees.slot, if_neg fun freed => aside k freed gathered, slotOf, if_neg (by simpa using other)]
    rw [joined]
    refine ⟨frees.work.banks.trans banks, ?_, fun k other gathered => .same (slot k other gathered) ?_,
      frees.work.heldTape.trans (by rw [copy]), ?_, ?_⟩
    · show x.store.gatherList.filter (· != i) = _
      rw [frees.gatherList, gathers, List.filter_filter]
      refine List.filter_congr fun k hk => ?_
      have stays : k ∉ late := fun freed => aside k freed (gathersSound_of sound k hk)
      rw [bne_eq_notMem]
      simp [stays]
    · show s.samePunches x
      unfold State.samePunches
      rw [frees.work.mixer, mixer]
      exact ⟨rfl, rfl, rfl⟩
    · show x.decoder = { s.decoder with
        time := x.decoder.time, leadIn := x.decoder.leadIn, status := x.decoder.status, holdover := x.decoder.holdover
        readMode := x.decoder.readMode, lateReads := x.decoder.lateReads }
      rw [frees.work.decoder, decoder]
    · show x.cues.entries = _
      rw [frees.work.cues, cues]
  have taken : ¬ ((withDepths (State.joined i) (count .framesDropped late.length x)).slot i).gathered := by
    rw [joined]
    show ¬ (x.slot i).gathered
    rw [frees.slot]
    split
    · exact not_gathered (x := .free) rfl
    · rw [slotOf, if_pos rfl]
      exact not_gathered (x := .concealed) rfl
  have judged (y : State) (joins : Grips [i] s y) (taken : ¬ (y.slot i).gathered) (c : Prop) [Decidable c] :
      Grips [i] s (mixerJudge (if c then freeSlots [i] y else y)) := by
    have soundOf := joins.sound (gathersSound_of sound)
    split
    · have freed := joins.then (grips_freeSlots_aside soundOf fun k hk => by
        obtain rfl := List.mem_singleton.1 hk
        exact taken)
      exact freed.then (grips_mixerJudge (freed.sound (gathersSound_of sound)))
    · exact joins.then (grips_mixerJudge soundOf)
  exact judged _ joins taken _

theorem Grips.correctedSlots (h : Grips gone s t) (sound : s.gathersSound) :
    t.correctedSlots = s.correctedSlots.filter (· ∉ gone) := by
  unfold State.correctedSlots
  rw [h.list, List.filter_filter, List.filter_filter]
  refine List.filter_congr fun i hi => ?_
  by_cases stays : i ∈ gone
  · simp [stays]
  · rw [h.slot stays (sound i hi)]
    simp [stays]

theorem correctedSlots_nodup (sound : s.storeSound) : s.correctedSlots.Nodup := by
  obtain ⟨⟨-, -, -, nodup, -⟩, -⟩ := sound
  exact nodup.filter _

/-- The takes of a pulse go from the oldest CORRECTED slot on: those taken have their successor, and the newest is not taken. -/
theorem grips_takeReady (last n : Nat) (sound : s.storeSound) : ∃ gone, Grips gone s (takeReady last n s) ∧
    (takeReady last n s).mixer = s.mixer ∧ (∀ i ∈ gone, (s.slot i).state = .corrected ∧ (s.slot i).hasSuccessor = true) ∧
    (∀ a i, s.correctedSlots = a ++ [i] → i ∉ gone) ∧
    (n ≠ 0 → ∀ i k rest, s.correctedSlots = i :: k :: rest → (s.slot i).hasSuccessor = true → i ∈ gone) := by
  induction n generalizing s with
  | zero => exact ⟨[], .refl s, rfl, by simp, by simp, fun h => absurd rfl h⟩
  | succ n ih =>
    unfold takeReady
    split
    · next i k rest slots =>
      split
      · next successor =>
        have head : s.correctedSlots.head? = some i := by rw [slots] <;> rfl
        have taken := grips_takeFrame (last := last) (ahead := .successor (s.slot k).stream) sound head
        have soundOf := (sane_takeFrame (last := last) (ahead := .successor (s.slot k).stream) head).storeSound sound
        have mixer := (stage_takeFrame last i (.successor (s.slot k).stream) s).mixer
        have left := taken.correctedSlots (gathersSound_of sound)
        generalize takeFrame last i (.successor (s.slot k).stream) s = t at taken soundOf mixer left ⊢
        obtain ⟨gone, grips, mixerOf, ready, newest, -⟩ := ih soundOf
        have nodup := correctedSlots_nodup sound
        rw [slots, List.nodup_cons] at nodup
        refine ⟨[i] ++ gone, taken.trans grips, mixerOf.trans mixer, fun j hj => ?_, fun a l slotsOf => ?_, fun _ i' k' rest' slotsOf _ => ?_⟩
        · rcases List.mem_append.1 hj with h | h
          · obtain rfl := List.mem_singleton.1 h
            have listed := List.mem_filter.1 (List.mem_of_mem_head? head)
            exact ⟨beq_iff_eq.1 listed.2, successor⟩
          · obtain ⟨corrected, has⟩ := ready j h
            have listed : j ∈ t.store.gatherList := by
              obtain ⟨⟨length, -, -, -, -, -, agrees, -⟩, -⟩ := soundOf
              obtain ⟨-, -, -, -, -, gather, -⟩ := agrees j (lt_of_state length (by rw [corrected]; decide))
              exact gather.2 (.inr corrected)
            rw [taken.list, List.mem_filter, decide_eq_true_eq] at listed
            have same := taken.slot listed.2 (gathersSound_of sound j listed.1)
            rw [same] at corrected has
            exact ⟨corrected, has⟩
        · have split : (i :: k :: rest).filter (· ∉ [i]) = k :: rest := by
            rw [List.filter_cons, if_neg (by simp)]
            exact List.filter_eq_self.2 fun j hj => by
              have other : j ≠ i := by
                rintro rfl
                exact nodup.1 hj
              simpa using other
          rw [slots, split] at left
          rw [slots] at slotsOf
          cases a with
          | nil => cases slotsOf
          | cons j a =>
            obtain ⟨rfl, tail⟩ := List.cons.inj slotsOf
            rw [List.mem_append, not_or]
            refine ⟨?_, newest a l (left.trans tail)⟩
            rw [List.mem_singleton]
            rintro rfl
            exact nodup.1 (by rw [show k :: rest = _ from tail]; simp)
        · obtain ⟨rfl, -⟩ := List.cons.inj (slots.symm.trans slotsOf)
          simp
      · next without =>
        exact ⟨[], .refl s, rfl, by simp, by simp, fun _ i' k' rest' slotsOf has => by
          obtain ⟨rfl, -⟩ := List.cons.inj (slots.symm.trans slotsOf)
          exact absurd has without⟩
    · next few => exact ⟨[], .refl s, rfl, by simp, by simp, fun _ i k rest slotsOf => absurd slotsOf (few i k rest)⟩

end
end Sys2Proof.Machine
end

section
/-! What a frame pulse does to the frame it closes, and to the two that follow: the bank switch before it, the close of the current
frame, and the aim at the next two (R31, R32, R65, R67 to R71, R98, R100, R177). -/

namespace Sys2Proof.Machine

-- One theorem after another: each one elaborated at the same time would hold a stack of its own.
set_option Elab.async false

section
variable {s t u : State} {kinds : List LogKind} {counters : List Counter} {n : Nat}

/-! ### What makes no FORMAT-MISMATCH entry and counts no block rebuilt -/

/-- No FORMAT-MISMATCH entry is made and no block counted as rebuilt. -/
structure Unclosed (s t : State) : Prop where
  entries : ∀ e ∈ t.reports.log, e.kind = .formatMismatch → e ∈ s.reports.log
  rebuilt : ∀ port, (t.reports.port port).counters.blocksRebuilt = (s.reports.port port).counters.blocksRebuilt
  verify : s.coder.verify.length ≤ 3 → t.coder.verify.length ≤ 3

theorem Unclosed.trans (h : Unclosed s t) (k : Unclosed t u) : Unclosed s u where
  entries := fun e mem kind => h.entries e (k.entries e mem kind) kind
  rebuilt := fun port => (k.rebuilt port).trans (h.rebuilt port)
  verify := fun few => k.verify (h.verify few)

theorem Unclosed.refl (s : State) : Unclosed s s := ⟨fun _ mem _ => mem, fun _ => rfl, id⟩

theorem Stroke.unclosed (h : Stroke kinds counters n s t) (other : LogKind.formatMismatch ∉ kinds := by decide)
    (others : Counter.blocksRebuilt ∉ counters := by decide) : Unclosed s t where
  entries := fun e mem kind => h.kinds e mem (by rw [kind]; exact other)
  rebuilt := h.counters .blocksRebuilt others
  verify := h.verify

theorem stroke_recordRefusal (origin : Origin) (s : State) : Stroke [.copyRefused] [.copyRefusals] 1 s (recordRefusal origin s) := by
  rw [recordRefusal_eq]
  exact (((amends_count .copyRefusals 1 s).stroke.trans (stroke_setCondition .copy _)).trans
    ((stroke_raiseFlag .copyRefused _).trans (stroke_logEntry ..))).mono le_rfl (by simp) (by simp)

theorem stroke_refusalEvent (s : State) : Stroke [.punchCancelled, .copyRefused] [.copyRefusals] 2 s (refusalEvent s) := by
  unfold refusalEvent
  split
  · split
    · exact (Stroke.refl s).lift
    · have latched : Stroke [] [] 0 s { s with copy := { s.copy with latched := true } } := .of
      exact (latched.trans (stroke_recordRefusal ..)).mono (by decide) (by simp) (by simp)
  · split
    · exact ((stroke_cancelPunch .copy s).trans (stroke_recordRefusal ..)).mono (by decide) (by simp) (by simp)
    · exact (Stroke.refl s).lift

theorem unclosed_deriveField (s : State) : Unclosed s (deriveField s) := by
  obtain ⟨fields, -, derived⟩ := deriveField_eq s
  have written : Stroke [] [] 0 s { s with copy := { s.copy with current := s.sourceField, inputFields := fields } } := .of
  dsimp only at derived
  rw [derived]
  split
  · exact written.unclosed.trans (stroke_refusalEvent _).unclosed
  · exact written.unclosed

theorem unclosed_judgeLost (s : State) : Unclosed s (judgeLost s) := by
  rw [judgeLost_eq]
  refine Unclosed.trans ?_ (unclosed_deriveField _)
  have cleared (u : State) : Unclosed u (clearCondition .sourceLost u) := ⟨fun _ mem _ => mem, fun _ => rfl, id⟩
  have judged : Stroke [] [] 0 s { s with input := { s.input with lost := s.lostCause } } := .of
  unfold State.lossJudged
  dsimp only
  split
  · exact judged.unclosed.trans ((stroke_setCondition .sourceLost _).unclosed.trans (stroke_logEntry ..).unclosed)
  · exact judged.unclosed.trans ((cleared _).trans (stroke_logEntry ..).unclosed)
  · exact judged.unclosed

theorem unclosed_pulseBanks (s : State) : Unclosed s (pulseBanks s) := by
  unfold pulseBanks
  split
  · exact .refl s
  · next port _ =>
    dsimp only
    generalize logged : logEntry _ _ _ _ { s with banks := { s.banks with active := s.banks.active.other, pendingSwitch := none } } = u
    have switched : Unclosed s { s with banks := { s.banks with active := s.banks.active.other, pendingSwitch := none } } :=
      ⟨fun _ mem _ => mem, fun _ => rfl, id⟩
    have first : Unclosed s u := logged ▸ switched.trans (stroke_logEntry ..).unclosed
    split
    · exact first.trans (unclosed_deriveField _)
    · exact (first.trans (unclosed_judgeLost _)).trans (unclosed_deriveField _)

/-! ### The bank switch in a take (R104, R177) -/

/-- A refusal latches an open gate, and leaves the punches. -/
theorem refusalEvent_mixer (gate : s.mixer.gateOpen = true) : (refusalEvent s).mixer = s.mixer := by
  unfold refusalEvent
  rw [if_pos gate]
  split <;> rfl

theorem deriveField_mixer (gate : s.mixer.gateOpen = true) : (deriveField s).mixer = s.mixer := by
  obtain ⟨fields, -, derived⟩ := deriveField_eq s
  dsimp only at derived
  rw [derived]
  split
  · exact refusalEvent_mixer gate
  · rfl

theorem judgeLost_mixer (gate : s.mixer.gateOpen = true) : (judgeLost s).mixer = s.mixer := by
  obtain ⟨c, r, judged⟩ := lossJudged_leaves s
  have still : s.lossJudged.mixer = s.mixer := by rw [judged]
  rw [judgeLost_eq, deriveField_mixer (by rw [still]; exact gate), still]

theorem pulseBanks_mixer (gate : s.mixer.gateOpen = true) : (pulseBanks s).mixer = s.mixer := by
  unfold pulseBanks
  split
  · rfl
  · next port _ =>
    dsimp only
    generalize logged : logEntry _ _ _ _ { s with banks := { s.banks with active := s.banks.active.other, pendingSwitch := none } } = u
    have still : u.mixer = s.mixer := logged ▸ rfl
    have gateOf : u.mixer.gateOpen = true := by rw [still]; exact gate
    split
    · rw [deriveField_mixer gateOf, still]
    · rw [deriveField_mixer (by rw [judgeLost_mixer gateOf]; exact gateOf), judgeLost_mixer gateOf, still]

/-! ### The holdover count (R74) -/

theorem stroke_judgeHoldover (s : State) : Stroke [.timeLost, .punchCancelled] [] 3 s (judgeHoldover s) := by
  have lost : Stroke [.timeLost, .punchCancelled] [] 3 s (enterLost s) :=
    ((stroke_lossSeen s).trans (stroke_withdrawPunches s.lossSeen)).mono le_rfl (by simp) (by simp)
  unfold judgeHoldover
  split
  · split
    · exact lost
    · exact lost
    · exact Stroke.lift .of
    · exact Stroke.lift .of
  · exact (Stroke.refl s).lift

theorem judgeHoldover_state (s : State) : (judgeHoldover s).transport.state = s.transport.state := by
  unfold judgeHoldover
  split
  · split
    · exact withdrawPunches_state s.lossSeen
    · exact withdrawPunches_state s.lossSeen
    · rfl
    · rfl
  · rfl

/-! ### The aim at the next two frames (R65) -/

theorem frees_freeOption (o : Option Nat) (s : State) : Frees o.toList s (freeOption o s) := by
  cases o with
  | none => exact .nil s
  | some i => exact freeSlots_frees [i] s

theorem aim_decoder (s : State) : (aim s).decoder = { s.decoder with
    current := some s.aimedFrame
    next := if s.decoder.expected = 359999 then none
      else some ⟨(s.aimedFrame.tag + 1) % 256, s.decoder.expected + 1, none, false, []⟩ } := by
  have timed (o : Option Nat) (e : Nat) (u : State) : (timeSlot o e u).decoder = u.decoder := by
    unfold timeSlot
    split <;> rfl
  show { (timeSlot s.aimedFrame.slot s.decoder.expected (freeOption s.staleSlot s)).decoder with
    current := some s.aimedFrame
    next := if s.decoder.expected = Config.lastTime then none
      else some (GatherFrame.fresh (s.aimedFrame.tag + 1) (s.decoder.expected + 1)) } = _
  rw [timed, (frees_freeOption ..).work.decoder] <;> rfl

/-- The next frame's slot is freed where its tag is not the one expected with the status LOCKED, and else its time is set. -/
structure Aims (s t : State) : Prop where
  list : t.store.gatherList = s.store.gatherList.filter (· ∉ s.staleSlot.toList)
  aside : ∀ k, k ∉ s.staleSlot.toList → s.aimedFrame.slot ≠ some k → t.slot k = s.slot k
  timed : ∀ k, s.aimedFrame.slot = some k → k < s.store.slots.length → t.slot k = { s.slot k with frameTime := some s.decoder.expected }
  heldTape : t.copy.heldTape = s.copy.heldTape
  entries : t.cues.entries = s.cues.entries

theorem aim_aims (s : State) : Aims s (aim s) := by
  have frees := frees_freeOption s.staleSlot s
  obtain ⟨next, -, aimed⟩ := aim_eq s
  rw [aimed]
  have stays {k : Nat} (aimed : s.aimedFrame.slot = some k) : k ∉ s.staleSlot.toList := by
    rcases aimed_slots s with ⟨stale, -⟩ | ⟨-, none⟩
    · rw [stale]
      simp
    · rw [none] at aimed
      cases aimed
  generalize freeOption s.staleSlot s = u at frees ⊢
  refine ⟨?_, fun k free other => ?_, fun k at_k inside => ?_, ?_, ?_⟩
  · rw [← frees.gatherList]
    unfold timeSlot
    split <;> rfl
  · have same : u.slot k = s.slot k := by rw [frees.slot, if_neg free]
    show (timeSlot s.aimedFrame.slot s.decoder.expected u).slot k = _
    unfold timeSlot
    split
    · next i at_i =>
      show (setSlot i _ u).slot k = _
      rw [slot_setSlot, if_neg, same]
      rintro ⟨rfl, -⟩
      exact other at_i
    · exact same
  · have same : u.slot k = s.slot k := by rw [frees.slot, if_neg (stays at_k)]
    show (timeSlot s.aimedFrame.slot s.decoder.expected u).slot k = _
    rw [at_k]
    show (setSlot k _ u).slot k = _
    rw [slot_setSlot, if_pos ⟨rfl, by rw [frees.work.slots]; exact inside⟩, same]
  · show (timeSlot s.aimedFrame.slot s.decoder.expected u).copy.heldTape = _
    rw [← frees.work.heldTape]
    unfold timeSlot
    split <;> rfl
  · show (timeSlot s.aimedFrame.slot s.decoder.expected u).cues.entries = _
    rw [← frees.work.cues]
    unfold timeSlot
    split <;> rfl

/-- Which frame becomes the current one. -/
theorem aimedFrame_cases (s : State) :
    (s.decoder.next = none → s.aimedFrame = ⟨s.decoder.expected % 256, s.decoder.expected, none, false, []⟩) ∧
    ∀ g, s.decoder.next = some g →
      (g.tag = s.decoder.expected % 256 → s.aimedFrame = { g with time := s.decoder.expected }) ∧
      (g.tag ≠ s.decoder.expected % 256 → g.slot = none →
        s.aimedFrame = ⟨s.decoder.expected % 256, s.decoder.expected, none, false, []⟩) ∧
      ∀ k, g.tag ≠ s.decoder.expected % 256 → g.slot = some k →
        (s.decoder.status = .locked →
          s.aimedFrame = ⟨s.decoder.expected % 256, s.decoder.expected, none, false, []⟩ ∧ s.staleSlot = some k) ∧
        (s.decoder.status ≠ .locked → s.aimedFrame = { g with time := s.decoder.expected }) := by
  unfold State.aimedFrame State.staleSlot
  refine ⟨fun none => by rw [none] <;> rfl, fun g next => ?_⟩
  rw [next]
  dsimp only
  refine ⟨fun tag => if_pos tag, fun tag slot => ?_, fun k tag slot => ⟨fun locked => ?_, fun unlocked => ?_⟩⟩
  · rw [if_neg tag, slot, if_neg (by simp)] <;> rfl
  · rw [if_neg tag, if_neg fun h => h.2 locked, if_pos ⟨tag, locked⟩]
    exact ⟨rfl, slot⟩
  · rw [if_neg tag, if_pos ⟨by rw [slot] <;> rfl, unlocked⟩]

end
end Sys2Proof.Machine
end

section
/-! The close of the current frame at a pulse: what becomes of its slot, and what is handed on of its subcode (R31, R32, R67 to R71,
R100). -/

namespace Sys2Proof.Machine

-- One theorem after another: each one elaborated at the same time would hold a stack of its own.
set_option Elab.async false

section
variable {s t u : State} {g : GatherFrame} {i : Nat} {v : Slot}

/-! ### The slot at its close (R31, R68 to R70) -/

/-- The time of a frame at its close (R31). -/
def GatherFrame.closeTime (g : GatherFrame) : Nat :=
  match selectSubcode g.tag g.held with
  | some r => r.time
  | none => g.time

/-- A closed slot of a format: what its record holds beside the sample pairs and the role. -/
def State.closedAs (s : State) (g : GatherFrame) (v : Slot) (fmt : Format) (stream : List (Pair × Bool)) (tally : Tally) : Slot :=
  { v with
    state := .corrected, frameTime := some g.closeTime, format := some fmt
    copyField := (selectSubcode g.tag g.held).map (·.copyField), subcodeValid := (selectSubcode g.tag g.held).isSome
    start := (selectSubcode g.tag g.held).any (·.start)
    pairCount := fmt.rate.pairs, pairs := stream.map (·.1), good := stream.map (·.2), tally := tally
    closeLmax := s.activeBank.lmax, closeRamp := s.activeBank.ramp }

/-- A frame without a valid subcode is unpacked in the active format. -/
theorem closedSlot_invalid (h : selectSubcode g.tag g.held = none) : s.closedSlot g v =
    { s.closedAs g v s.activeFormat (framePairs s.activeFormat g.tag g.held) (frameTally g.tag g.held) with
      role := if v.frameTime = some g.closeTime then v.role else some (s.roleFor g.closeTime) } := by
  have time : g.closeTime = g.time := by
    unfold GatherFrame.closeTime
    rw [h]
  unfold State.closedSlot State.closedAs
  rw [h, time]
  dsimp only
  split
  · next same => rw [← same] <;> rfl
  · rfl

/-- A frame of the active rate is unpacked in its own word length. -/
theorem closedSlot_valid {r : Subcode} (h : selectSubcode g.tag g.held = some r) (rate : r.rate = s.activeBank.rate) :
    s.closedSlot g v =
    { s.closedAs g v ⟨r.rate, r.wordLength⟩ (framePairs ⟨r.rate, r.wordLength⟩ g.tag g.held) (frameTally g.tag g.held) with
      role := if v.frameTime = some g.closeTime then v.role else some (s.roleFor g.closeTime) } := by
  have time : g.closeTime = r.time := by
    unfold GatherFrame.closeTime
    rw [h]
  unfold State.closedSlot State.closedAs
  rw [h, time]
  dsimp only
  rw [if_pos rate]
  split
  · next same => rw [← same] <;> rfl
  · rfl

/-- A frame of another rate is not unpacked. -/
theorem closedSlot_foreign {r : Subcode} (h : selectSubcode g.tag g.held = some r) (rate : r.rate ≠ s.activeBank.rate) :
    s.closedSlot g v =
    { s.closedAs g v ⟨r.rate, r.wordLength⟩ (List.replicate r.rate.pairs (⟨0, 0⟩, false)) ⟨g.held.length, 0, 152 - g.held.length⟩ with
      good := [], role := if v.frameTime = some g.closeTime then v.role else some (s.roleFor g.closeTime) } := by
  have time : g.closeTime = r.time := by
    unfold GatherFrame.closeTime
    rw [h]
  unfold State.closedSlot State.closedAs
  rw [h, time]
  dsimp only
  rw [if_neg rate, List.map_replicate]
  split
  · next same => rw [← same] <;> rfl
  · rfl

/-- What every close makes of the slot. -/
theorem closedSlot_facts (s : State) (g : GatherFrame) (v : Slot) : (s.closedSlot g v).state = .corrected ∧
    (s.closedSlot g v).frameTime = some g.closeTime ∧ (s.closedSlot g v).mixed = v.mixed ∧
    (s.closedSlot g v).hasSuccessor = v.hasSuccessor ∧
    (s.closedSlot g v).role = if v.frameTime = some g.closeTime then v.role else some (s.roleFor g.closeTime) := by
  cases h : selectSubcode g.tag g.held with
  | none =>
    rw [closedSlot_invalid h]
    exact ⟨rfl, rfl, rfl, rfl, rfl⟩
  | some r =>
    by_cases rate : r.rate = s.activeBank.rate
    · rw [closedSlot_valid h rate]
      exact ⟨rfl, rfl, rfl, rfl, rfl⟩
    · rw [closedSlot_foreign h rate]
      exact ⟨rfl, rfl, rfl, rfl, rfl⟩

theorem closedSlot_same (banks : t.banks = s.banks) (mixer : t.mixer = s.mixer) : t.closedSlot g v = s.closedSlot g v := by
  have bank := activeBank_of banks
  have roles : t.roleFor = s.roleFor := funext fun f =>
    State.samePunches.roleFor ⟨congrArg Mixer.punchIn mixer, congrArg Mixer.punchOut mixer, congrArg Mixer.gateOpen mixer⟩ banks f
  have format : t.activeFormat = s.activeFormat := by
    unfold State.activeFormat
    rw [bank]
  unfold State.closedSlot
  rw [bank, roles, format]

/-! ### The slot closed before it (R32) -/

/-- The slot closed at the pulse before has its successor now. -/
structure Marked (s t : State) : Prop where
  work : SlotWork s t
  list : t.store.gatherList = s.store.gatherList
  slot : ∀ k, s.store.slots.length = 16 → t.slot k = if s.decoder.closedLast = true ∧ s.correctedSlots.getLast? = some k then
    { s.slot k with hasSuccessor := true } else s.slot k

theorem markSuccessor_marked (s : State) : Marked s (markSuccessor s) := by
  refine ⟨slotWork_markSuccessor s, ?_, fun k length => ?_⟩
  · unfold markSuccessor
    split
    · split <;> rfl
    · rfl
  · unfold markSuccessor
    split
    · next closed =>
      split
      · next j last =>
        have corrected : (s.slot j).state = .corrected := by
          simpa using (List.mem_filter.1 (List.mem_of_getLast? last)).2
        have inside : j < 16 := lt_of_state length (by rw [corrected]; decide)
        show (setSlot j _ s).slot k = _
        rw [slot_setSlot_of length inside, last]
        by_cases same : k = j
        · rw [if_pos same, if_pos ⟨closed, by rw [same]⟩, same]
        · rw [if_neg same, if_neg fun h => same (Option.some.inj h.2).symm]
      · next last => rw [last, if_neg (by simp)]
    · next first => rw [if_neg fun h => first h.1]

/-! ### The mismatch rate (R68) -/

theorem judgeMismatch_leaves (r : Subcode) (s : State) : ∃ m reports, judgeMismatch r s =
    { s with decoder := { s.decoder with mismatch := m }, reports := reports } ∧
    m = (if r.rate = s.activeBank.rate then none else some r.rate) ∧
    (r.rate = s.activeBank.rate ∨ s.decoder.mismatch = some r.rate → reports = s.reports) ∧
    (r.rate ≠ s.activeBank.rate → s.decoder.mismatch ≠ some r.rate →
      Recent 0 ⟨s.reports.nextSequence, .formatMismatch, some r.time, .internal, r.rate.code⟩ reports.log) := by
  unfold judgeMismatch
  by_cases rate : r.rate = s.activeBank.rate
  · rw [if_pos rate, if_pos rate]
    exact ⟨_, _, rfl, rfl, fun _ => rfl, fun other => absurd rate other⟩
  · rw [if_neg rate, if_neg rate]
    by_cases known : s.decoder.mismatch = some r.rate
    · rw [if_pos known]
      exact ⟨some r.rate, s.reports, by rw [← known], rfl, fun _ => rfl, fun _ other => absurd known other⟩
    · rw [if_neg known]
      exact ⟨some r.rate, _, rfl, rfl, fun h => absurd h (not_or.2 ⟨rate, known⟩), fun _ _ => recent_logEntry ..⟩

/-! ### The hand-offs (R71, R100) -/

/-- A START marker of the frame is offered to the cue table. -/
def State.offers (s : State) (r : Subcode) : Prop := r.start = true ∧ s.decoder.startRun ≠ some r.program ∧
  (s.transport.state = .play ∨ s.transport.state = .record ∧ s.inSpan r.time = false)

theorem takeMarker_entries (time number : Nat) (h : t.cues.entries = s.cues.entries) :
    (takeMarker time number t).cues.entries = (takeMarker time number s).cues.entries := by
  unfold takeMarker
  rw [h]
  dsimp only
  split
  · rfl
  · split
    · exact h
    · split
      · exact h
      · rfl

theorem handOnSubcode_leaves (r : Subcode) (s : State) : ∃ cues reports, handOnSubcode r s = { s with
    copy := { s.copy with heldTape := some r.copyField }
    decoder := { s.decoder with startRun := if r.start then some r.program else none }, cues := cues, reports := reports } ∧
    (s.offers r → cues.entries = (takeMarker r.time r.program s).cues.entries) ∧
    (¬ s.offers r → cues = s.cues) := by
  have allowed : (s.transport.state == .play || (s.transport.state == .record && !s.inSpan r.time)) = true ↔
      s.transport.state = .play ∨ s.transport.state = .record ∧ s.inSpan r.time = false := by simp
  have same : handOnSubcode r s = offerMarker (s.transport.state == .play || (s.transport.state == .record && !s.inSpan r.time)) r
      { s with copy := { s.copy with heldTape := some r.copyField } } := rfl
  rw [same]
  generalize (s.transport.state == .play || (s.transport.state == .record && !s.inSpan r.time)) = a at allowed ⊢
  unfold offerMarker
  dsimp only
  by_cases offers : s.offers r
  · obtain ⟨start, other, free⟩ := id offers
    rw [if_pos ⟨start, other, allowed.2 free⟩]
    obtain ⟨cues, reports, taken, -⟩ := takeMarker_leaves r.time r.program { s with copy := { s.copy with heldTape := some r.copyField } }
    have entries : cues.entries = (takeMarker r.time r.program s).cues.entries := by
      rw [← takeMarker_entries (s := s) (t := { s with copy := { s.copy with heldTape := some r.copyField } }) r.time r.program rfl, taken]
    rw [taken]
    exact ⟨cues, reports, rfl, fun _ => entries, fun none => absurd offers none⟩
  · rw [if_neg fun h => offers ⟨h.1, h.2.1, allowed.1 h.2.2⟩]
    exact ⟨s.cues, s.reports, rfl, fun some => absurd some offers, fun _ => rfl⟩

/-! ### The close -/

/-- The blocks rebuilt of a frame are counted (R69). -/
def State.rebuilds (n : Nat) (s t : State) : Prop := ∀ port, (t.reports.port port).counters.blocksRebuilt =
  if n = 0 then (s.reports.port port).counters.blocksRebuilt else min 255 ((s.reports.port port).counters.blocksRebuilt + n)

/-- No FORMAT-MISMATCH entry is made. -/
def State.mute (s t : State) : Prop := ∀ e ∈ t.reports.log, e.kind = .formatMismatch → e ∈ s.reports.log

/-- The held tape field, the START run, the mismatch rate and the cue table stay as they are. -/
def State.unread (s t : State) : Prop := t.copy.heldTape = s.copy.heldTape ∧ t.decoder.startRun = s.decoder.startRun ∧
  t.decoder.mismatch = s.decoder.mismatch ∧ t.cues.entries = s.cues.entries

theorem offers_of {r : Subcode} (run : t.decoder.startRun = s.decoder.startRun) (transport : t.transport.state = s.transport.state)
    (mixer : t.mixer = s.mixer) (banks : t.banks = s.banks) : t.offers r ↔ s.offers r := by
  have pairs : t.framePairs = s.framePairs := congrArg (fun b : Bank => b.rate.pairs) (activeBank_of banks)
  unfold State.offers State.inSpan
  rw [run, transport, mixer, pairs]

/-- The hand-on of the subcode of a frame closed. -/
structure HandedOn (r : Subcode) (s t : State) : Prop where
  store : t.store = s.store
  heldTape : t.copy.heldTape = some r.copyField
  startRun : t.decoder.startRun = if r.start then some r.program else none
  mismatch : t.decoder.mismatch = if r.rate = s.activeBank.rate then none else some r.rate
  offered : s.offers r → t.cues.entries = (takeMarker r.time r.program s).cues.entries
  withheld : ¬ s.offers r → t.cues.entries = s.cues.entries
  mute : r.rate = s.activeBank.rate ∨ s.decoder.mismatch = some r.rate → s.mute t
  foreign : r.rate ≠ s.activeBank.rate → s.decoder.mismatch ≠ some r.rate →
    ∃ e, Recent 1 e t.reports.log ∧ e.kind = .formatMismatch ∧ e.time = some r.time ∧ e.origin = .internal ∧ e.argument = r.rate.code
  rebuilt : s.rebuilds 0 t

theorem handOn_handedOn (r : Subcode) (s : State) : HandedOn r s (handOnSubcode r (judgeMismatch r s)) := by
  have counters := ((stage_judgeMismatch r s).trans (stage_handOnSubcode r (judgeMismatch r s))).counters .blocksRebuilt (by decide)
  have handed := stage_handOnSubcode r (judgeMismatch r s)
  obtain ⟨m, reports, judged, mismatch, known, foreign⟩ := judgeMismatch_leaves r s
  have offers : (judgeMismatch r s).offers r ↔ s.offers r := by
    rw [judged]
    exact offers_of rfl rfl rfl rfl
  obtain ⟨cues, reports', on, offered, withheld⟩ := handOnSubcode_leaves r (judgeMismatch r s)
  refine ⟨?_, ?_, ?_, ?_, fun h => ?_, fun h => ?_, fun h e mem kind => ?_, fun rate other => ?_, fun port => ?_⟩
  · rw [on, judged]
  · rw [on]
  · rw [on]
  · rw [on, judged]
    exact mismatch
  · rw [on]
    exact (offered (offers.2 h)).trans (takeMarker_entries _ _ (by rw [judged]))
  · rw [on]
    show cues.entries = _
    rw [withheld fun k => h (offers.1 k), judged]
  · have before := handed.kinds e mem (by rw [kind]; decide)
    rw [judged] at before
    rwa [known h] at before
  · have made := foreign rate other
    exact ⟨⟨s.reports.nextSequence, .formatMismatch, some r.time, .internal, r.rate.code⟩,
      handed.recent 0 _ (by decide) (by rw [judged]; exact made), rfl, rfl, rfl, rfl⟩
  · exact counters port

/-- The close of the slot of the current frame. -/
structure FrameClosed (g : GatherFrame) (i : Nat) (s t : State) : Prop where
  list : t.store.gatherList = s.store.gatherList
  slot : t.slot i = s.closedSlot g (s.slot i)
  others : ∀ k ≠ i, t.slot k = if s.decoder.closedLast = true ∧ s.correctedSlots.getLast? = some k then
    { s.slot k with hasSuccessor := true } else s.slot k
  rebuilt : s.rebuilds (s.closedSlot g (s.slot i)).tally.rebuilt t
  invalid : selectSubcode g.tag g.held = none → s.unread t ∧ s.mute t
  valid : ∀ r, selectSubcode g.tag g.held = some r → ∃ u, HandedOn r u t ∧ u.activeBank = s.activeBank ∧
    u.decoder.mismatch = s.decoder.mismatch ∧ (u.offers r ↔ s.offers r) ∧ u.cues = s.cues ∧ u.reports.log = s.reports.log

theorem closeSlot_closes (length : s.store.slots.length = 16) (gathering : (s.slot i).state = .gathering) :
    FrameClosed g i s (closeSlot g i s) := by
  have inside : i < 16 := lt_of_state length (by rw [gathering]; decide)
  obtain ⟨work, list, slot⟩ := markSuccessor_marked s
  have here : (markSuccessor s).slot i = s.slot i := by
    rw [slot i length, if_neg]
    rintro ⟨-, last⟩
    have corrected : (s.slot i).state = .corrected := by
      simpa using (List.mem_filter.1 (List.mem_of_getLast? last)).2
    rw [gathering] at corrected
    cases corrected
  have slots : (markSuccessor s).store.slots.length = 16 := work.slots.trans length
  unfold closeSlot
  dsimp only
  rw [here, closedSlot_same work.banks work.mixer]
  generalize markSuccessor s = a at work list slot slots
  generalize hv : s.closedSlot g (s.slot i) = v
  have wrote (k : Nat) := slot_setSlot_of slots inside (k := k) v
  have closed : (∀ k, State.slot { setSlot i v a with decoder := { (setSlot i v a).decoder with closedLast := true } } k =
      if k = i then v else a.slot k) := wrote
  generalize hb : ({ setSlot i v a with decoder := { (setSlot i v a).decoder with closedLast := true } } : State) = b at closed
  have still : b.store.gatherList = s.store.gatherList ∧ b.banks = s.banks ∧ b.mixer = s.mixer ∧
      b.transport.state = s.transport.state ∧ b.copy.heldTape = s.copy.heldTape ∧ b.cues = s.cues ∧ b.reports = s.reports ∧
      b.decoder = { s.decoder with closedLast := true } := by
    subst hb
    exact ⟨list, work.banks, work.mixer, work.state, work.heldTape, work.cues, work.reports, by
      show { a.decoder with closedLast := true } = _
      rw [work.decoder]⟩
  obtain ⟨listOf, banks, mixer, state, heldTape, cues, reports, decoder⟩ := still
  have counted : ∃ r, (if v.tally.rebuilt = 0 then b else count .blocksRebuilt v.tally.rebuilt b) = { b with reports := r } ∧
      r.log = s.reports.log ∧ s.rebuilds v.tally.rebuilt { b with reports := r } := by
    unfold State.rebuilds
    split
    · exact ⟨b.reports, rfl, by rw [reports], fun port => by rw [reports]⟩
    · refine ⟨_, rfl, by rw [reports], fun port => ?_⟩
      rw [reports]
      cases port <;> rfl
  obtain ⟨r, same, log, rebuilt⟩ := counted
  rw [same]
  have slotOf (k : Nat) : State.slot { b with reports := r } k = if k = i then v else a.slot k := closed k
  have base : ∀ t : State, t.store = b.store → t.store.gatherList = s.store.gatherList ∧ t.slot i = v ∧
      ∀ k ≠ i, t.slot k = if s.decoder.closedLast = true ∧ s.correctedSlots.getLast? = some k then
        { s.slot k with hasSuccessor := true } else s.slot k := fun t store => by
    have at_k (k : Nat) : t.slot k = if k = i then v else a.slot k := by
      rw [← closed k]
      unfold State.slot
      rw [store]
    exact ⟨by rw [store, listOf], by rw [at_k, if_pos rfl], fun k other => by rw [at_k, if_neg other, slot k length]⟩
  cases read : selectSubcode g.tag g.held with
  | none =>
    obtain ⟨first, second, third⟩ := base { b with reports := r } rfl
    exact ⟨first, by rw [hv]; exact second, third, by rw [hv]; exact rebuilt, fun _ =>
      ⟨⟨heldTape, by show b.decoder.startRun = _; rw [decoder], by show b.decoder.mismatch = _; rw [decoder],
        by show b.cues.entries = _; rw [cues]⟩, fun e mem _ => by rw [← log]; exact mem⟩, fun r other => by rw [read] at other; cases other⟩
  | some x =>
    have handed := handOn_handedOn x { b with reports := r }
    obtain ⟨first, second, third⟩ := base _ handed.store
    refine ⟨first, by rw [hv]; exact second, third, fun port => ?_, fun other => (by rw [read] at other; cases other), fun y found => ?_⟩
    · rw [hv]
      exact (handed.rebuilt port).trans (rebuilt port)
    · obtain rfl := Option.some.inj (read.symm.trans found)
      exact ⟨{ b with reports := r }, handed, activeBank_of banks, by show b.decoder.mismatch = _; rw [decoder],
        offers_of (by show b.decoder.startRun = _; rw [decoder]) state mixer banks, cues, log⟩

end
end Sys2Proof.Machine
end

section
/-! A frame pulse with gathering on, from the bank switch to the end, as it bears on the frame closed and the two that follow.
Settles O37. -/

namespace Sys2Proof.Machine

-- One theorem after another: each one elaborated at the same time would hold a stack of its own.
set_option Elab.async false

section
variable {s t u : State} {g : GatherFrame} {i : Nat}

/-! ### The parts of the pulse -/

/-- The pulse has judged the closed frame and stands before the aim (R64 step 4). -/
def State.unaimed (s : State) : State := lostSeen (judgeHoldover s.judging)

theorem aimed_unaimed (s : State) : s.aimed = takeFrames s.decoder.time (aim s.unaimed) := rfl

theorem pulseGather_unaimed (gathering : s.decoder.gathering = true) : pulseGather s = aim s.unaimed := by
  unfold State.unaimed
  rw [← closeCurrent_stepped]
  exact if_pos gathering

theorem moves_pulseBanks (s : State) : Moves s (pulseBanks s) := by
  unfold pulseBanks
  split
  · exact .refl s
  · next port _ =>
    dsimp only
    generalize logged : logEntry _ _ _ _ { s with banks := { s.banks with active := s.banks.active.other, pendingSwitch := none } } = u
    have switched : Moves s u := logged ▸ Moves.trans .of (moves_logEntry ..)
    split
    · exact switched.trans (moves_deriveField _)
    · exact (switched.trans (moves_judgeLost _)).trans (moves_deriveField _)

/-- After the switch the pulse goes on as one with none pending. -/
theorem pulseWork_switched (pending : (pulseBanks s).banks.pendingSwitch = none) : pulseWork s = pulseWork (pulseBanks s) := by
  rw [pulseWork_eq, pulseWork_eq (pulseBanks s), pulseBanks_none pending, (moves_pulseBanks s).time.1]

theorem gathersSound_of_with {l : List Nat} (sound : SoundWith l s) : s.gathersSound := fun i hi => by
  obtain ⟨c, split, corrected, gathering⟩ := sound.gathered
  rw [split, List.mem_append] at hi
  rcases hi with h | h
  · exact .inr (corrected i h)
  · exact .inl (gathering i h)

theorem punched_of (gate : s.gateAgrees) : s.punched := by
  obtain ⟨-, -, punched, -⟩ := gate
  exact punched

/-! ### From the close to the aim -/

theorem agreed_closed (s : State) : Agreed s s.closing := by
  have stepped : Agreed s { s with decoder := s.decoder.stepTime } :=
    { reading := fun h => by unfold State.readingAgrees Decoder.stepTime at *; split <;> exact h }
  unfold State.closing
  split
  · exact stepped
  · exact stepped.trans (agreed_closeFrame ..)

theorem agreed_judging (s : State) : Agreed s s.judging := by
  unfold State.judging
  split
  · exact agreed_closed s
  · exact (agreed_closed s).trans (calms_judgeFrame ..).agreed

theorem sane_stepTime (s : State) : Sane s { s with decoder := s.decoder.stepTime } := by
  unfold Decoder.stepTime
  split
  · exact {}
  · exact {}

/-- The close leaves the next frame's slot as the one GATHERING slot. -/
theorem soundWith_closing (sound : s.storeSound) : SoundWith s.decoder.nextSlot.toList s.closing := by
  obtain ⟨held, -⟩ := storeSound_iff.1 ((sane_stepTime s).storeSound sound)
  have current := (sane_stepTime s).current
  have next := (sane_stepTime s).next
  have same : ({ s with decoder := s.decoder.stepTime } : State).decoder.nextSlot = s.decoder.nextSlot := by
    unfold Decoder.nextSlot
    rw [next]
  unfold State.closing
  split
  · next none =>
    have slots : ({ s with decoder := s.decoder.stepTime } : State).gatheringSlots = s.decoder.nextSlot.toList := by
      unfold State.gatheringSlots
      rw [current, none, same] <;> rfl
    rw [slots] at held
    exact held
  · next g some =>
    rw [← same]
    exact soundWith_closeFrame (current.trans some) held

/-- So does the judgement of the frame closed, up to the aim. -/
theorem soundWith_unaimed (sound : s.storeSound) :
    SoundWith s.decoder.nextSlot.toList s.unaimed ∧ s.unaimed.decoder.next = s.decoder.next := by
  obtain ⟨held, -⟩ := storeSound_iff.1 ((sane_stepTime s).storeSound sound)
  obtain ⟨closed, nextOf, -⟩ := closeCurrent_spec held
  rw [closeCurrent_stepped] at closed nextOf
  have lost (u : State) : Sane u (lostSeen u) := by
    unfold lostSeen
    split
    · exact {}
    · exact .refl u
  have rest := (calms_judgeHoldover s.judging).sane.trans (lost _)
  have next := (sane_stepTime s).next
  have same : ({ s with decoder := s.decoder.stepTime } : State).decoder.nextSlot = s.decoder.nextSlot := by
    unfold Decoder.nextSlot
    rw [next]
  rw [same] at closed
  exact ⟨rest.sound _ closed, (rest.next.trans nextOf).trans next⟩

/-- From the close to the aim the closed slot stands, but for its role. -/
theorem grips_unaimed (gate : s.gateAgrees) (sound : s.storeSound) : Grips [] s.closing s.unaimed := by
  have closed := gathersSound_of_with (soundWith_closing sound)
  have judged : Grips [] s.closing s.judging := by
    unfold State.judging
    split
    · exact .refl _
    · exact grips_judgeFrame _ closed (punched_of ((agreed_closed s).gate gate))
  have held := judged.then (grips_judgeHoldover (judged.sound closed) (punched_of ((agreed_judging s).gate gate)))
  exact held.then (grips_lostSeen _)

theorem stroke_unaimed (s : State) : Stroke [.timeLost, .timeJump, .punchCancelled] [.timeJumps] 6 s.closing s.unaimed :=
  (((stroke_judging s).trans (stroke_judgeHoldover _)).then (stage_lostSeen _).stroke).mono le_rfl (by simp) (by simp)

theorem unaimed_state (s : State) : s.unaimed.transport.state = s.transport.state := by
  show (lostSeen (judgeHoldover s.judging)).transport.state = _
  rw [(stage_lostSeen _).state, judgeHoldover_state, judging_state]

/-! ### From the aim on -/

/-- What the pulse does after the aim: the takes leave the newest CORRECTED slot, and take the oldest, when it has its successor and
another behind it. -/
structure AfterAim (gone : List Nat) (s t : State) : Prop where
  grips : Grips gone s t
  time : s.sameTime t
  ready : ∀ i ∈ gone, (s.slot i).state = .corrected ∧ (s.slot i).hasSuccessor = true
  newest : ∀ a i, s.correctedSlots = a ++ [i] → i ∉ gone
  oldest : ∀ i k rest, s.correctedSlots = i :: k :: rest → (s.slot i).hasSuccessor = true → i ∈ gone

theorem pulseWork_afterAim (rolling : s.transport.state.rolling = true) (pending : s.banks.pendingSwitch = none) (gate : s.gateAgrees)
    (reading : s.readingAgrees) (sound : s.storeSound) : ∃ gone, AfterAim gone (aim s.unaimed) (pulseWork s) := by
  have gathering : s.decoder.gathering = true := by rw [reading.1]; exact rolling
  have aimSound := storeSound_pulseGather reading sound
  have aimAgreed := agreed_pulseGather s
  rw [pulseGather_unaimed gathering] at aimSound aimAgreed
  have state : (aim s.unaimed).transport.state = s.transport.state := ((stage_aim _).state).trans (unaimed_state s)
  have work : pulseWork s = afterGate s.decoder.time (pulseGate (pulseCommit (takeFrames s.decoder.time (aim s.unaimed)))) :=
    pulseWork_gathering gathering pending
  rw [work]
  have readingA := aimAgreed.reading reading
  have gateA := aimAgreed.gate gate
  generalize aim s.unaimed = a at aimSound readingA gateA state ⊢
  obtain ⟨gone, taken, -, ready, newest, oldest⟩ := grips_takeReady s.decoder.time Config.slotCount aimSound
  have acts := acts_takeReady s.decoder.time Config.slotCount a
  have stage := stage_takeReady s.decoder.time Config.slotCount a
  have whole : takeFrames s.decoder.time a = takeReady s.decoder.time Config.slotCount a := rfl
  rw [whole]
  have soundT := acts.storeSound readingA aimSound
  have readingT := acts.agreed.reading readingA
  have gateT := acts.agreed.gate gateA
  have rollingT : (takeReady s.decoder.time Config.slotCount a).transport.state.rolling = true := by
    rw [stage.state, state]
    exact rolling
  have time := stage.time
  generalize takeReady s.decoder.time Config.slotCount a = b at taken soundT readingT gateT rollingT time ⊢
  have committed := grips_pulseCommit b
  have actsG : Acts b (pulseGate (pulseCommit b)) := (acts_pulseCommit b).trans (acts_pulseGate (pulseCommit b))
  have stateC : (pulseCommit b).transport.state = b.transport.state := by
    unfold pulseCommit
    split
    · split <;> rfl
    · rfl
  have gated := (taken.then committed).then (grips_pulseGate (by rw [stateC]; exact rollingT)
    (punched_of ((acts_pulseCommit b).agreed.gate gateT)) (committed.sound (gathersSound_of soundT)))
  have timeG := (moves_pulseGate b).time
  have soundG := actsG.storeSound readingT soundT
  have readingG := actsG.agreed.reading readingT
  generalize pulseGate (pulseCommit b) = c at gated timeG soundG readingG ⊢
  obtain ⟨n, after, -⟩ := stage_afterGate s.decoder.time c
  exact ⟨gone, gated.then (grips_afterGate _ readingG soundG), (time.trans timeG).trans after.time, ready, newest,
    oldest (by decide)⟩

/-- After the close the pulse makes no FORMAT-MISMATCH entry, counts no block rebuilt, and leaves an entry made before it. -/
theorem stroke_pulseWork (rolling : s.transport.state.rolling = true) (pending : s.banks.pendingSwitch = none)
    (gathering : s.decoder.gathering = true) : ∃ n, (s.coder.verify.length ≤ 3 → n ≤ 12) ∧
    Stroke [.timeLost, .timeJump, .punchCancelled, .punchIn, .punchOut, .writeLate, .verify]
      [.timeJumps, .framesDropped, .framesMuted, .verifyFails] n s.closing (pulseWork s) := by
  rw [pulseWork_gathering gathering pending]
  have aimed := (stroke_unaimed s).trans ((stage_aim s.unaimed).trans (stage_takeReady s.decoder.time Config.slotCount _)).stroke
  have rolls : (pulseCommit s.aimed).transport.state.rolling = true := by
    have kept : (pulseCommit s.aimed).transport.state = s.aimed.transport.state := by
      unfold pulseCommit
      split
      · split <;> rfl
      · rfl
    rw [kept, aimed_unaimed]
    show (takeReady s.decoder.time Config.slotCount (aim s.unaimed)).transport.state.rolling = true
    rw [(stage_takeReady ..).state, (stage_aim _).state, unaimed_state]
    exact rolling
  have gated : Stroke _ _ _ s.closing s.gated := (aimed.trans (stroke_pulseCommit s.aimed)).trans (stroke_pulseGate rolls)
  obtain ⟨n, after, five⟩ := stage_afterGate s.decoder.time s.gated
  refine ⟨7 + n, fun few => ?_, (gated.trans after.stroke).mono (by omega) (by simp) (by simp)⟩
  have begun : Stroke [] [] 0 s { s with decoder := s.decoder.stepTime } := .of
  have := five (gated.verify ((stage_closing s).verify (begun.verify few)))
  omega

/-! ### The pulse as a whole -/

/-- A pulse from `s` to `t` in the parts that matter to the frames gathered: the bank switch, the close, the aim, and what follows. -/
structure ClosingPulse (gone : List Nat) (s t : State) : Prop where
  sound : s.storeSound
  switched : ∃ banks, Grips [] { s with banks := banks } (pulseBanks s)
  before : Unclosed s (pulseBanks s)
  taken : s.transport.state = .record → (pulseBanks s).mixer = s.mixer
  switchedSound : (pulseBanks s).storeSound
  settled : Grips [] (pulseBanks s).closing (pulseBanks s).unaimed
  after : AfterAim gone (aim (pulseBanks s).unaimed) t
  stroke : ∃ n ≤ 12, Stroke [.timeLost, .timeJump, .punchCancelled, .punchIn, .punchOut, .writeLate, .verify]
    [.timeJumps, .framesDropped, .framesMuted, .verifyFails] n (pulseBanks s).closing t

theorem exec_framePulse_closes (quiet : s.quiet) (idle : s.sequencer.state = .idle)
    (state : s.transport.state = .play ∨ s.transport.state = .record) (gate : s.gateAgrees) (reading : s.readingAgrees)
    (sound : s.storeSound) (few : s.coder.verify.length ≤ 3) : ∃ t gone, exec .framePulse s = .next t ∧ ClosingPulse gone s t := by
  obtain ⟨-, selection⟩ := quiet
  obtain ⟨banks, pending, switched⟩ := grips_pulseBanks (gathersSound_of sound)
  have rolling : (pulseBanks s).transport.state.rolling = true := by
    rw [(sane_pulseBanks s).state]
    exact rolling_of state
  have listed := listed_pulseWork s
  have stillIdle : (pulseWork s).sequencer.state = .idle := by rw [listed.list]; exact idle
  have pendingX : (pulseBanks s).banks.pendingSwitch = none := by rw [switched.banks]; exact pending
  have before := unclosed_pulseBanks s
  have gateX := (agreed_pulseBanks s).gate gate
  have readingX := (agreed_pulseBanks s).reading reading
  have soundX := (sane_pulseBanks s).storeSound sound
  obtain ⟨gone, after⟩ := pulseWork_afterAim rolling pendingX gateX readingX soundX
  obtain ⟨n, twelve, stroke⟩ := stroke_pulseWork rolling pendingX (readingX.1.trans rolling)
  rw [← pulseWork_switched pendingX] at after stroke
  have run : exec .framePulse s = .next ((pulseWork s).handing []) := by
    rw [exec_framePulse_idle stillIdle, settle_idle stillIdle (listed.selection.trans selection)] <;> rfl
  have handed : Stroke [] [] 0 (pulseWork s) ((pulseWork s).handing []) := (Amends.of ..).stroke
  exact ⟨(pulseWork s).handing [], gone, run, sound, ⟨banks, switched⟩, before, fun record => pulseBanks_mixer (gate.1.2 record), soundX,
    grips_unaimed gateX soundX, ⟨after.grips.then .of, after.time, after.ready, after.newest, after.oldest⟩,
    n, twelve (before.verify few), stroke.then handed⟩

/-! ### The take span (R23) -/

/-- The take span of a mixer for frames of `n` pairs (R23). -/
def Mixer.spans (m : Mixer) (n f : Nat) : Prop := ∃ p, m.punchIn = some p ∧ p.time ≤ f ∧ f ≤ 359999 ∧
  ∀ o, m.punchOut = some o → f ≤ if o.cross = 0 then o.time - 1 else o.time + (o.cross - 1) / n

theorem inSpan_iff (s : State) (f : Nat) : s.inSpan f = true ↔ s.mixer.spans s.framePairs f := by
  unfold State.inSpan Mixer.spans
  cases punchIn : s.mixer.punchIn with
  | none => simp
  | some p =>
    cases punchOut : s.mixer.punchOut with
    | none => simp [Config.lastTime]
    | some o =>
      simp only [Bool.and_eq_true, decide_eq_true_eq, Option.some.injEq, exists_eq_left', forall_eq', and_assoc] <;> rfl

theorem roleFor_cases (s : State) (f : Nat) : (s.mixer.spans s.framePairs f → some (s.roleFor f) = some Role.old) ∧
    (¬ s.mixer.spans s.framePairs f → some (s.roleFor f) = some Role.play) := by
  unfold State.roleFor
  refine ⟨fun spans => by rw [if_pos ((inSpan_iff s f).2 spans)], fun none => by rw [if_neg fun h => none ((inSpan_iff s f).1 h)]⟩

/-! ### The slot closed -/

theorem correctedSlots_of_with {l : List Nat} (sound : SoundWith l s) : s.store.gatherList = s.correctedSlots ++ l := by
  obtain ⟨c, split, corrected, gathering⟩ := sound.gathered
  have kept : c.filter (fun i => (s.slot i).state == .corrected) = c := List.filter_eq_self.2 fun i hi => by rw [corrected i hi] <;> rfl
  have none : l.filter (fun i => (s.slot i).state == .corrected) = [] := List.filter_eq_nil_iff.2 fun i hi => by rw [gathering i hi] <;> decide
  unfold State.correctedSlots
  rw [split, List.filter_append, kept, none, List.append_nil]

/-- The close of a pulse with a frame of a slot. -/
theorem closing_closed (current : s.decoder.current = some g) (slot : g.slot = some i) (sound : s.storeSound) :
    FrameClosed g i { s with decoder := s.decoder.stepTime } s.closing := by
  have gathering : (s.slot i).state = .gathering := by
    obtain ⟨held, -⟩ := storeSound_iff.1 sound
    obtain ⟨-, -, -, gathering⟩ := held.gathered
    exact gathering i (by unfold State.gatheringSlots; rw [current]; simp [slot])
  obtain ⟨⟨length, -⟩, -⟩ := sound
  have closes := closeSlot_closes (g := g) (s := { s with decoder := s.decoder.stepTime }) (i := i) length gathering
  have same : s.closing = closeSlot g i { s with decoder := s.decoder.stepTime } := by
    unfold State.closing
    rw [current]
    show closeFrame g _ = _
    unfold closeFrame
    rw [slot]
  rw [same]
  exact closes

/-- Without a slot to close the pulse leaves the store, the marks and the reports. -/
theorem closing_without (none : s.decoder.current.bind (·.slot) = none) : s.closing.store = s.store ∧ s.unread s.closing ∧
    s.closing.reports = s.reports := by
  have kept : ∀ d : Decoder, d.startRun = s.decoder.startRun → d.mismatch = s.decoder.mismatch → s.unread { s with decoder := d } :=
    fun d run mismatch => ⟨rfl, run, mismatch, rfl⟩
  have marks : s.decoder.stepTime.startRun = s.decoder.startRun ∧ s.decoder.stepTime.mismatch = s.decoder.mismatch := by
    unfold Decoder.stepTime
    split <;> exact ⟨rfl, rfl⟩
  unfold State.closing
  split
  · exact ⟨rfl, kept _ marks.1 marks.2, rfl⟩
  · next g current =>
    rw [current] at none
    unfold closeFrame
    rw [show g.slot = Option.none from none]
    exact ⟨rfl, kept { s.decoder.stepTime with closedLast := false } marks.1 marks.2, rfl⟩

theorem aim_correctedSlots (sound : SoundWith s.decoder.nextSlot.toList s) : (aim s).correctedSlots = s.correctedSlots := by
  obtain ⟨list, aside, timed, -, -⟩ := aim_aims s
  have next : ∀ k, k ∈ s.staleSlot.toList ∨ s.aimedFrame.slot = some k → (s.slot k).state = .gathering := fun k hk => by
    obtain ⟨-, -, -, gathering⟩ := sound.gathered
    refine gathering k ?_
    rcases aimed_slots s with ⟨stale, aimed⟩ | ⟨stale, aimed⟩ <;> rw [stale, aimed] at hk <;> simpa using hk
  unfold State.correctedSlots
  rw [list, List.filter_filter]
  refine List.filter_congr fun k hk => ?_
  by_cases stale : k ∈ s.staleSlot.toList
  · rw [next k (.inl stale)]
    simp [stale]
  · by_cases aimed : s.aimedFrame.slot = some k
    · have gathering := next k (.inr aimed)
      rw [timed k aimed (by rw [sound.length]; exact sound.lt (by rw [gathering]; decide))]
      simp [gathering, stale]
    · rw [aside k stale aimed]
      simp [stale]

/-- The frames whose slots an aim frees or times are those that were next. -/
theorem aside_of (sound : SoundWith s.decoder.nextSlot.toList s) {k : Nat} (other : (s.slot k).state ≠ .gathering) :
    k ∉ s.staleSlot.toList ∧ s.aimedFrame.slot ≠ some k := by
  obtain ⟨-, -, -, gathering⟩ := sound.gathered
  have aside : k ∉ s.decoder.nextSlot.toList := fun listed => other (gathering k listed)
  rcases aimed_slots s with ⟨stale, aimed⟩ | ⟨stale, aimed⟩ <;> rw [stale, aimed]
  · exact ⟨by simp, fun h => aside (by rw [h]; simp)⟩
  · exact ⟨aside, by simp⟩

namespace ClosingPulse
variable {gone : List Nat} {k : Nat}

theorem unaimedSound (p : ClosingPulse gone s t) :
    SoundWith (pulseBanks s).unaimed.decoder.nextSlot.toList (pulseBanks s).unaimed := by
  obtain ⟨held, next⟩ := soundWith_unaimed p.switchedSound
  have same : (pulseBanks s).unaimed.decoder.nextSlot = (pulseBanks s).decoder.nextSlot := by
    unfold Decoder.nextSlot
    rw [next]
  rw [same]
  exact held

theorem closedSound (p : ClosingPulse gone s t) : (pulseBanks s).closing.gathersSound :=
  gathersSound_of_with (soundWith_closing p.switchedSound)

theorem mem_corrected (h : k ∈ s.correctedSlots) : (s.slot k).state = .corrected ∧ k ∈ s.store.gatherList :=
  ⟨beq_iff_eq.1 (List.mem_filter.1 h).2, (List.mem_filter.1 h).1⟩

/-- The slots CORRECTED after the close are so before the takes. -/
theorem corrected (p : ClosingPulse gone s t) :
    (aim (pulseBanks s).unaimed).correctedSlots = (pulseBanks s).closing.correctedSlots := by
  rw [aim_correctedSlots p.unaimedSound, p.settled.correctedSlots p.closedSound]
  exact List.filter_eq_self.2 fun k _ => by simp

theorem follows_aim (p : ClosingPulse gone s t) (corrected : ((pulseBanks s).closing.slot k).state = .corrected) :
    Follows k (pulseBanks s).closing (aim (pulseBanks s).unaimed) := by
  have settled := p.settled.follows k (by simp) (.inr corrected)
  obtain ⟨stale, aimed⟩ := aside_of p.unaimedSound (k := k) (by rw [settled.slot, corrected]; decide)
  have stage := stage_aim (pulseBanks s).unaimed
  refine settled.trans (.same ((aim_aims _).aside k stale aimed) ?_) stage.banks
  unfold State.samePunches
  rw [stage.mixer]
  exact ⟨rfl, rfl, rfl⟩

theorem follows (p : ClosingPulse gone s t) (corrected : ((pulseBanks s).closing.slot k).state = .corrected) (stays : k ∉ gone) :
    Follows k (pulseBanks s).closing t := by
  have aimed := p.follows_aim corrected
  exact aimed.trans (p.after.grips.follows k stays (.inr (by rw [aimed.slot]; exact corrected))) p.after.grips.banks

/-- A slot CORRECTED after the close that is not taken stays on the gather list. -/
theorem mem_list (p : ClosingPulse gone s t) (corrected : k ∈ (pulseBanks s).closing.correctedSlots) (stays : k ∉ gone) :
    k ∈ t.store.gatherList := by
  have listed : k ∈ (aim (pulseBanks s).unaimed).store.gatherList := by
    rw [← p.corrected] at corrected
    exact (mem_corrected corrected).2
  rw [p.after.grips.list]
  exact List.mem_filter.2 ⟨listed, by simpa using stays⟩

/-- A slot that was CORRECTED before the pulse stays so up to the close. -/
theorem switched_corrected (p : ClosingPulse gone s t) : (pulseBanks s).correctedSlots = s.correctedSlots := by
  obtain ⟨banks, switched⟩ := p.switched
  rw [switched.correctedSlots (gathersSound_of p.sound)]
  exact List.filter_eq_self.2 fun k _ => by simp

theorem switched_slot (p : ClosingPulse gone s t) (gathered : (s.slot k).gathered) :
    (pulseBanks s).slot k = { s.slot k with role := ((pulseBanks s).slot k).role } := by
  obtain ⟨banks, switched⟩ := p.switched
  exact switched.slot (by simp) gathered

theorem gathering (p : ClosingPulse gone s t) (current : s.decoder.current = some g) (slot : g.slot = some i) :
    (s.slot i).state = .gathering := by
  obtain ⟨held, -⟩ := storeSound_iff.1 p.sound
  obtain ⟨-, -, -, gathering⟩ := held.gathered
  exact gathering i (by unfold State.gatheringSlots; rw [current]; simp [slot])

theorem closed (p : ClosingPulse gone s t) (current : s.decoder.current = some g) (slot : g.slot = some i) :
    FrameClosed g i { pulseBanks s with decoder := (pulseBanks s).decoder.stepTime } (pulseBanks s).closing :=
  closing_closed ((sane_pulseBanks s).current.trans current) slot p.switchedSound

/-- The slot closed stands last among the CORRECTED ones. -/
theorem closed_corrected (p : ClosingPulse gone s t) (current : s.decoder.current = some g) (slot : g.slot = some i) :
    (pulseBanks s).closing.correctedSlots = s.correctedSlots ++ [i] := by
  obtain ⟨held, -⟩ := storeSound_iff.1 p.switchedSound
  have before := correctedSlots_of_with held
  have after := correctedSlots_of_with (soundWith_closing p.switchedSound)
  have gatherings : (pulseBanks s).gatheringSlots = [i] ++ (pulseBanks s).decoder.nextSlot.toList := by
    unfold State.gatheringSlots
    rw [(sane_pulseBanks s).current.trans current]
    show g.slot.toList ++ _ = _
    rw [slot] <;> rfl
  rw [(p.closed current slot).list] at after
  have same : (pulseBanks s).store.gatherList = _ := after
  rw [before, gatherings, ← List.append_assoc] at same
  rw [← List.append_cancel_right same, p.switched_corrected]

theorem closed_stays (p : ClosingPulse gone s t) (current : s.decoder.current = some g) (slot : g.slot = some i) : i ∉ gone :=
  p.after.newest s.correctedSlots i (by rw [p.corrected, p.closed_corrected current slot])

theorem activeBank (p : ClosingPulse gone s t) : t.activeBank = (pulseBanks s).activeBank := by
  obtain ⟨n, -, stroke⟩ := p.stroke
  exact (activeBank_of stroke.banks).trans (activeBank_of (stage_closing (pulseBanks s)).banks)

/-- The record of the slot at the end of the pulse, but for its role. -/
theorem slot_closed (p : ClosingPulse gone s t) (current : s.decoder.current = some g) (slot : g.slot = some i) :
    t.slot i = { (pulseBanks s).closedSlot g { s.slot i with role := ((pulseBanks s).slot i).role } with role := (t.slot i).role } := by
  have closed := (p.closed current slot).slot
  have same : (pulseBanks s).closing.slot i = (pulseBanks s).closedSlot g ((pulseBanks s).slot i) :=
    closed.trans (closedSlot_same (t := { pulseBanks s with decoder := (pulseBanks s).decoder.stepTime }) rfl rfl)
  rw [p.switched_slot (.inl (p.gathering current slot))] at same
  have corrected : ((pulseBanks s).closing.slot i).state = .corrected := by
    rw [same]
    exact (closedSlot_facts ..).1
  rw [(p.follows corrected (p.closed_stays current slot)).slot, same]

/-! ### The role of the slot closed (R23, R31) -/

theorem spanRole_roleFor (s : State) (f : Nat) {v : Slot} (role : v.role = some (s.roleFor f)) : v.spanRole := by
  unfold Slot.spanRole
  rw [role]
  unfold State.roleFor
  split
  · exact .inr rfl
  · exact .inl rfl

/-- A slot whose close sets its role again, and whose take span may have changed before the close or after it. -/
theorem closed_role {b x c : State} {f : Nat} (first : Follows i b x) (second : Follows i c t) (mixer : c.mixer = x.mixer)
    (banks : c.banks = x.banks) (banksOf : t.banks = c.banks) (spans : (b.slot i).spanRole)
    (time : (c.slot i).frameTime = some f) (mixed : (c.slot i).mixed = (b.slot i).mixed)
    (role : (c.slot i).role = if (b.slot i).frameTime = some f then (x.slot i).role else some (x.roleFor f)) :
    (b.samePunches t → (b.slot i).frameTime = some f → (t.slot i).role = (b.slot i).role) ∧
    (b.samePunches t ∧ (b.slot i).frameTime ≠ some f ∨ ¬ b.samePunches t ∧ (b.slot i).mixed = false →
      (t.slot i).role = some (t.roleFor f)) := by
  have still : x.samePunches c := by
    unfold State.samePunches
    rw [mixer]
    exact ⟨rfl, rfl, rfl⟩
  have aheadOf : c.mixer.ahead = x.mixer.ahead := still.ahead
  have roles : c.roleFor f = x.roleFor f := still.roleFor banks f
  have less : t.mixer.ahead < b.mixer.ahead → ¬ b.samePunches t := fun less same => absurd same.ahead less.ne
  rcases second.roles with ⟨same, after⟩ | ⟨lower, after⟩
  · have rolesOf : t.roleFor f = x.roleFor f := (same.roleFor banksOf f).trans roles
    rcases first.roles with ⟨sameBefore, before⟩ | ⟨lowerBefore, before⟩
    · have whole : b.samePunches t := ⟨same.1.trans (still.1.trans sameBefore.1), same.2.1.trans (still.2.1.trans sameBefore.2.1),
        same.2.2.trans (still.2.2.trans sameBefore.2.2)⟩
      refine ⟨fun _ timed => by rw [after, role, if_pos timed, before], fun h => ?_⟩
      rcases h with ⟨-, other⟩ | ⟨changed, -⟩
      · rw [after, role, if_neg other, rolesOf]
      · exact absurd whole changed
    · have changed := less (by rw [same.ahead, aheadOf]; exact lowerBefore)
      refine ⟨fun kept => absurd kept changed, fun h => ?_⟩
      rcases h with ⟨kept, -⟩ | ⟨-, unmixed⟩
      · exact absurd kept changed
      · rw [after, role, rolesOf]
        split
        · next timed => rw [before unmixed spans, timed] <;> rfl
        · rfl
  · have changed : ¬ b.samePunches t := less (by
      rcases first.roles with ⟨sameBefore, -⟩ | ⟨lowerBefore, -⟩
      · rw [aheadOf, sameBefore.ahead] at lower
        exact lower
      · rw [aheadOf] at lower
        exact lower.trans lowerBefore)
    refine ⟨fun kept => absurd kept changed, fun h => ?_⟩
    rcases h with ⟨kept, -⟩ | ⟨-, unmixed⟩
    · exact absurd kept changed
    · have spansC : (c.slot i).spanRole := by
        by_cases timed : (b.slot i).frameTime = some f
        · rw [if_pos timed] at role
          rcases first.roles with ⟨-, before⟩ | ⟨-, before⟩
          · unfold Slot.spanRole at spans ⊢
            rw [role, before]
            exact spans
          · exact spanRole_roleFor x _ (role.trans (before unmixed spans))
        · rw [if_neg timed] at role
          exact spanRole_roleFor x _ role
      have final := after (mixed.trans unmixed) spansC
      rw [time] at final
      exact final

theorem role (p : ClosingPulse gone s t) (current : s.decoder.current = some g) (slot : g.slot = some i) :
    (s.samePunches t → (s.slot i).frameTime = some g.closeTime → (t.slot i).role = (s.slot i).role) ∧
    (s.samePunches t ∧ (s.slot i).frameTime ≠ some g.closeTime ∨ ¬ s.samePunches t ∧ (s.slot i).mixed = false →
      (t.slot i).role = some (t.roleFor g.closeTime)) := by
  obtain ⟨banks, switched⟩ := p.switched
  obtain ⟨n, -, stroke⟩ := p.stroke
  have gathering := p.gathering current slot
  have stage := stage_closing (pulseBanks s)
  have same : (pulseBanks s).closing.slot i = (pulseBanks s).closedSlot g ((pulseBanks s).slot i) :=
    (p.closed current slot).slot.trans (closedSlot_same (t := { pulseBanks s with decoder := (pulseBanks s).decoder.stepTime }) rfl rfl)
  have before := p.switched_slot (.inl gathering)
  obtain ⟨state, time, mixed, -, role⟩ := closedSlot_facts (pulseBanks s) g ((pulseBanks s).slot i)
  have timeOf : ((pulseBanks s).slot i).frameTime = (s.slot i).frameTime := by rw [before]
  have mixedOf : ((pulseBanks s).slot i).mixed = (s.slot i).mixed := by rw [before]
  have spans : (s.slot i).spanRole := by
    obtain ⟨held, -⟩ := storeSound_iff.1 p.sound
    have agrees := held.role i
    unfold Slot.roleAgrees at agrees
    rw [gathering] at agrees
    unfold Slot.spanRole
    simpa using agrees
  rw [timeOf] at role
  rw [← same] at state time mixed role
  exact closed_role (b := { s with banks := banks }) (switched.follows i (by simp) (.inl gathering)) (p.follows state (p.closed_stays current slot)) stage.mixer
    stage.banks stroke.banks spans time (mixed.trans mixedOf) role

/-! ### What is handed on (R67 to R71, R100) -/

theorem unread_of (h : Grips gone s t) : s.unread t := by
  refine ⟨h.heldTape, ?_, ?_, h.entries⟩
  · rw [h.decoder]
  · rw [h.decoder]

theorem unread_before (p : ClosingPulse gone s t) : s.unread (pulseBanks s) := by
  obtain ⟨banks, switched⟩ := p.switched
  exact unread_of (s := { s with banks := banks }) switched

theorem unread_trans (h : s.unread t) (k : t.unread u) : s.unread u :=
  ⟨k.1.trans h.1, k.2.1.trans h.2.1, k.2.2.1.trans h.2.2.1, k.2.2.2.trans h.2.2.2⟩

theorem unread_after (p : ClosingPulse gone s t) : (pulseBanks s).closing.unread t := by
  have aims := aim_aims (pulseBanks s).unaimed
  have aimed : (pulseBanks s).unaimed.unread (aim (pulseBanks s).unaimed) := by
    refine ⟨aims.heldTape, ?_, ?_, aims.entries⟩
    · rw [aim_decoder]
    · rw [aim_decoder]
  exact unread_trans (unread_trans (unread_of p.settled) aimed) (unread_of p.after.grips)

theorem mute_after (p : ClosingPulse gone s t) (mute : (pulseBanks s).mute (pulseBanks s).closing) : s.mute t := fun e mem kind => by
  obtain ⟨n, -, stroke⟩ := p.stroke
  exact p.before.entries e (mute e (stroke.unclosed.entries e mem kind) kind) kind

theorem rebuilds_after (p : ClosingPulse gone s t) {n : Nat} (rebuilds : (pulseBanks s).rebuilds n (pulseBanks s).closing) :
    s.rebuilds n t := fun port => by
  obtain ⟨m, -, stroke⟩ := p.stroke
  rw [stroke.unclosed.rebuilt port, rebuilds port, p.before.rebuilt port]

/-- Nothing is closed: nothing is read. -/
theorem without (p : ClosingPulse gone s t) (none : s.decoder.current.bind (·.slot) = none) :
    s.unread t ∧ s.mute t ∧ s.rebuilds 0 t := by
  obtain ⟨-, unread, reports⟩ := closing_without (s := pulseBanks s) (by rw [(sane_pulseBanks s).current]; exact none)
  exact ⟨unread_trans p.unread_before (unread_trans unread p.unread_after),
    p.mute_after fun e mem _ => by rw [← reports]; exact mem, p.rebuilds_after fun port => by rw [reports] <;> rfl⟩

/-- A frame without a valid subcode hands on nothing. -/
theorem invalid (p : ClosingPulse gone s t) (current : s.decoder.current = some g) (slot : g.slot = some i)
    (none : selectSubcode g.tag g.held = none) : s.unread t ∧ s.mute t := by
  obtain ⟨unread, mute⟩ := (p.closed current slot).invalid none
  have begun : (pulseBanks s).unread { pulseBanks s with decoder := (pulseBanks s).decoder.stepTime } := by
    refine ⟨rfl, ?_, ?_, rfl⟩
    · exact (show (pulseBanks s).decoder.stepTime.startRun = _ by unfold Decoder.stepTime; split <;> rfl)
    · exact (show (pulseBanks s).decoder.stepTime.mismatch = _ by unfold Decoder.stepTime; split <;> rfl)
  exact ⟨unread_trans p.unread_before (unread_trans (unread_trans begun unread) p.unread_after), p.mute_after mute⟩

/-- What a frame with a valid subcode hands on, in the state before the pulse. -/
structure Reads (r : Subcode) (s t : State) : Prop where
  heldTape : t.copy.heldTape = some r.copyField
  startRun : t.decoder.startRun = if r.start then some r.program else none
  mismatch : t.decoder.mismatch = if r.rate = t.activeBank.rate then none else some r.rate
  mute : r.rate = t.activeBank.rate ∨ s.decoder.mismatch = some r.rate → s.mute t
  foreign : r.rate ≠ t.activeBank.rate → s.decoder.mismatch ≠ some r.rate → ∃ l ∈ t.reports.log, l.kind = .formatMismatch ∧
    l.time = some r.time ∧ l.origin = .internal ∧ l.argument = r.rate.code
  offered : r.start = true ∧ s.decoder.startRun ≠ some r.program ∧
      (s.transport.state = .play ∨ ¬ s.mixer.spans t.activeBank.rate.pairs r.time) →
    t.cues.entries = (takeMarker r.time r.program s).cues.entries
  withheld : ¬ (r.start = true ∧ s.decoder.startRun ≠ some r.program ∧
      (s.transport.state = .play ∨ ¬ s.mixer.spans t.activeBank.rate.pairs r.time)) → t.cues.entries = s.cues.entries

theorem reads (p : ClosingPulse gone s t) (state : s.transport.state = .play ∨ s.transport.state = .record)
    (current : s.decoder.current = some g) (slot : g.slot = some i) {r : Subcode} (valid : selectSubcode g.tag g.held = some r) :
    Reads r s t := by
  obtain ⟨u, handed, bank, mismatch, offers, cues, log⟩ := (p.closed current slot).valid r valid
  obtain ⟨heldTape, startRun, mismatchOf, entries⟩ := p.unread_after
  obtain ⟨-, runBefore, mismatchBefore, entriesBefore⟩ := p.unread_before
  have bankT : t.activeBank = u.activeBank := p.activeBank.trans (bank.symm)
  have stepRun : (pulseBanks s).decoder.stepTime.startRun = s.decoder.startRun := by
    rw [← runBefore]
    unfold Decoder.stepTime
    split <;> rfl
  have stepMismatch : (pulseBanks s).decoder.stepTime.mismatch = s.decoder.mismatch := by
    rw [← mismatchBefore]
    unfold Decoder.stepTime
    split <;> rfl
  have mismatchU : u.decoder.mismatch = s.decoder.mismatch := mismatch.trans stepMismatch
  have stateX : (pulseBanks s).transport.state = s.transport.state := (sane_pulseBanks s).state
  have offersOf : u.offers r ↔ r.start = true ∧ s.decoder.startRun ≠ some r.program ∧
      (s.transport.state = .play ∨ ¬ s.mixer.spans t.activeBank.rate.pairs r.time) := by
    rw [offers]
    show (r.start = true ∧ (pulseBanks s).decoder.stepTime.startRun ≠ some r.program ∧ ((pulseBanks s).transport.state = .play ∨
      (pulseBanks s).transport.state = .record ∧ (pulseBanks s).inSpan r.time = false)) ↔ _
    rw [stepRun, stateX]
    refine and_congr_right fun _ => and_congr_right fun _ => ?_
    rcases state with play | record
    · simp [play]
    · have outside : (pulseBanks s).inSpan r.time = false ↔ ¬ s.mixer.spans t.activeBank.rate.pairs r.time := by
        rw [← Bool.not_eq_true, inSpan_iff, p.taken record, p.activeBank] <;> rfl
      rw [outside]
      simp [record]
  have entriesU : u.cues.entries = s.cues.entries := by rw [cues]; exact entriesBefore
  refine ⟨heldTape.trans handed.heldTape, startRun.trans handed.startRun, ?_, fun h => p.mute_after fun e mem kind => ?_, fun rate other => ?_,
    fun h => ?_, fun h => ?_⟩
  · rw [mismatchOf, handed.mismatch, bankT]
  · have found := handed.mute (by rw [← bankT, mismatchU]; exact h) e mem kind
    rwa [log] at found
  · obtain ⟨e, recent, kind, time, origin, argument⟩ := handed.foreign (by rw [← bankT]; exact rate) (by rw [mismatchU]; exact other)
    obtain ⟨n, twelve, stroke⟩ := p.stroke
    exact ⟨e, (stroke.recent 1 e (by omega) recent).mem, kind, time, origin, argument⟩
  · exact entries.trans ((handed.offered (offersOf.2 h)).trans (takeMarker_entries _ _ entriesU))
  · exact entries.trans ((handed.withheld fun k => h (offersOf.1 k)).trans entriesU)

/-- The blocks rebuilt of the frame closed are counted. -/
theorem rebuilds (p : ClosingPulse gone s t) (current : s.decoder.current = some g) (slot : g.slot = some i) :
    s.rebuilds ((pulseBanks s).closedSlot g { s.slot i with role := ((pulseBanks s).slot i).role }).tally.rebuilt t := by
  have rebuilt := (p.closed current slot).rebuilt
  have same : State.closedSlot { pulseBanks s with decoder := (pulseBanks s).decoder.stepTime } g ((pulseBanks s).slot i) =
    (pulseBanks s).closedSlot g ((pulseBanks s).slot i) := closedSlot_same rfl rfl
  rw [← p.switched_slot (.inl (p.gathering current slot)), ← same]
  exact p.rebuilds_after rebuilt

/-! ### The slot closed before (R32) -/

theorem alone (p : ClosingPulse gone s t) (current : s.decoder.current = some g) (slot : g.slot = some i) {k : Nat}
    (one : s.correctedSlots = [k]) : (s.decoder.closedLast = true → k ∉ t.store.gatherList) ∧
    (s.decoder.closedLast = false → (s.slot k).hasSuccessor = false → k ∈ t.store.gatherList) := by
  have both := p.closed_corrected current slot
  rw [one] at both
  have corrected : (s.slot k).state = .corrected := (mem_corrected (by rw [one]; simp)).1
  have before := p.switched_slot (k := k) (.inr corrected)
  have other : k ≠ i := by
    rintro rfl
    rw [p.gathering current slot] at corrected
    cases corrected
  have closedLast : (pulseBanks s).decoder.closedLast = s.decoder.closedLast := by
    obtain ⟨banks, switched⟩ := p.switched
    rw [switched.decoder]
  have stepLast : (pulseBanks s).decoder.stepTime.closedLast = s.decoder.closedLast := by
    rw [← closedLast]
    unfold Decoder.stepTime
    split <;> rfl
  have at_k := (p.closed current slot).others k other
  rw [show State.correctedSlots { pulseBanks s with decoder := (pulseBanks s).decoder.stepTime } = [k] from
    p.switched_corrected.trans one] at at_k
  have at_k : (pulseBanks s).closing.slot k = if (pulseBanks s).decoder.stepTime.closedLast = true ∧ [k].getLast? = some k then
    { (pulseBanks s).slot k with hasSuccessor := true } else (pulseBanks s).slot k := at_k
  rw [stepLast, before] at at_k
  have listed : k ∈ (pulseBanks s).closing.correctedSlots := by rw [both]; simp
  have aimed := (p.follows_aim (mem_corrected listed).1).slot
  have successor : ((aim (pulseBanks s).unaimed).slot k).hasSuccessor = ((pulseBanks s).closing.slot k).hasSuccessor := by rw [aimed]
  refine ⟨fun last mem => ?_, fun last none => p.mem_list listed fun taken => ?_⟩
  · have taken : k ∈ gone := p.after.oldest k i [] (by rw [p.corrected, both] <;> rfl) (by
      rw [successor, at_k, if_pos ⟨last, by simp⟩])
    rw [p.after.grips.list, List.mem_filter, decide_eq_true_eq] at mem
    exact mem.2 taken
  · have has := (p.after.ready k taken).2
    rw [successor, at_k, if_neg (by rw [last]; simp)] at has
    rw [none] at has
    cases has

/-! ### The frames gathered next (R65) -/

theorem next_of_gathering (sound : s.storeSound) {k : Nat} (next : s.decoder.nextSlot = some k) : (s.slot k).state = .gathering := by
  obtain ⟨held, -⟩ := storeSound_iff.1 sound
  obtain ⟨-, -, -, gathering⟩ := held.gathered
  exact gathering k (by unfold State.gatheringSlots; simp [next])

/-- The close leaves the slot of the next frame. -/
theorem closing_next (sound : s.storeSound) {k : Nat} (next : s.decoder.nextSlot = some k) : s.closing.slot k = s.slot k := by
  cases none : s.decoder.current.bind (·.slot) with
  | none =>
    obtain ⟨store, -⟩ := closing_without none
    unfold State.slot
    rw [store]
  | some i =>
    obtain ⟨g, current, slot⟩ := Option.bind_eq_some_iff.1 none
    have closed := closing_closed current slot sound
    obtain ⟨-, -, -, gathering⟩ := (soundWith_closing sound).gathered
    have after := gathering k (by simp [next])
    have before := next_of_gathering sound next
    have other : k ≠ i := by
      rintro rfl
      rw [closed.slot, (closedSlot_facts ..).1] at after
      cases after
    rw [closed.others k other, if_neg]
    · rfl
    · rintro ⟨-, last⟩
      have corrected := (mem_corrected (List.mem_of_getLast? last)).1
      rw [show State.slot { s with decoder := s.decoder.stepTime } k = s.slot k from rfl, before] at corrected
      cases corrected

/-- The slot of the frame that becomes the current one has its time set. -/
theorem next_slot (p : ClosingPulse gone s t) {k : Nat} (aimed : (pulseBanks s).unaimed.aimedFrame.slot = some k) :
    t.slot k = { s.slot k with frameTime := some (pulseBanks s).unaimed.decoder.expected, role := (t.slot k).role } := by
  have nextU : (pulseBanks s).unaimed.decoder.nextSlot = some k := by
    rcases aimed_slots (pulseBanks s).unaimed with ⟨-, same⟩ | ⟨-, none⟩
    · exact same.symm.trans aimed
    · rw [none] at aimed
      cases aimed
  have nextX : (pulseBanks s).decoder.nextSlot = some k := by
    unfold Decoder.nextSlot at nextU ⊢
    rwa [(soundWith_unaimed p.switchedSound).2] at nextU
  have nextS : s.decoder.nextSlot = some k := by
    unfold Decoder.nextSlot at nextX ⊢
    rwa [(sane_pulseBanks s).next] at nextX
  have switched := p.switched_slot (k := k) (.inl (next_of_gathering p.sound nextS))
  have closed := closing_next p.switchedSound nextX
  have gatheringC : ((pulseBanks s).closing.slot k).state = .gathering := by
    rw [closed]
    exact next_of_gathering p.switchedSound nextX
  have settled := p.settled.slot (i := k) (by simp) (.inl gatheringC)
  have gatheringU : ((pulseBanks s).unaimed.slot k).state = .gathering := by rw [settled]; exact gatheringC
  have timed := (aim_aims (pulseBanks s).unaimed).timed k aimed
    (by rw [p.unaimedSound.length]; exact p.unaimedSound.lt (by rw [gatheringU]; decide))
  have gatheringA : ((aim (pulseBanks s).unaimed).slot k).state = .gathering := by rw [timed]; exact gatheringU
  have stays : k ∉ gone := fun taken => by
    have corrected := (p.after.ready k taken).1
    rw [gatheringA] at corrected
    cases corrected
  rw [p.after.grips.slot stays (.inl gatheringA), timed, settled, closed, switched]

/-- What the aim finds is what the pulse leaves. -/
theorem tracker (p : ClosingPulse gone s t) : t.decoder.status = (pulseBanks s).unaimed.decoder.status ∧
    (pulseBanks s).unaimed.decoder.expected = min 359999 (t.decoder.time + 3 - t.decoder.leadIn) ∧
    (pulseBanks s).unaimed.decoder.next = s.decoder.next ∧
    t.decoder.current = some (pulseBanks s).unaimed.aimedFrame ∧
    t.decoder.next = if (pulseBanks s).unaimed.decoder.expected = 359999 then none else
      some ⟨((pulseBanks s).unaimed.aimedFrame.tag + 1) % 256, (pulseBanks s).unaimed.decoder.expected + 1, none, false, []⟩ := by
  obtain ⟨time, leadIn, status, -⟩ := p.after.time
  have decoder := p.after.grips.decoder
  rw [aim_decoder] at decoder time leadIn status
  refine ⟨status, ?_, (soundWith_unaimed p.switchedSound).2.trans (sane_pulseBanks s).next, ?_, ?_⟩
  · rw [time, leadIn] <;> rfl
  · rw [decoder]
  · rw [decoder]

theorem stale_gone (p : ClosingPulse gone s t) {k : Nat} (stale : (pulseBanks s).unaimed.staleSlot = some k) :
    k ∉ t.store.gatherList := by
  rw [p.after.grips.list, (aim_aims _).list, stale]
  simp

end ClosingPulse

end
end Sys2Proof.Machine

namespace Sys2Proof.Proofs
open Sys2Proof.Machine

/-- Settles O37: what is read of the blocks held follows group by group and pair by pair; and a pulse is cut at the bank switch, the
close, the aim and what follows, none of which but the close touches what is read of the frame closed. -/
theorem frameClosedAtPulse : Obligations.FrameClosedAtPulse := by
  refine ⟨fun tag held fmt => ?_, fun s quiet idle state gate reading sound few => ?_⟩
  · obtain ⟨rate, w⟩ := fmt
    intro kept copy block data good rebuilt per
    refine ⟨fun k below r found none => ?_, fun none => ?_, frameTally_eq.trans ?_, List.map_congr_left fun n below => ?_⟩
    · rw [selectSubcode_eq]
      exact findSome?_range below found none
    · rw [selectSubcode_eq]
      exact List.findSome?_eq_none_iff.2 fun k below => none k (List.mem_range.1 below)
    · have goodOf : good = trackHeld held .a + trackHeld held .b := by
        show (_ ++ (_ ++ [])).length = _
        rw [List.append_nil, List.length_append] <;> rfl
      have rebuiltOf : rebuilt = trackRebuilt tag held .a + trackRebuilt tag held .b := by
        show (_ ++ (_ ++ [])).length = _
        rw [List.append_nil, List.length_append] <;> rfl
      rw [goodOf, rebuiltOf]
    · have inside : n < 1920 := (List.mem_range.1 below).trans_le (by cases rate <;> simp [Rate.pairs])
      have dataOf (track : Track) (g j : Nat) : data track g j = groupData tag held track g j := by
        unfold groupData
        show (match groupBlock tag held track g j with
          | some payload => some payload
          | none => _) = _
        cases groupBlock tag held track g j <;> rfl
      have perOf : per = w.pairsPerBlock := by
        cases w <;> rfl
      have bytesOf : 96 / per = w.pairBytes := by
        rw [perOf]
        cases w <;> rfl
      show framePair w (correctedGroups tag held) n = _
      rw [framePair_eq inside, dataOf, bytesOf, perOf] <;> (generalize groupData tag held _ _ _ = o; cases o <;> rfl)
  · obtain ⟨t, gone, run, p⟩ := exec_framePulse_closes quiet idle state gate reading sound few
    refine ⟨t, run, ?_⟩
    intro bank unchanged silent counted inSpan
    refine ⟨fun none => p.without none, fun g i current slot => ?_, ?_⟩
    · intro r time closed unpacked kept
      have shape (fmt : Format) (stream : List (Pair × Bool)) (tally : Tally) : closed fmt stream tally =
          { (pulseBanks s).closedAs g { s.slot i with role := ((pulseBanks s).slot i).role } fmt stream tally with
            role := (t.slot i).role } := by
        unfold State.closedAs
        rw [← p.activeBank] <;> rfl
      have timeOf : time = g.closeTime := rfl
      have slotOf := p.slot_closed current slot
      have rebuilds := p.rebuilds current slot
      obtain ⟨steady, changed⟩ := p.role current slot
      obtain ⟨old, play⟩ := roleFor_cases t time
      have read (fmt : Format) (closes : (pulseBanks s).closedSlot g { s.slot i with role := ((pulseBanks s).slot i).role } =
          { (pulseBanks s).closedAs g { s.slot i with role := ((pulseBanks s).slot i).role } fmt (framePairs fmt g.tag g.held)
            (frameTally g.tag g.held) with
            role := if (s.slot i).frameTime = some g.closeTime then ((pulseBanks s).slot i).role
              else some ((pulseBanks s).roleFor g.closeTime) }) : unpacked fmt := by
        rw [closes] at slotOf rebuilds
        exact ⟨slotOf.trans (shape ..).symm, rebuilds⟩
      refine ⟨?_, steady, fun h => ?_, fun none => ?_, fun x valid => ?_, fun k one => p.alone current slot one⟩
      · exact p.mem_list (by rw [p.closed_corrected current slot]; simp) (p.closed_stays current slot)
      · have role := changed h
        exact ⟨fun spans => role.trans (old spans), fun outside => role.trans (play outside)⟩
      · obtain ⟨unread, mute⟩ := p.invalid current slot none
        refine ⟨?_, unread, mute⟩
        have format : (pulseBanks s).activeFormat = ⟨bank.rate, bank.tapeWordLength⟩ := by
          unfold State.activeFormat
          rw [← p.activeBank]
        rw [← format]
        exact read _ (closedSlot_invalid none)
      · have reads := p.reads state current slot valid
        refine ⟨fun rate => ⟨read _ (closedSlot_valid valid (rate.trans (congrArg Bank.rate p.activeBank))), by
            rw [reads.mismatch]; exact if_pos rate, reads.mute (.inl rate)⟩, fun rate => ?_,
          reads.heldTape, reads.startRun, reads.offered, reads.withheld⟩
        have foreign := closedSlot_foreign (s := pulseBanks s) (v := { s.slot i with role := ((pulseBanks s).slot i).role }) valid
          (by rw [← p.activeBank]; exact rate)
        rw [foreign] at slotOf rebuilds
        refine ⟨?_, rebuilds, by rw [reads.mismatch]; exact if_neg rate, fun known => reads.mute (.inr known), fun other => ?_⟩
        · rw [shape]
          exact slotOf
        · obtain ⟨l, mem, kind, time, origin, argument⟩ := reads.foreign rate other
          exact ⟨l, mem, kind, time, origin, argument.trans (by cases x.rate <;> rfl)⟩
    · obtain ⟨status, expected, next, currentOf, nextOf⟩ := p.tracker
      intro e fresh
      have eOf : (pulseBanks s).unaimed.decoder.expected = e := expected
      obtain ⟨first, rest⟩ := aimedFrame_cases (pulseBanks s).unaimed
      rw [next, eOf] at first rest
      refine ⟨fun none => currentOf.trans (congrArg some (first none)), fun n nextS => ?_, fun c isCurrent => ?_⟩
      · obtain ⟨same, untagged, stale⟩ := rest n nextS
        refine ⟨fun tag => currentOf.trans (congrArg some (same tag)), fun tag slot => currentOf.trans (congrArg some (untagged tag slot)),
          fun k tag slot => ⟨fun locked => ?_, fun unlocked => ?_⟩⟩
        · obtain ⟨aimed, gone⟩ := (stale k tag slot).1 (status.symm.trans locked)
          exact ⟨currentOf.trans (congrArg some aimed), p.stale_gone gone⟩
        · exact currentOf.trans (congrArg some ((stale k tag slot).2 (by rw [← status]; exact unlocked)))
      · obtain rfl := Option.some.inj (currentOf.symm.trans isCurrent)
        rw [eOf] at nextOf
        refine ⟨nextOf, fun k slot => ?_⟩
        rw [← eOf]
        exact p.next_slot slot

end Sys2Proof.Proofs
end

section
/-! What the parts of a frame pulse leave of the record path: the slots of INPUT that wait or are written, the FREE ones, the write
frame, the mark record and, in RECORD, the trim (R24, R26 to R29, R39, R54, R135). -/

namespace Sys2Proof.Machine

-- One theorem after another: each one elaborated at the same time would hold a stack of its own.
set_option Elab.async false

/-- A slot that nothing but a write window, a capture slot, or a change of the take span moves on. -/
def Slot.lasting (v : Slot) : Prop := v.state = .capturing ∨ v.state = .mixed ∨ v.state = .writing ∨ v.state = .free

/-- A slot of material from the tape. -/
def Slot.played (v : Slot) : Prop := v.state = .gathering ∨ v.state = .corrected ∨ v.state = .concealed ∨ v.state = .playing

theorem Slot.lasting_or_played (v : Slot) : v.lasting ∨ v.state = .captured ∨ v.played := by
  unfold Slot.lasting Slot.played
  cases v.state <;> simp

theorem Slot.played.aside {v : Slot} (h : v.played) : ¬ v.lasting ∧ v.state ≠ .captured ∧ v.state ≠ .free := by
  unfold Slot.lasting
  rcases h with e | e | e | e <;> rw [e] <;> decide

section
variable {s t u : State} {i : Nat} {l : List Nat}

/-- A CONCEALED slot stands as it is, but for the role that a change of the take span gives it again, which is none to a slot that
takes part in a mix (R23). -/
structure Stands (i : Nat) (s t : State) : Prop extends Follows i s t where
  mixed : (s.slot i).mixed = true → t.slot i = s.slot i

theorem Stands.same (slot : t.slot i = s.slot i) (punches : s.samePunches t) : Stands i s t := ⟨Follows.same slot punches, fun _ => slot⟩

theorem Stands.trans (h : Stands i s t) (k : Stands i t u) (banks : u.banks = t.banks) : Stands i s u :=
  ⟨h.toFollows.trans k.toFollows banks, fun mixed => by
    have first := h.mixed mixed
    rw [k.mixed (by rw [first]; exact mixed), first]⟩

/-- The record path stands: CAPTURED slots may be taken by the Edit Mixer, and OLD slots be freed or change their role with the take
span, and nothing else happens to it. -/
structure Bides (s t : State) : Prop where
  banks : t.banks = s.banks
  slot : ∀ i, (s.slot i).lasting → t.slot i = s.slot i
  captured : ∀ i, (s.slot i).state = .captured →
    t.slot i = s.slot i ∨ (t.slot i).state = .mixed ∧ (t.slot i).frameTime = (s.slot i).frameTime
  played : ∀ i, (s.slot i).played → (t.slot i).played ∨ (t.slot i).state = .free
  concealed : ∀ i, (s.slot i).state = .concealed → (t.slot i).state = .free ∨ Stands i s t
  queue : t.store.writeQueue = s.store.writeQueue
  capture : t.store.captureList.Sublist s.store.captureList
  fields : t.copy.inputFields.Sublist s.copy.inputFields
  coder : (∀ w ∈ s.coder.current, (s.slot w.slot).state = .writing) → t.coder = s.coder
  mark : t.cues.mark = s.cues.mark
  trim : s.transport.state = .record → t.transport.state = .record ∧ s.keepsTrim t

theorem Bides.writing (h : Bides s t) (writing : ∀ w ∈ s.coder.current, (s.slot w.slot).state = .writing) :
    ∀ w ∈ t.coder.current, (t.slot w.slot).state = .writing := fun w hw => by
  rw [h.coder writing] at hw
  rw [h.slot w.slot (.inr (.inr (.inl (writing w hw))))]
  exact writing w hw

theorem Bides.trans (h : Bides s t) (k : Bides t u) : Bides s u where
  banks := k.banks.trans h.banks
  slot := fun i lasting => by
    have first := h.slot i lasting
    rw [k.slot i (by rw [first]; exact lasting), first]
  captured := fun i captured => by
    rcases h.captured i captured with same | ⟨mixed, time⟩
    · have second := k.captured i (by rw [same]; exact captured)
      rw [same] at second
      exact second
    · have second := k.slot i (.inr (.inl mixed))
      exact .inr ⟨by rw [second]; exact mixed, by rw [second]; exact time⟩
  played := fun i played => by
    rcases h.played i played with still | free
    · exact k.played i still
    · exact .inr (by rw [k.slot i (.inr (.inr (.inr free)))]; exact free)
  concealed := fun i concealed => by
    rcases h.concealed i concealed with free | follows
    · exact .inl (by rw [k.slot i (.inr (.inr (.inr free)))]; exact free)
    · rcases k.concealed i (by rw [follows.slot]; exact concealed) with free | second
      · exact .inl free
      · exact .inr (follows.trans second k.banks)
  queue := k.queue.trans h.queue
  capture := k.capture.trans h.capture
  fields := k.fields.trans h.fields
  coder := fun writing => (k.coder (h.writing writing)).trans (h.coder writing)
  mark := k.mark.trans h.mark
  trim := fun record => by
    obtain ⟨state, trim, demand⟩ := h.trim record
    obtain ⟨state', trim', demand'⟩ := k.trim state
    exact ⟨state', trim'.trans trim, demand'.trans demand⟩

/-- A stage that leaves the slots and the punches alone. -/
theorem Bides.of (banks : t.banks = s.banks := by rfl) (slots : t.store.slots = s.store.slots := by rfl)
    (punches : s.samePunches t := by exact ⟨rfl, rfl, rfl⟩)
    (queue : t.store.writeQueue = s.store.writeQueue := by rfl) (capture : t.store.captureList = s.store.captureList := by rfl)
    (fields : t.copy.inputFields = s.copy.inputFields := by rfl) (coder : t.coder = s.coder := by rfl)
    (mark : t.cues.mark = s.cues.mark := by rfl)
    (trim : s.transport.state = .record → t.transport.state = .record ∧ s.keepsTrim t := by exact fun h => ⟨h, rfl, rfl⟩) :
    Bides s t := by
  have slot (i : Nat) : t.slot i = s.slot i := by
    unfold State.slot
    rw [slots]
  exact ⟨banks, fun i _ => slot i, fun i _ => .inl (slot i), fun i played => .inl (by rw [slot]; exact played),
    fun i _ => .inr (.same (slot i) punches), queue, by rw [capture], by rw [fields], fun _ => coder, mark, trim⟩

theorem Bides.refl (s : State) : Bides s s := .of

/-! ### Work on slots of the tape's material -/

/-- In RECORD a change of the collections that leaves W judges nothing. -/
theorem withDepths_record {f : State → State} (record : (f s).transport.state = .record) (depthW : (f s).depthW = s.depthW) :
    withDepths f s = f s :=
  withDepths_unjudged (fun q => by rw [q.1] at record; cases record) depthW

theorem keepsTrim_freeSlots (unqueued : ∀ i ∈ l, i ∉ s.store.writeQueue) (record : s.transport.state = .record) :
    s.keepsTrim (freeSlots l s) := by
  obtain ⟨transport, trim⟩ := transport_foldl_freeOne l s
  have same : freeSlots l s = l.foldl freeOne s := by
    refine withDepths_record (f := fun t => l.foldl freeOne t) (by rw [transport]; exact record) ?_
    unfold State.depthW
    rw [(foldl_freeOne_frees l s).writeQueue, List.filter_eq_self.2 fun i queued => by simpa using fun freed => unqueued i freed queued]
  rw [same]
  exact ⟨trim, by rw [transport]⟩

/-- The write queue holds no material from the tape. -/
def State.queueApart (s : State) : Prop := ∀ i ∈ s.store.writeQueue, ¬ (s.slot i).played

theorem queueApart_of (sound : SoundWith l s) : s.queueApart := fun i queued played => by
  have states := sound.mem_writeQueue.1 queued
  rcases played with e | e | e | e <;> rw [e] at states <;> simp at states

theorem Bides.apart (h : Bides s t) (apart : s.queueApart) : t.queueApart := fun i queued played => by
  rw [h.queue] at queued
  rcases Slot.lasting_or_played (s.slot i) with lasting | captured | still
  · rw [h.slot i lasting] at played
    exact played.aside.1 lasting
  · rcases h.captured i captured with same | ⟨mixed, -⟩
    · rw [same] at played
      exact played.aside.2.1 captured
    · exact played.aside.1 (.inr (.inl mixed))
  · exact apart i queued still

/-- Slots freed that hold material from the tape. -/
theorem bides_freeSlots (apart : s.queueApart) {fs : List Nat} (aside : ∀ i ∈ fs, (s.slot i).played) : Bides s (freeSlots fs s) := by
  have frees := freeSlots_frees fs s
  have unqueued : ∀ i ∈ fs, i ∉ s.store.writeQueue := fun i hi queued => apart i queued (aside i hi)
  have trim := keepsTrim_freeSlots unqueued
  generalize freeSlots fs s = t at frees trim ⊢
  have kept {i : Nat} (h : i ∉ fs) : t.slot i = s.slot i := by rw [frees.slot, if_neg h]
  refine ⟨frees.work.banks, fun i lasting => kept fun hi => (aside i hi).aside.1 lasting,
    fun i captured => .inl (kept fun hi => (aside i hi).aside.2.1 captured), fun i played => ?_, fun i concealed => ?_, ?_, ?_, ?_,
    fun writing => ?_, by rw [frees.work.cues], fun record => ⟨frees.work.state.trans record, trim record⟩⟩
  · by_cases hi : i ∈ fs
    · exact .inr (by rw [frees.slot, if_pos hi] <;> rfl)
    · exact .inl (by rw [kept hi]; exact played)
  · by_cases hi : i ∈ fs
    · exact .inl (by rw [frees.slot, if_pos hi] <;> rfl)
    · refine .inr (.same (kept hi) ?_)
      unfold State.samePunches
      rw [frees.work.mixer]
      exact ⟨rfl, rfl, rfl⟩
  · rw [frees.writeQueue]
    exact List.filter_eq_self.2 fun i queued => by simpa using fun freed => unqueued i freed queued
  · rw [frees.captureList]
    exact List.filter_sublist
  · rw [frees.inputFields]
    exact List.filter_sublist
  · rw [frees.work.coder, frees.current]
    have still : s.coder.current.filter (·.slot ∉ fs) = s.coder.current := by
      cases current : s.coder.current with
      | none => rfl
      | some w =>
        have stays : w.slot ∉ fs := fun hi => (aside w.slot hi).aside.1 (.inr (.inr (.inl (writing w current))))
        rw [Option.filter_some, if_pos (by simpa using stays)]
    rw [still]

/-- A slot written that holds material from the tape, before and after, and is not CONCEALED before. -/
theorem bides_setSlot {i : Nat} {v : Slot} (before : (s.slot i).state = .gathering ∨ (s.slot i).state = .corrected) (after : v.played) :
    Bides s (setSlot i v s) := by
  have other {k : Nat} (h : (s.slot k).state ≠ .gathering ∧ (s.slot k).state ≠ .corrected) : (setSlot i v s).slot k = s.slot k := by
    rw [slot_setSlot, if_neg]
    rintro ⟨rfl, -⟩
    exact before.elim h.1 h.2
  refine ⟨rfl, fun k lasting => other ?_, fun k captured => .inl (other (by rw [captured]; decide)), fun k played => ?_,
    fun k concealed => .inr (.same (other (by rw [concealed]; decide)) ⟨rfl, rfl, rfl⟩), rfl, .refl _, .refl _, fun _ => rfl, rfl,
    fun record => ⟨record, rfl, rfl⟩⟩
  · rcases lasting with e | e | e | e <;> rw [e] <;> decide
  · rw [slot_setSlot]
    split
    · exact .inl after
    · exact .inl played

/-! ### The Edit Mixer and the take span (R23, R28, R146) -/

theorem bides_takeSlot (apart : s.queueApart) {i : Nat} (captured : (s.slot i).state = .captured) : Bides s (takeSlot i s) := by
  have old : ∀ k ∈ (s.oldSlot ((s.slot i).frameTime.getD 0)).toList, (s.slot k).state = .concealed := fun k hk =>
    (oldSlot_spec (Option.mem_toList.1 hk)).2.2.1
  unfold takeSlot
  dsimp only
  generalize s.oldSlot ((s.slot i).frameTime.getD 0) = o at old ⊢
  generalize hv : ({ s.slot i with state := .mixed, copyField := _, pairs := _, mixed := _ } : Slot) = v
  have mixed : v.state = .mixed ∧ v.frameTime = (s.slot i).frameTime := by
    subst hv
    exact ⟨rfl, rfl⟩
  have other {k : Nat} (h : (s.slot k).state ≠ .captured) : (setSlot i v s).slot k = s.slot k := by
    rw [slot_setSlot, if_neg]
    rintro ⟨rfl, -⟩
    exact h captured
  have written : Bides s { setSlot i v s with
      store := { (setSlot i v s).store with captureList := (setSlot i v s).store.captureList.filter (· != i) }
      copy := { (setSlot i v s).copy with inputFields := (setSlot i v s).copy.inputFields.filter (·.1 != i) } } := by
    refine ⟨rfl, fun k lasting => other ?_, fun k capturedOf => ?_, fun k played => .inl ?_, fun k concealed => .inr (.same (other ?_) ⟨rfl, rfl, rfl⟩),
      rfl, List.filter_sublist, List.filter_sublist, fun _ => rfl, rfl, fun record => ⟨record, rfl, rfl⟩⟩
    · rcases lasting with e | e | e | e <;> rw [e] <;> decide
    · show (setSlot i v s).slot k = s.slot k ∨
        ((setSlot i v s).slot k).state = .mixed ∧ ((setSlot i v s).slot k).frameTime = (s.slot k).frameTime
      rw [slot_setSlot]
      split
      · next same => exact .inr ⟨mixed.1, by rw [same.1]; exact mixed.2⟩
      · exact .inl rfl
    · show ((setSlot i v s).slot k).played
      rw [other played.aside.2.1]
      exact played
    · rw [concealed]
      decide
  refine written.trans (bides_freeSlots (written.apart apart) fun k hk => ?_)
  show ((setSlot i v s).slot k).played
  rw [other (by rw [old k hk]; decide)]
  exact .inr (.inr (.inl (old k hk)))

theorem bides_mixerRun (apart : s.queueApart) (n : Nat) : Bides s (mixerRun n s) := by
  induction n generalizing s with
  | zero => exact .refl s
  | succ n ih =>
    unfold mixerRun
    split
    · exact .refl s
    · dsimp only
      split
      · next ready =>
        have taken := bides_takeSlot apart ready.1
        exact taken.trans (ih (taken.apart apart))
      · exact .refl s

theorem bides_mixerJudge (apart : s.queueApart) : Bides s (mixerJudge s) := bides_mixerRun apart _

/-- Every slot that waits lies in the take span. -/
def State.waitsInside (s : State) : Prop := ∀ i, (s.slot i).state = .capturing ∨ (s.slot i).state = .captured ∨ (s.slot i).state = .mixed →
  s.inSpan ((s.slot i).frameTime.getD 0) = true

/-- The state in which the Edit Mixer judges after a change of the take span that no waiting slot leaves. -/
def State.spanned (s : State) : State :=
  if (setRoles s).mixer.punchIn = none then { setRoles s with copy := { (setRoles s).copy with latched := false } } else setRoles s

theorem spanChanged_inside (inside : s.waitsInside) : spanChanged s = mixerJudge s.spanned := by
  have work := slotWork_setRoles s
  have span : (setRoles s).inSpan = s.inSpan := funext fun f =>
    inSpan_congr work.mixer (congrArg (fun b : Bank => b.rate.pairs) (activeBank_of work.banks)) f
  have none : (setRoles s).slotsWhere (setRoles s).outsideSpan = [] := by
    refine List.filter_eq_nil_iff.2 fun i _ outside => ?_
    have states := outsideSpan_state outside
    rw [slot_setRoles] at states outside
    have here : (s.slot i).state = .capturing ∨ (s.slot i).state = .captured ∨ (s.slot i).state = .mixed := by
      split at states
      · exact states
      · exact states
    have time : (if (s.slot i).rolesAgain then { s.slot i with role := some (s.roleFor ((s.slot i).frameTime.getD 0)) }
        else s.slot i).frameTime = (s.slot i).frameTime := by split <;> rfl
    unfold State.outsideSpan at outside
    rw [time, span, inside i here] at outside
    simp at outside
  unfold spanChanged
  dsimp only
  rw [none, freeSlots_nil] <;> rfl

/-- A change of the punches that no waiting slot leaves the span of. -/
theorem bides_spanChanged {u : State} (apart : s.queueApart) (inside : u.waitsInside) (ahead : u.mixer.ahead < s.mixer.ahead)
    (slots : u.store.slots = s.store.slots := by rfl) (banks : u.banks = s.banks := by rfl)
    (queue : u.store.writeQueue = s.store.writeQueue := by rfl) (capture : u.store.captureList = s.store.captureList := by rfl)
    (fields : u.copy.inputFields = s.copy.inputFields := by rfl) (coder : u.coder = s.coder := by rfl)
    (mark : u.cues.mark = s.cues.mark := by rfl)
    (trim : s.transport.state = .record → u.transport.state = .record ∧ s.keepsTrim u := by exact fun h => ⟨h, rfl, rfl⟩) :
    Bides s (spanChanged u) := by
  have slotOf (i : Nat) : u.slot i = s.slot i := by
    unfold State.slot
    rw [slots]
  have work := slotWork_setRoles u
  obtain ⟨trim', demand, trimmed⟩ := withDepths_trimmed (fun t => { t with store := { t.store with
    slots := t.store.slots.map fun v => if v.rolesAgain then { v with role := some (t.roleFor (v.frameTime.getD 0)) } else v } }) u
  have lists : (setRoles u).store.writeQueue = u.store.writeQueue ∧ (setRoles u).store.captureList = u.store.captureList ∧
      (setRoles u).copy.inputFields = u.copy.inputFields ∧ (setRoles u).coder = u.coder ∧ (setRoles u).cues = u.cues := by
    unfold setRoles
    rw [trimmed]
    exact ⟨rfl, rfl, rfl, rfl, rfl⟩
  obtain ⟨queueOf, captureOf, fieldsOf, coderOf, cuesOf⟩ := lists
  have roleOf : (setRoles u).roleFor = u.roleFor := funext fun f => State.samePunches.roleFor
    ⟨congrArg Mixer.punchIn work.mixer, congrArg Mixer.punchOut work.mixer, congrArg Mixer.gateOpen work.mixer⟩ work.banks f
  have again {i : Nat} (h : ¬ (s.slot i).played) : (setRoles u).slot i = s.slot i := by
    rw [slot_setRoles, slotOf, if_neg]
    intro again
    unfold Slot.rolesAgain at again
    simp only [Bool.and_eq_true, Bool.or_eq_true, beq_iff_eq] at again
    exact h (by unfold Slot.played; tauto)
  have stateOf (i : Nat) : ((setRoles u).slot i).state = (s.slot i).state := by
    rw [slot_setRoles, slotOf]
    split <;> rfl
  have roles : Bides s (setRoles u) := by
    refine ⟨work.banks.trans banks, fun i lasting => again fun played => played.aside.1 lasting,
      fun i captured => .inl (again fun played => played.aside.2.1 captured), fun i played => .inl ?_, fun i concealed => .inr ⟨⟨?_, .inr ⟨?_, ?_⟩⟩, fun mixed => ?_⟩,
      queueOf.trans queue, by rw [captureOf, capture], by rw [fieldsOf, fields], fun _ => coderOf.trans coder,
      (congrArg CueTable.mark cuesOf).trans mark, fun record => ?_⟩
    · unfold Slot.played at played ⊢
      rw [stateOf]
      exact played
    · rw [slot_setRoles, slotOf]
      split <;> rfl
    · rw [work.mixer]
      exact ahead
    · intro mixed spans
      have again : (s.slot i).rolesAgain = true := by
        unfold Slot.rolesAgain
        unfold Slot.spanRole at spans
        simp only [mixed, concealed, Bool.not_false, Bool.true_and, Bool.and_eq_true, Bool.or_eq_true, beq_iff_eq]
        exact ⟨spans.symm, .inr trivial⟩
      rw [roleOf, slot_setRoles, slotOf, if_pos again]
    · rw [slot_setRoles, slotOf, if_neg]
      unfold Slot.rolesAgain
      rw [mixed]
      simp
    · obtain ⟨state, trim, demand⟩ := trim record
      obtain ⟨-, keeps⟩ := setRoles_followsQ u
      obtain ⟨trim', demand'⟩ := keeps (.inl fun q => by rw [q.1] at state; cases state)
      exact ⟨work.state.trans state, trim'.trans trim, demand'.trans demand⟩
  have spanned : Bides s u.spanned := by
    unfold State.spanned
    split
    · have opened : Bides (setRoles u) { setRoles u with copy := { (setRoles u).copy with latched := false } } := .of
      exact roles.trans opened
    · exact roles
  rw [spanChanged_inside inside]
  exact spanned.trans (bides_mixerJudge (spanned.apart apart))

end
end Sys2Proof.Machine
end

section
/-! The record path from the beginning of a frame pulse to its record gate, and past it (R31, R32, R65, R68 to R75, R145, R148, R149). -/

namespace Sys2Proof.Machine

-- One theorem after another: each one elaborated at the same time would hold a stack of its own.
set_option Elab.async false

section
variable {s t u : State} {g : GatherFrame} {i : Nat} {l : List Nat}

/-! ### The close (R31, R68 to R71) -/

theorem takeMarker_mark (time number : Nat) (s : State) : (takeMarker time number s).cues.mark = s.cues.mark := by
  unfold takeMarker
  dsimp only
  split
  · rfl
  · split
    · rfl
    · split <;> rfl

theorem handOnSubcode_mark (r : Subcode) (s : State) : (handOnSubcode r s).cues.mark = s.cues.mark := by
  unfold handOnSubcode offerMarker
  dsimp only
  split
  · exact takeMarker_mark ..
  · rfl

theorem bides_stepTime (s : State) : Bides s { s with decoder := s.decoder.stepTime } := .of

theorem bides_closeSlot (gathering : (s.slot i).state = .gathering) : Bides s (closeSlot g i s) := by
  have marked : Bides s (markSuccessor s) := by
    unfold markSuccessor
    split
    · split
      · next k last =>
        have corrected : (s.slot k).state = .corrected := by
          simpa using (List.mem_filter.1 (List.mem_of_getLast? last)).2
        exact bides_setSlot (.inr corrected) (.inr (.inl corrected))
      · exact .refl s
    · exact .refl s
  have state : ((markSuccessor s).slot i).state = .gathering := by
    unfold markSuccessor
    split
    · split
      · show ((setSlot _ _ s).slot i).state = _
        rw [slot_setSlot]
        split
        · next same => rw [← gathering, same.1]
        · exact gathering
      · exact gathering
    · exact gathering
  unfold closeSlot
  dsimp only
  generalize markSuccessor s = a at marked state ⊢
  obtain ⟨corrected, -⟩ := closedSlot_facts a g (a.slot i)
  generalize a.closedSlot g (a.slot i) = v at corrected ⊢
  have written : Bides s { setSlot i v a with decoder := { (setSlot i v a).decoder with closedLast := true } } :=
    (marked.trans (bides_setSlot (.inl state) (.inr (.inl corrected)))).trans .of
  generalize ({ setSlot i v a with decoder := { (setSlot i v a).decoder with closedLast := true } } : State) = b at written ⊢
  have counted : Bides s (if v.tally.rebuilt = 0 then b else count .blocksRebuilt v.tally.rebuilt b) := by
    split
    · exact written
    · exact written.trans .of
  generalize (if v.tally.rebuilt = 0 then b else count .blocksRebuilt v.tally.rebuilt b) = c at counted ⊢
  split
  · exact counted
  · next r _ =>
    obtain ⟨m, reports, judged, -⟩ := judgeMismatch_leaves r c
    obtain ⟨cues, reports', on, -⟩ := handOnSubcode_leaves r (judgeMismatch r c)
    have mark := handOnSubcode_mark r (judgeMismatch r c)
    rw [on, judged] at mark ⊢
    exact counted.trans (.of (mark := mark))

theorem bides_closing (sound : s.storeSound) : Bides s s.closing := by
  obtain ⟨held, -⟩ := storeSound_iff.1 sound
  obtain ⟨-, -, -, gathering⟩ := held.gathered
  unfold State.closing
  split
  · exact bides_stepTime s
  · next g current =>
    unfold closeFrame
    split
    · next i slot =>
      refine (bides_stepTime s).trans (bides_closeSlot (gathering i ?_))
      unfold State.gatheringSlots
      rw [current]
      simp [slot]
    · exact .of

/-! ### What waits goes on waiting -/

/-- A slot that waits has waited, for the same frame. -/
theorem Bides.waits (h : Bides s t) (waits : (t.slot i).state = .capturing ∨ (t.slot i).state = .captured ∨ (t.slot i).state = .mixed) :
    ((s.slot i).state = .capturing ∨ (s.slot i).state = .captured ∨ (s.slot i).state = .mixed) ∧
    (t.slot i).frameTime = (s.slot i).frameTime := by
  rcases Slot.lasting_or_played (s.slot i) with lasting | captured | played
  · have same := h.slot i lasting
    rw [same] at waits ⊢
    exact ⟨waits, rfl⟩
  · refine ⟨.inr (.inl captured), ?_⟩
    rcases h.captured i captured with same | ⟨-, time⟩
    · rw [same]
    · exact time
  · rcases h.played i played with still | free
    · obtain ⟨lasting, captured, -⟩ := still.aside
      unfold Slot.lasting at lasting
      tauto
    · rw [free] at waits
      simp at waits

theorem Bides.inside (h : Bides s t) (inside : s.waitsInside) (span : ∀ f, s.inSpan f = true → t.inSpan f = true) : t.waitsInside :=
  fun i waits => by
    obtain ⟨waited, time⟩ := h.waits waits
    rw [time]
    exact span _ (inside i waited)

theorem waitsInside_of (sound : s.storeSound) (recorded : s.recordSound) : s.waitsInside := fun i waits => by
  obtain ⟨held, -⟩ := storeSound_iff.1 sound
  obtain ⟨-, -, -, -, span, -⟩ := recorded
  refine (span _ (List.mem_map.2 ⟨i, List.mem_append.2 ?_, rfl⟩)).1
  rw [held.mem_captureList, held.mem_writeQueue]
  tauto

/-- The loss of a timed punch-out takes no frame from the take span. -/
theorem inSpan_endless {x : Mixer} {f : Nat} (punchIn : x.punchIn = s.mixer.punchIn) (punchOut : x.punchOut = none)
    (inside : s.inSpan f = true) : State.inSpan { s with mixer := x } f = true := by
  unfold State.inSpan at inside ⊢
  dsimp only
  rw [punchIn, punchOut]
  cases punch : s.mixer.punchIn with
  | none => rw [punch] at inside; cases inside
  | some p =>
    rw [punch] at inside
    simp only [Bool.and_eq_true] at inside ⊢
    exact ⟨inside.1, trivial⟩

/-! ### The judgement (R73, R74, R145) -/

theorem bides_withdrawPunchOut (apart : s.queueApart) (inside : s.waitsInside) (punched : s.punched) : Bides s (withdrawPunchOut s) := by
  unfold withdrawPunchOut
  split
  · next o punch =>
    split
    · next due =>
      obtain ⟨p, scheduled⟩ := Option.isSome_iff_exists.1 (punched due.1)
      have gone : Bides s (spanChanged { s with mixer := { s.mixer with punchOut := none, committed := false } }) :=
        bides_spanChanged apart (fun i waits => inSpan_endless rfl rfl (inside i waits)) (by
          unfold Mixer.ahead
          simp [due.1, scheduled, punch])
      dsimp only
      generalize spanChanged { s with mixer := { s.mixer with punchOut := none, committed := false } } = w at gone ⊢
      obtain ⟨x, handed⟩ := handOffIf_eq (o.origin == .list) (.punchFailed .time)
        (logEntry .punchCancelled w.timeNow o.origin CancelReason.time.code w)
      rw [handed]
      exact gone.trans .of
    · exact .refl s
  · exact .refl s

/-- The time neither jumps nor takes a scheduled punch-in with it. -/
def State.timeKept (s : State) : Prop := s.transport.state = .record ∨ s.foundTime = some s.predictedTime ∨
  s.foundTime = none ∧ s.decoder.holdover < s.activeBank.holdover

theorem State.timeKept.found (h : s.timeKept) :
    s.foundTime = some s.predictedTime ∨ s.foundTime = none ∨ s.transport.state = .record := by
  rcases h with record | confirmed | ⟨none, -⟩
  · exact .inr (.inr record)
  · exact .inl confirmed
  · exact .inr (.inl none)

theorem bides_judging (sound : s.storeSound) (gate : s.gateAgrees) (inside : s.waitsInside) (within : s.decoder.holdover ≤ s.activeBank.holdover)
    (kept : s.timeKept) : Bides s s.judging := by
  have closed := bides_closing sound
  obtain ⟨held, -⟩ := storeSound_iff.1 sound
  have apart := closed.apart (queueApart_of held)
  have mixer : s.closing.mixer = s.mixer := (stage_closing s).mixer
  have bank : s.closing.activeBank = s.activeBank := activeBank_of (stage_closing s).banks
  obtain ⟨-, -, status, holdover⟩ := closing_time s
  have insideOf : s.closing.waitsInside := closed.inside inside fun f h => by
    rw [inSpan_congr mixer (congrArg (fun b : Bank => b.rate.pairs) bank)]
    exact h
  by_cases confirmed : s.foundTime = some s.predictedTime
  · rw [judging_confirmed confirmed]
    exact closed.trans .of
  by_cases current : s.decoder.current.isSome = true
  · have found := kept.found.resolve_left confirmed
    rw [judging_invalid ⟨current, found.imp_right fun record => ⟨record, confirmed⟩⟩]
    by_cases known : s.decoder.status = .locked ∨ s.decoder.status = .holdover
    · by_cases below : s.decoder.holdover < s.activeBank.holdover
      · rw [judgeInvalid_holds (by rw [status]; exact known) (by rw [holdover, bank]; exact below)]
        exact closed.trans .of
      · have record : s.transport.state = .record := by
          rcases kept with record | confirmed' | ⟨-, below'⟩
          · exact record
          · exact absurd confirmed' confirmed
          · exact absurd below' below
        have opened : s.mixer.gateOpen = true := gate.1.2 record
        rw [judgeInvalid_loses (by rw [status]; exact known) (by rw [holdover, bank]; exact below), enterLost_eq,
          withdrawPunches_taken (s := s.closing.lossSeen) (by
            show s.closing.mixer.taken = true
            rw [mixer, gate.2.1]
            exact opened)]
        have seen : Bides s.closing s.closing.lossSeen := .of
        have punchedOf : s.closing.punched := by
          unfold State.punched
          rw [mixer]
          exact punched_of gate
        exact (closed.trans seen).trans (bides_withdrawPunchOut (s := s.closing.lossSeen) (seen.apart apart) insideOf punchedOf)
    · rw [judgeInvalid_stays (by rw [status]; cases known' : s.decoder.status <;> simp_all)]
      exact closed
  · rw [judging_none (by simpa using current)]
    exact closed

/-! ### The aim and the takes (R32, R65) -/

theorem bides_lostSeen (s : State) : Bides s (lostSeen s) := by
  unfold lostSeen
  split
  · exact .of
  · exact .refl s

theorem bides_aim (sound : SoundWith s.decoder.nextSlot.toList s) : Bides s (aim s) := by
  obtain ⟨-, -, -, gathering⟩ := sound.gathered
  have next : ∀ k, k ∈ s.staleSlot.toList ∨ s.aimedFrame.slot = some k → (s.slot k).state = .gathering := fun k hk => by
    refine gathering k ?_
    rcases aimed_slots s with ⟨stale, aimed⟩ | ⟨stale, aimed⟩ <;> rw [stale, aimed] at hk <;> simpa using hk
  have freed : Bides s (freeOption s.staleSlot s) := by
    unfold freeOption
    split
    · next k stale =>
      exact bides_freeSlots (queueApart_of sound) fun i hi => by
        obtain rfl := List.mem_singleton.1 hi
        exact .inl (next i (.inl (by simp [stale])))
    · exact .refl s
  have frees := frees_freeOption s.staleSlot s
  obtain ⟨frame, -, aimed⟩ := aim_eq s
  rw [aimed]
  have stays {k : Nat} (at_k : s.aimedFrame.slot = some k) : k ∉ s.staleSlot.toList := by
    rcases aimed_slots s with ⟨stale, -⟩ | ⟨-, none⟩
    · rw [stale]
      simp
    · rw [none] at at_k
      cases at_k
  generalize freeOption s.staleSlot s = u at freed frees ⊢
  have timed : Bides s (timeSlot s.aimedFrame.slot s.decoder.expected u) := by
    unfold timeSlot
    split
    · next k at_k =>
      have state : (u.slot k).state = .gathering := by
        rw [frees.slot, if_neg (stays at_k)]
        exact next k (.inr at_k)
      exact freed.trans (bides_setSlot (.inl state) (.inl state))
    · exact freed
  exact timed.trans .of

theorem bides_takeFrame {last : Nat} {ahead : LookAhead} (apart : s.queueApart) (queued : ∀ k ∈ s.store.outputQueue, (s.slot k).state = .concealed)
    (corrected : (s.slot i).state = .corrected) : Bides s (takeFrame last i ahead s) := by
  rw [takeFrame_eq]
  generalize concealPairs _ _ ahead _ _ = r
  have written : Bides s (s.frameTaken i r) := by
    have begun : Bides s { s with conceal := r.unit } := .of
    have set : Bides s (setSlot i (s.concealedSlot i r) { s with conceal := r.unit }) :=
      begun.trans (bides_setSlot (s := { s with conceal := r.unit }) (.inr corrected) (.inr (.inr (.inl rfl))))
    unfold State.frameTaken
    dsimp only
    split
    · exact set
    · exact set.trans .of
  obtain ⟨store, -⟩ := frameTaken_leaves s i r
  have queue : (s.frameTaken i r).store.outputQueue = s.store.outputQueue := by rw [store] <;> rfl
  have slotOf (k : Nat) : (s.frameTaken i r).slot k = (setSlot i (s.concealedSlot i r) s).slot k := by
    unfold State.slot
    rw [store]
  have playedOf : ∀ k ∈ s.store.outputQueue, ((s.frameTaken i r).slot k).played := fun k hk => by
    rw [slotOf, slot_setSlot]
    split
    · exact .inr (.inr (.inl rfl))
    · exact .inr (.inr (.inl (queued k hk)))
  have taken : ((s.frameTaken i r).slot i).played := by
    rw [slotOf, slot_setSlot]
    split
    · exact .inr (.inr (.inl rfl))
    · exact .inr (.inl corrected)
  generalize s.frameTaken i r = w at written queue playedOf taken ⊢
  unfold joinOutput
  dsimp only
  have late : ∀ k ∈ w.outOfOrder ((w.slot i).frameTime.getD 0), (w.slot k).played := fun k hk =>
    playedOf k (by rw [← queue]; exact (List.mem_filter.1 hk).1)
  generalize w.outOfOrder ((w.slot i).frameTime.getD 0) = fs at late ⊢
  have freed := written.trans (bides_freeSlots (written.apart apart) late)
  have frees := freeSlots_frees fs w
  generalize freeSlots fs w = x at freed frees ⊢
  have joins : Bides x (withDepths (State.joined i) (count .framesDropped fs.length x)) := by
    obtain ⟨trim, demand, joined⟩ := withDepths_trimmed (State.joined i) (count .framesDropped fs.length x)
    have keeps (record : x.transport.state = .record) : x.keepsTrim (withDepths (State.joined i) (count .framesDropped fs.length x)) := by
      rw [withDepths_record (f := State.joined i) (by exact record) rfl]
      exact ⟨rfl, rfl⟩
    rw [joined] at keeps ⊢
    exact .of (trim := fun record => ⟨record, keeps record⟩)
  have playedJ : ((withDepths (State.joined i) (count .framesDropped fs.length x)).slot i).played ∨
      (withDepths (State.joined i) (count .framesDropped fs.length x)).slot i = Slot.freed := by
    obtain ⟨trim, demand, joined⟩ := withDepths_trimmed (State.joined i) (count .framesDropped fs.length x)
    rw [joined]
    show (x.slot i).played ∨ x.slot i = Slot.freed
    rw [frees.slot]
    split
    · exact .inr rfl
    · exact .inl taken
  have whole := freed.trans joins
  have judged (y : State) (bides : Bides s y) (played : (y.slot i).played ∨ y.slot i = Slot.freed) (c : Prop) [Decidable c]
      (role : c → y.slot i ≠ Slot.freed) : Bides s (mixerJudge (if c then freeSlots [i] y else y)) := by
    split
    · next old =>
      have freed := bides.trans (bides_freeSlots (bides.apart apart) fun k hk => by
        obtain rfl := List.mem_singleton.1 hk
        exact played.resolve_right (role old))
      exact freed.trans (bides_mixerJudge (freed.apart apart))
    · exact bides.trans (bides_mixerJudge (bides.apart apart))
  exact judged _ whole playedJ _ fun old free => by
    have role : ((withDepths (State.joined i) (count .framesDropped fs.length x)).slot i).role = some .old := old.1
    rw [free] at role
    cases role

theorem bides_takeReady (last n : Nat) (sound : s.storeSound) : Bides s (takeReady last n s) := by
  induction n generalizing s with
  | zero => exact .refl s
  | succ n ih =>
    unfold takeReady
    split
    · next i k rest slots =>
      split
      · have head : s.correctedSlots.head? = some i := by rw [slots] <;> rfl
        obtain ⟨held, -⟩ := storeSound_iff.1 sound
        have corrected : (s.slot i).state = .corrected := beq_iff_eq.1 (List.mem_filter.1 (List.mem_of_mem_head? head)).2
        exact (bides_takeFrame (queueApart_of held) (fun k hk => held.mem_outputQueue.1 hk) corrected).trans
          (ih ((sane_takeFrame head).storeSound sound))
      · exact .refl s
    · exact .refl s

/-! ### Up to the record gate -/

theorem bides_pulseCommit (s : State) : Bides s (pulseCommit s) := by
  obtain ⟨-, -, committed⟩ := pulseCommit_spec s
  rw [committed]
  exact .of

theorem unaimed_within (within : s.decoder.holdover ≤ s.activeBank.holdover) : s.unaimed = lostSeen s.judging := by
  unfold State.unaimed
  rw [judgeHoldover_within (judging_within within)]

/-- The pulse comes to its record gate. -/
def State.atGate (s : State) : State := pulseCommit s.aimed

theorem bides_atGate (rolling : s.transport.state.rolling = true) (sound : s.storeSound) (gate : s.gateAgrees) (reading : s.readingAgrees)
    (inside : s.waitsInside) (within : s.decoder.holdover ≤ s.activeBank.holdover) (kept : s.timeKept) : Bides s s.atGate := by
  have gathering : s.decoder.gathering = true := reading.1.trans rolling
  obtain ⟨held, next⟩ := soundWith_unaimed sound
  have same : s.unaimed.decoder.nextSlot = s.decoder.nextSlot := by
    unfold Decoder.nextSlot
    rw [next]
  have aimSound := storeSound_pulseGather reading sound
  rw [pulseGather_unaimed gathering] at aimSound
  have judged := bides_judging sound gate inside within kept
  have unaimed : Bides s s.unaimed := by
    rw [unaimed_within within]
    exact judged.trans (bides_lostSeen _)
  have aimed := unaimed.trans (bides_aim (by rw [same]; exact held))
  exact (aimed.trans (bides_takeReady s.decoder.time Config.slotCount aimSound)).trans (bides_pulseCommit _)

/-- The record gate opens. -/
theorem bides_openGate {p : Punch} (rolling : s.transport.state = .play) (shut : s.mixer.gateOpen = false) (punch : s.mixer.punchIn = some p)
    (apart : s.queueApart) (inside : s.waitsInside) : Bides s (openGate p s) := by
  have rolls : s.transport.state.rolling = true := by rw [rolling] <;> rfl
  have opened : Bides s (spanChanged (entered .record (.playSpeed .normal)
      { s with mixer := { s.mixer with taken := true, gateOpen := true } })) := bides_spanChanged apart inside (by
    show Mixer.ahead { s.mixer with taken := true, gateOpen := true } < _
    unfold Mixer.ahead
    rw [shut, punch]
    cases s.mixer.punchOut <;> simp) (trim := fun record => by rw [rolling] at record; cases record)
  unfold openGate
  dsimp only
  rw [enterState_steady (by exact rolls)]
  generalize spanChanged (entered .record (.playSpeed .normal) { s with mixer := { s.mixer with taken := true, gateOpen := true } }) = w
    at opened ⊢
  obtain ⟨h, handed⟩ := handOffIf_eq (p.origin == .list) (.gateOpened p.time)
    (logEntry .punchIn (some p.time) p.origin p.cross (raiseFlag .punchIn w))
  rw [handed]
  exact opened.trans .of

end
end Sys2Proof.Machine
end

section
/-! A pulse that comes to its write window with the record gate open: the gate opens at it, or a take runs on (R145, R148). -/

namespace Sys2Proof.Machine

-- One theorem after another: each one elaborated at the same time would hold a stack of its own.
set_option Elab.async false

section
variable {s t u : State} {i f : Nat} {l : List Nat}

/-- The punch-out that a loss of time at this pulse withdraws (R145). -/
def State.withdraws (s : State) : Prop :=
  s.transport.state = .record ∧ s.losesTime ∧ ∃ o ∈ s.mixer.punchOut, s.withdrawable o s.steppedTime

/-- The gate opens at this pulse (R148). -/
def State.opensAt (s : State) : Prop := s.transport.state = .play ∧ (∃ p ∈ s.mixer.punchIn, p.time = s.steppedTime) ∧
  (∀ o ∈ s.mixer.punchOut, s.steppedTime < o.time) ∧
  (s.foundTime = some s.predictedTime ∨ s.foundTime = none ∧ s.decoder.holdover < s.activeBank.holdover)

/-- A take runs on at this pulse (R149). -/
def State.runsOn (s : State) : Prop := s.transport.state = .record ∧ (∀ p ∈ s.mixer.punchIn, p.time ≤ s.steppedTime) ∧
  ∀ o ∈ s.mixer.punchOut, s.steppedTime ≠ o.lastOut s.framePairs + 1

/-- A pulse has come to its write window from `s` with the record gate open. -/
structure Arrives (s g : State) : Prop where
  bides : Bides s g
  gate : g.mixer.gateOpen = true
  state : g.transport.state = .record
  time : g.decoder.time = s.steppedTime
  trim : g.store.trim = if s.transport.state = .record then s.store.trim else .normal
  punchIn : g.mixer.punchIn = s.mixer.punchIn
  withdrawn : s.withdraws → g.mixer.punchOut = none
  kept : ¬ s.withdraws → g.mixer.punchOut = s.mixer.punchOut
  sound : g.storeSound
  reading : g.readingAgrees

/-- What a pulse finds at its record gate. -/
theorem atGate_sound (rolling : s.transport.state.rolling = true) (sound : s.storeSound) (gate : s.gateAgrees) (reading : s.readingAgrees) :
    s.atGate.storeSound ∧ s.atGate.gateAgrees ∧ s.atGate.readingAgrees := by
  have gathering : s.decoder.gathering = true := reading.1.trans rolling
  have aimSound := storeSound_pulseGather reading sound
  have agreed := agreed_pulseGather s
  rw [pulseGather_unaimed gathering] at aimSound agreed
  have acts : Acts (aim s.unaimed) s.atGate :=
    (acts_takeReady s.decoder.time Config.slotCount _).trans (acts_pulseCommit _)
  exact ⟨acts.storeSound (agreed.reading reading) aimSound, acts.agreed.gate (agreed.gate gate), acts.agreed.reading (agreed.reading reading)⟩

theorem gated_atGate (s : State) : s.gated = pulseGate s.atGate := rfl

theorem atGate_spec (within : s.decoder.holdover ≤ s.activeBank.holdover) (kept : s.timeKept) :
    s.atGate.mixer = { s.judging.mixer with committed := s.atGate.mixer.committed } ∧ s.atGate.transport.state = s.transport.state ∧
    s.atGate.decoder.time = s.steppedTime ∧ s.atGate.framePairs = s.framePairs := by
  obtain ⟨mixer, state, time, pairs, -⟩ := aimed_spec within
  obtain ⟨-, -, committed⟩ := pulseCommit_spec s.aimed
  have same : s.atGate = { s.aimed with mixer := { s.aimed.mixer with committed := s.atGate.mixer.committed } } := committed
  refine ⟨?_, ?_, ?_, ?_⟩
  · rw [← mixer]
    exact congrArg State.mixer same
  · exact (congrArg (·.transport.state) same).trans state
  · exact (congrArg (·.decoder.time) same).trans (time.trans (judging_stepped kept.found))
  · exact (congrArg State.framePairs same).trans pairs

/-- The record gate as it opens. -/
def State.gateOpening (s : State) : State :=
  entered .record (.playSpeed .normal) { s with mixer := { s.mixer with taken := true, gateOpen := true } }

theorem openGate_store {p : Punch} (rolling : s.transport.state.rolling = true) : (openGate p s).store = (spanChanged s.gateOpening).store := by
  unfold openGate State.gateOpening
  dsimp only
  rw [enterState_steady (by exact rolling)]
  generalize spanChanged (entered .record (.playSpeed .normal) { s with mixer := { s.mixer with taken := true, gateOpen := true } }) = w
  obtain ⟨h, handed⟩ := handOffIf_eq (p.origin == .list) (.gateOpened p.time)
    (logEntry .punchIn (some p.time) p.origin p.cross (raiseFlag .punchIn w))
  rw [handed] <;> rfl

theorem trim_openGate {p : Punch} (play : s.transport.state = .play) (sound : s.storeSound) (inside : s.waitsInside) :
    (openGate p s).store.trim = .normal := by
  obtain ⟨held, -⟩ := storeSound_iff.1 sound
  obtain ⟨-, keeps⟩ := spanChanged_followsQ (l := s.gatheringSlots) (s := s.gateOpening) held.of
    fun _ i queued => inside i (.inr (held.mem_writeQueue.1 queued))
  obtain ⟨trim, -⟩ := keeps (.inl fun q => by cases q.1)
  rw [openGate_store (by rw [play] <;> rfl)]
  exact trim

/-- The record gate opens at the pulse, the punches standing. -/
theorem gated_opens (opens : s.opensAt) (gate : s.gateAgrees) (within : s.decoder.holdover ≤ s.activeBank.holdover) :
    ∃ p, s.mixer.punchIn = some p ∧ s.gated = openGate p s.atGate ∧ s.mixer.gateOpen = false ∧
      s.atGate.mixer = { s.mixer with committed := s.atGate.mixer.committed } ∧ s.atGate.transport.state = .play := by
  obtain ⟨play, ⟨p, punch, now⟩, -, confirmed⟩ := opens
  have kept : s.timeKept := .inr confirmed
  have shut : s.mixer.gateOpen = false := by
    by_contra opened
    have record := gate.1.1 (by simpa using opened)
    rw [play] at record
    cases record
  have judged : s.judging.mixer = s.mixer := judging_mixer within kept.found fun ⟨_, other, _, limit⟩ => by
    rcases confirmed with h | h
    · exact other h
    · exact absurd limit (Nat.ne_of_lt h.2)
  obtain ⟨mixer, state, time, -⟩ := atGate_spec within kept
  rw [judged] at mixer
  have stateC : s.atGate.transport.state = .play := state.trans play
  have shutC : s.atGate.mixer.gateOpen = false := by rw [mixer]; exact shut
  have punchC : s.atGate.mixer.punchIn = some p := by rw [mixer]; exact punch
  refine ⟨p, punch, ?_, shut, mixer, stateC⟩
  rw [gated_atGate, pulseGate_shut shutC punchC, if_pos ⟨stateC, time.trans now.symm⟩]

/-- The gate opens at the pulse. -/
theorem arrives_opens (opens : s.opensAt) (sound : s.storeSound) (gate : s.gateAgrees) (reading : s.readingAgrees) (inside : s.waitsInside)
    (within : s.decoder.holdover ≤ s.activeBank.holdover) : Arrives s s.gated := by
  obtain ⟨p, punch, opened, shut, mixer, stateC⟩ := gated_opens opens gate within
  obtain ⟨play, -, -, confirmed⟩ := opens
  have rolling : s.transport.state.rolling = true := by rw [play] <;> rfl
  have kept : s.timeKept := .inr confirmed
  obtain ⟨-, -, time, pairs⟩ := atGate_spec within kept
  have bides := bides_atGate rolling sound gate reading inside within kept
  obtain ⟨soundC, gateC, readingC⟩ := atGate_sound rolling sound gate reading
  have insideC := bides.inside inside fun f h => by
    have same : s.atGate.inSpan f = s.inSpan f := by
      unfold State.inSpan
      rw [mixer, pairs]
    rw [same]
    exact h
  have shutC : s.atGate.mixer.gateOpen = false := by rw [mixer]; exact shut
  have punchC : s.atGate.mixer.punchIn = some p := by rw [mixer]; exact punch
  have acts : Acts s.atGate s.gated := acts_pulseGate _
  have bidesG := bides_openGate stateC shutC punchC (bides.apart (queueApart_of (storeSound_iff.1 sound).1)) insideC
  have trim := trim_openGate (p := p) stateC soundC insideC
  obtain ⟨mixerG, stateG, timeG, -⟩ := openGate_spec (s := s.atGate) p (by rw [stateC] <;> rfl)
  have soundG := acts.storeSound readingC soundC
  have readingG := acts.agreed.reading readingC
  rw [opened] at soundG readingG ⊢
  have notRecord : s.transport.state ≠ .record := by rw [play]; decide
  exact ⟨bides.trans bidesG, by rw [mixerG], stateG, timeG.trans time, by rw [trim, if_neg notRecord],
    by rw [mixerG, mixer], fun h => absurd h.1 notRecord, fun _ => by rw [mixerG, mixer], soundG, readingG⟩

/-- The punches of a take that runs on, as the pulse comes to its record gate. -/
theorem punches_atGate (runs : s.runsOn) (gate : s.gateAgrees) (within : s.decoder.holdover ≤ s.activeBank.holdover) :
    s.atGate.mixer.gateOpen = true ∧ s.atGate.mixer.punchIn = s.mixer.punchIn ∧
    (s.withdraws → s.atGate.mixer.punchOut = none) ∧ (¬ s.withdraws → s.atGate.mixer.punchOut = s.mixer.punchOut) := by
  obtain ⟨record, -, -⟩ := runs
  have kept : s.timeKept := .inl record
  have opened : s.mixer.gateOpen = true := gate.1.2 record
  have taken : s.mixer.taken = true := gate.2.1.trans opened
  obtain ⟨mixer, -⟩ := atGate_spec within kept
  have judged : (s.withdraws → s.judging.mixer = { s.mixer with punchOut := none }) ∧ (¬ s.withdraws → s.judging.mixer = s.mixer) := by
    refine ⟨fun ⟨_, loses, o, punch, withdrawable⟩ => ((judging_take taken opened record loses).2 o punch withdrawable).1, fun stays => ?_⟩
    by_cases loses : s.losesTime
    · exact (judging_take taken opened record loses).1 fun o punch h => stays ⟨record, loses, o, punch, h⟩
    · exact judging_mixer within kept.found loses
  rw [mixer]
  by_cases withdraws : s.withdraws
  · rw [judged.1 withdraws]
    exact ⟨opened, rfl, fun _ => rfl, fun h => absurd withdraws h⟩
  · rw [judged.2 withdraws]
    exact ⟨opened, rfl, fun h => absurd h withdraws, fun _ => rfl⟩

/-- The record gate stays open. -/
theorem gated_runs (runs : s.runsOn) (gate : s.gateAgrees) (within : s.decoder.holdover ≤ s.activeBank.holdover) : s.gated = s.atGate := by
  obtain ⟨gateOpen, -, gone, still⟩ := punches_atGate runs gate within
  obtain ⟨record, -, ends⟩ := runs
  obtain ⟨-, -, time, pairs⟩ := atGate_spec within (.inl record)
  rw [gated_atGate]
  cases punch : s.atGate.mixer.punchOut with
  | none => exact pulseGate_endless gateOpen punch
  | some o =>
    rw [pulseGate_open gateOpen punch, time, pairs, if_neg]
    refine ends o ?_
    by_cases withdraws : s.withdraws
    · rw [gone withdraws] at punch
      cases punch
    · rw [← still withdraws]
      exact punch

/-- A take runs on. -/
theorem arrives_runs (runs : s.runsOn) (sound : s.storeSound) (gate : s.gateAgrees) (reading : s.readingAgrees) (inside : s.waitsInside)
    (within : s.decoder.holdover ≤ s.activeBank.holdover) : Arrives s s.gated := by
  obtain ⟨gateOpen, punchIn, gone, still⟩ := punches_atGate runs gate within
  rw [gated_runs runs gate within]
  obtain ⟨record, -, ends⟩ := runs
  have rolling : s.transport.state.rolling = true := by rw [record] <;> rfl
  have kept : s.timeKept := .inl record
  obtain ⟨-, -, time, -⟩ := atGate_spec within kept
  have bides := bides_atGate rolling sound gate reading inside within kept
  obtain ⟨soundC, gateC, readingC⟩ := atGate_sound rolling sound gate reading
  obtain ⟨stateC, trim, -⟩ := bides.trim record
  exact ⟨bides, gateOpen, stateC, time, by rw [trim, if_pos record], punchIn, gone, still, soundC, readingC⟩

theorem Arrives.inside (h : Arrives s t) (inside : s.waitsInside) : t.waitsInside := h.bides.inside inside fun f span => by
  have pairs : t.framePairs = s.framePairs := congrArg (fun b : Bank => b.rate.pairs) (activeBank_of h.bides.banks)
  by_cases withdraws : s.withdraws
  · have endless := inSpan_endless (x := t.mixer) h.punchIn (h.withdrawn withdraws) span
    unfold State.inSpan at endless ⊢
    rw [pairs]
    exact endless
  · unfold State.inSpan at span ⊢
    rw [h.punchIn, h.kept withdraws, pairs]
    exact span

end
end Sys2Proof.Machine
end

section
/-! What the Record Coder does at a frame pulse: a window cut, verify entries closed, the frame's window taken or late (R29, R39, R51 to R55,
R58, R60, R135). -/

namespace Sys2Proof.Machine

-- One theorem after another: each one elaborated at the same time would hold a stack of its own.
set_option Elab.async false

/-- A slot of the record path that waits for its window. -/
def Slot.waits (v : Slot) : Prop := v.state = .capturing ∨ v.state = .captured ∨ v.state = .mixed

theorem Slot.waits.aside {v : Slot} (h : v.waits) : ¬ v.played ∧ v.state ≠ .writing ∧ v.state ≠ .free := by
  unfold Slot.played
  rcases h with e | e | e <;> rw [e] <;> decide

section
variable {s t u : State} {i k f q : Nat} {l : List Nat}

/-! ### A window still open is cut (R29, R55) -/

/-- A cut touches the write frame's slot, the supply, the output and the reports. -/
structure Cuts (s t : State) : Prop where
  leaves : t = { s with
    store := { s.store with slots := t.store.slots }
    coder := { s.coder with current := t.coder.current, verify := t.coder.verify }
    output := t.output, reports := t.reports, sequencer := t.sequencer }
  slot : ∀ i, (s.slot i).state ≠ .writing → t.slot i = s.slot i
  writing : ∀ i, (s.slot i).state = .writing → (t.slot i).state = .writing ∨ (t.slot i).state = .free
  still : s.coder.current = none → t.coder.current = none

theorem supplyFinished_cuts (sound : SoundWith l s) {w : WriteFrame} (current : s.coder.current = some w) :
    ∃ slots output, supplyFinished w.slot { s with coder := { s.coder with current := none } } = { s with
      store := { s.store with slots := slots }, coder := { s.coder with current := none }, output := output } ∧
      slots = s.store.slots.set w.slot (if (s.slot w.slot).monitor = .finished then Slot.freed
        else { s.slot w.slot with supplyDone := true }) := by
  obtain ⟨writing, -⟩ := sound.write w current
  unfold supplyFinished
  dsimp only
  generalize marked : updateSlot w.slot (fun v => { v with supplyDone := true }) { s with coder := { s.coder with current := none } } = u
  have at_u : u = { s with
      store := { s.store with slots := s.store.slots.set w.slot { s.slot w.slot with supplyDone := true } }
      coder := { s.coder with current := none } } := by
    rw [← marked] <;> rfl
  show ∃ slots output, (if (s.slot w.slot).monitor = .finished then _ else _) = _ ∧ _
  split
  · have unlisted : u.unlisted w.slot := by
      rw [at_u]
      exact sound.unlisted (.inr writing)
    rw [freeSlots_unlisted unlisted, at_u]
    exact ⟨_, _, rfl, by rw [List.set_set]⟩
  · rw [at_u]
    exact ⟨_, _, rfl, rfl⟩

theorem pulseCut_open (sound : SoundWith l s) {w : WriteFrame} (current : s.coder.current = some w) (below : s.coder.sequence < 152) :
    Cuts s (pulseCut s) ∧ (pulseCut s).coder.current = none ∧
    (pulseCut s).slot w.slot = (if (s.slot w.slot).monitor = .finished then Slot.freed else { s.slot w.slot with supplyDone := true }) ∧
    ∃ n, Recent 0 ⟨n, .writeLate, some w.time, .internal, 2⟩ (pulseCut s).reports.log := by
  obtain ⟨writing, -⟩ := sound.write w current
  obtain ⟨slots, output, finished, written⟩ := supplyFinished_cuts sound current
  have hi : w.slot < s.store.slots.length := by
    rw [sound.length]
    exact sound.lt (by rw [writing]; decide)
  have cut : pulseCut s = logEntry .writeLate (some w.time) .internal 2 (supplyFinished w.slot { s with
      coder := { s.coder with current := none } }) := by
    unfold pulseCut
    rw [current]
    exact if_pos below
  have slotOf (i : Nat) : (pulseCut s).slot i = if i = w.slot then (if (s.slot w.slot).monitor = .finished then Slot.freed
      else { s.slot w.slot with supplyDone := true }) else s.slot i := by
    rw [cut, finished]
    show slots.getD i Slot.freed = _
    rw [written]
    show (setSlot w.slot (if (s.slot w.slot).monitor = .finished then Slot.freed else { s.slot w.slot with supplyDone := true }) s).slot i = _
    rw [slot_setSlot]
    simp [hi]
  refine ⟨⟨?_, fun i other => ?_, fun i writes => ?_, fun none => ?_⟩, ?_, ?_, ?_⟩
  · rw [cut, finished]
    rfl
  · rw [slotOf, if_neg]
    rintro rfl
    exact other writing
  · rw [slotOf]
    split
    · split
      · exact .inr rfl
      · exact .inl writing
    · exact .inl writes
  · rw [current] at none
    cases none
  · rw [cut, finished]
    rfl
  · rw [slotOf, if_pos rfl]
  · rw [cut]
    exact ⟨_, recent_logEntry ..⟩

theorem Cuts.refl (s : State) : Cuts s s := ⟨rfl, fun _ _ => rfl, fun _ => .inl, id⟩

theorem pulseCut_closed (h : s.coder.current = none ∨ 152 ≤ s.coder.sequence) : pulseCut s = s := by
  unfold pulseCut
  split
  · next w current =>
    refine if_neg ?_
    rcases h with none | whole
    · rw [current] at none
      cases none
    · exact Nat.not_lt.2 whole
  · rfl

theorem pulseCut_cuts (sound : SoundWith l s) : Cuts s (pulseCut s) := by
  by_cases shut : s.coder.current = none ∨ 152 ≤ s.coder.sequence
  · rw [pulseCut_closed shut]
    exact .refl s
  · rw [not_or] at shut
    obtain ⟨w, current⟩ := Option.ne_none_iff_exists'.1 shut.1
    exact (pulseCut_open sound current (Nat.lt_of_not_le shut.2)).1

/-! ### Verify entries are closed (R60) -/

theorem pulseVerify_leaves (q : Nat) (s : State) : ∃ verify reports conditions, pulseVerify q s = { s with
    coder := { s.coder with verify := verify }, reports := reports, sequencer := { s.sequencer with conditions := conditions } } := by
  have closed (l : List VerifyEntry) (u : State) : ∃ reports conditions, l.foldl (fun s e => closeVerify e s) u = { u with
      reports := reports, sequencer := { u.sequencer with conditions := conditions } } := by
    induction l generalizing u with
    | nil => exact ⟨u.reports, u.sequencer.conditions, rfl⟩
    | cons e l ih =>
      have one : ∃ reports conditions, closeVerify e u = { u with
          reports := reports, sequencer := { u.sequencer with conditions := conditions } } := by
        unfold closeVerify
        dsimp only
        split
        · exact ⟨_, _, rfl⟩
        · exact ⟨_, u.sequencer.conditions, rfl⟩
      obtain ⟨r, c, first⟩ := one
      obtain ⟨r', c', rest⟩ := ih (closeVerify e u)
      refine ⟨r', c', ?_⟩
      rw [List.foldl_cons, rest, first]
  obtain ⟨r, c, all⟩ := closed (s.coder.verify.filter fun e => e.frameTime + 2 == q)
    { s with coder := { s.coder with verify := s.coder.verify.filter fun e => e.frameTime + 2 != q } }
  exact ⟨_, r, c, all⟩

theorem Cuts.verified (h : Cuts s t) (q : Nat) : Cuts s (pulseVerify q t) := by
  obtain ⟨verify, reports, conditions, verified⟩ := pulseVerify_leaves q t
  have leaves := h.leaves
  have slotOf (i : Nat) : (pulseVerify q t).slot i = t.slot i := by rw [verified] <;> rfl
  refine ⟨?_, fun i other => (slotOf i).trans (h.slot i other), fun i writes => by rw [slotOf]; exact h.writing i writes,
    fun none => ?_⟩
  · rw [verified, leaves]
  · rw [verified]
    exact h.still none

/-! ### The trim as the window opens (R39) -/

/-- In RECORD a change of the collections lets the trim follow W. -/
theorem withDepths_recorded {g : State → State} (record : (g s).transport.state = .record) :
    withDepths g s = if (g s).depthW = s.depthW then g s else judgeW (g s) := by
  have unjudged : ¬ (g s).judgesQ := fun q => by
    rw [q.1] at record
    cases record
  unfold withDepths
  dsimp only
  rw [judgeQ_of_not_judgesQ unjudged, ite_self]

theorem times_inj (order : (s.times l).Pairwise (· < ·)) (hi : i ∈ l) (hk : k ∈ l)
    (same : (s.slot i).frameTime = (s.slot k).frameTime) : i = k := by
  have distinct : (l.map fun i => (s.slot i).frameTime.getD 0).Nodup := List.Pairwise.imp (fun h => Nat.ne_of_lt h) order
  exact List.inj_on_of_nodup_map distinct hi hk (by rw [same])

theorem length_filter_ne (nodup : l.Nodup) (hi : i ∈ l) : (l.filter (· != i)).length = l.length - 1 := by
  rw [← nodup.erase_eq_filter, List.length_erase_of_mem hi]

/-! ### The window (R29, R52, R53, R57, R58, R135) -/

/-- What a window does with the frame's slot, the trim judged as it opened. -/
structure Windows (s t : State) : Prop where
  decoder : t.decoder = s.decoder
  mixer : t.mixer = s.mixer
  banks : t.banks = s.banks
  state : t.transport.state = s.transport.state
  slot : ∀ k, t.slot k = s.slot k ∨
    (s.slot k).waits ∧ (s.slot k).frameTime = some s.decoder.time ∧ ((t.slot k).state = .free ∨ (t.slot k).state = .writing)
  queue : t.store.writeQueue.Sublist s.store.writeQueue
  output : t.store.outputQueue = s.store.outputQueue
  capture : t.store.captureList.Sublist s.store.captureList
  fields : t.copy.inputFields.Sublist s.copy.inputFields
  writing : ∀ w ∈ t.coder.current, (t.slot w.slot).state = .writing
  keeps : (∀ i ∈ s.store.writeQueue, (s.slot i).frameTime ≠ some s.decoder.time) → s.keepsTrim t
  follows : (∃ i ∈ s.store.writeQueue, (s.slot i).frameTime = some s.decoder.time) → t.carries (s.store.trim.afterW (s.depthW - 1))

/-- The frame's MIXED slot is taken. -/
structure TakesWindow (i : Nat) (s t : State) : Prop extends Windows s t where
  taken : t.slot i = { s.slot i with state := .writing, start := (s.cues.mark.window s.decoder.time).1.isSome }
  mark : t.cues.mark = (s.cues.mark.window s.decoder.time).2
  coder : t.coder = { s.coder with
    current := some ⟨i, s.decoder.time⟩, sequence := 0, writeOn := true, verify := addVerify s.decoder.time s.coder.verify
    subcode := ⟨s.decoder.time, ((s.slot i).format.getD s.activeFormat).rate, ((s.slot i).format.getD s.activeFormat).wordLength,
      (s.cues.mark.window s.decoder.time).1.getD 0, (s.cues.mark.window s.decoder.time).1.isSome, (s.slot i).copyField.getD .none⟩ }

/-- The frame is write-late. -/
structure LatesWindow (s t : State) : Prop extends Windows s t where
  freed : ∀ k, (s.slot k).state = .capturing ∨ (s.slot k).state = .captured → (s.slot k).frameTime = some s.decoder.time →
    (t.slot k).state = .free
  mark : t.cues.mark = s.cues.mark
  current : t.coder.current = none
  writeOn : t.coder.writeOn = false
  logged : ∃ n c, t.reports.log.getLast? = some ⟨n, .writeLate, some s.decoder.time, .internal, c⟩ ∧
    ((∃ k, ((s.slot k).state = .capturing ∨ (s.slot k).state = .captured) ∧ (s.slot k).frameTime = some s.decoder.time) → c = 0) ∧
    ((∀ k, (s.slot k).state = .capturing ∨ (s.slot k).state = .captured → (s.slot k).frameTime ≠ some s.decoder.time) → c = 1)

theorem takeWindow_takes (sound : SoundWith l s) (record : s.transport.state = .record)
    (queued : i ∈ s.store.writeQueue) (mixed : (s.slot i).state = .mixed) (now : (s.slot i).frameTime = some s.decoder.time) :
    TakesWindow i s (takeWindow i s) := by
  have hi : i < s.store.slots.length := by
    rw [sound.length]
    exact sound.lt (by rw [mixed]; decide)
  obtain ⟨-, -, nodup, -⟩ := id sound.collections
  have shorter := length_filter_ne nodup queued
  have some := List.length_pos_of_mem queued
  unfold takeWindow
  dsimp only
  generalize hv : ({ s.slot i with state := .writing, start := (s.cues.mark.window s.decoder.time).1.isSome } : Slot) = v
  have written (k : Nat) : (setSlot i v s).slot k = if k = i then v else s.slot k := by
    rw [slot_setSlot]
    simp [hi]
  have carried := judgeW_carries (s := { setSlot i v s with
    store := { (setSlot i v s).store with writeQueue := (setSlot i v s).store.writeQueue.filter (· != i) } }) record
  have judged := withDepths_recorded (s := s) (g := fun t => { setSlot i v t with
    store := { (setSlot i v t).store with writeQueue := (setSlot i v t).store.writeQueue.filter (· != i) } }) record
  have fewer : State.depthW { setSlot i v s with
      store := { (setSlot i v s).store with writeQueue := (setSlot i v s).store.writeQueue.filter (· != i) } } = s.depthW - 1 := shorter
  have less : s.depthW - 1 ≠ s.depthW := by
    unfold State.depthW
    omega
  dsimp only at judged
  rw [fewer, if_neg less] at judged
  rw [fewer] at carried
  obtain ⟨trim, demand, trimmed⟩ := judgeW_trimmed { setSlot i v s with
    store := { (setSlot i v s).store with writeQueue := (setSlot i v s).store.writeQueue.filter (· != i) } }
  rw [judged]
  rw [trimmed] at carried ⊢
  have state : v.state = .writing := by rw [← hv]
  have taken : (setSlot i v s).slot i = v := (written i).trans (if_pos rfl)
  refine ⟨⟨rfl, rfl, rfl, rfl, fun k => ?_, List.filter_sublist, rfl, .refl _, .refl _, fun w hw => ?_, fun none => ?_, fun _ => carried⟩,
    ?_, rfl, ?_⟩
  · by_cases same : k = i
    · subst same
      exact .inr ⟨.inr (.inr mixed), now, .inr ((congrArg Slot.state taken).trans state)⟩
    · exact .inl ((written k).trans (if_neg same))
  · obtain rfl : _ = w := Option.some.inj hw
    exact (congrArg Slot.state taken).trans state
  · exact absurd now (none i queued)
  · exact taken.trans hv.symm
  · rw [← hv] <;> rfl

/-- Slots of the record path freed in RECORD: the trim follows W where it falls. -/
theorem freeSlots_recorded {fs : List Nat} (record : s.transport.state = .record) :
    ((∀ i ∈ fs, i ∉ s.store.writeQueue) → s.keepsTrim (freeSlots fs s)) ∧
    ((s.store.writeQueue.filter (· ∉ fs)).length ≠ s.store.writeQueue.length →
      (freeSlots fs s).carries (s.store.trim.afterW (s.store.writeQueue.filter (· ∉ fs)).length)) := by
  obtain ⟨transport, trim⟩ := transport_foldl_freeOne fs s
  have stays : (fs.foldl freeOne s).transport.state = .record := by rw [transport]; exact record
  have depth : (fs.foldl freeOne s).depthW = (s.store.writeQueue.filter (· ∉ fs)).length := by
    unfold State.depthW
    rw [(foldl_freeOne_frees fs s).writeQueue]
  refine ⟨fun unqueued => keepsTrim_freeSlots unqueued record, fun fewer => ?_⟩
  have judged := withDepths_recorded (g := fun t => fs.foldl freeOne t) stays
  have carried := judgeW_carries stays
  rw [depth, if_neg (show _ ≠ s.depthW from fewer)] at judged
  rw [trim, depth] at carried
  unfold freeSlots
  rw [judged]
  exact carried

theorem lateWindow_lates (sound : SoundWith l s) (record : s.transport.state = .record) (order : (s.times s.store.writeQueue).Pairwise (· < ·))
    (unmixed : ∀ i ∈ s.store.writeQueue, (s.slot i).frameTime = some s.decoder.time → (s.slot i).state ≠ .mixed) :
    LatesWindow s (lateWindow s) := by
  have waiting (k : Nat) : k ∈ s.slotsWhere (fun v => (v.state == .capturing || v.state == .captured) &&
      v.frameTime == some s.decoder.time) ↔
      ((s.slot k).state = .capturing ∨ (s.slot k).state = .captured) ∧ (s.slot k).frameTime = some s.decoder.time := by
    unfold State.slotsWhere
    rw [List.mem_filter, List.mem_range]
    simp only [Bool.and_eq_true, Bool.or_eq_true, beq_iff_eq]
    exact ⟨fun h => h.2, fun h => ⟨sound.lt (by rcases h.1 with e | e <;> rw [e] <;> decide), h⟩⟩
  obtain ⟨-, -, nodup, -⟩ := id sound.collections
  unfold lateWindow
  dsimp only
  generalize s.slotsWhere _ = fs at waiting ⊢
  have frees := freeSlots_frees fs s
  obtain ⟨keeps, follows⟩ := freeSlots_recorded (fs := fs) record
  have unqueued : (∀ i ∈ s.store.writeQueue, (s.slot i).frameTime ≠ some s.decoder.time) → ∀ i ∈ fs, i ∉ s.store.writeQueue :=
    fun none i freed queued => none i queued ((waiting i).1 freed).2
  have one {i : Nat} (queued : i ∈ s.store.writeQueue) (now : (s.slot i).frameTime = some s.decoder.time) :
      (s.store.writeQueue.filter (· ∉ fs)).length = s.depthW - 1 := by
    have captured := (sound.mem_writeQueue.1 queued).resolve_right (unmixed i queued now)
    have shorter : (s.store.writeQueue.filter (· != i)).length = s.depthW - 1 := length_filter_ne nodup queued
    rw [← shorter]
    refine congrArg List.length (List.filter_congr fun k other => ?_)
    by_cases same : k = i
    · subst same
      simp [(waiting k).2 ⟨.inr captured, now⟩]
    · have stays : k ∉ fs := fun freed => same (times_inj order other queued (((waiting k).1 freed).2.trans now.symm))
      simp [same, stays]
  generalize freeSlots fs s = t at frees keeps follows ⊢
  have state : t.transport.state = s.transport.state := frees.work.state
  refine ⟨⟨frees.work.decoder, frees.work.mixer, frees.work.banks, state, fun k => ?_, ?_, ?_, ?_, ?_, fun w hw => (by cases hw),
    fun none => keeps (unqueued none), fun ⟨i, queued, now⟩ => ?_⟩, fun k path now => ?_, congrArg CueTable.mark frees.work.cues, rfl, rfl,
    ⟨_, _, logEntry_last .., fun ⟨k, h⟩ => ?_, fun none => ?_⟩⟩
  · by_cases freed : k ∈ fs
    · obtain ⟨path, now⟩ := (waiting k).1 freed
      refine .inr ⟨by unfold Slot.waits; tauto, now, .inl ?_⟩
      show (t.slot k).state = .free
      rw [frees.slot, if_pos freed] <;> rfl
    · refine .inl ?_
      show t.slot k = s.slot k
      rw [frees.slot, if_neg freed]
  · show t.store.writeQueue.Sublist _
    rw [frees.writeQueue]
    exact List.filter_sublist
  · show t.store.outputQueue = _
    rw [frees.outputQueue]
    refine List.filter_eq_self.2 fun k queued => decide_eq_true fun freed => ?_
    obtain ⟨path, -⟩ := (waiting k).1 freed
    rw [sound.mem_outputQueue.1 queued] at path
    simp at path
  · show t.store.captureList.Sublist _
    rw [frees.captureList]
    exact List.filter_sublist
  · show t.copy.inputFields.Sublist _
    rw [frees.inputFields]
    exact List.filter_sublist
  · have less := one queued now
    have some := List.length_pos_of_mem queued
    unfold State.depthW at less
    rw [less] at follows
    exact follows (by omega)
  · show (t.slot k).state = .free
    rw [frees.slot, if_pos ((waiting k).2 ⟨path, now⟩)] <;> rfl
  · have member := (waiting k).2 h
    rw [if_neg (by simpa using List.ne_nil_of_mem member)]
  · rw [if_pos]
    rw [List.isEmpty_iff]
    exact List.eq_nil_iff_forall_not_mem.2 fun k freed => none k ((waiting k).1 freed).1 ((waiting k).1 freed).2

/-- The slot of the frame on the write queue decides what the window does. -/
theorem windowed_takes (sound : SoundWith l s) (record : s.transport.state = .record) (order : (s.times s.store.writeQueue).Pairwise (· < ·))
    (queued : i ∈ s.store.writeQueue) (mixed : (s.slot i).state = .mixed) (now : (s.slot i).frameTime = some s.decoder.time) :
    TakesWindow i s s.windowed := by
  have found : s.windowSlot s.decoder.time = some i := by
    unfold State.windowSlot
    cases slot : s.store.writeQueue.find? fun i => (s.slot i).frameTime == some s.decoder.time with
    | none =>
      have := List.find?_eq_none.1 slot i queued
      simp [now] at this
    | some k =>
      have time := List.find?_some slot
      rw [times_inj order (List.mem_of_find?_eq_some slot) queued ((beq_iff_eq.1 time).trans now.symm)]
  unfold State.windowed
  rw [found]
  show TakesWindow i s (if (s.slot i).state = .mixed then takeWindow i s else lateWindow s)
  rw [if_pos mixed]
  exact takeWindow_takes sound record queued mixed now

theorem windowed_lates (sound : SoundWith l s) (record : s.transport.state = .record) (order : (s.times s.store.writeQueue).Pairwise (· < ·))
    (unmixed : ∀ i ∈ s.store.writeQueue, (s.slot i).frameTime = some s.decoder.time → (s.slot i).state ≠ .mixed) :
    LatesWindow s s.windowed := by
  have late := lateWindow_lates sound record order unmixed
  unfold State.windowed
  split
  · next i slot =>
    unfold State.windowSlot at slot
    have time := List.find?_some slot
    have now := beq_iff_eq.1 time
    rw [if_neg (unmixed i (List.mem_of_find?_eq_some slot) now)]
    exact late
  · exact late

theorem windowed_windows (sound : SoundWith l s) (record : s.transport.state = .record)
    (order : (s.times s.store.writeQueue).Pairwise (· < ·)) : Windows s s.windowed := by
  by_cases waits : ∃ i ∈ s.store.writeQueue, (s.slot i).frameTime = some s.decoder.time ∧ (s.slot i).state = .mixed
  · obtain ⟨i, queued, now, mixed⟩ := waits
    exact (windowed_takes sound record order queued mixed now).toWindows
  · exact (windowed_lates sound record order fun i queued now mixed => waits ⟨i, queued, now, mixed⟩).toWindows

end
end Sys2Proof.Machine
end

section
/-! The end of a frame pulse: the mark record checked, a capture slot opened, and the Edit Mixer's judgement (R26, R99, R135, R146). -/

namespace Sys2Proof.Machine

-- One theorem after another: each one elaborated at the same time would hold a stack of its own.
set_option Elab.async false

section
variable {s t u : State} {i k f q : Nat} {l : List Nat}

/-- What follows the write window, once the mark record is checked. -/
def ended (s : State) : State := mixerJudge (pulseConditions (pulseCapture s))

/-- The pulse ends: a FREE slot may open for capture, and CAPTURED slots may be mixed. -/
structure Ends (s t : State) : Prop where
  lasting : ∀ i, (s.slot i).lasting → (s.slot i).state ≠ .free → t.slot i = s.slot i
  free : ∀ i, (s.slot i).state = .free → (t.slot i).state = .free ∨ (t.slot i).state = .capturing
  waits : ∀ i, (t.slot i).waits → (s.slot i).waits ∧ (t.slot i).frameTime = (s.slot i).frameTime ∨
    (t.slot i).frameTime = some (s.decoder.time + 2)
  coder : (∀ w ∈ s.coder.current, (s.slot w.slot).state = .writing) → t.coder = s.coder
  mark : t.cues.mark = s.cues.mark
  reports : t.reports = s.reports
  trim : s.transport.state = .record → s.keepsTrim t

theorem Bides.ends (h : Bides s t) (reports : t.reports = s.reports) : Ends s t where
  lasting i lasting _ := h.slot i lasting
  free i free := .inl (by rw [h.slot i (.inr (.inr (.inr free)))]; exact free)
  waits i waits := .inl (h.waits waits)
  coder := h.coder
  mark := h.mark
  reports := reports
  trim record := (h.trim record).2

theorem pulseConditions_leaves (s : State) : ∃ conditions, pulseConditions s = { s with
    sequencer := { s.sequencer with conditions := conditions } } := by
  unfold pulseConditions
  dsimp only
  split
  · split
    · exact ⟨_, rfl⟩
    · exact ⟨_, rfl⟩
  · split
    · exact ⟨_, rfl⟩
    · exact ⟨s.sequencer.conditions, rfl⟩

/-- The Edit Mixer's judgement at the end of a pulse. -/
theorem bides_ended (apart : (pulseCapture s).queueApart) : Bides (pulseCapture s) (ended s) ∧ (ended s).reports = (pulseCapture s).reports := by
  unfold ended
  obtain ⟨conditions, told⟩ := pulseConditions_leaves (pulseCapture s)
  rw [told]
  have same : Bides (pulseCapture s) { pulseCapture s with sequencer := { (pulseCapture s).sequencer with conditions := conditions } } := .of
  exact ⟨same.trans (bides_mixerJudge (same.apart apart)), (slotWork_mixerJudge _).reports⟩

/-- A capture slot opens at this pulse. -/
def State.captureDue (s : State) : Prop := s.transport.state.rolling = true ∧ s.inSpan (s.decoder.time + 2) = true ∧
  ∀ i ∈ s.store.captureList, (s.slot i).frameTime ≠ some (s.decoder.time + 2)

/-- The capture slot of frame T + 2. -/
def State.captureSlot (s : State) : Slot := Slot.opened .capturing .input (s.decoder.time + 2) s.activeFormat

theorem pulseCapture_opens (due : s.captureDue) (free : s.lowestFree = some k) : pulseCapture s = { setSlot k s.captureSlot s with
    store := { (setSlot k s.captureSlot s).store with captureList := s.store.captureList ++ [k] }
    copy := { s.copy with inputFields := s.copy.inputFields ++ [(k, none)] } } := by
  obtain ⟨rolls, inside, absent⟩ := due
  have none : (s.store.captureList.any fun i => (s.slot i).frameTime == some (s.decoder.time + 2)) = false :=
    List.any_eq_false.2 fun i hi => by simpa using absent i hi
  unfold pulseCapture
  dsimp only
  rw [if_pos ⟨rolls, inside, none⟩, free] <;> rfl

theorem pulseCapture_stays (h : ¬ s.captureDue ∨ s.lowestFree = none) : pulseCapture s = s := by
  unfold pulseCapture
  dsimp only
  split
  · next due =>
    obtain ⟨rolls, inside, absent⟩ := due
    rw [h.resolve_left (not_not.2 ⟨rolls, inside, fun i hi time => by simp [time] at absent; exact absent i hi time⟩)]
  · rfl

theorem lowestFree_spec (free : s.lowestFree = some k) : (s.slot k).state = .free ∧ k < s.store.slots.length := by
  unfold State.lowestFree at free
  obtain ⟨hk, state, -⟩ := List.findIdx?_eq_some_iff_getElem.1 free
  refine ⟨?_, hk⟩
  unfold State.slot
  rw [List.getD_eq_getElem _ _ hk]
  simpa using state

theorem lowestFree_isSome (hi : i < s.store.slots.length) (free : (s.slot i).state = .free) : s.lowestFree.isSome = true := by
  unfold State.lowestFree
  rw [List.findIdx?_isSome, List.any_eq_true]
  refine ⟨s.slot i, ?_, by simp [free]⟩
  unfold State.slot
  rw [List.getD_eq_getElem _ _ hi]
  exact List.getElem_mem hi

/-- The end of a pulse that opens no capture slot. -/
theorem ended_stays (apart : s.queueApart) (h : ¬ s.captureDue ∨ s.lowestFree = none) : Bides s (ended s) ∧ (ended s).reports = s.reports := by
  have same := pulseCapture_stays h
  have bides := bides_ended (s := s)
  rw [same] at bides
  exact bides apart

/-- The end of a pulse that opens one. -/
structure Opens (k : Nat) (s t : State) : Prop where
  slot : t.slot k = s.captureSlot
  capture : t.store.captureList.getLast? = some k
  fields : t.copy.inputFields.getLast? = some (k, none)

theorem getLast?_sublist {α : Type} {a b : List α} {x : α} (sub : a.Sublist (b ++ [x])) (mem : x ∈ a) (fresh : x ∉ b) :
    a.getLast? = some x := by
  obtain ⟨a₁, a₂, rfl, first, last⟩ := List.sublist_append_iff.1 sub
  rcases List.sublist_singleton.1 last with rfl | rfl
  · rw [List.append_nil] at mem
    exact absurd (first.subset mem) fresh
  · simp

theorem ended_opens (sound : s.storeSound) (endSound : (ended s).storeSound) (due : s.captureDue) (free : s.lowestFree = some k) :
    Opens k s (ended s) ∧ Ends s (ended s) := by
  obtain ⟨held, -⟩ := storeSound_iff.1 sound
  obtain ⟨endHeld, -⟩ := storeSound_iff.1 endSound
  obtain ⟨isFree, hk⟩ := lowestFree_spec free
  have opened := pulseCapture_opens due free
  obtain ⟨unlisted, unqueued, -, -⟩ := held.free isFree
  have slotOf (i : Nat) : (pulseCapture s).slot i = if i = k then s.captureSlot else s.slot i := by
    have written : (setSlot k s.captureSlot s).slot i = if i = k then s.captureSlot else s.slot i := by
      rw [slot_setSlot]
      simp [hk]
    rw [opened]
    exact written
  have lists : (pulseCapture s).store.captureList = s.store.captureList ++ [k] ∧ (pulseCapture s).store.writeQueue = s.store.writeQueue ∧
      (pulseCapture s).copy.inputFields = s.copy.inputFields ++ [(k, none)] ∧ (pulseCapture s).coder = s.coder ∧
      (pulseCapture s).cues = s.cues ∧ (pulseCapture s).reports = s.reports ∧ (pulseCapture s).transport = s.transport ∧
      (pulseCapture s).store.trim = s.store.trim := by
    rw [opened]
    exact ⟨rfl, rfl, rfl, rfl, rfl, rfl, rfl, rfl⟩
  obtain ⟨capture, queue, fields, coder, cues, reports, transport, trim⟩ := lists
  obtain ⟨bides, same⟩ := bides_ended (s := s) fun i hi => by
    rw [queue] at hi
    rw [slotOf, if_neg (by rintro rfl; exact unqueued hi)]
    exact queueApart_of held i hi
  have at_k : (pulseCapture s).slot k = s.captureSlot := by rw [slotOf, if_pos rfl]
  have at_end : (ended s).slot k = s.captureSlot := by
    rw [bides.slot k (by rw [at_k]; exact .inl rfl), at_k]
  have listed : k ∈ (ended s).store.captureList := endHeld.mem_captureList.2 (.inl (by rw [at_end] <;> rfl))
  refine ⟨⟨at_end, ?_, ?_⟩, ⟨fun i lasting other => ?_, fun i freeOf => ?_, fun i waits => ?_, fun writing => ?_, ?_, ?_, fun record => ?_⟩⟩
  · have sub := bides.capture
    rw [capture] at sub
    exact getLast?_sublist sub listed unlisted
  · have sub := bides.fields
    rw [fields] at sub
    rw [← endHeld.fields] at listed
    obtain ⟨⟨i, field⟩, entry, rfl⟩ := List.mem_map.1 listed
    have fresh (x : Option CopyField) : ((i, x) : Nat × Option CopyField) ∉ s.copy.inputFields := fun before =>
      unlisted (by rw [← held.fields]; exact List.mem_map.2 ⟨_, before, rfl⟩)
    have last : ((i, field) : Nat × Option CopyField) = (i, none) := by
      rcases List.mem_append.1 (sub.subset entry) with before | here
      · exact absurd before (fresh field)
      · exact List.mem_singleton.1 here
    rw [last] at entry
    exact getLast?_sublist sub entry (fresh none)
  · have ne : i ≠ k := by
      rintro rfl
      exact other isFree
    rw [bides.slot i (by rw [slotOf, if_neg ne]; exact lasting), slotOf, if_neg ne]
  · by_cases here : i = k
    · subst here
      exact .inr (by rw [at_end] <;> rfl)
    · refine .inl ?_
      rw [bides.slot i (by rw [slotOf, if_neg here]; exact .inr (.inr (.inr freeOf))), slotOf, if_neg here]
      exact freeOf
  · by_cases here : i = k
    · subst here
      exact .inr (by rw [at_end] <;> rfl)
    · have before := bides.waits waits
      rw [slotOf, if_neg here] at before
      exact .inl before
  · rw [bides.coder, coder]
    intro w hw
    rw [coder] at hw
    have writes := writing w hw
    have ne : w.slot ≠ k := by
      intro here
      rw [here, isFree] at writes
      cases writes
    rw [slotOf, if_neg ne]
    exact writes
  · rw [bides.mark, cues]
  · rw [same, reports]
  · obtain ⟨-, kept, demand⟩ := bides.trim (by rw [transport]; exact record)
    exact ⟨kept.trans trim, demand.trans (by rw [transport])⟩

theorem ended_ends (sound : s.storeSound) (endSound : (ended s).storeSound) : Ends s (ended s) := by
  by_cases due : s.captureDue
  · cases free : s.lowestFree with
    | none =>
      obtain ⟨bides, reports⟩ := ended_stays (queueApart_of (storeSound_iff.1 sound).1) (.inr free)
      exact bides.ends reports
    | some k => exact (ended_opens sound endSound due free).2
  · obtain ⟨bides, reports⟩ := ended_stays (queueApart_of (storeSound_iff.1 sound).1) (.inl due)
    exact bides.ends reports

end
end Sys2Proof.Machine
end

section
/-! A frame pulse with the record gate open, from its beginning to its write window and past it (R24, R26, R29, R39, R51 to R55). -/

namespace Sys2Proof.Machine

-- One theorem after another: each one elaborated at the same time would hold a stack of its own.
set_option Elab.async false

section
variable {s t u : State} {i k f q : Nat} {l : List Nat}

/-- The pulse stands before its write window. -/
def State.beforeWindow (s : State) : State := pulseVerify s.decoder.time (pulseCut s.gated)

/-- It has judged the trim as the window opens. -/
def State.atWindow (s : State) : State := windowTrim s.beforeWindow

/-- It is past the window. -/
def State.pastWindow (s : State) : State := pulseWindow s.beforeWindow

/-- The mark record is checked. -/
def State.checked (s : State) : State := { s with cues := { s.cues with mark := s.cues.mark.check s.decoder.time } }

theorem pulseWork_ended (gathering : s.decoder.gathering = true) (pending : s.banks.pendingSwitch = none) :
    pulseWork s = ended s.pastWindow.checked := pulseWork_gathering gathering pending

/-- A pulse has come from `s` to its open window. -/
structure Reaches (s w : State) : Prop where
  banks : w.banks = s.banks
  state : w.transport.state = .record
  time : w.decoder.time = s.steppedTime
  gate : w.mixer.gateOpen = true
  punchIn : w.mixer.punchIn = s.mixer.punchIn
  withdrawn : s.withdraws → w.mixer.punchOut = none
  kept : ¬ s.withdraws → w.mixer.punchOut = s.mixer.punchOut
  sound : w.storeSound
  lasting : ∀ i, (s.slot i).lasting → (s.slot i).state ≠ .writing → w.slot i = s.slot i
  concealed : ∀ i, (s.slot i).state = .concealed → (w.slot i).state = .free ∨ Stands i s w
  waits : ∀ i, (w.slot i).waits → (s.slot i).waits ∧ (w.slot i).frameTime = (s.slot i).frameTime
  queue : w.store.writeQueue = s.store.writeQueue
  capture : w.store.captureList.Sublist s.store.captureList
  fields : w.copy.inputFields.Sublist s.copy.inputFields
  mark : w.cues.mark = s.cues.mark
  trim : w.carries ((if s.transport.state = .record then s.store.trim else .normal).atWindow s.store.writeQueue.length)

theorem Arrives.reaches {g : State} (arrives : Arrives s g) (arrived : s.gated = g) : Reaches s s.atWindow := by
  obtain ⟨held, -⟩ := storeSound_iff.1 arrives.sound
  have cuts := (pulseCut_cuts held).verified s.decoder.time
  have acts : Acts g (pulseVerify s.decoder.time (pulseCut g)) := (acts_pulseCut g).trans (acts_pulseVerify ..)
  have sound := acts.storeSound arrives.reading arrives.sound
  unfold State.atWindow State.beforeWindow
  rw [arrived]
  generalize pulseVerify s.decoder.time (pulseCut g) = c at cuts sound ⊢
  have leaves := cuts.leaves
  have same : c.banks = g.banks ∧ c.transport = g.transport ∧ c.decoder = g.decoder ∧ c.mixer = g.mixer ∧
      c.store.writeQueue = g.store.writeQueue ∧ c.store.captureList = g.store.captureList ∧ c.copy.inputFields = g.copy.inputFields ∧
      c.cues = g.cues ∧ c.store.trim = g.store.trim := by
    rw [leaves]
    exact ⟨rfl, rfl, rfl, rfl, rfl, rfl, rfl, rfl, rfl⟩
  obtain ⟨banks, transport, decoder, mixer, queue, capture, fields, cues, trim⟩ := same
  have carries := windowTrim_carries (s := c) (by rw [transport]; exact arrives.state)
  obtain ⟨trim', demand, trimmed⟩ := windowTrim_trimmed c
  have slotOf (i : Nat) : (windowTrim c).slot i = c.slot i := by rw [trimmed] <;> rfl
  have soundW : (windowTrim c).storeSound := by
    rw [trimmed]
    obtain ⟨heldC, off⟩ := storeSound_iff.1 sound
    exact storeSound_iff.2 ⟨heldC.of, off⟩
  have samePunches : g.samePunches (windowTrim c) := by
    rw [trimmed]
    show g.samePunches c
    unfold State.samePunches
    rw [mixer]
    exact ⟨rfl, rfl, rfl⟩
  have mixerW : (windowTrim c).mixer = g.mixer := (windowTrim_mixer c).trans mixer
  have bides := arrives.bides
  refine ⟨?_, ?_, ?_, by rw [mixerW]; exact arrives.gate, by rw [mixerW]; exact arrives.punchIn, fun h => by rw [mixerW]; exact arrives.withdrawn h,
    fun h => by rw [mixerW]; exact arrives.kept h, soundW, fun i lasting other => ?_, fun i concealed => ?_, fun i waits => ?_, ?_, ?_, ?_, ?_, ?_⟩
  · rw [trimmed]
    exact banks.trans bides.banks
  · rw [trimmed]
    exact (congrArg Transport.state transport).trans arrives.state
  · rw [windowTrim_decoder, decoder]
    exact arrives.time
  · have first := bides.slot i lasting
    rw [slotOf, cuts.slot i (by rw [first]; exact other), first]
  · rcases bides.concealed i concealed with free | follows
    · refine .inl ?_
      rw [slotOf, cuts.slot i (by rw [free]; decide)]
      exact free
    · have state : (g.slot i).state = .concealed := by rw [follows.slot]; exact concealed
      have second : (windowTrim c).slot i = g.slot i := by rw [slotOf, cuts.slot i (by rw [state]; decide)]
      exact .inr (follows.trans (.same second samePunches) (by rw [trimmed]; exact banks))
  · rw [slotOf] at waits
    have other : (g.slot i).state ≠ .writing := fun writing => by
      rcases cuts.writing i writing with e | e
      · exact waits.aside.2.1 e
      · exact waits.aside.2.2 e
    rw [cuts.slot i other] at waits
    rw [slotOf, cuts.slot i other]
    exact bides.waits waits
  · rw [trimmed]
    exact queue.trans bides.queue
  · rw [trimmed]
    show c.store.captureList.Sublist _
    rw [capture]
    exact bides.capture
  · rw [trimmed]
    show c.copy.inputFields.Sublist _
    rw [fields]
    exact bides.fields
  · rw [trimmed]
    exact (congrArg CueTable.mark cues).trans bides.mark
  · have depth : c.depthW = s.store.writeQueue.length := congrArg List.length (queue.trans bides.queue)
    rw [depth, trim, arrives.trim] at carries
    exact carries

theorem atWindow_slot (sound : s.gated.storeSound) (other : (s.gated.slot i).state ≠ .writing) : s.atWindow.slot i = s.gated.slot i := by
  have cuts := (pulseCut_cuts (storeSound_iff.1 sound).1).verified s.decoder.time
  obtain ⟨trim, demand, trimmed⟩ := windowTrim_trimmed s.beforeWindow
  unfold State.atWindow
  rw [trimmed]
  exact cuts.slot i other

theorem Reaches.order (h : Reaches s t) (recorded : s.recordSound) : (t.times t.store.writeQueue).Pairwise (· < ·) := by
  obtain ⟨-, order, -⟩ := recorded
  obtain ⟨held, -⟩ := storeSound_iff.1 h.sound
  have same : t.times t.store.writeQueue = s.times s.store.writeQueue := by
    rw [← h.queue]
    refine List.map_congr_left fun i queued => ?_
    have waits : (t.slot i).waits := .inr (held.mem_writeQueue.1 queued)
    rw [(h.waits i waits).2]
  rw [same]
  exact order

/-- The frame time of a slot on the write queue is the one it had as the pulse began. -/
theorem Reaches.queuedTime (h : Reaches s t) (queued : i ∈ s.store.writeQueue) : (t.slot i).frameTime = (s.slot i).frameTime := by
  obtain ⟨held, -⟩ := storeSound_iff.1 h.sound
  rw [← h.queue] at queued
  exact (h.waits i (.inr (held.mem_writeQueue.1 queued))).2

theorem Reaches.windows (h : Reaches s t) (recorded : s.recordSound) : Windows t t.windowed :=
  windowed_windows (storeSound_iff.1 h.sound).1 h.state (h.order recorded)

end
end Sys2Proof.Machine
end

section
/-! What a frame pulse with the record gate open leaves: the window, the OLD slots, the trim and the capture slot (R23, R26, R29, R39, R52,
R53, R57, R58, R99, R135, R142, R145). -/

namespace Sys2Proof.Machine

-- One theorem after another: each one elaborated at the same time would hold a stack of its own.
set_option Elab.async false

section
variable {s t u g w : State} {i k f q : Nat} {l : List Nat}

/-! ### From the window to the end of the pulse -/

theorem Windows.apart (h : Windows s t) (sound : SoundWith l s) : t.queueApart := fun i queued played => by
  have waits : (s.slot i).waits := .inr (sound.mem_writeQueue.1 (h.queue.subset queued))
  rcases h.slot i with same | ⟨-, -, free | writing⟩
  · rw [same] at played
    exact waits.aside.1 played
  · exact played.aside.2.2 free
  · exact played.aside.1 (.inr (.inr (.inl writing)))

/-- The OLD slots of the frame leave the output queue. -/
theorem Windows.bides (h : Windows s t) (sound : SoundWith l s) : Bides t (freeSlots (t.oldSlots t.decoder.time) t) :=
  bides_freeSlots (h.apart sound) fun i old => by
    have queued := (List.mem_filter.1 old).1
    rw [h.output] at queued
    have concealed := sound.mem_outputQueue.1 queued
    rcases h.slot i with same | ⟨waits, -⟩
    · rw [same]
      exact .inr (.inr (.inl concealed))
    · unfold Slot.waits at waits
      rw [concealed] at waits
      simp at waits

/-- A pulse has come from its open window to its end. -/
structure Leaves (w x : State) : Prop where
  windows : Windows w w.windowed
  bides : Bides w.windowed x
  decoder : x.decoder = w.decoder
  mixer : x.mixer = w.mixer
  banks : x.banks = w.banks
  state : x.transport.state = w.transport.state
  reports : x.reports = w.windowed.reports
  old : ∀ i, (w.slot i).state = .concealed → (w.slot i).role = some .old → (w.slot i).frameTime = some w.decoder.time →
    (x.slot i).state = .free
  sound : x.checked.storeSound
  ends : Ends x.checked (ended x.checked)
  endSound : (ended x.checked).storeSound

theorem ended_sound (reading : s.readingAgrees) (sound : s.storeSound) : (ended s).storeSound := by
  have capture := storeSound_pulseCapture sound
  have acts : Acts (pulseCapture s) (ended s) := (acts_pulseConditions _).trans (Calm.acts (.mix _))
  exact acts.storeSound ((agreed_pulseCapture s).reading reading) capture

theorem Arrives.leaves (arrives : Arrives s g) (arrived : s.gated = g) (recorded : s.recordSound) : Leaves s.atWindow s.pastWindow := by
  have reaches := arrives.reaches arrived
  have windows := reaches.windows recorded
  obtain ⟨held, -⟩ := storeSound_iff.1 reaches.sound
  have before : Acts g s.beforeWindow := by
    unfold State.beforeWindow
    rw [arrived]
    exact (acts_pulseCut g).trans (acts_pulseVerify ..)
  have acts : Acts g s.pastWindow.checked := (before.trans (acts_pulseWindow _)).trans (acts_markCheck ..)
  have sound := acts.storeSound arrives.reading arrives.sound
  have endSound := ended_sound (acts.agreed.reading arrives.reading) sound
  have gate : s.beforeWindow.mixer.gateOpen = true := by
    rw [← windowTrim_mixer]
    exact reaches.gate
  have past : s.pastWindow = freeSlots (s.atWindow.windowed.oldSlots s.atWindow.windowed.decoder.time) s.atWindow.windowed :=
    pulseWindow_open gate
  have bides := windows.bides held
  have frees := freeSlots_frees (s.atWindow.windowed.oldSlots s.atWindow.windowed.decoder.time) s.atWindow.windowed
  rw [← past] at bides frees
  refine ⟨windows, bides, frees.work.decoder.trans windows.decoder, frees.work.mixer.trans windows.mixer,
    frees.work.banks.trans windows.banks, frees.work.state.trans windows.state, frees.work.reports, fun i concealed role now => ?_, sound,
    ended_ends sound endSound, endSound⟩
  have same : s.atWindow.windowed.slot i = s.atWindow.slot i := (windows.slot i).resolve_right fun ⟨waits, _, _⟩ => by
    unfold Slot.waits at waits
    rw [concealed] at waits
    simp at waits
  have old : i ∈ s.atWindow.windowed.oldSlots s.atWindow.windowed.decoder.time := by
    unfold State.oldSlots
    rw [List.mem_filter, windows.output, windows.decoder, same]
    exact ⟨held.mem_outputQueue.2 concealed, by simp [role, now]⟩
  rw [frees.slot, if_pos old] <;> rfl

/-! ### What the whole pulse leaves -/

theorem Leaves.waits (h : Leaves s t) (waits : (t.slot i).waits) : (s.slot i).waits ∧ (t.slot i).frameTime = (s.slot i).frameTime := by
  obtain ⟨before, time⟩ := h.bides.waits waits
  rcases h.windows.slot i with same | ⟨-, -, free | writing⟩
  · rw [same] at before time
    exact ⟨before, time⟩
  · exact absurd free (Slot.waits.aside before).2.2
  · exact absurd writing (Slot.waits.aside before).2.1

/-- A slot that is FREE or WRITING stays so up to the end of the pulse. -/
theorem Leaves.stays (h : Leaves s t) (state : (s.slot i).state = .writing ∨ (s.slot i).state = .free) : t.slot i = s.slot i := by
  have same : s.windowed.slot i = s.slot i := (h.windows.slot i).resolve_right fun ⟨waits, _, _⟩ => by
    rcases state with e | e
    · exact waits.aside.2.1 e
    · exact waits.aside.2.2 e
  rw [h.bides.slot i (by rw [same]; exact .inr (.inr state)), same]

theorem Leaves.writes (h : Leaves s t) : ∀ w ∈ t.coder.current, (t.slot w.slot).state = .writing :=
  h.bides.writing h.windows.writing

theorem Leaves.coder (h : Leaves s t) : (ended t.checked).coder = s.windowed.coder :=
  (h.ends.coder h.writes).trans (h.bides.coder h.windows.writing)

theorem Leaves.mark (h : Leaves s t) : (ended t.checked).cues.mark = s.windowed.cues.mark.check s.decoder.time := by
  have first : (ended t.checked).cues.mark = t.cues.mark.check t.decoder.time := h.ends.mark
  rw [first, h.bides.mark, h.decoder]

theorem Leaves.keepsTrim (h : Leaves s t) (record : s.transport.state = .record) : s.windowed.keepsTrim (ended t.checked) := by
  obtain ⟨-, trim, demand⟩ := h.bides.trim (h.windows.state.trans record)
  obtain ⟨trim', demand'⟩ := h.ends.trim (h.state.trans record)
  exact ⟨trim'.trans trim, demand'.trans demand⟩

/-- The OLD slots of the frame are gone from the output queue. -/
theorem Leaves.gone (h : Leaves s t) (free : (t.slot i).state = .free) : i ∉ (ended t.checked).store.outputQueue := fun queued => by
  have concealed := (storeSound_iff.1 h.endSound).1.mem_outputQueue.1 queued
  rcases h.ends.free i free with e | e <;> rw [e] at concealed <;> cases concealed

end
end Sys2Proof.Machine
end

section
/-! A frame pulse with no frame gathered: what keeps a CAPTURED slot from being mixed before the write window (R32, R65, R74, R145, R146,
R148). -/

namespace Sys2Proof.Machine

-- One theorem after another: each one elaborated at the same time would hold a stack of its own.
set_option Elab.async false

section
variable {s t u g : State} {p : Punch} {i k f q : Nat} {l : List Nat}

/-- The head of the capture list is not ready for the Edit Mixer: it waits for its OLD slot. -/
def State.headWaits (s : State) : Prop := ∀ k ∈ s.store.captureList.head?, (s.slot k).state = .captured →
  s.crossFrame ((s.slot k).frameTime.getD 0) = true ∧ ∀ j ∈ s.store.outputQueue, (s.slot j).frameTime ≠ (s.slot k).frameTime

theorem mixerJudge_waits (timed : ∀ i, (s.slot i).state = .captured → (s.slot i).frameTime ≠ none) (waits : s.headWaits) :
    mixerJudge s = s := by
  cases list : s.store.captureList with
  | nil => exact mixerJudge_empty list _
  | cons i rest =>
    refine mixerJudge_stops list ?_ _
    by_cases captured : (s.slot i).state = .captured
    · obtain ⟨crosses, other⟩ := waits i (by rw [list] <;> rfl) captured
      obtain ⟨time, at_i⟩ := Option.ne_none_iff_exists'.1 (timed i captured)
      rw [at_i] at crosses other ⊢
      refine .inr ⟨crosses, Option.eq_none_iff_forall_ne_some.2 fun k old => ?_⟩
      obtain ⟨queued, -, -, now⟩ := oldSlot_spec old
      exact other k queued now
    · exact .inl captured

/-- A change of the take span that no waiting slot leaves, with the head of the capture list waiting still: CAPTURED slots stay. -/
theorem spanChanged_waits (timed : ∀ i, (s.slot i).state = .captured → (s.slot i).frameTime ≠ none) (inside : s.waitsInside)
    (waits : s.headWaits) (captured : (s.slot i).state = .captured) : (spanChanged s).slot i = s.slot i := by
  have work := slotWork_setRoles s
  obtain ⟨trim, demand, roles⟩ := withDepths_trimmed (fun t => { t with store := { t.store with
    slots := t.store.slots.map fun v => if v.rolesAgain then { v with role := some (t.roleFor (v.frameTime.getD 0)) } else v } }) s
  have lists : (setRoles s).store.captureList = s.store.captureList ∧ (setRoles s).store.outputQueue = s.store.outputQueue := by
    unfold setRoles
    rw [roles]
    exact ⟨rfl, rfl⟩
  have slotOf (k : Nat) : ((setRoles s).slot k).state = (s.slot k).state ∧ ((setRoles s).slot k).frameTime = (s.slot k).frameTime := by
    rw [slot_setRoles]
    split <;> exact ⟨rfl, rfl⟩
  have spanned : s.spanned.store = (setRoles s).store ∧ s.spanned.mixer = s.mixer ∧ s.spanned.banks = s.banks := by
    unfold State.spanned
    split
    · exact ⟨rfl, work.mixer, work.banks⟩
    · exact ⟨rfl, work.mixer, work.banks⟩
  have slotSpanned (k : Nat) : s.spanned.slot k = (setRoles s).slot k := by
    unfold State.slot
    rw [spanned.1]
  have cross : s.spanned.crossFrame = s.crossFrame := by
    funext f
    unfold State.crossFrame State.framePairs
    rw [spanned.2.1, activeBank_of spanned.2.2]
  have still : mixerJudge s.spanned = s.spanned := mixerJudge_waits
    (fun k => by rw [slotSpanned, (slotOf k).1, (slotOf k).2]; exact timed k) fun k head => by
      rw [spanned.1, lists.1] at head
      rw [cross, spanned.1, lists.2, slotSpanned, (slotOf k).1, (slotOf k).2]
      intro path
      obtain ⟨crosses, other⟩ := waits k head path
      exact ⟨crosses, fun j queued => by rw [slotSpanned, (slotOf j).2]; exact other j queued⟩
  rw [spanChanged_inside inside, still, slotSpanned, slot_setRoles, if_neg]
  unfold Slot.rolesAgain
  rw [captured]
  simp

/-! ### The pulse without a frame gathered -/

theorem nothing_gathered (sound : s.storeSound) (empty : s.store.gatherList = []) :
    s.decoder.current.bind (·.slot) = none ∧ s.decoder.nextSlot = none := by
  obtain ⟨-, split, -⟩ := sound
  rw [empty] at split
  have parts := split.symm
  simp only [List.append_eq_nil_iff, Option.toList_eq_nil_iff] at parts
  exact ⟨parts.1.2, parts.2⟩

theorem withdrawPunchOut_store {o : Punch} (gate : s.mixer.gateOpen = true) (punch : s.mixer.punchOut = some o)
    (h : s.withdrawable o s.decoder.time) : (withdrawPunchOut s).store =
      (spanChanged { s with mixer := { s.mixer with punchOut := none, committed := false } }).store := by
  unfold withdrawPunchOut
  rw [punch]
  refine (congrArg State.store (if_pos (c := _ ∧ _ ∧ _ ∧ _) ⟨gate, h⟩)).trans ?_
  dsimp only
  generalize spanChanged { s with mixer := { s.mixer with punchOut := none, committed := false } } = w
  obtain ⟨x, handed⟩ := handOffIf_eq (o.origin == .list) (.punchFailed .time)
    (logEntry .punchCancelled w.timeNow o.origin CancelReason.time.code w)
  rw [handed] <;> rfl

/-- The judgement leaves the store, but for a punch-out withdrawn. -/
theorem judging_store (gate : s.gateAgrees) (within : s.decoder.holdover ≤ s.activeBank.holdover) (kept : s.timeKept) :
    (¬ s.withdraws → s.judging.store = s.closing.store) ∧ (s.withdraws → s.judging.store =
      (spanChanged { s.closing.lossSeen with mixer := { s.mixer with punchOut := none, committed := false } }).store) := by
  obtain ⟨time, -, status, holdover⟩ := closing_time s
  have bank : s.closing.activeBank = s.activeBank := activeBank_of (stage_closing s).banks
  have mixer : s.closing.mixer = s.mixer := (stage_closing s).mixer
  by_cases confirmed : s.foundTime = some s.predictedTime
  · rw [judging_confirmed confirmed]
    exact ⟨fun _ => rfl, fun ⟨_, loses, _⟩ => absurd confirmed loses.2.1⟩
  by_cases current : s.decoder.current.isSome = true
  · rw [judging_invalid ⟨current, (kept.found.resolve_left confirmed).imp_right fun record => ⟨record, confirmed⟩⟩]
    by_cases known : s.decoder.status = .locked ∨ s.decoder.status = .holdover
    · by_cases below : s.decoder.holdover < s.activeBank.holdover
      · rw [judgeInvalid_holds (by rw [status]; exact known) (by rw [holdover, bank]; exact below)]
        exact ⟨fun _ => rfl, fun ⟨_, loses, _⟩ => absurd loses.2.2.2 (Nat.ne_of_lt below)⟩
      · have record : s.transport.state = .record := by
          rcases kept with record | confirmed' | ⟨-, below'⟩
          · exact record
          · exact absurd confirmed' confirmed
          · exact absurd below' below
        have opened : s.mixer.gateOpen = true := gate.1.2 record
        have loses : s.losesTime := ⟨current, confirmed, known, Nat.le_antisymm within (Nat.le_of_not_lt below)⟩
        have mixerL : s.closing.lossSeen.mixer = s.mixer := mixer
        have now : s.closing.lossSeen.decoder.time = s.steppedTime := time
        have due (o : Punch) : s.closing.lossSeen.withdrawable o s.closing.lossSeen.decoder.time ↔ s.withdrawable o s.steppedTime := by
          unfold State.withdrawable
          rw [mixerL, now]
        rw [judgeInvalid_loses (by rw [status]; exact known) (by rw [holdover, bank]; exact below), enterLost_eq,
          withdrawPunches_taken (s := s.closing.lossSeen) (by rw [mixerL, gate.2.1]; exact opened)]
        refine ⟨fun stays => ?_, fun ⟨_, _, o, punch, h⟩ => ?_⟩
        · have same : withdrawPunchOut s.closing.lossSeen = s.closing.lossSeen := withdrawPunchOut_stays fun o punch h =>
            stays ⟨record, loses, o, by rw [← mixerL]; exact punch, (due o).1 h⟩
          have store : s.closing.lossSeen.store = s.closing.store := rfl
          rw [same, store]
        · rw [withdrawPunchOut_store (by rw [mixerL]; exact opened) (by rw [mixerL]; exact punch) ((due o).2 h), mixerL]
    · rw [judgeInvalid_stays (by rw [status]; cases known' : s.decoder.status <;> simp_all)]
      exact ⟨fun _ => rfl, fun ⟨_, loses, _⟩ => absurd loses.2.2.1 known⟩
  · rw [judging_none (by simpa using current)]
    exact ⟨fun _ => rfl, fun ⟨_, loses, _⟩ => absurd loses.1 current⟩

theorem aim_idle (none : s.decoder.nextSlot = none) : (aim s).store = s.store := by
  obtain ⟨next, -, aimed⟩ := aim_eq s
  have both : s.staleSlot = Option.none ∧ s.aimedFrame.slot = Option.none := by
    rcases aimed_slots s with ⟨stale, frame⟩ | ⟨stale, frame⟩ <;> rw [stale, frame, none] <;> exact ⟨rfl, rfl⟩
  rw [aimed, both.1, both.2] <;> rfl

/-- A pulse with no frame gathered comes to its record gate with the store that the judgement leaves. -/
theorem atGate_store (sound : s.storeSound) (gate : s.gateAgrees) (within : s.decoder.holdover ≤ s.activeBank.holdover)
    (empty : s.store.gatherList = []) :
    s.atGate.store = s.judging.store ∧ s.closing.store = s.store := by
  obtain ⟨current, nextSlot⟩ := nothing_gathered sound empty
  obtain ⟨closed, -⟩ := closing_without current
  obtain ⟨held, next⟩ := soundWith_unaimed sound
  have list : s.unaimed.store.gatherList = [] := by
    have same := (grips_unaimed gate sound).list
    rw [closed, empty] at same
    exact same
  have none : s.unaimed.decoder.nextSlot = none := by
    unfold Decoder.nextSlot
    rw [next]
    exact nextSlot
  have aimed := aim_idle none
  have corrected : (aim s.unaimed).correctedSlots = [] := correctedSlots_nil (by rw [aimed]; exact list)
  have taken : takeFrames s.decoder.time (aim s.unaimed) = aim s.unaimed := by
    unfold takeFrames
    show takeReady s.decoder.time 16 _ = _
    unfold takeReady
    rw [corrected]
  have unaimed : s.unaimed.store = s.judging.store := by
    rw [unaimed_within within]
    unfold lostSeen
    split <;> rfl
  obtain ⟨-, -, committed⟩ := pulseCommit_spec s.aimed
  refine ⟨?_, closed⟩
  have first : s.atGate.store = s.aimed.store := (congrArg State.store committed).trans rfl
  rw [first, aimed_unaimed, taken, aimed, unaimed]

theorem slot_of_slots (slots : t.store.slots = s.store.slots) (k : Nat) : t.slot k = s.slot k := by
  unfold State.slot
  rw [slots]

theorem headWaits_of (store : t.store.captureList = s.store.captureList ∧ t.store.outputQueue = s.store.outputQueue)
    (slot : t.store.slots = s.store.slots) (cross : ∀ k ∈ s.store.captureList.head?, s.crossFrame ((s.slot k).frameTime.getD 0) = true →
      t.crossFrame ((s.slot k).frameTime.getD 0) = true) (waits : s.headWaits) : t.headWaits := by
  have slotOf := slot_of_slots slot
  intro k head
  rw [store.1] at head
  rw [slotOf, store.2]
  intro captured
  obtain ⟨crosses, other⟩ := waits k head captured
  exact ⟨cross k head crosses, fun j queued => by rw [slotOf]; exact other j queued⟩

theorem captured_timed (sound : s.storeSound) (k : Nat) (path : (s.slot k).state = .captured) : (s.slot k).frameTime ≠ none :=
  (storeSound_iff.1 sound).1.frameTime (by rw [path]; decide)

/-- As the gate opens no CAPTURED slot is mixed while the head of the capture list waits. -/
theorem gated_waits_opens (sound : s.storeSound) (inside : s.waitsInside) (gate : s.gateAgrees)
    (within : s.decoder.holdover ≤ s.activeBank.holdover) (empty : s.store.gatherList = []) (opens : s.opensAt) (waits : s.headWaits)
    (captured : (s.slot i).state = .captured) : s.gated.slot i = s.slot i := by
  have kept : s.timeKept := .inr opens.2.2.2
  obtain ⟨store, closed⟩ := atGate_store sound gate within empty
  obtain ⟨stays, -⟩ := judging_store gate within kept
  obtain ⟨p, -, opened, -, mixer, state⟩ := gated_opens opens gate within
  have same : s.atGate.store = s.store := by
    rw [store, stays fun ⟨record, _⟩ => (by rw [opens.1] at record; cases record), closed]
  obtain ⟨-, -, -, pairs⟩ := atGate_spec within kept
  have openStore : s.atGate.gateOpening.store = { s.store with trim := .normal } := by
    rw [← same] <;> rfl
  have slots : s.atGate.gateOpening.store.slots = s.store.slots := by rw [openStore]
  have slotOf := slot_of_slots slots
  have punches : s.atGate.gateOpening.mixer.punchIn = s.mixer.punchIn ∧ s.atGate.gateOpening.mixer.punchOut = s.mixer.punchOut := by
    show s.atGate.mixer.punchIn = _ ∧ s.atGate.mixer.punchOut = _
    rw [mixer]
    exact ⟨rfl, rfl⟩
  have pairsOf : s.atGate.gateOpening.framePairs = s.framePairs := pairs
  have insideOf : s.atGate.gateOpening.waitsInside := fun k path => by
    rw [slotOf] at path ⊢
    have span := inside k path
    unfold State.inSpan at span ⊢
    rw [punches.1, punches.2, pairsOf]
    exact span
  have waitsOf : s.atGate.gateOpening.headWaits := headWaits_of (by rw [openStore]; exact ⟨rfl, rfl⟩) slots (fun k _ crosses => by
    unfold State.crossFrame at crosses ⊢
    rw [punches.1, punches.2, pairsOf]
    exact crosses) waits
  have still := spanChanged_waits (i := i) (fun k => by rw [slotOf]; exact captured_timed sound k) insideOf waitsOf
    (by rw [slotOf]; exact captured)
  rw [opened]
  unfold State.slot at still ⊢
  rw [openGate_store (by rw [state] <;> rfl), still, slots]

/-- A frame that waits for its window is no crossfade frame of a punch-out that can be withdrawn. -/
theorem withdrawable_crosses {o : Punch} (recorded : s.recordSound) (leadIn : s.decoder.leadIn = 0)
    (late : s.steppedTime + 2 < o.time) (listed : k ∈ s.store.captureList) :
    o.crosses s.framePairs ((s.slot k).frameTime.getD 0) = false := by
  obtain ⟨-, -, -, -, span, -⟩ := recorded
  obtain ⟨inside, near⟩ := span ((s.slot k).frameTime.getD 0) (List.mem_map.2 ⟨k, List.mem_append.2 (.inl listed), rfl⟩)
  have below : (s.slot k).frameTime.getD 0 ≤ 359999 := by
    obtain ⟨p, -, -, below, -⟩ := (inSpan_iff s _).1 inside
    exact below
  unfold State.steppedTime at late
  rw [leadIn] at late
  simp only [Nat.lt_irrefl, if_false] at late
  unfold Punch.crosses
  have : ¬ o.time ≤ (s.slot k).frameTime.getD 0 := by omega
  simp [this]

/-- The state after a loss of time in a take whose punch-out is withdrawn. -/
def State.withdrawn (s : State) : State := { s.closing.lossSeen with mixer := { s.mixer with punchOut := none, committed := false } }

/-- As a punch-out is withdrawn no CAPTURED slot is mixed while the head of the capture list waits. -/
theorem spanChanged_withdrawn (sound : s.storeSound) (recorded : s.recordSound) (leadIn : s.decoder.leadIn = 0)
    (closed : s.closing.store = s.store) (withdraws : s.withdraws) (waits : s.headWaits) (captured : (s.slot i).state = .captured) :
    (spanChanged s.withdrawn).slot i = s.slot i := by
  obtain ⟨record, loses, o, punch, -, -, late⟩ := withdraws
  have inside := waitsInside_of sound recorded
  have store : s.withdrawn.store = s.store := closed
  have slotOf := slot_of_slots (congrArg FrameStore.slots store)
  have pairs : s.withdrawn.framePairs = s.framePairs :=
    congrArg (fun b : Bank => b.rate.pairs) (activeBank_of (stage_closing s).banks)
  have punchOf : s.mixer.punchOut = some o := punch
  have insideOf : s.withdrawn.waitsInside := fun k path => by
    rw [slotOf] at path ⊢
    have span := inSpan_endless (x := { s.mixer with punchOut := none, committed := false }) rfl rfl (inside k path)
    unfold State.inSpan at span ⊢
    exact span
  have waitsOf : s.withdrawn.headWaits := headWaits_of
    ⟨congrArg FrameStore.captureList store, congrArg FrameStore.outputQueue store⟩ (congrArg FrameStore.slots store)
    (fun k head crosses => by
      have early := withdrawable_crosses recorded leadIn late (List.mem_of_mem_head? head)
      unfold State.crossFrame at crosses ⊢
      rw [punchOf] at crosses
      rw [pairs]
      unfold State.withdrawn
      simp only [early, Bool.or_false] at crosses ⊢
      exact crosses) waits
  rw [spanChanged_waits (fun k => by rw [slotOf]; exact captured_timed sound k) insideOf waitsOf (by rw [slotOf]; exact captured), slotOf]

/-- A CAPTURED slot whose head waits, or in a take whose punches stand, is not mixed before the window. -/
theorem gated_waits (sound : s.storeSound) (recorded : s.recordSound) (gate : s.gateAgrees)
    (within : s.decoder.holdover ≤ s.activeBank.holdover) (leadIn : s.decoder.leadIn = 0) (empty : s.store.gatherList = [])
    (passes : s.opensAt ∨ s.runsOn) (h : s.runsOn ∧ ¬ s.withdraws ∨ s.headWaits) (captured : (s.slot i).state = .captured) :
    s.gated.slot i = s.slot i := by
  rcases passes with opens | runs
  · have waits : s.headWaits := h.resolve_left fun ⟨runs, _⟩ => by
      have record := runs.1
      rw [opens.1] at record
      cases record
    exact gated_waits_opens sound (waitsInside_of sound recorded) gate within empty opens waits captured
  · obtain ⟨store, closed⟩ := atGate_store sound gate within empty
    obtain ⟨stays, goes⟩ := judging_store gate within (.inl runs.1)
    rw [gated_runs runs gate within]
    by_cases withdraws : s.withdraws
    · have waits : s.headWaits := h.resolve_left fun ⟨_, stays⟩ => stays withdraws
      rw [← spanChanged_withdrawn sound recorded leadIn closed withdraws waits captured]
      exact slot_of_slots (congrArg FrameStore.slots (store.trans (goes withdraws))) i
    · exact slot_of_slots (by rw [store, stays withdraws, closed]) i

end
end Sys2Proof.Machine
end

section
/-! The parts of a frame pulse with the record gate open, as the state after it shows them (R23, R26, R29, R39, R51 to R53, R55, R57, R58, R99,
R135, R142, R145). -/

namespace Sys2Proof.Machine

-- One theorem after another: each one elaborated at the same time would hold a stack of its own.
set_option Elab.async false

section
variable {s t u g w x : State} {i k f q : Nat} {l : List Nat}

/-! ### The window taken (R29, R52, R57, R58, R135) -/

/-- The frame's slot is taken for the window. -/
theorem Leaves.takes (reaches : Reaches s w) (leaves : Leaves w x) (recorded : s.recordSound) (queued : i ∈ s.store.writeQueue)
    (mixed : (s.slot i).state = .mixed) (now : (s.slot i).frameTime = some s.steppedTime) :
    (ended x.checked).slot i = { s.slot i with state := .writing, start := (s.cues.mark.window s.steppedTime).1.isSome } ∧
    i ∉ (ended x.checked).store.writeQueue ∧
    (ended x.checked).coder = { w.coder with
      current := some ⟨i, s.steppedTime⟩, sequence := 0, writeOn := true, verify := addVerify s.steppedTime w.coder.verify
      subcode := ⟨s.steppedTime, ((s.slot i).format.getD s.activeFormat).rate, ((s.slot i).format.getD s.activeFormat).wordLength,
        (s.cues.mark.window s.steppedTime).1.getD 0, (s.cues.mark.window s.steppedTime).1.isSome, (s.slot i).copyField.getD .none⟩ } ∧
    (ended x.checked).cues.mark = (s.cues.mark.window s.steppedTime).2.check s.steppedTime := by
  obtain ⟨held, -⟩ := storeSound_iff.1 reaches.sound
  have same : w.slot i = s.slot i := reaches.lasting i (.inr (.inl mixed)) (by rw [mixed]; decide)
  have takes := windowed_takes held reaches.state (reaches.order recorded) (by rw [reaches.queue]; exact queued) (by rw [same]; exact mixed)
    (by rw [same, reaches.time]; exact now)
  have format : w.activeFormat = s.activeFormat := by
    unfold State.activeFormat
    rw [activeBank_of reaches.banks]
  have taken := takes.taken
  have coder := takes.coder
  have mark := takes.mark
  rw [reaches.time, reaches.mark, same] at taken
  rw [reaches.time, reaches.mark, same, format] at coder
  rw [reaches.time, reaches.mark] at mark
  have first : x.slot i = w.windowed.slot i := leaves.bides.slot i (by rw [taken]; exact .inr (.inr (.inl rfl)))
  have last : (ended x.checked).slot i = x.checked.slot i :=
    leaves.ends.lasting i (by show (x.slot i).lasting; rw [first, taken]; exact .inr (.inr (.inl rfl)))
      (by show (x.slot i).state ≠ .free; rw [first, taken]; intro e; cases e)
  have whole : (ended x.checked).slot i = w.windowed.slot i := last.trans first
  refine ⟨whole.trans taken, fun still => ?_, leaves.coder.trans coder, ?_⟩
  · have states := (storeSound_iff.1 leaves.endSound).1.mem_writeQueue.1 still
    rw [whole, taken] at states
    simp at states
  · rw [leaves.mark, mark, reaches.time]

/-! ### The frame write-late (R29, R53) -/

/-- The frame is write-late where no slot of it is MIXED as the window opens. -/
theorem Leaves.lates (reaches : Reaches s w) (leaves : Leaves w x) (recorded : s.recordSound)
    (still : ∀ i, (s.slot i).state = .captured → (w.slot i).state = .captured)
    (unmixed : ∀ i ∈ s.store.writeQueue, (s.slot i).state = .mixed → (s.slot i).frameTime ≠ some s.steppedTime) :
    (ended x.checked).coder.current = none ∧ (ended x.checked).coder.writeOn = false ∧
    (ended x.checked).cues.mark = s.cues.mark.check s.steppedTime ∧
    (∀ i, ((ended x.checked).slot i).state = .capturing ∨ ((ended x.checked).slot i).state = .captured →
      ((ended x.checked).slot i).frameTime ≠ some s.steppedTime) ∧
    ∃ n c, (ended x.checked).reports.log.getLast? = some ⟨n, .writeLate, some s.steppedTime, .internal, c⟩ ∧
      ((∃ k, ((s.slot k).state = .capturing ∨ (s.slot k).state = .captured) ∧ (s.slot k).frameTime = some s.steppedTime) → c = 0) ∧
      ((∀ k, (s.slot k).state = .capturing ∨ (s.slot k).state = .captured → (s.slot k).frameTime ≠ some s.steppedTime) → c = 1) := by
  obtain ⟨held, -⟩ := storeSound_iff.1 reaches.sound
  -- A slot that is MIXED as the window opens was MIXED as the pulse began.
  have mixedBefore {i : Nat} (mixed : (w.slot i).state = .mixed) : (s.slot i).state = .mixed ∧ (w.slot i).frameTime = (s.slot i).frameTime := by
    obtain ⟨waited, time⟩ := reaches.waits i (.inr (.inr mixed))
    refine ⟨?_, time⟩
    rcases waited with capturing | captured | before
    · rw [reaches.lasting i (.inl capturing) (by rw [capturing]; decide), capturing] at mixed
      cases mixed
    · rw [still i captured] at mixed
      cases mixed
    · exact before
  have unmixedW : ∀ i ∈ w.store.writeQueue, (w.slot i).frameTime = some w.decoder.time → (w.slot i).state ≠ .mixed := by
    intro i queued now mixed
    obtain ⟨before, time⟩ := mixedBefore mixed
    rw [reaches.queue] at queued
    rw [time, reaches.time] at now
    exact unmixed i queued before now
  have lates := windowed_lates held reaches.state (reaches.order recorded) unmixedW
  have path {i : Nat} : (w.slot i).state = .capturing ∨ (w.slot i).state = .captured ↔
      (s.slot i).state = .capturing ∨ (s.slot i).state = .captured := by
    constructor
    · intro waits
      obtain ⟨waited, -⟩ := reaches.waits i (by unfold Slot.waits; tauto)
      rcases waited with capturing | captured | mixed
      · exact .inl capturing
      · exact .inr captured
      · rw [reaches.lasting i (.inr (.inl mixed)) (by rw [mixed]; decide), mixed] at waits
        simp at waits
    · rintro (capturing | captured)
      · exact .inl (by rw [reaches.lasting i (.inl capturing) (by rw [capturing]; decide)]; exact capturing)
      · exact .inr (still i captured)
  have time {i : Nat} (waits : (w.slot i).state = .capturing ∨ (w.slot i).state = .captured) : (w.slot i).frameTime = (s.slot i).frameTime :=
    (reaches.waits i (by unfold Slot.waits; tauto)).2
  obtain ⟨n, c, logged, zero, one⟩ := lates.logged
  rw [reaches.time] at logged zero one
  refine ⟨?_, ?_, ?_, fun i waits now => ?_, n, c, ?_, fun ⟨k, waits, now⟩ => zero ⟨k, path.2 waits, ?_⟩, fun none => one fun k waits now => ?_⟩
  · rw [leaves.coder]
    exact lates.current
  · rw [leaves.coder]
    exact lates.writeOn
  · rw [leaves.mark, lates.mark, reaches.mark, reaches.time]
  · rcases leaves.ends.waits i (by unfold Slot.waits; tauto) with ⟨waited, same⟩ | late
    · have waitedX : (x.slot i).waits := waited
      have timeX : (x.slot i).frameTime = some s.steppedTime := same.symm.trans now
      obtain ⟨waitedW, sameW⟩ := leaves.waits waitedX
      rw [timeX] at sameW
      have free : (w.windowed.slot i).state = .free := lates.freed i (by
        rcases waitedW with h | h | mixed
        · exact .inl h
        · exact .inr h
        · exact absurd mixed (unmixedW i (held.mem_writeQueue.2 (.inr mixed)) (by rw [reaches.time]; exact sameW.symm)))
        (by rw [reaches.time]; exact sameW.symm)
      exact waitedX.aside.2.2 (by rw [leaves.bides.slot i (.inr (.inr (.inr free)))]; exact free)
    · rw [now, show x.checked.decoder.time = s.steppedTime from (congrArg Decoder.time leaves.decoder).trans reaches.time] at late
      have := Option.some.inj late
      omega
  · rw [leaves.ends.reports]
    exact (congrArg (fun r : Reports => r.log.getLast?) leaves.reports).trans logged
  · rw [time (path.2 waits)]
    exact now
  · rw [time waits] at now
    exact none k (path.1 waits) now

/-! ### The OLD slots and the trim (R23, R29, R39) -/

/-- The OLD slots of the frame leave the output queue. -/
theorem Leaves.olds (reaches : Reaches s w) (leaves : Leaves w x) (sound : s.storeSound)
    (span : w.inSpan s.steppedTime = true ∨ w.mixer.ahead = s.mixer.ahead)
    (queued : i ∈ s.store.outputQueue) (role : (s.slot i).role = some .old) (now : (s.slot i).frameTime = some s.steppedTime) :
    i ∉ (ended x.checked).store.outputQueue := by
  have concealed := (storeSound_iff.1 sound).1.mem_outputQueue.1 queued
  refine leaves.gone ?_
  rcases reaches.concealed i concealed with free | stands
  · rw [leaves.stays (.inr free)]
    exact free
  · have slot := stands.slot
    have old : (w.slot i).role = some .old := by
      by_cases mixed : (s.slot i).mixed = true
      · rw [stands.mixed mixed]
        exact role
      · rcases stands.roles with ⟨-, same⟩ | ⟨less, again⟩
        · rw [same]
          exact role
        · have inside := span.resolve_right (Nat.ne_of_lt less)
          rw [again (by simpa using mixed) (.inr role), now]
          show some (w.roleFor s.steppedTime) = _
          unfold State.roleFor
          rw [if_pos inside]
    exact leaves.old i (by rw [slot]; exact concealed) old (by rw [slot, reaches.time]; exact now)

/-- The trim as the window leaves it. -/
theorem Leaves.trims (reaches : Reaches s w) (leaves : Leaves w x) :
    ((∀ i ∈ s.store.writeQueue, (s.slot i).frameTime ≠ some s.steppedTime) →
      (ended x.checked).carries ((if s.transport.state = .record then s.store.trim else .normal).atWindow s.store.writeQueue.length)) ∧
    ((∃ i ∈ s.store.writeQueue, (s.slot i).frameTime = some s.steppedTime) →
      (ended x.checked).carries (((if s.transport.state = .record then s.store.trim else .normal).atWindow
        s.store.writeQueue.length).afterW (s.store.writeQueue.length - 1))) := by
  obtain ⟨trim, demand⟩ := leaves.keepsTrim reaches.state
  obtain ⟨trimW, demandW⟩ := reaches.trim
  have depth : w.depthW = s.store.writeQueue.length := congrArg List.length reaches.queue
  have time {i : Nat} (queued : i ∈ w.store.writeQueue) : (w.slot i).frameTime = (s.slot i).frameTime :=
    reaches.queuedTime (by rw [← reaches.queue]; exact queued)
  refine ⟨fun none => ?_, fun ⟨i, queued, now⟩ => ?_⟩
  · obtain ⟨kept, keptDemand⟩ := leaves.windows.keeps fun i queued => by
      rw [time queued, reaches.time]
      rw [reaches.queue] at queued
      exact none i queued
    exact ⟨trim.trans (kept.trans trimW), demand.trans (keptDemand.trans demandW)⟩
  · obtain ⟨left, leftDemand⟩ := leaves.windows.follows ⟨i, by rw [reaches.queue]; exact queued, by
      rw [reaches.queuedTime queued, reaches.time]
      exact now⟩
    rw [trimW, depth] at left leftDemand
    exact ⟨trim.trans left, demand.trans leftDemand⟩

/-! ### The capture slot (R23, R26, R99) -/

/-- No slot that waits is of frame T + 2 before the capture slot of the pulse opens. -/
theorem Reaches.early (reaches : Reaches s w) (leaves : Leaves w x) (sound : s.storeSound) (recorded : s.recordSound)
    (leadIn : s.decoder.leadIn = 0) (waits : (x.slot i).waits) : (s.slot i).waits ∧ (x.slot i).frameTime ≠ some (s.steppedTime + 2) := by
  obtain ⟨held, -⟩ := storeSound_iff.1 sound
  obtain ⟨waitsW, timeW⟩ := leaves.waits waits
  obtain ⟨waitsS, timeS⟩ := reaches.waits i waitsW
  refine ⟨waitsS, fun now => ?_⟩
  obtain ⟨-, -, -, -, span, -⟩ := recorded
  obtain ⟨inside, near⟩ := span _ (List.mem_map.2 ⟨i, List.mem_append.2 (by
    rw [held.mem_captureList, held.mem_writeQueue]
    unfold Slot.waits at waitsS
    tauto), rfl⟩)
  obtain ⟨p, -, -, below, -⟩ := (inSpan_iff s _).1 inside
  rw [timeW, timeS] at now
  rw [now] at near below
  have stepped : s.steppedTime = min 359999 (s.decoder.time + 1) := by
    unfold State.steppedTime
    rw [leadIn]
    exact if_neg (lt_irrefl 0)
  simp only [Option.getD_some] at near below
  omega

/-- Frame T + 2 lies in the take span as the pulse finds it. -/
def State.capturesNext (s : State) : Prop := s.steppedTime + 2 ≤ 359999 ∧
  (s.withdraws ∨ ∀ o ∈ s.mixer.punchOut, s.steppedTime + 2 ≤ o.lastOut s.framePairs)

theorem Reaches.span (reaches : Reaches s w) (begun : ∃ p ∈ s.mixer.punchIn, p.time ≤ s.steppedTime) {n : Nat} :
    w.inSpan (s.steppedTime + n) = true ↔ s.steppedTime + n ≤ 359999 ∧
      (s.withdraws ∨ ∀ o ∈ s.mixer.punchOut, s.steppedTime + n ≤ o.lastOut s.framePairs) := by
  obtain ⟨p, punch, early⟩ := begun
  have punchIn : s.mixer.punchIn = some p := punch
  have pairs : w.framePairs = s.framePairs := congrArg (fun b : Bank => b.rate.pairs) (activeBank_of reaches.banks)
  unfold State.inSpan
  rw [reaches.punchIn, punchIn, pairs]
  by_cases withdraws : s.withdraws
  · rw [reaches.withdrawn withdraws]
    simp only [Bool.and_true, Bool.and_eq_true, decide_eq_true_eq, withdraws, true_or, and_true]
    exact ⟨fun h => h.2, fun h => ⟨by omega, h⟩⟩
  · rw [reaches.kept withdraws]
    cases s.mixer.punchOut with
    | none =>
      simp only [Bool.and_true, Bool.and_eq_true, decide_eq_true_eq]
      exact ⟨fun h => ⟨h.2, .inr (by simp)⟩, fun h => ⟨by omega, h.1⟩⟩
    | some o =>
      simp only [Bool.and_eq_true, decide_eq_true_eq, withdraws, false_or, Option.mem_some_iff, forall_eq']
      exact ⟨fun h => ⟨h.1.2, h.2⟩, fun h => ⟨⟨by omega, h.1⟩, h.2⟩⟩

theorem Leaves.inSpan (leaves : Leaves w x) (f : Nat) : x.checked.inSpan f = w.inSpan f :=
  inSpan_congr leaves.mixer (congrArg (fun b : Bank => b.rate.pairs) (activeBank_of leaves.banks)) f

theorem Leaves.time (reaches : Reaches s w) (leaves : Leaves w x) : x.checked.decoder.time = s.steppedTime :=
  (congrArg Decoder.time leaves.decoder).trans reaches.time

/-- The capture slot of frame T + 2 opens where that frame lies in the take span and a slot is FREE. -/
theorem Leaves.opens (reaches : Reaches s w) (leaves : Leaves w x) (sound : s.storeSound) (recorded : s.recordSound)
    (leadIn : s.decoder.leadIn = 0) (begun : ∃ p ∈ s.mixer.punchIn, p.time ≤ s.steppedTime) (captures : s.capturesNext)
    (free : s.lowestFree.isSome = true) : ∃ k, (ended x.checked).store.captureList.getLast? = some k ∧
      (ended x.checked).slot k = Slot.opened .capturing .input (s.steppedTime + 2) s.activeFormat ∧
      (ended x.checked).copy.inputFields.getLast? = some (k, none) := by
  have time := leaves.time reaches
  obtain ⟨heldX, -⟩ := storeSound_iff.1 leaves.sound
  have due : x.checked.captureDue := by
    refine ⟨?_, ?_, fun i listed => ?_⟩
    · show x.transport.state.rolling = true
      rw [leaves.state, reaches.state] <;> rfl
    · rw [time, leaves.inSpan]
      exact (reaches.span begun).2 captures
    · rw [time]
      exact (reaches.early leaves sound recorded leadIn (by
        have := heldX.mem_captureList.1 listed
        show (x.checked.slot i).waits
        unfold Slot.waits
        tauto)).2
  obtain ⟨j, lowest⟩ := Option.isSome_iff_exists.1 free
  obtain ⟨isFree, hj⟩ := lowestFree_spec lowest
  have freeX : (x.checked.slot j).state = .free := by
    have first := reaches.lasting j (.inr (.inr (.inr isFree))) (by rw [isFree]; decide)
    show (x.slot j).state = .free
    rw [leaves.stays (.inr (by rw [first]; exact isFree)), first]
    exact isFree
  have length : x.checked.store.slots.length = s.store.slots.length := heldX.length.trans (storeSound_iff.1 sound).1.length.symm
  obtain ⟨k, lowestX⟩ := Option.isSome_iff_exists.1 (lowestFree_isSome (by rw [length]; exact hj) freeX)
  obtain ⟨slot, capture, fields⟩ := (ended_opens leaves.sound leaves.endSound due lowestX).1
  have format : x.checked.activeFormat = s.activeFormat := by
    have banks : x.checked.banks = s.banks := leaves.banks.trans reaches.banks
    unfold State.activeFormat
    rw [activeBank_of banks]
  refine ⟨k, capture, ?_, fields⟩
  rw [slot]
  unfold State.captureSlot
  rw [time, format]

/-- Else none opens. -/
theorem Leaves.shuts (reaches : Reaches s w) (leaves : Leaves w x) (sound : s.storeSound) (recorded : s.recordSound)
    (leadIn : s.decoder.leadIn = 0) (begun : ∃ p ∈ s.mixer.punchIn, p.time ≤ s.steppedTime) (captures : ¬ s.capturesNext) :
    ∀ k ∈ (ended x.checked).store.captureList, k ∈ s.store.captureList ∧
      ((ended x.checked).slot k).frameTime ≠ some (s.steppedTime + 2) := by
  obtain ⟨heldX, -⟩ := storeSound_iff.1 leaves.sound
  have out : ¬ x.checked.captureDue := fun ⟨_, inside, _⟩ => by
    rw [leaves.time reaches, leaves.inSpan] at inside
    exact captures ((reaches.span begun).1 inside)
  obtain ⟨bides, -⟩ := ended_stays (queueApart_of heldX) (.inl out)
  intro k listed
  have before := bides.capture.subset listed
  have waits := (storeSound_iff.1 leaves.endSound).1.mem_captureList.1 listed
  obtain ⟨waitsX, same⟩ := bides.waits (i := k) (by tauto)
  refine ⟨reaches.capture.subset (leaves.windows.capture.subset (leaves.bides.capture.subset before)), ?_⟩
  rw [same]
  exact (reaches.early leaves sound recorded leadIn waitsX).2

end
end Sys2Proof.Machine
end

section
/-! A window cut at a frame pulse, and the pulse that closes the record gate (R23, R37, R38, R51, R55, R120, R149). -/

namespace Sys2Proof.Machine

-- One theorem after another: each one elaborated at the same time would hold a stack of its own.
set_option Elab.async false

section
variable {s t u g w x : State} {o : Punch} {i k f q : Nat} {l : List Nat}

/-! ### The window cut (R29, R55) -/

/-- WRITING slots stay, and FREE ones open for capture at most. -/
structure Spares (s t : State) : Prop where
  writing : ∀ i, (s.slot i).state = .writing → t.slot i = s.slot i
  free : ∀ i, (s.slot i).state = .free → (t.slot i).state = .free ∨ (t.slot i).state = .capturing

theorem Ends.spares (h : Ends s t) : Spares s t :=
  ⟨fun i writing => h.lasting i (.inr (.inr (.inl writing))) (by rw [writing]; intro e; cases e), h.free⟩

/-- The cut of a window still open, as the state after the pulse shows it. -/
theorem cut_seen {w : WriteFrame} (sound : SoundWith l g) (few : g.coder.verify.length ≤ 3) (current : g.coder.current = some w)
    (below : g.coder.sequence < 152) (spares : Spares (pulseVerify q (pulseCut g)) (afterGate q g)) :
    (∃ e ∈ (afterGate q g).reports.log, e.kind = .writeLate ∧ e.time = some w.time ∧ e.origin = .internal ∧ e.argument = 2) ∧
    ((g.slot w.slot).monitor ≠ .finished → (afterGate q g).slot w.slot = { g.slot w.slot with supplyDone := true }) ∧
    ((g.slot w.slot).monitor = .finished → ((afterGate q g).slot w.slot).state ≠ .writing) := by
  obtain ⟨writing, -⟩ := sound.write w current
  obtain ⟨-, -, slot, n, entry⟩ := pulseCut_open sound current below
  obtain ⟨verify, reports, conditions, verified⟩ := pulseVerify_leaves q (pulseCut g)
  have slotOf : (pulseVerify q (pulseCut g)).slot w.slot = (pulseCut g).slot w.slot := by rw [verified] <;> rfl
  rw [slot] at slotOf
  have before := (stage_pulseCut g).verify few
  have verifies := stage_pulseVerify q (pulseCut g)
  have windowed := stage_pulseWindow (pulseVerify q (pulseCut g))
  have rest : Stage [.writeLate] [] 1 (pulseVerify q (pulseCut g)) (afterGate q g) := by
    unfold afterGate
    dsimp only
    generalize pulseWindow (pulseVerify q (pulseCut g)) = u at windowed ⊢
    have checked : Stage [] [] 0 u { u with cues := { u.cues with mark := u.cues.mark.check u.decoder.time } } := (Amends.of ..).stage
    exact windowed.then (checked.then ((stage_pulseCapture _).then ((stage_pulseConditions _).then (slotWork_mixerJudge _).stage)))
  have logged := ((verifies.trans rest).recent 0 _ (by omega) entry).mem
  refine ⟨⟨_, logged, rfl, rfl, rfl, rfl⟩, fun other => ?_, fun finished => ?_⟩
  · rw [if_neg other] at slotOf
    rw [spares.writing w.slot (by rw [slotOf]; exact writing), slotOf]
  · rw [if_pos finished] at slotOf
    rcases spares.free w.slot (by rw [slotOf] <;> rfl) with e | e <;> rw [e] <;> intro h <;> cases h

/-! ### The punches cleared (R23, R27, R37, R149) -/

/-- The record path is empty but for WRITING slots. -/
structure Cleared (s t : State) : Prop where
  writing : ∀ i, (s.slot i).state = .writing → t.slot i = s.slot i
  path : ∀ i, ¬ (t.slot i).waits
  capture : t.store.captureList = []
  queue : t.store.writeQueue = []
  fields : t.copy.inputFields = []
  coder : t.coder = s.coder

theorem cleared_spanChanged (sound : SoundWith l s) : Cleared s (spanChanged (clearPunches s)) := by
  have soundC : SoundWith l (clearPunches s) := sound.of
  have soundR := soundC.setRoles
  have workR := slotWork_setRoles (clearPunches s)
  have writingR {i : Nat} (writing : (s.slot i).state = .writing) : (setRoles (clearPunches s)).slot i = s.slot i := by
    rw [slot_setRoles, if_neg]
    · rfl
    · show ¬ (s.slot i).rolesAgain = true
      unfold Slot.rolesAgain
      rw [writing]
      simp
  have coderR : (setRoles (clearPunches s)).coder = s.coder := by
    obtain ⟨trim, demand, roles⟩ := withDepths_trimmed (fun t => { t with store := { t.store with
      slots := t.store.slots.map fun v => if v.rolesAgain then { v with role := some (t.roleFor (v.frameTime.getD 0)) } else v } })
      (clearPunches s)
    unfold setRoles
    rw [roles] <;> rfl
  have none : (setRoles (clearPunches s)).mixer.punchIn = none := by rw [workR.mixer] <;> rfl
  unfold spanChanged
  dsimp only
  generalize setRoles (clearPunches s) = r at soundR writingR coderR none ⊢
  have outside (i : Nat) : i ∈ r.slotsWhere r.outsideSpan ↔ (r.slot i).waits := by
    unfold State.slotsWhere
    rw [List.mem_filter, List.mem_range]
    refine ⟨fun h => outsideSpan_state h.2, fun waits => ⟨soundR.lt waits.aside.2.2, ?_⟩⟩
    have out : r.inSpan ((r.slot i).frameTime.getD 0) = false := by
      unfold State.inSpan
      rw [none]
    unfold State.outsideSpan
    unfold Slot.waits at waits
    simp only [out, Bool.not_false, Bool.and_true, Bool.or_eq_true, beq_iff_eq]
    tauto
  have soundF := soundR.freeSlots (fs := r.slotsWhere r.outsideSpan) fun i hi => by
    rcases (outside i).1 hi with e | e | e <;> rw [e] <;> decide
  have frees := freeSlots_frees (r.slotsWhere r.outsideSpan) r
  generalize freeSlots (r.slotsWhere r.outsideSpan) r = v at soundF frees ⊢
  have noneV : v.mixer.punchIn = Option.none := by rw [frees.work.mixer, none]
  have path (i : Nat) : ¬ (v.slot i).waits := fun waits => by
    rw [frees.slot] at waits
    split at waits
    · exact waits.aside.2.2 rfl
    · next stays => exact stays ((outside i).2 waits)
  have capture : v.store.captureList = [] := List.eq_nil_iff_forall_not_mem.2 fun i listed => path i (by
    have := soundF.mem_captureList.1 listed
    unfold Slot.waits
    tauto)
  have queue : v.store.writeQueue = [] := List.eq_nil_iff_forall_not_mem.2 fun i listed => path i (.inr (soundF.mem_writeQueue.1 listed))
  have fields : v.copy.inputFields = [] := by
    rw [← List.map_eq_nil_iff (f := Prod.fst), soundF.fields, capture]
  have writing {i : Nat} (writes : (s.slot i).state = .writing) : i ∉ r.slotsWhere r.outsideSpan := fun out => by
    have waits := (outside i).1 out
    rw [writingR writes] at waits
    exact waits.aside.2.1 writes
  have coder : v.coder = s.coder := by
    have still : s.coder.current.filter (·.slot ∉ r.slotsWhere r.outsideSpan) = s.coder.current := by
      cases current : s.coder.current with
      | none => rfl
      | some w => rw [Option.filter_some, if_pos (by simpa using writing (sound.write w current).1)]
    rw [frees.work.coder, frees.current, coderR, still]
  rw [if_pos noneV, mixerJudge_capturing (s := { v with copy := { v.copy with latched := false } }) (by rw [capture]; simp)]
  refine ⟨fun i writes => ?_, path, capture, queue, fields, coder⟩
  show v.slot i = _
  rw [frees.slot, if_neg (writing writes), writingR writes]

/-- The record gate closes: the record path cleared, PLAY under the trim NORMAL. -/
theorem closeOnPulse_clears {last : Nat} (sound : SoundWith l s) (rolling : s.transport.state.rolling = true) :
    Cleared s (closeOnPulse o last s) ∧ (closeOnPulse o last s).carries .normal ∧ (closeOnPulse o last s).cues.mark = s.cues.mark ∧
    (closeOnPulse o last s).decoder.time = s.decoder.time := by
  have cleared := cleared_spanChanged sound
  have work := (slotWork_spanChanged (clearPunches s)).1
  unfold closeOnPulse
  dsimp only
  generalize spanChanged (clearPunches s) = w at cleared work ⊢
  rw [enterState_steady (by rw [work.state]; exact rolling)]
  obtain ⟨h, handed⟩ := handOffIf_eq (o.origin == .list) (.punchOutDone last)
    (logEntry .punchOut (some last) o.origin 0 (raiseFlag .punchOut (entered .play (.playSpeed .normal) w)))
  rw [handed]
  obtain ⟨writing, path, capture, queue, fields, coder⟩ := cleared
  have cues : w.cues.mark = s.cues.mark := by rw [work.cues] <;> rfl
  have mark : (entered .play (.playSpeed .normal) w).cues.mark = w.cues.mark := by
    unfold entered
    dsimp only
    exact if_pos (.inl rfl)
  have time : w.decoder.time = s.decoder.time := by rw [work.decoder] <;> rfl
  exact ⟨⟨writing, path, capture, queue, fields, coder⟩, ⟨rfl, rfl⟩, mark.trans cues, time⟩

/-- The gate closes at this pulse. -/
def State.closesAt (s : State) : Prop := s.transport.state = .record ∧
  ∃ o ∈ s.mixer.punchOut, s.steppedTime = o.lastOut s.framePairs + 1

/-- A pulse has come to its window from `s` with the record gate shut. -/
structure Rests (s g : State) : Prop where
  state : g.transport.state = .play
  shut : g.mixer.gateOpen = false
  time : g.decoder.time = s.steppedTime
  mark : g.cues.mark = s.cues.mark
  coder : g.coder = s.coder
  writing : ∀ i, (s.slot i).state = .writing → g.slot i = s.slot i
  sound : g.storeSound
  reading : g.readingAgrees

theorem lastOut_late (o : Punch) (n : Nat) : o.time ≤ o.lastOut n + 1 := by
  unfold Punch.lastOut
  split <;> omega

/-- The gate closes: the punches are none and the record path is empty. -/
theorem rests_closes (closes : s.closesAt) (sound : s.storeSound) (gate : s.gateAgrees) (reading : s.readingAgrees) (inside : s.waitsInside)
    (within : s.decoder.holdover ≤ s.activeBank.holdover) :
    Rests s s.gated ∧ s.gated.mixer.punchIn = none ∧ s.gated.carries .normal ∧ (∀ i, ¬ (s.gated.slot i).waits) ∧
    s.gated.store.captureList = [] ∧ s.gated.store.writeQueue = [] ∧ s.gated.copy.inputFields = [] := by
  obtain ⟨record, o, punch, last⟩ := closes
  have rolling : s.transport.state.rolling = true := by rw [record] <;> rfl
  have kept : s.timeKept := .inl record
  have opened : s.mixer.gateOpen = true := gate.1.2 record
  have taken : s.mixer.taken = true := gate.2.1.trans opened
  obtain ⟨held, -⟩ := storeSound_iff.1 sound
  have judged : s.judging.mixer = s.mixer := by
    by_cases loses : s.losesTime
    · refine (judging_take taken opened record loses).1 fun other same ⟨_, _, far⟩ => ?_
      obtain rfl : o = other := Option.some.inj (punch.symm.trans same)
      have := lastOut_late o s.framePairs
      omega
    · exact judging_mixer within kept.found loses
  obtain ⟨mixer, state, time, pairs⟩ := atGate_spec within kept
  rw [judged] at mixer
  have bides := bides_atGate rolling sound gate reading inside within kept
  obtain ⟨soundC, -, readingC⟩ := atGate_sound rolling sound gate reading
  have rollsC : s.atGate.transport.state.rolling = true := by rw [state]; exact rolling
  have closed : s.gated = closeOnPulse o (o.lastOut s.atGate.framePairs) s.atGate := by
    rw [gated_atGate, pulseGate_open (o := o) (by rw [mixer]; exact opened) (by rw [mixer]; exact punch), if_pos (by rw [time, pairs]; exact last)]
  obtain ⟨cleared, carries, mark, timeG⟩ := closeOnPulse_clears (o := o) (last := o.lastOut s.atGate.framePairs) (storeSound_iff.1 soundC).1 rollsC
  obtain ⟨mixerG, stateG, -⟩ := closeOnPulse_spec (s := s.atGate) o (o.lastOut s.atGate.framePairs) rollsC
  have acts : Acts s.atGate s.gated := acts_pulseGate _
  have soundG := acts.storeSound readingC soundC
  have readingG := acts.agreed.reading readingC
  rw [closed] at soundG readingG ⊢
  have writes : ∀ w ∈ s.coder.current, (s.slot w.slot).state = .writing := fun w hw => (held.write w hw).1
  refine ⟨⟨stateG, by rw [mixerG], timeG.trans time, mark.trans bides.mark, cleared.coder.trans (bides.coder writes), fun i writing => ?_,
    soundG, readingG⟩, by rw [mixerG], carries, cleared.path, cleared.capture, cleared.queue, cleared.fields⟩
  have first := bides.slot i (.inr (.inr (.inl writing)))
  rw [cleared.writing i (by rw [first]; exact writing), first]

end
end Sys2Proof.Machine
end

section
/-! A frame pulse with the record gate shut as it comes to its window (R26, R29, R38, R51, R55, R135). -/

namespace Sys2Proof.Machine

-- One theorem after another: each one elaborated at the same time would hold a stack of its own.
set_option Elab.async false

section
variable {s t u g w x : State} {o : Punch} {i k f q : Nat} {l : List Nat}

/-- With the gate shut no window opens: a cut, verify entries closed, and WRITE-OFF. -/
structure Idles (g x : State) : Prop where
  leaves : x = { g with
    store := { g.store with slots := x.store.slots }
    coder := { g.coder with current := x.coder.current, verify := x.coder.verify, writeOn := false }
    output := x.output, reports := x.reports, sequencer := x.sequencer }
  slot : ∀ i, (g.slot i).state ≠ .writing → x.slot i = g.slot i
  writing : ∀ i, (g.slot i).state = .writing → (x.slot i).state = .writing ∨ (x.slot i).state = .free
  current : g.coder.current = none ∨ g.coder.sequence < 152 → x.coder.current = none

theorem idles_pastWindow (shut : s.gated.mixer.gateOpen = false) (sound : s.gated.storeSound) : Idles s.gated s.pastWindow ∧
    s.pastWindow = { s.beforeWindow with coder := { s.beforeWindow.coder with writeOn := false } } := by
  obtain ⟨held, -⟩ := storeSound_iff.1 sound
  have cuts := (pulseCut_cuts held).verified s.decoder.time
  have none : s.gated.coder.current = none ∨ s.gated.coder.sequence < 152 → s.beforeWindow.coder.current = none := by
    obtain ⟨verify, reports, conditions, verified⟩ := pulseVerify_leaves s.decoder.time (pulseCut s.gated)
    intro h
    unfold State.beforeWindow
    rw [verified]
    show (pulseCut s.gated).coder.current = none
    cases current : s.gated.coder.current with
    | none => exact (pulseCut_cuts held).still current
    | some w => exact (pulseCut_open held current (h.resolve_left (by rw [current]; exact Option.some_ne_none w))).2.1
  have leaves := cuts.leaves
  have closed : s.pastWindow = { s.beforeWindow with coder := { s.beforeWindow.coder with writeOn := false } } := by
    refine pulseWindow_closed ?_
    unfold State.beforeWindow
    rw [leaves]
    exact shut
  refine ⟨?_, closed⟩
  rw [closed]
  exact ⟨congrArg (fun u : State => { u with coder := { u.coder with writeOn := false } }) leaves, cuts.slot, cuts.writing, none⟩

/-- The end of a pulse with the gate shut. -/
structure Passes (g x : State) : Prop extends Idles g x where
  sound : x.checked.storeSound
  endSound : (ended x.checked).storeSound
  ends : Ends x.checked (ended x.checked)

theorem Rests.past (rests : Rests s s.gated) : Passes s.gated s.pastWindow ∧ Spares s.beforeWindow (ended s.pastWindow.checked) := by
  obtain ⟨idles, closed⟩ := idles_pastWindow rests.shut rests.sound
  have acts : Acts s.gated s.pastWindow.checked :=
    ((acts_pulseCut _).trans (acts_pulseVerify ..)).trans ((acts_pulseWindow _).trans (acts_markCheck ..))
  have sound := acts.storeSound rests.reading rests.sound
  have endSound := ended_sound (acts.agreed.reading rests.reading) sound
  have ends := ended_ends sound endSound
  have slotOf (i : Nat) : s.pastWindow.checked.slot i = s.beforeWindow.slot i := by
    show s.pastWindow.slot i = _
    rw [closed] <;> rfl
  have spares : Spares s.beforeWindow (ended s.pastWindow.checked) :=
    ⟨fun i writing => (ends.spares.writing i (by rw [slotOf]; exact writing)).trans (slotOf i),
      fun i free => ends.spares.free i (by rw [slotOf]; exact free)⟩
  exact ⟨⟨idles, sound, endSound, ends⟩, spares⟩

theorem Passes.coder (p : Passes g x) : (ended x.checked).coder = x.coder :=
  p.ends.coder fun w hw => ((storeSound_iff.1 p.sound).1.write w hw).1

theorem Passes.stands (p : Passes g x) : x.transport = g.transport ∧ x.decoder = g.decoder ∧ x.mixer = g.mixer ∧ x.banks = g.banks ∧
    x.store.trim = g.store.trim ∧ x.store.outputQueue = g.store.outputQueue ∧ x.store.captureList = g.store.captureList ∧
    x.store.writeQueue = g.store.writeQueue ∧ x.copy = g.copy ∧ x.cues = g.cues := by
  have leaves := p.leaves
  rw [leaves]
  exact ⟨rfl, rfl, rfl, rfl, rfl, rfl, rfl, rfl, rfl, rfl⟩

theorem Passes.mark (p : Passes g x) : (ended x.checked).cues.mark = g.cues.mark.check g.decoder.time := by
  obtain ⟨-, decoder, -, -, -, -, -, -, -, cues⟩ := p.stands
  have first : (ended x.checked).cues.mark = x.cues.mark.check x.decoder.time := p.ends.mark
  rw [first, decoder, cues]

theorem Passes.supply (p : Passes g x) : (ended x.checked).coder.writeOn = false ∧
    (g.coder.current = none ∨ g.coder.sequence < 152 → (ended x.checked).coder.current = none) := by
  have leaves := p.leaves
  rw [p.coder]
  refine ⟨?_, p.current⟩
  rw [leaves]

/-- With the record path empty and no punch-in the pulse ends with nothing to mix and no capture slot. -/
theorem Passes.empty (p : Passes g x) (none : g.mixer.punchIn = none) (path : ∀ i, ¬ (g.slot i).waits) (capture : g.store.captureList = [])
    (queue : g.store.writeQueue = []) (fields : g.copy.inputFields = []) :
    (ended x.checked).store.captureList = [] ∧ (ended x.checked).store.writeQueue = [] ∧ (ended x.checked).copy.inputFields = [] ∧
    (∀ i, ¬ ((ended x.checked).slot i).waits) ∧ (ended x.checked).store.trim = g.store.trim ∧
    (ended x.checked).transport.demand = g.transport.demand := by
  obtain ⟨transport, -, mixer, -, trim, -, captureX, queueX, copy, -⟩ := p.stands
  have out : ¬ x.checked.captureDue := fun ⟨_, inside, _⟩ => by
    unfold State.inSpan at inside
    rw [show x.checked.mixer.punchIn = Option.none from (congrArg Mixer.punchIn mixer).trans none] at inside
    cases inside
  obtain ⟨conditions, told⟩ := pulseConditions_leaves x.checked
  have same : ended x.checked = { x.checked with sequencer := { x.checked.sequencer with conditions := conditions } } := by
    unfold ended
    rw [pulseCapture_stays (.inl out), told]
    exact mixerJudge_capturing fun k head => by
      rw [show State.store { x.checked with sequencer := { x.checked.sequencer with conditions := conditions } } = x.store from rfl,
        captureX, capture] at head
      cases head
  rw [same]
  refine ⟨captureX.trans capture, queueX.trans queue, (congrArg CopyControl.inputFields copy).trans fields, fun i waits => ?_, trim,
    congrArg Transport.demand transport⟩
  have waitsX : (x.slot i).waits := waits
  by_cases writing : (g.slot i).state = .writing
  · rcases p.writing i writing with e | e
    · exact waitsX.aside.2.1 e
    · exact waitsX.aside.2.2 e
  · rw [p.slot i writing] at waitsX
    exact path i waitsX

end
end Sys2Proof.Machine
end

section
/-! The trim in PLAY through a frame pulse: what leaves Q, and the one take that raises it (R25, R31, R32, R38). -/

namespace Sys2Proof.Machine

-- One theorem after another: each one elaborated at the same time would hold a stack of its own.
set_option Elab.async false

section
variable {s t u g w x : State} {v : Slot} {i k f q : Nat} {l : List Nat}

/-! ### Work that leaves Q in PLAY -/

theorem level_setSlot (role : i ∈ s.store.outputQueue → v.role = (s.slot i).role) : Level s (setSlot i v s) := by
  refine ⟨rfl, rfl, ?_⟩
  unfold State.depthQ
  refine congrArg List.length (List.filter_congr fun k queued => ?_)
  have same : ((setSlot i v s).slot k).role = (s.slot k).role := by
    rw [slot_setSlot]
    split
    · next here =>
      rw [here.1] at queued ⊢
      exact role queued
    · rfl
  rw [same]

/-- In PLAY the Edit Mixer's takes leave Q. -/
theorem level_mixerRun_play (play : s.transport.state = .play) (n : Nat) : Level s (mixerRun n s) := by
  induction n generalizing s with
  | zero => exact .refl s
  | succ n ih =>
    unfold mixerRun
    split
    · exact .refl s
    · next i _ _ =>
      dsimp only
      split
      · next ready =>
        have taken : Level s (takeSlot i s) := by
          unfold takeSlot
          dsimp only
          generalize hv : ({ s.slot i with state := .mixed, copyField := _, pairs := _, mixed := _ } : Slot) = v
          have role : v.role = (s.slot i).role := by rw [← hv]
          have written : Level s { setSlot i v s with
              store := { (setSlot i v s).store with captureList := (setSlot i v s).store.captureList.filter (· != i) }
              copy := { (setSlot i v s).copy with inputFields := (setSlot i v s).copy.inputFields.filter (·.1 != i) } } :=
            (level_setSlot fun _ => role).trans ⟨rfl, rfl, rfl⟩
          refine written.trans (level_freeSlots (fun k old _ => ?_) fun record => ?_)
          · obtain ⟨-, roleOf, concealed, -⟩ := oldSlot_spec (Option.mem_toList.1 old)
            have ne : k ≠ i := by
              rintro rfl
              rw [ready.1] at concealed
              cases concealed
            show ((setSlot i v s).slot k).role ≠ some .play
            rw [slot_setSlot, if_neg (fun h => ne h.1), roleOf]
            decide
          · have state : s.transport.state = .record := record
            rw [play] at state
            cases state
        exact taken.trans (ih (by rw [taken.transport]; exact play))
      · exact .refl s

theorem level_mixerJudge_play (play : s.transport.state = .play) : Level s (mixerJudge s) := level_mixerRun_play play _

/-- In PLAY slots freed that Q does not count leave it. -/
theorem level_freeSlots_play {fs : List Nat} (play : s.transport.state = .play)
    (unplayed : ∀ i ∈ fs, i ∈ s.store.outputQueue → (s.slot i).role ≠ some .play) : Level s (freeSlots fs s) :=
  level_freeSlots unplayed fun record => by
    rw [play] at record
    cases record

/-! ### The take (R25, R32, R38) -/

theorem depthBefore_le (f : Nat) (s : State) : s.depthBefore f ≤ s.depthQ := by
  unfold State.depthBefore State.depthQ
  refine List.Sublist.length_le (List.monotone_filter_right _ fun k before => ?_)
  simp only [decide_eq_true_eq] at before
  simp [before.1]

theorem joined_depthQ_le (i : Nat) (s : State) : (State.joined i s).depthQ ≤ s.depthQ + 1 := by
  show ((s.store.outputQueue ++ [i]).filter fun k => (s.slot k).role == some .play).length ≤ _
  rw [List.filter_append, List.length_append]
  exact Nat.add_le_add_left (List.length_filter_le _ [i]) _

theorem depthQ_trimmed (trim : Trim) (demand : Demand) (s : State) : (s.trimmed trim demand).depthQ = s.depthQ := rfl

/-- A take in PLAY that raises Q by one judges the trim once, on the Q it leaves. -/
theorem takeFrame_raises {last : Nat} {ahead : LookAhead} (play : s.transport.state = .play) (unqueued : i ∉ s.store.outputQueue)
    (written : ∀ k ∈ s.store.outputQueue, k ∉ s.store.writeQueue) (judges : s.judgesQ)
    (raised : (takeFrame last i ahead s).depthQ = s.depthQ + 1) :
    (takeFrame last i ahead s).carries (s.store.trim.afterQ (s.depthQ + 1)) := by
  rw [takeFrame_eq] at raised ⊢
  generalize concealPairs _ _ ahead _ _ = r at raised ⊢
  obtain ⟨store, transport, output, -⟩ := frameTaken_leaves s i r
  have set : Level s (setSlot i (s.concealedSlot i r) s) := level_setSlot fun queued => absurd queued unqueued
  have levelF : Level s (s.frameTaken i r) := by
    obtain ⟨-, trim, depth⟩ := set
    refine ⟨transport, by rw [store]; exact trim, ?_⟩
    rw [← depth]
    unfold State.depthQ State.slot
    rw [store]
  have judgesF : (s.frameTaken i r).judgesQ := by
    unfold State.judgesQ
    rw [transport, output]
    exact judges
  have queueF : (s.frameTaken i r).store.outputQueue = s.store.outputQueue ∧ (s.frameTaken i r).store.writeQueue = s.store.writeQueue := by
    rw [store]
    exact ⟨rfl, rfl⟩
  generalize s.frameTaken i r = a at levelF judgesF queueF raised ⊢
  unfold joinOutput at raised ⊢
  dsimp only at raised ⊢
  have freed : a.followsQ (freeSlots (a.outOfOrder ((a.slot i).frameTime.getD 0)) a) := followsQ_freeSlots fun k late => by
    rw [queueF.2]
    exact written k (by rw [← queueF.1]; exact (List.mem_filter.1 late).1)
  have frees := freeSlots_frees (a.outOfOrder ((a.slot i).frameTime.getD 0)) a
  have depthU := depthQ_outOfOrder _ frees
  have below := depthBefore_le ((a.slot i).frameTime.getD 0) a
  generalize freeSlots (a.outOfOrder ((a.slot i).frameTime.getD 0)) a = u at freed frees depthU raised ⊢
  generalize (a.outOfOrder ((a.slot i).frameTime.getD 0)).length = n at raised ⊢
  have judgesU : u.judgesQ := by
    unfold State.judgesQ
    rw [frees.work.state, frees.work.output]
    exact judgesF
  have joins : u.followsQ (withDepths (State.joined i) (count .framesDropped n u)) := joined_followsQ i (count .framesDropped n u)
  have deeper : (withDepths (State.joined i) (count .framesDropped n u)).depthQ ≤ u.depthQ + 1 := by
    obtain ⟨trim, demand, joined⟩ := withDepths_trimmed (State.joined i) (count .framesDropped n u)
    rw [joined, depthQ_trimmed]
    exact joined_depthQ_le i (count .framesDropped n u)
  have stateJ : (withDepths (State.joined i) (count .framesDropped n u)).transport.state = .play := by
    obtain ⟨trim, demand, joined⟩ := withDepths_trimmed (State.joined i) (count .framesDropped n u)
    rw [joined]
    exact judgesU.1
  have same : withDepths (fun t => { t with store := { t.store with
      gatherList := t.store.gatherList.filter (· != i), outputQueue := t.store.outputQueue ++ [i] } }) (count .framesDropped n u) =
      withDepths (State.joined i) (count .framesDropped n u) := rfl
  rw [same] at raised ⊢
  generalize withDepths (State.joined i) (count .framesDropped n u) = j at joins deeper stateJ raised ⊢
  have leveled : Level j (if (j.slot i).role = some .old ∧ j.framePassed last ((a.slot i).frameTime.getD 0) = true then freeSlots [i] j else j) := by
    split
    · next old =>
      refine level_freeSlots_play stateJ fun k here _ => ?_
      obtain rfl := List.mem_singleton.1 here
      rw [old.1]
      decide
    · exact .refl j
  generalize (if (j.slot i).role = some .old ∧ j.framePassed last ((a.slot i).frameTime.getD 0) = true then freeSlots [i] j else j) = b
    at leveled raised ⊢
  have ended := leveled.trans (level_mixerJudge_play (by rw [leveled.transport]; exact stateJ))
  obtain ⟨transportE, trimE, depthE⟩ := ended
  obtain ⟨-, trimF, depthF⟩ := levelF
  obtain ⟨kept, -⟩ := freed.2 (.inr (by omega))
  obtain ⟨trimJ, demandJ⟩ := joins.1 judgesU (by omega)
  have depthJ : j.depthQ = s.depthQ + 1 := by omega
  rw [kept, trimF, depthJ] at trimJ demandJ
  exact ⟨trimE.trans trimJ, by rw [transportE]; exact demandJ⟩

end
end Sys2Proof.Machine
end

section
/-! A frame pulse in PLAY before its punch-in: the trim, the record gate that stays shut, and the capture slot (R26, R32, R38, R51, R64, R72,
R135). -/

namespace Sys2Proof.Machine

-- One theorem after another: each one elaborated at the same time would hold a stack of its own.
set_option Elab.async false

section
variable {s t u g w x : State} {gf : GatherFrame} {i k f q : Nat} {l : List Nat}

/-! ### The trim up to the record gate (R31, R32, R38) -/

/-- What judges Q stands: the transport, the trim, Q, and the monitor's source and priming. -/
structure Even (s t : State) : Prop extends Level s t where
  source : t.output.source = s.output.source
  priming : t.output.priming = s.output.priming

theorem Even.trans (h : Even s t) (k : Even t u) : Even s u :=
  ⟨h.toLevel.trans k.toLevel, k.source.trans h.source, k.priming.trans h.priming⟩

theorem Level.even (h : Level s t) (output : t.output = s.output := by rfl) : Even s t := ⟨h, by rw [output], by rw [output]⟩

theorem Level.worked (h : Level s t) (work : SlotWork s t) : Even s t := ⟨h, by rw [work.output], by rw [work.output]⟩

theorem Even.of (transport : t.transport = s.transport := by rfl) (trim : t.store.trim = s.store.trim := by rfl)
    (depthQ : t.depthQ = s.depthQ := by rfl) (output : t.output = s.output := by rfl) : Even s t :=
  Level.even ⟨transport, trim, depthQ⟩ output

theorem Even.refl (s : State) : Even s s := .of

theorem Even.judgesQ (h : Even s t) (judges : s.judgesQ) : t.judgesQ := by
  unfold State.judgesQ
  rw [h.transport, h.source, h.priming]
  exact judges

theorem even_markSuccessor (s : State) : Even s (markSuccessor s) := by
  unfold markSuccessor
  split
  · split
    · next k _ =>
      have set : Level s (setSlot k { s.slot k with hasSuccessor := true } s) := level_setSlot fun _ => rfl
      exact set.even
    · exact .refl s
  · exact .refl s

theorem even_closeSlot (unqueued : i ∉ s.store.outputQueue) : Even s (closeSlot gf i s) := by
  have marked := even_markSuccessor s
  have queue : (markSuccessor s).store.outputQueue = s.store.outputQueue := by
    unfold markSuccessor
    split
    · split <;> rfl
    · rfl
  unfold closeSlot
  dsimp only
  generalize markSuccessor s = a at marked queue ⊢
  generalize a.closedSlot gf (a.slot i) = v
  have set : Even a (setSlot i v a) :=
    (level_setSlot fun queued => absurd (queue ▸ queued) unqueued).even
  have written : Even s { setSlot i v a with decoder := { (setSlot i v a).decoder with closedLast := true } } :=
    (marked.trans set).trans .of
  generalize ({ setSlot i v a with decoder := { (setSlot i v a).decoder with closedLast := true } } : State) = b at written ⊢
  have counted : Even s (if v.tally.rebuilt = 0 then b else count .blocksRebuilt v.tally.rebuilt b) := by
    split
    · exact written
    · exact written.trans .of
  generalize (if v.tally.rebuilt = 0 then b else count .blocksRebuilt v.tally.rebuilt b) = c at counted ⊢
  split
  · exact counted
  · next r _ =>
    obtain ⟨m, reports, judged, -⟩ := judgeMismatch_leaves r c
    obtain ⟨cues, reports', on, -⟩ := handOnSubcode_leaves r (judgeMismatch r c)
    rw [on, judged]
    exact counted.trans .of

theorem even_closing (sound : s.storeSound) : Even s s.closing := by
  obtain ⟨held, -⟩ := storeSound_iff.1 sound
  obtain ⟨-, -, -, gathering⟩ := held.gathered
  have stepped : Even s { s with decoder := s.decoder.stepTime } := .of
  unfold State.closing
  split
  · exact stepped
  · next g current =>
    unfold closeFrame
    split
    · next i slot =>
      have state := gathering i (by
        unfold State.gatheringSlots
        rw [current]
        simp [slot])
      refine stepped.trans (even_closeSlot fun queued => ?_)
      have concealed := held.mem_outputQueue.1 queued
      rw [state] at concealed
      cases concealed
    · exact .of

/-- The time is confirmed or held over: the judgement leaves all but the tracker. -/
theorem even_judging (confirmed : s.foundTime = some s.predictedTime ∨ s.foundTime = none ∧ s.decoder.holdover < s.activeBank.holdover) :
    Even s.closing s.judging ∧ s.judging.store = s.closing.store := by
  obtain ⟨-, -, status, holdover⟩ := closing_time s
  have bank : s.closing.activeBank = s.activeBank := activeBank_of (stage_closing s).banks
  rcases confirmed with found | ⟨none, below⟩
  · rw [judging_confirmed found]
    exact ⟨.of, rfl⟩
  · by_cases current : s.decoder.current.isSome = true
    · rw [judging_invalid ⟨current, .inl none⟩]
      by_cases known : s.decoder.status = .locked ∨ s.decoder.status = .holdover
      · rw [judgeInvalid_holds (by rw [status]; exact known) (by rw [holdover, bank]; exact below)]
        exact ⟨.of, rfl⟩
      · rw [judgeInvalid_stays (by rw [status]; cases known' : s.decoder.status <;> simp_all)]
        exact ⟨.refl _, rfl⟩
    · rw [judging_none (by simpa using current)]
      exact ⟨.refl _, rfl⟩

theorem even_lostSeen (s : State) : Even s (lostSeen s) ∧ (lostSeen s).store = s.store := by
  unfold lostSeen
  split
  · exact ⟨.of, rfl⟩
  · exact ⟨.refl s, rfl⟩

theorem even_aim (play : s.transport.state = .play) (sound : SoundWith s.decoder.nextSlot.toList s) : Even s (aim s) := by
  obtain ⟨-, -, -, gathering⟩ := sound.gathered
  have next : ∀ k, k ∈ s.staleSlot.toList ∨ s.aimedFrame.slot = some k → k ∉ s.store.outputQueue := fun k hk queued => by
    have state := gathering k (by rcases aimed_slots s with ⟨stale, aimed⟩ | ⟨stale, aimed⟩ <;> rw [stale, aimed] at hk <;> simpa using hk)
    rw [sound.mem_outputQueue.1 queued] at state
    cases state
  have freed : Even s (freeOption s.staleSlot s) := by
    unfold freeOption
    split
    · next k stale =>
      exact (level_freeSlots_play play fun i here queued => by
        obtain rfl := List.mem_singleton.1 here
        exact absurd queued (next i (.inl (by simp [stale])))).worked (slotWork_freeSlots ..)
    · exact .refl s
  have frees := frees_freeOption s.staleSlot s
  obtain ⟨frame, -, aimed⟩ := aim_eq s
  rw [aimed]
  have queue : (freeOption s.staleSlot s).store.outputQueue ⊆ s.store.outputQueue := by
    rw [frees.outputQueue]
    exact List.filter_subset' _
  generalize freeOption s.staleSlot s = u at freed queue ⊢
  have timed : Even s (timeSlot s.aimedFrame.slot s.decoder.expected u) := by
    unfold timeSlot
    split
    · next k at_k =>
      exact freed.trans (level_setSlot fun queued => absurd (queue queued) (next k (.inr at_k))).even
    · exact freed
  exact timed.trans .of

theorem closing_correctedSlots (sound : s.storeSound) :
    s.closing.correctedSlots = s.correctedSlots ++ (s.decoder.current.bind (·.slot)).toList := by
  have before := correctedSlots_of_with (storeSound_iff.1 sound).1
  have after := correctedSlots_of_with (soundWith_closing sound)
  have list : s.closing.store.gatherList = s.store.gatherList := by
    cases current : s.decoder.current with
    | none => rw [(closing_without (by rw [current] <;> rfl)).1]
    | some g =>
      cases slot : g.slot with
      | none => rw [(closing_without (by rw [current] <;> exact slot)).1]
      | some i => exact (closing_closed current slot sound).list
  rw [list, before] at after
  unfold State.gatheringSlots at after
  rw [← List.append_assoc] at after
  exact (List.append_cancel_right after).symm

theorem takeReady_few (last n : Nat) (few : s.correctedSlots.length ≤ 1) : takeReady last n s = s := by
  cases n with
  | zero => rfl
  | succ n =>
    unfold takeReady
    split
    · next slots =>
      rw [slots] at few
      simp at few
    · rfl

/-- With one CORRECTED slot behind the oldest at most, the oldest alone is taken. -/
theorem takeReady_one {last n : Nat} {rest : List Nat} (sound : s.storeSound) (slots : s.correctedSlots = k :: rest) (few : rest.length ≤ 1) :
    takeReady last (n + 1) s = s ∨ ∃ ahead, takeReady last (n + 1) s = takeFrame last k ahead s := by
  cases rest with
  | nil => exact .inl (takeReady_few _ _ (by rw [slots]; simp))
  | cons j rest =>
    unfold takeReady
    rw [slots]
    show (if (s.slot k).hasSuccessor = true then _ else s) = s ∨ ∃ ahead, (if (s.slot k).hasSuccessor = true then _ else s) = _
    split
    · refine .inr ⟨.successor (s.slot j).stream, takeReady_few _ _ ?_⟩
      have head : s.correctedSlots.head? = some k := by rw [slots] <;> rfl
      rw [(grips_takeFrame (last := last) (ahead := .successor (s.slot j).stream) sound head).correctedSlots (gathersSound_of sound), slots,
        List.filter_cons_of_neg (by simp)]
      exact (List.length_filter_le ..).trans few
    · exact .inl rfl

/-- The time is confirmed or held over. -/
def State.confirms (s : State) : Prop :=
  s.foundTime = some s.predictedTime ∨ s.foundTime = none ∧ s.decoder.holdover < s.activeBank.holdover

/-- The frames aimed at, with what has led there in PLAY: Q and the trim as they were, one CORRECTED slot more at most. -/
theorem aimed_play (play : s.transport.state = .play) (confirms : s.confirms) (sound : s.storeSound)
    (reading : s.readingAgrees) (within : s.decoder.holdover ≤ s.activeBank.holdover) :
    Even s (aim s.unaimed) ∧ (aim s.unaimed).storeSound ∧
    (aim s.unaimed).correctedSlots = s.correctedSlots ++ (s.decoder.current.bind (·.slot)).toList := by
  have gathering : s.decoder.gathering = true := by
    rw [reading.1, play] <;> rfl
  obtain ⟨held, next⟩ := soundWith_unaimed sound
  have same : s.unaimed.decoder.nextSlot = s.decoder.nextSlot := by
    unfold Decoder.nextSlot
    rw [next]
  have heldU : SoundWith s.unaimed.decoder.nextSlot.toList s.unaimed := by rw [same]; exact held
  have aimSound := storeSound_pulseGather reading sound
  rw [pulseGather_unaimed gathering] at aimSound
  obtain ⟨judged, judgedStore⟩ := even_judging (s := s) confirms
  obtain ⟨seen, seenStore⟩ := even_lostSeen s.judging
  have unaimed : Even s s.unaimed ∧ s.unaimed.store = s.closing.store := by
    rw [unaimed_within within]
    exact ⟨((even_closing sound).trans judged).trans seen, seenStore.trans judgedStore⟩
  refine ⟨unaimed.1.trans (even_aim (by rw [unaimed.1.transport]; exact play) heldU), aimSound, ?_⟩
  rw [aim_correctedSlots heldU, ← closing_correctedSlots sound]
  unfold State.correctedSlots State.slot
  rw [unaimed.2]

/-- The trim as a pulse in PLAY comes to its record gate. -/
theorem atGate_trim (play : s.transport.state = .play) (confirms : s.confirms) (sound : s.storeSound) (reading : s.readingAgrees)
    (within : s.decoder.holdover ≤ s.activeBank.holdover) :
    (s.correctedSlots = [] → Level s s.atGate) ∧
    (∀ k, s.correctedSlots = [k] → s.judgesQ → s.atGate.depthQ = s.depthQ + 1 →
      s.atGate.carries (s.store.trim.afterQ (s.depthQ + 1))) := by
  obtain ⟨even, aimSound, corrected⟩ := aimed_play play confirms sound reading within
  have one : (s.decoder.current.bind (·.slot)).toList.length ≤ 1 := by cases s.decoder.current.bind (·.slot) <;> simp
  obtain ⟨-, -, committed⟩ := pulseCommit_spec s.aimed
  have gate : Level s.aimed s.atGate := by
    unfold State.atGate
    rw [committed]
    exact ⟨rfl, rfl, rfl⟩
  have aimed : s.aimed = takeReady s.decoder.time 16 (aim s.unaimed) := rfl
  have playA : (aim s.unaimed).transport.state = .play := by rw [even.transport]; exact play
  refine ⟨fun none => ?_, fun k slots judges raised => ?_⟩
  · rw [none, List.nil_append] at corrected
    rw [aimed, takeReady_few _ _ (by rw [corrected]; exact one)] at gate
    exact even.toLevel.trans gate
  · rw [slots] at corrected
    obtain ⟨transportG, trimG, depthG⟩ := gate
    rw [depthG, aimed] at raised
    unfold State.carries
    rw [trimG, transportG, aimed]
    have depth := even.depthQ
    rcases takeReady_one (last := s.decoder.time) aimSound corrected one with same | ⟨ahead, taken⟩
    · rw [same] at raised
      omega
    · rw [taken] at raised ⊢
      obtain ⟨held, -⟩ := storeSound_iff.1 aimSound
      have state : ((aim s.unaimed).slot k).state = .corrected :=
        beq_iff_eq.1 (List.mem_filter.1 (List.mem_of_mem_head? (by rw [corrected] <;> rfl : (aim s.unaimed).correctedSlots.head? = some k))).2
      have raises := takeFrame_raises (s := aim s.unaimed) (i := k) (last := s.decoder.time) (ahead := ahead) playA
        (fun queued => by
          rw [held.mem_outputQueue.1 queued] at state
          cases state)
        (fun m queued waits => by
          have concealed := held.mem_outputQueue.1 queued
          rcases held.mem_writeQueue.1 waits with e | e <;> rw [concealed] at e <;> cases e)
        (even.judgesQ judges) (by rw [depth]; exact raised)
      rw [depth, even.trim] at raises
      exact raises

/-! ### From the record gate to the end (R26, R38) -/

theorem level_ended (play : s.transport.state = .play) (sound : s.storeSound) : Level s (ended s) := by
  have captured : Level s (pulseCapture s) := by
    by_cases due : s.captureDue
    · cases free : s.lowestFree with
      | none => rw [pulseCapture_stays (.inr free)]; exact .refl s
      | some k =>
        obtain ⟨-, -, -, unqueued⟩ := (storeSound_iff.1 sound).1.free (lowestFree_spec free).1
        have set : Level s (setSlot k s.captureSlot s) := level_setSlot fun queued => absurd queued unqueued
        rw [pulseCapture_opens due free]
        exact set.trans ⟨rfl, rfl, rfl⟩
    · rw [pulseCapture_stays (.inl due)]
      exact .refl s
  obtain ⟨conditions, told⟩ := pulseConditions_leaves (pulseCapture s)
  have whole : Level s (pulseConditions (pulseCapture s)) := by
    rw [told]
    exact captured.trans ⟨rfl, rfl, rfl⟩
  exact whole.trans (level_mixerJudge_play (by rw [whole.transport]; exact play))

theorem Passes.level (p : Passes g x) (play : g.transport.state = .play) (sound : g.storeSound) : Level g (ended x.checked) := by
  obtain ⟨transport, -, -, -, trim, queue, -⟩ := p.stands
  obtain ⟨held, -⟩ := storeSound_iff.1 sound
  have first : Level g x.checked := by
    refine ⟨transport, trim, ?_⟩
    show (x.store.outputQueue.filter fun i => (x.slot i).role == some .play).length = _
    rw [queue]
    refine congrArg List.length (List.filter_congr fun i queued => ?_)
    rw [p.slot i (by rw [held.mem_outputQueue.1 queued]; intro e; cases e)]
  exact first.trans (level_ended (by rw [first.transport]; exact play) p.sound)

end
end Sys2Proof.Machine
end

section
/-! A frame pulse in PLAY before its punch-in: the record gate that stays shut and the capture slot; and the cut of a window, in any pulse
(R26, R29, R51, R55, R64, R72). -/

namespace Sys2Proof.Machine

-- One theorem after another: each one elaborated at the same time would hold a stack of its own.
set_option Elab.async false

section
variable {s t u g w x : State} {p : Punch} {i k f q : Nat} {l : List Nat}

/-! ### The record gate stays shut (R148) -/

/-- The pulse does not come to the time of the scheduled punch-in. -/
structure Before (s g : State) : Prop where
  rests : Rests s g
  bides : Bides s g
  punches : g.mixer = { s.mixer with committed := g.mixer.committed }
  arrived : g = s.atGate

theorem before_play (play : s.transport.state = .play) (punch : s.mixer.punchIn = some p) (confirms : s.confirms)
    (other : s.steppedTime ≠ p.time) (sound : s.storeSound) (gate : s.gateAgrees) (reading : s.readingAgrees) (recorded : s.recordSound)
    (within : s.decoder.holdover ≤ s.activeBank.holdover) : Before s s.gated := by
  have rolling : s.transport.state.rolling = true := by rw [play] <;> rfl
  have kept : s.timeKept := .inr confirms
  have inside := waitsInside_of sound recorded
  obtain ⟨held, -⟩ := storeSound_iff.1 sound
  have shut : s.mixer.gateOpen = false := by
    by_contra opened
    have record := gate.1.1 (by simpa using opened)
    rw [play] at record
    cases record
  have judged : s.judging.mixer = s.mixer := judging_mixer within kept.found fun ⟨_, found, _, limit⟩ => by
    rcases confirms with h | h
    · exact found h
    · exact absurd limit (Nat.ne_of_lt h.2)
  obtain ⟨mixer, state, time, -⟩ := atGate_spec within kept
  rw [judged] at mixer
  have bides := bides_atGate rolling sound gate reading inside within kept
  obtain ⟨soundC, -, readingC⟩ := atGate_sound rolling sound gate reading
  have same : s.gated = s.atGate := by
    rw [gated_atGate, pulseGate_shut (p := p) (by rw [mixer]; exact shut) (by rw [mixer]; exact punch), if_neg]
    rintro ⟨-, now⟩
    exact other (time.symm.trans now)
  have writes : ∀ w ∈ s.coder.current, (s.slot w.slot).state = .writing := fun w hw => (held.write w hw).1
  rw [same]
  exact ⟨⟨state.trans play, by rw [mixer]; exact shut, time, bides.mark, bides.coder writes,
    fun i writing => bides.slot i (.inr (.inr (.inl writing))), soundC, readingC⟩, bides, mixer, rfl⟩

/-! ### The capture slot (R23, R26, R99) -/

theorem Before.inSpan (before : Before s g) (passes : Passes g x) (f : Nat) : x.checked.inSpan f = s.inSpan f := by
  obtain ⟨-, -, mixer, banks, -⟩ := passes.stands
  have punches : x.checked.mixer.punchIn = s.mixer.punchIn ∧ x.checked.mixer.punchOut = s.mixer.punchOut := by
    show x.mixer.punchIn = _ ∧ x.mixer.punchOut = _
    rw [mixer, before.punches]
    exact ⟨rfl, rfl⟩
  have same : x.checked.banks = s.banks := banks.trans before.bides.banks
  have pairs : x.checked.framePairs = s.framePairs := congrArg (fun b : Bank => b.rate.pairs) (activeBank_of same)
  unfold State.inSpan
  rw [punches.1, punches.2, pairs]

/-- What waits for the capture slot's frame has waited before. -/
theorem Before.waits (before : Before s g) (passes : Passes g x) (waits : (x.slot i).waits) :
    (s.slot i).waits ∧ (x.slot i).frameTime = (s.slot i).frameTime := by
  have other : (g.slot i).state ≠ .writing := fun writing => by
    rcases passes.writing i writing with e | e
    · exact waits.aside.2.1 e
    · exact waits.aside.2.2 e
  rw [passes.slot i other] at waits ⊢
  exact before.bides.waits waits

theorem Before.capture (before : Before s g) (passes : Passes g x) : x.store.captureList.Sublist s.store.captureList := by
  obtain ⟨-, -, -, -, -, -, capture, -⟩ := passes.stands
  rw [capture]
  exact before.bides.capture

theorem Before.time (before : Before s g) (passes : Passes g x) : x.checked.decoder.time = s.steppedTime := by
  obtain ⟨-, decoder, -⟩ := passes.stands
  exact (congrArg Decoder.time decoder).trans before.rests.time

/-- The capture slot of frame T + 2 opens. -/
theorem Before.opens (before : Before s g) (passes : Passes g x) (sound : s.storeSound) (span : s.inSpan (s.steppedTime + 2) = true)
    (absent : ∀ k ∈ s.store.captureList, (s.slot k).frameTime ≠ some (s.steppedTime + 2)) (free : s.lowestFree.isSome = true) :
    ∃ k, (ended x.checked).store.captureList.getLast? = some k ∧
      (ended x.checked).slot k = Slot.opened .capturing .input (s.steppedTime + 2) s.activeFormat ∧
      (ended x.checked).copy.inputFields.getLast? = some (k, none) := by
  have time := before.time passes
  obtain ⟨transport, -, -, banks, -⟩ := passes.stands
  obtain ⟨heldX, -⟩ := storeSound_iff.1 passes.sound
  have due : x.checked.captureDue := by
    refine ⟨?_, ?_, fun i listed => ?_⟩
    · show x.transport.state.rolling = true
      rw [transport, before.rests.state] <;> rfl
    · rw [time, before.inSpan passes]
      exact span
    · rw [time]
      have waits : (x.slot i).waits := by
        have := heldX.mem_captureList.1 listed
        show (x.checked.slot i).waits
        unfold Slot.waits
        tauto
      show (x.slot i).frameTime ≠ _
      rw [(before.waits passes waits).2]
      exact absent i ((before.capture passes).subset listed)
  obtain ⟨j, lowest⟩ := Option.isSome_iff_exists.1 free
  obtain ⟨isFree, hj⟩ := lowestFree_spec lowest
  have freeX : (x.checked.slot j).state = .free := by
    have first := before.bides.slot j (.inr (.inr (.inr isFree)))
    show (x.slot j).state = .free
    rw [passes.slot j (by rw [first, isFree]; decide), first]
    exact isFree
  have length : x.checked.store.slots.length = s.store.slots.length := heldX.length.trans (storeSound_iff.1 sound).1.length.symm
  obtain ⟨k, lowestX⟩ := Option.isSome_iff_exists.1 (lowestFree_isSome (by rw [length]; exact hj) freeX)
  obtain ⟨slot, capture, fields⟩ := (ended_opens passes.sound passes.endSound due lowestX).1
  have banksX : x.checked.banks = s.banks := banks.trans before.bides.banks
  have format : x.checked.activeFormat = s.activeFormat := by
    unfold State.activeFormat
    rw [activeBank_of banksX]
  refine ⟨k, capture, ?_, fields⟩
  rw [slot]
  unfold State.captureSlot
  rw [time, format]

/-- No capture slot opens. -/
theorem Before.stays (before : Before s g) (passes : Passes g x) (h : ¬ x.checked.captureDue ∨ x.checked.lowestFree = none) :
    ∀ k ∈ (ended x.checked).store.captureList, k ∈ s.store.captureList ∧ ((ended x.checked).slot k).frameTime = (s.slot k).frameTime := by
  obtain ⟨bides, -⟩ := ended_stays (queueApart_of (storeSound_iff.1 passes.sound).1) h
  intro k listed
  have waits := (storeSound_iff.1 passes.endSound).1.mem_captureList.1 listed
  obtain ⟨waitsX, same⟩ := bides.waits (i := k) (by tauto)
  exact ⟨(before.capture passes).subset (bides.capture.subset listed), same.trans (before.waits passes waitsX).2⟩

/-- With no slot FREE, no frame gathered and no window open, no slot is FREE for the capture. -/
theorem full_pastWindow (before : Before s s.gated) (confirms : s.confirms) (sound : s.storeSound) (gate : s.gateAgrees)
    (within : s.decoder.holdover ≤ s.activeBank.holdover) (free : s.lowestFree = none) (empty : s.store.gatherList = [])
    (current : s.coder.current = none) : s.pastWindow.checked.lowestFree = none := by
  obtain ⟨-, closed⟩ := idles_pastWindow before.rests.shut before.rests.sound
  obtain ⟨store, closing⟩ := atGate_store sound gate within empty
  obtain ⟨-, judged⟩ := even_judging (s := s) confirms
  have gated : s.gated.store = s.store := by rw [before.arrived, store, judged, closing]
  obtain ⟨verify, reports, conditions, verified⟩ := pulseVerify_leaves s.decoder.time (pulseCut s.gated)
  have same : s.beforeWindow.store = s.store := by
    unfold State.beforeWindow
    rw [verified, pulseCut_closed (.inl (by rw [before.rests.coder]; exact current))]
    exact gated
  unfold State.lowestFree at free ⊢
  show s.pastWindow.store.slots.findIdx? _ = none
  rw [closed]
  show s.beforeWindow.store.slots.findIdx? _ = none
  rw [same]
  exact free

/-! ### The cut, as any pulse shows it (R29, R55) -/

theorem Leaves.spares (leaves : Leaves s.atWindow s.pastWindow) : Spares s.beforeWindow (ended s.pastWindow.checked) := by
  have slotOf (i : Nat) : s.atWindow.slot i = s.beforeWindow.slot i := by
    obtain ⟨trim, demand, trimmed⟩ := windowTrim_trimmed s.beforeWindow
    unfold State.atWindow
    rw [trimmed] <;> rfl
  have first {i : Nat} (state : (s.beforeWindow.slot i).state = .writing ∨ (s.beforeWindow.slot i).state = .free) :
      s.pastWindow.checked.slot i = s.beforeWindow.slot i :=
    (leaves.stays (by rw [slotOf]; exact state)).trans (slotOf i)
  exact ⟨fun i writing => (leaves.ends.spares.writing i (by rw [first (.inl writing)]; exact writing)).trans (first (.inl writing)),
    fun i free => leaves.ends.spares.free i (by rw [first (.inr free)]; exact free)⟩

theorem pulseWork_cuts (gathering : s.decoder.gathering = true) (pending : s.banks.pendingSwitch = none) (sound : s.gated.storeSound)
    (coder : s.gated.coder = s.coder) (writing : ∀ i, (s.slot i).state = .writing → s.gated.slot i = s.slot i) (held : s.storeSound)
    (few : s.coder.verify.length ≤ 3) (spares : Spares s.beforeWindow (ended s.pastWindow.checked)) :
    ∀ w, s.coder.current = some w → s.coder.sequence < 152 →
      (∃ e ∈ (pulseWork s).reports.log, e.kind = .writeLate ∧ e.time = some w.time ∧ e.origin = .internal ∧ e.argument = 2) ∧
      ((s.slot w.slot).monitor ≠ .finished → (pulseWork s).slot w.slot = { s.slot w.slot with supplyDone := true }) ∧
      ((s.slot w.slot).monitor = .finished → ((pulseWork s).slot w.slot).state ≠ .writing) := by
  intro w current below
  obtain ⟨writes, -⟩ := (storeSound_iff.1 held).1.write w current
  have seen := cut_seen (q := s.decoder.time) (storeSound_iff.1 sound).1 (by rw [coder]; exact few) (by rw [coder]; exact current)
    (by rw [coder]; exact below) spares
  rw [writing w.slot writes] at seen
  rw [pulseWork_gathering gathering pending]
  exact seen

end
end Sys2Proof.Machine
end

section
/-! Settles O38. -/

namespace Sys2Proof.Machine

-- One theorem after another: each one elaborated at the same time would hold a stack of its own.
set_option Elab.async false

section
variable {s t e : State}

/-- With no list running and nothing pending the pulse is the work of the blocks. -/
theorem exec_framePulse_ended (quiet : s.quiet) (idle : s.sequencer.state = .idle) (reading : s.readingAgrees)
    (pending : s.banks.pendingSwitch = none) (within : s.decoder.holdover ≤ s.activeBank.holdover)
    (rolling : s.transport.state.rolling = true) :
    ∃ list, exec .framePulse s = .next { ended s.pastWindow.checked with sequencer := list } ∧
    (ended s.pastWindow.checked).decoder.time = s.gated.decoder.time ∧
    (ended s.pastWindow.checked).transport.state = s.gated.transport.state ∧
    (ended s.pastWindow.checked).mixer = s.gated.mixer ∧ pulseWork s = ended s.pastWindow.checked := by
  have gathering : s.decoder.gathering = true := reading.1.trans rolling
  obtain ⟨run, -⟩ := exec_framePulse_gathers quiet idle gathering pending within rolling
  obtain ⟨n, stage, -⟩ := stage_afterGate s.decoder.time s.gated
  have same := pulseWork_ended gathering pending
  rw [same] at run
  exact ⟨_, run, stage.time.1, stage.state, stage.mixer, same⟩

/-- The marking and the mark record of a frame's window (R135). -/
theorem window_mark (r : MarkRecord) (f : Nat) : match r with
    | .none => (r.window f).1 = none ∧ (r.window f).2.check f = .none
    | .waiting x m => (r.window f).1 = (if f = x then some m else none) ∧
      (r.window f).2.check f = if f = x then .armed x m else if f < x then .waiting x m else .none
    | .armed x m => (r.window f).1 = (if x ≤ f ∧ f ≤ x + 9 then some m else none) ∧
      (r.window f).2.check f = if x + 9 ≤ f then .none else .armed x m := by
  cases r with
  | none => exact ⟨rfl, rfl⟩
  | waiting x m =>
    unfold MarkRecord.window
    dsimp only
    rcases Nat.lt_trichotomy f x with before | rfl | after
    · have : ¬ x < f := by omega
      have : f ≠ x := by omega
      simp [MarkRecord.check, *]
    · simp [MarkRecord.check]
    · have : ¬ f < x := by omega
      have : f ≠ x := by omega
      simp [MarkRecord.check, *]
  | armed x m =>
    unfold MarkRecord.window
    dsimp only
    rcases Nat.lt_trichotomy f (x + 9) with before | rfl | after
    · have h1 : ¬ x + 9 < f := by omega
      have h2 : f ≠ x + 9 := by omega
      have h3 : ¬ x + 9 ≤ f := by omega
      by_cases begun : x ≤ f
      · have h4 : f ≤ x + 9 := by omega
        simp [MarkRecord.check, h1, h2, h3, h4, begun]
      · simp [MarkRecord.check, h1, h2, h3, begun]
    · simp [MarkRecord.check]
    · have h1 : f ≠ x + 9 := by omega
      have h2 : ¬ f ≤ x + 9 := by omega
      have h3 : x + 9 ≤ f := by omega
      simp [MarkRecord.check, h1, h2, h3, after]

/-! ### What holds as the window opens -/

/-- The frame at its window lies in the take span, or the punches stand as they were. -/
theorem Reaches.oldSpan {w : State} (reaches : Reaches s w) (passes : s.opensAt ∨ s.runsOn) (gate : s.gateAgrees)
    (begun : ∃ p ∈ s.mixer.punchIn, p.time ≤ s.steppedTime) : w.inSpan s.steppedTime = true ∨ w.mixer.ahead = s.mixer.ahead := by
  have below : s.steppedTime + 0 ≤ 359999 := by
    unfold State.steppedTime
    split <;> omega
  have inside (h : s.withdraws ∨ ∀ o ∈ s.mixer.punchOut, s.steppedTime + 0 ≤ o.lastOut s.framePairs) : w.inSpan s.steppedTime = true :=
    (reaches.span begun (n := 0)).2 ⟨below, h⟩
  rcases passes with ⟨-, -, early, -⟩ | ⟨record, -⟩
  · refine .inl (inside (.inr fun o out => ?_))
    have := early o out
    have := lastOut_late o s.framePairs
    omega
  · by_cases withdraws : s.withdraws
    · exact .inl (inside (.inl withdraws))
    · refine .inr ?_
      unfold Mixer.ahead
      rw [reaches.punchIn, reaches.kept withdraws, reaches.gate, gate.1.2 record]

/-- With the head of the capture list still being filled no slot is CAPTURED. -/
theorem none_captured (sound : s.storeSound) (recorded : s.recordSound) (head : ∀ k ∈ s.store.captureList.head?, (s.slot k).state = .capturing)
    (i : Nat) : (s.slot i).state ≠ .captured := fun captured => by
  obtain ⟨-, -, first, -⟩ := recorded
  have listed := (storeSound_iff.1 sound).1.mem_captureList.2 (.inr captured)
  cases list : s.store.captureList with
  | nil =>
    rw [list] at listed
    cases listed
  | cons k rest =>
    rw [list] at listed first
    have capturing := head k (by rw [list] <;> rfl)
    rcases List.mem_cons.1 listed with rfl | later
    · rw [captured] at capturing
      cases capturing
    · rw [List.rel_of_pairwise_cons first later captured] at capturing
      cases capturing

/-- The CAPTURED slots stay CAPTURED up to the window. -/
theorem captured_stays (arrives : Arrives s s.gated) (sound : s.storeSound) (recorded : s.recordSound) (gate : s.gateAgrees)
    (within : s.decoder.holdover ≤ s.activeBank.holdover) (leadIn : s.decoder.leadIn = 0) (passes : s.opensAt ∨ s.runsOn)
    (h : (∀ k ∈ s.store.captureList.head?, (s.slot k).state = .capturing) ∨
      s.store.gatherList = [] ∧ (s.runsOn ∧ ¬ s.withdraws ∨ s.headWaits)) {i : Nat} (captured : (s.slot i).state = .captured) :
    (s.atWindow.slot i).state = .captured := by
  rcases h with head | ⟨empty, waits⟩
  · exact absurd captured (none_captured sound recorded head i)
  · have same := gated_waits sound recorded gate within leadIn empty passes waits captured
    rw [atWindow_slot arrives.sound (by rw [same, captured]; decide), same]
    exact captured

/-! ### The pulses (R148, R149) -/

/-- A window still open is cut: the entry, and its slot (R29, R55). -/
def State.cutShown (s e : State) : Prop := ∀ w, s.coder.current = some w → s.coder.sequence < 152 →
  (∃ l ∈ e.reports.log, l.kind = .writeLate ∧ l.time = some w.time ∧ l.origin = .internal ∧ l.argument = 2) ∧
  ((s.slot w.slot).monitor ≠ .finished → e.slot w.slot = { s.slot w.slot with supplyDone := true }) ∧
  ((s.slot w.slot).monitor = .finished → (e.slot w.slot).state ≠ .writing)

/-- The capture slot of frame `f` has opened. -/
def State.captureShown (s : State) (f : Nat) (e : State) : Prop := ∃ k, e.store.captureList.getLast? = some k ∧
  e.slot k = Slot.opened .capturing .input f s.activeFormat ∧ e.copy.inputFields.getLast? = some (k, none)

/-- What a pulse with the record gate open leaves. -/
structure OpenPulse (s e : State) : Prop where
  time : e.decoder.time = s.steppedTime
  state : e.transport.state = .record
  cut : s.cutShown e
  takes : ∀ i ∈ s.store.writeQueue, (s.slot i).state = .mixed → (s.slot i).frameTime = some s.steppedTime →
    e.slot i = { s.slot i with state := .writing, start := (s.cues.mark.window s.steppedTime).1.isSome } ∧
    i ∉ e.store.writeQueue ∧
    (∃ c : Coder, e.coder = { c with
      current := some ⟨i, s.steppedTime⟩, sequence := 0, writeOn := true, verify := addVerify s.steppedTime c.verify
      subcode := ⟨s.steppedTime, ((s.slot i).format.getD s.activeFormat).rate, ((s.slot i).format.getD s.activeFormat).wordLength,
        (s.cues.mark.window s.steppedTime).1.getD 0, (s.cues.mark.window s.steppedTime).1.isSome, (s.slot i).copyField.getD .none⟩ }) ∧
    e.cues.mark = (s.cues.mark.window s.steppedTime).2.check s.steppedTime
  lates : (∀ i ∈ s.store.writeQueue, (s.slot i).state = .mixed → (s.slot i).frameTime ≠ some s.steppedTime) →
    (∀ k ∈ s.store.captureList.head?, (s.slot k).state = .capturing) ∨
      s.store.gatherList = [] ∧ (s.runsOn ∧ ¬ s.withdraws ∨ s.headWaits) →
    e.coder.current = none ∧ e.coder.writeOn = false ∧ e.cues.mark = s.cues.mark.check s.steppedTime ∧
    (∀ i, (e.slot i).state = .capturing ∨ (e.slot i).state = .captured → (e.slot i).frameTime ≠ some s.steppedTime) ∧
    ∃ n c, e.reports.log.getLast? = some ⟨n, .writeLate, some s.steppedTime, .internal, c⟩ ∧
      ((∃ k, ((s.slot k).state = .capturing ∨ (s.slot k).state = .captured) ∧ (s.slot k).frameTime = some s.steppedTime) → c = 0) ∧
      ((∀ k, (s.slot k).state = .capturing ∨ (s.slot k).state = .captured → (s.slot k).frameTime ≠ some s.steppedTime) → c = 1)
  olds : ∀ i ∈ s.store.outputQueue, (s.slot i).role = some .old → (s.slot i).frameTime = some s.steppedTime → i ∉ e.store.outputQueue
  keeps : (∀ i ∈ s.store.writeQueue, (s.slot i).frameTime ≠ some s.steppedTime) →
    e.carries ((if s.transport.state = .record then s.store.trim else .normal).atWindow s.store.writeQueue.length)
  leaves : (∃ i ∈ s.store.writeQueue, (s.slot i).frameTime = some s.steppedTime) →
    e.carries (((if s.transport.state = .record then s.store.trim else .normal).atWindow s.store.writeQueue.length).afterW
      (s.store.writeQueue.length - 1))
  opens : s.capturesNext → s.lowestFree.isSome = true → s.captureShown (s.steppedTime + 2) e
  shuts : ¬ s.capturesNext → ∀ k ∈ e.store.captureList, k ∈ s.store.captureList ∧ (e.slot k).frameTime ≠ some (s.steppedTime + 2)

theorem openPulse (passes : s.opensAt ∨ s.runsOn) (sound : s.storeSound) (gate : s.gateAgrees) (reading : s.readingAgrees)
    (recorded : s.recordSound) (within : s.decoder.holdover ≤ s.activeBank.holdover) (leadIn : s.decoder.leadIn = 0)
    (pending : s.banks.pendingSwitch = none) : OpenPulse s (ended s.pastWindow.checked) := by
  have inside := waitsInside_of sound recorded
  have rolling : s.transport.state.rolling = true := by
    rcases passes with ⟨play, -⟩ | ⟨record, -⟩
    · rw [play] <;> rfl
    · rw [record] <;> rfl
  have gathering : s.decoder.gathering = true := reading.1.trans rolling
  have few : s.coder.verify.length ≤ 3 := by
    obtain ⟨-, -, -, -, -, -, -, few, -⟩ := recorded
    exact few
  have arrives : Arrives s s.gated := passes.elim (fun h => arrives_opens h sound gate reading inside within)
    (fun h => arrives_runs h sound gate reading inside within)
  have reaches := arrives.reaches rfl
  have leaves := arrives.leaves rfl recorded
  have begun : ∃ p ∈ s.mixer.punchIn, p.time ≤ s.steppedTime := by
    rcases passes with ⟨-, ⟨p, punch, at_p⟩, -⟩ | ⟨record, early, -⟩
    · exact ⟨p, punch, at_p.le⟩
    · obtain ⟨p, punch⟩ := Option.isSome_iff_exists.1 (gate.2.2.1 (gate.1.2 record))
      exact ⟨p, punch, early p punch⟩
  have writes : ∀ w ∈ s.coder.current, (s.slot w.slot).state = .writing := fun w hw => ((storeSound_iff.1 sound).1.write w hw).1
  have cuts := pulseWork_cuts gathering pending arrives.sound (arrives.bides.coder writes)
    (fun i writing => arrives.bides.slot i (.inr (.inr (.inl writing)))) sound few leaves.spares
  rw [pulseWork_ended gathering pending] at cuts
  obtain ⟨keeps, left⟩ := leaves.trims reaches
  obtain ⟨n, stage, -⟩ := stage_afterGate s.decoder.time s.gated
  exact ⟨stage.time.1.trans arrives.time, stage.state.trans arrives.state, cuts, fun i queued mixed now => by
      obtain ⟨slot, gone, coder, mark⟩ := leaves.takes reaches recorded queued mixed now
      exact ⟨slot, gone, ⟨_, coder⟩, mark⟩,
    fun unmixed waits => leaves.lates reaches recorded
      (fun i => captured_stays arrives sound recorded gate within leadIn passes waits (i := i)) unmixed,
    fun i queued role now => leaves.olds reaches sound (reaches.oldSpan passes gate begun) queued role now, keeps, left,
    leaves.opens reaches sound recorded leadIn begun, leaves.shuts reaches sound recorded leadIn begun⟩

end
end Sys2Proof.Machine
end

section
/-! Settles O38. -/

namespace Sys2Proof.Machine

-- One theorem after another: each one elaborated at the same time would hold a stack of its own.
set_option Elab.async false

section
variable {p : Punch} {s e : State}

/-- What the pulse that closes the record gate leaves. -/
structure ClosePulse (s e : State) : Prop where
  time : e.decoder.time = s.steppedTime
  state : e.transport.state = .play
  cut : s.cutShown e
  current : s.coder.current = none ∨ s.coder.sequence < 152 → e.coder.current = none
  writeOn : e.coder.writeOn = false
  capture : e.store.captureList = []
  queue : e.store.writeQueue = []
  fields : e.copy.inputFields = []
  path : ∀ i, ¬ (e.slot i).waits
  mark : e.cues.mark = s.cues.mark.check s.steppedTime
  trim : e.carries .normal

theorem closePulse (closes : s.closesAt) (sound : s.storeSound) (gate : s.gateAgrees) (reading : s.readingAgrees)
    (recorded : s.recordSound) (within : s.decoder.holdover ≤ s.activeBank.holdover) (pending : s.banks.pendingSwitch = none) :
    ClosePulse s (ended s.pastWindow.checked) := by
  have inside := waitsInside_of sound recorded
  have record : s.transport.state = .record := closes.1
  have rolling : s.transport.state.rolling = true := by rw [record] <;> rfl
  have gathering : s.decoder.gathering = true := reading.1.trans rolling
  have few : s.coder.verify.length ≤ 3 := by
    obtain ⟨-, -, -, -, -, -, -, few, -⟩ := recorded
    exact few
  obtain ⟨rests, none, carries, path, capture, queue, fields⟩ := rests_closes closes sound gate reading inside within
  obtain ⟨passes, spares⟩ := rests.past
  have cuts := pulseWork_cuts gathering pending rests.sound rests.coder rests.writing sound few spares
  rw [pulseWork_ended gathering pending] at cuts
  obtain ⟨captureE, queueE, fieldsE, pathE, trim, demand⟩ := passes.empty none path capture queue fields
  obtain ⟨writeOn, current⟩ := passes.supply
  obtain ⟨n, stage, -⟩ := stage_afterGate s.decoder.time s.gated
  exact ⟨stage.time.1.trans rests.time, stage.state.trans rests.state, cuts, rests.coder ▸ current, writeOn, captureE, queueE,
    fieldsE, pathE, passes.mark.trans (by rw [rests.mark, rests.time]), trim.trans carries.1, demand.trans carries.2⟩

/-- What a pulse that does not come to the scheduled punch-in leaves in PLAY. -/
structure PlayPulse (s e : State) : Prop where
  time : e.decoder.time = s.steppedTime
  writeOn : e.coder.writeOn = false
  shut : e.mixer.gateOpen = false
  current : s.coder.current = none ∨ s.coder.sequence < 152 → e.coder.current = none
  keeps : s.correctedSlots = [] → s.keepsTrim e
  joins : ∀ k, s.correctedSlots = [k] → e.depthQ = s.depthQ + 1 → s.judgesQ → e.carries (s.store.trim.afterQ e.depthQ)
  mark : e.cues.mark = s.cues.mark.check s.steppedTime
  opens : s.inSpan (s.steppedTime + 2) = true → (∀ k ∈ s.store.captureList, (s.slot k).frameTime ≠ some (s.steppedTime + 2)) →
    s.lowestFree.isSome = true → s.captureShown (s.steppedTime + 2) e
  full : (∀ k ∈ s.store.captureList, (s.slot k).frameTime ≠ some (s.steppedTime + 2)) →
    s.lowestFree = none → s.store.gatherList = [] → s.coder.current = none →
    ∀ k ∈ e.store.captureList, (e.slot k).frameTime ≠ some (s.steppedTime + 2)
  early : s.inSpan (s.steppedTime + 2) = false → ∀ k ∈ e.store.captureList, k ∈ s.store.captureList

theorem playPulse (play : s.transport.state = .play) (punch : s.mixer.punchIn = some p) (confirms : s.confirms)
    (other : s.steppedTime ≠ p.time) (sound : s.storeSound) (gate : s.gateAgrees) (reading : s.readingAgrees) (recorded : s.recordSound)
    (within : s.decoder.holdover ≤ s.activeBank.holdover) : PlayPulse s (ended s.pastWindow.checked) := by
  have before := before_play play punch confirms other sound gate reading recorded within
  have rests := before.rests
  obtain ⟨passes, -⟩ := rests.past
  obtain ⟨level, joins⟩ := atGate_trim play confirms sound reading within
  rw [← before.arrived] at level joins
  have after := passes.level rests.state rests.sound
  obtain ⟨writeOn, current⟩ := passes.supply
  obtain ⟨n, stage, -⟩ := stage_afterGate s.decoder.time s.gated
  refine ⟨stage.time.1.trans rests.time, writeOn, (congrArg Mixer.gateOpen stage.mixer).trans rests.shut, rests.coder ▸ current,
    fun none => ?_, fun k one rises judges => ?_, passes.mark.trans (by rw [rests.mark, rests.time]),
    fun span absent free => before.opens passes sound span absent free, fun absent free empty idle k listed => ?_,
    fun out k listed => ?_⟩
  · have all := (level none).trans after
    exact ⟨all.trim, congrArg Transport.demand all.transport⟩
  · obtain ⟨trim, demand⟩ := joins k one judges (after.depthQ.symm.trans rises)
    rw [rises]
    exact ⟨after.trim.trans trim, (congrArg Transport.demand after.transport).trans demand⟩
  · obtain ⟨old, same⟩ := before.stays passes (.inr (full_pastWindow before confirms sound gate within free empty idle)) k listed
    rw [same]
    exact absent k old
  · refine (before.stays passes (.inl fun ⟨_, inside, _⟩ => ?_) k listed).1
    rw [before.inSpan passes, before.time passes, out] at inside
    cases inside

end
end Sys2Proof.Machine

namespace Sys2Proof.Proofs
open Sys2Proof.Machine

/-- Settles O38. -/
theorem windowsAtPulse : Obligations.WindowsAtPulse := by
  refine ⟨?_, ?_⟩
  · intro s quiet idle gate reading sound recorded pending within leadIn f last found predicted w onRecordPath logged checked isCut opens runs
      withdrawn headWaits opened captures
    have now : s.steppedTime = f := by
      unfold State.steppedTime
      rw [leadIn]
      exact if_neg (lt_irrefl 0)
    have next : s.predictedTime = predicted := by
      unfold State.predictedTime
      rw [now, leadIn] <;> rfl
    have withdraws : s.withdraws ↔ withdrawn := by
      unfold State.withdraws State.losesTime State.withdrawable
      rw [now, next]
      constructor
      · rintro ⟨record, ⟨current, other, known, limit⟩, o, punch, timed, uncommitted, far⟩
        exact ⟨record, uncommitted, ⟨o, punch, timed, far⟩, current, other, known, limit⟩
      · rintro ⟨record, uncommitted, ⟨o, punch, timed, far⟩, current, other, known, limit⟩
        exact ⟨record, ⟨current, other, known, limit⟩, o, punch, timed, uncommitted, far⟩
    have opensAt (h : opens) : s.opensAt := by
      unfold State.opensAt
      rw [now, next]
      exact h
    have runsOn (h : runs) : s.runsOn := by
      unfold State.runsOn
      rw [now]
      exact h
    have nextCaptured : s.capturesNext ↔ captures := by
      unfold State.capturesNext
      rw [now, withdraws] <;> rfl
    have checks : s.cues.mark.check f = checked := by
      unfold checked
      cases s.cues.mark <;> rfl
    refine ⟨fun passing => ?_, fun record closing => ?_⟩
    · have passes : s.opensAt ∨ s.runsOn := passing.imp opensAt runsOn
      have rolling : s.transport.state.rolling = true := by
        rcases passes with ⟨play, -⟩ | ⟨record, -⟩
        · rw [play] <;> rfl
        · rw [record] <;> rfl
      have p := openPulse passes sound gate reading recorded within leadIn pending
      obtain ⟨list, run, -⟩ := exec_framePulse_ended quiet idle reading pending within rolling
      generalize ended s.pastWindow.checked = e at *
      obtain ⟨time, state, cut, takes, lates, olds, keeps, leaves, opens, shuts⟩ := p
      rw [now] at time takes lates olds keeps leaves opens shuts
      refine ⟨_, run, time, state, cut, fun i marking mark queued at_f mixed marks => ?_, fun unmixed waits => ?_, olds, keeps, leaves,
        fun h free => opens (nextCaptured.2 h) free, fun h => shuts fun h' => h (nextCaptured.1 h')⟩
      · obtain ⟨slot, gone, ⟨c, coder⟩, markE⟩ := takes i queued mixed at_f
        have windowed := window_mark s.cues.mark f
        have both : (s.cues.mark.window f).1 = marking ∧ (s.cues.mark.window f).2.check f = mark := by
          cases record : s.cues.mark <;> rw [record] at windowed marks <;>
            exact ⟨windowed.1.trans marks.1.symm, windowed.2.trans marks.2.symm⟩
        rw [both.1] at slot coder
        rw [both.2] at markE
        obtain ⟨-, last, -⟩ := addVerify_spec f c.verify
        exact ⟨slot, gone, congrArg Coder.current coder, congrArg Coder.sequence coder, congrArg Coder.writeOn coder,
          (congrArg (fun c : Coder => c.verify.getLast?) coder).trans last, markE, congrArg Coder.subcode coder⟩
      · obtain ⟨current, writeOn, markE, path, n, c, entry, zero, one⟩ := lates unmixed (waits.imp_right fun ⟨empty, h⟩ =>
          ⟨empty, h.imp (fun h => ⟨runsOn h.1, fun goes => h.2 (withdraws.1 goes)⟩) id⟩)
        refine ⟨current, writeOn, markE.trans checks, fun i _ onPath => path i onPath, fun ⟨i, _, onPath, at_f⟩ => ?_, fun none => ?_⟩
        · show e.reports.log.getLast?.map _ = _
          rw [entry, zero ⟨i, onPath, at_f⟩] <;> rfl
        · show e.reports.log.getLast?.map _ = _
          rw [entry, one fun i onPath => none i ((storeSound_iff.1 sound).1.lt (by rcases onPath with h | h <;> rw [h] <;> decide)) onPath]
            <;> rfl
    · have closes : s.closesAt := by
        obtain ⟨o, punch, at_last⟩ := closing
        exact ⟨record, o, punch, now.trans at_last⟩
      have rolling : s.transport.state.rolling = true := by rw [record] <;> rfl
      have p := closePulse closes sound gate reading recorded within pending
      obtain ⟨list, run, -⟩ := exec_framePulse_ended quiet idle reading pending within rolling
      generalize ended s.pastWindow.checked = e at *
      obtain ⟨time, state, cut, current, writeOn, capture, queue, fields, path, mark, trim⟩ := p
      rw [now] at time mark
      exact ⟨_, run, time, state, cut, current, writeOn, capture, queue, fields,
        fun i _ => ⟨fun h => path i (.inl h), fun h => path i (.inr (.inl h)), fun h => path i (.inr (.inr h))⟩, mark.trans checks, trim⟩
  · intro p s quiet idle play gate reading sound recorded pending within punch time found f confirms other
    have rolling : s.transport.state.rolling = true := by rw [play] <;> rfl
    have pulse := playPulse play punch confirms other sound gate reading recorded within
    have inside : s.inSpan f = true ↔ p.time ≤ f ∧ f ≤ 359999 ∧ ∀ o, s.mixer.punchOut = some o → f ≤ o.lastOut s.framePairs := by
      rw [inSpan_iff]
      constructor
      · rintro ⟨q, same, span⟩
        obtain rfl : p = q := Option.some.inj (punch.symm.trans same)
        exact span
      · exact fun span => ⟨p, punch, span⟩
    obtain ⟨list, run, -⟩ := exec_framePulse_ended quiet idle reading pending within rolling
    generalize ended s.pastWindow.checked = e at *
    obtain ⟨timeE, writeOn, shut, current, keeps, joins, mark, opens, full, early⟩ := pulse
    exact ⟨_, run, timeE, writeOn, shut, current, keeps, joins, mark.trans (by cases s.cues.mark <;> rfl),
      fun begun below ends absent => ⟨opens (inside.2 ⟨begun, below, ends⟩) absent, full absent⟩,
      fun before => early (Bool.eq_false_iff.2 fun h => Nat.not_le.2 before (inside.1 h).1)⟩

end Sys2Proof.Proofs
end
